-- ==== Sys2Proof/Word.lean ====
section
/-! DEFINITION. The octet, the unit of both serial lines of the CJ-82 (00_scope.md 1.8 "Octets"), and a module bus
address. Everything else of the block is held as numbers, names and records, not as machine words. -/

namespace Sys2Proof

/-- One octet of the Panel Link or of the Module Bus; bit 7 is its most significant bit. -/
abbrev Octet := BitVec 8

/-- A Module Bus address, 0 to 7 (R141). -/
abbrev Addr := Fin 8

end Sys2Proof
end

