-- ==== Sys2Proof/Syntax.lean ====
section
/-! DEFINITION. The commands of the block: one constructor of `Instr` per row of spec/opcode_table.json, in the table's
order. Panel requests carry the TAG of their frame (R181) and the fields of the request catalogue (R186). A plant or bus
event carries what the event brings. A timer or condition event carries only what selects its subject. -/

namespace Sys2Proof

/-- The nine fields of a recipe record (02_the_wash_cycle.md 2.1), temperatures in 0.1 °C. -/
structure Recipe where
  washS : Nat
  tankC : Int
  rinseC : Int
  rinseMl : Nat
  purgeMl : Nat
  dwellS : Nat
  ventPct : Nat
  ventS : Nat
  soilPct : Nat
  deriving DecidableEq, Repr

/-- The two dosing channels (R100). -/
inductive Channel where
  | det
  | ra
  deriving DecidableEq, Repr

/-- The 24 UP octets read in one Module Bus frame (R140). -/
abbrev UpFrame := Vector Octet 24

/-- The commands the block takes. -/
inductive Instr where
  /-- IDENT (R186). -/
  | ident (tag : Octet)
  /-- STATUS of the section named by its code (R186). -/
  | status (tag : Octet) (sect : Octet)
  /-- GET of a setting number (R189). -/
  | get (tag : Octet) (number : Octet)
  /-- SET of a setting number to a signed 4-octet value (R189). -/
  | set (tag : Octet) (number : Octet) (value : BitVec 32)
  /-- RECIPE_GET (R22). -/
  | recipeGet (tag : Octet) (number : Octet)
  /-- RECIPE_SET (R22). -/
  | recipeSet (tag : Octet) (number : Octet) (fields : Recipe)
  /-- RUN (R25). -/
  | run (tag : Octet) (number : Octet)
  /-- CANCEL with target PENDING (R42). -/
  | cancelPending (tag : Octet)
  /-- CANCEL with target ACTIVE (R42). -/
  | cancelActive (tag : Octet)
  /-- CANCEL with target ALL (R42). -/
  | cancelAll (tag : Octet)
  /-- PREPARE (R14). -/
  | prepare (tag : Octet)
  /-- DRAIN (R13). -/
  | drain (tag : Octet)
  /-- DOSE of kind MANUAL: channel code and µL (R115). -/
  | doseManual (tag : Octet) (channel : Octet) (volume : BitVec 16)
  /-- DOSE of kind PRIME: channel code and seconds (R115). -/
  | dosePrime (tag : Octet) (channel : Octet) (seconds : BitVec 16)
  /-- STOCK: channel code and mL (R114). -/
  | stock (tag : Octet) (channel : Octet) (volume : BitVec 16)
  /-- REGEN: column code (R80). -/
  | regen (tag : Octet) (column : Octet)
  /-- DOOR OPEN with a percentage (R136). -/
  | doorOpen (tag : Octet) (percent : Octet)
  /-- DOOR RETRACT (R136). -/
  | doorRetract (tag : Octet)
  /-- FAULTS from a first position (R176). -/
  | faults (tag : Octet) (first : Octet)
  /-- ACK_FAULT of one key (R176). -/
  | ackFault (tag : Octet) (code : Octet) (detail : Octet)
  /-- ACK_FAULT of ALL (R176). -/
  | ackFaultAll (tag : Octet)
  /-- MODULE READ of an address octet (R170). -/
  | moduleRead (tag : Octet) (address : Octet)
  /-- MODULE PIN: address octet and the record octets from CAPS body octet 2 (R166). -/
  | modulePin (tag : Octet) (address : Octet) (fields : List Octet)
  /-- MODULE UNPIN (R166). -/
  | moduleUnpin (tag : Octet) (address : Octet)
  /-- MODULE CLEAR_COUNTERS of an address octet, 0xFF for every address (R170). -/
  | moduleClearCounters (tag : Octet) (address : Octet)
  /-- MODULE BUS_RESET (R157, R170). -/
  | moduleBusReset (tag : Octet)
  /-- SAVE (R190). -/
  | save (tag : Octet)
  /-- RESET with mode SOFT (R192). -/
  | resetSoft (tag : Octet)
  /-- RESET with mode FULL (R192). -/
  | resetFull (tag : Octet)
  /-- SLEEP with a wake mask (R193). -/
  | sleep (tag : Octet) (mask : Octet)
  /-- A good frame of a KIND outside the request catalogue (R183). -/
  | unknownKind (tag : Octet) (kind : Octet)
  /-- One octet received on the Panel Link, with its stop bit, and whether it overran the one before (R182). -/
  | panelOctetReceived (octet : Octet) (stopBit : Bool) (overrun : Bool)
  /-- A gap of more than 5 ms between octets of a frame (R182). -/
  | octetGapTimeout
  /-- The last octet of the frame being sent has gone out (R184). -/
  | transmitDone
  /-- The SOFT reset is taken (R192). -/
  | softResetTaken
  /-- The FULL reset is taken (R192). -/
  | fullResetTaken
  /-- The supply rises (R192). -/
  | supplyRise
  /-- The 10 ms oscillator wait ends (R192). -/
  | oscillatorSettled
  /-- A store write ends (R190). -/
  | storeWriteEnd
  /-- PFW is asserted (R191). -/
  | pfwAssert
  /-- PFW is released (R191). -/
  | pfwRelease
  /-- The 2 ms wake settle ends (R194). -/
  | settleEnd
  /-- The 10 ms WAKE pulse ends (R194). -/
  | wakePulseEnd
  /-- A flow-meter pulse (R4). -/
  | flowPulse
  /-- The rinse pulse count stands at its target (R35). -/
  | rinseTargetReached
  /-- The obtainable inlet is handed to a waiting user (R1). -/
  | inletHandover
  /-- The flow quiet window expires (R6). -/
  | quietWindowExpiry
  /-- The run-on window ends (R5). -/
  | runOnEnd
  /-- A sample of the LOW, HIGH and booster FULL switches, `true` for closed (R7, R17). -/
  | levelSample (low high full : Bool)
  /-- The 2 s implausible timer expires (R8). -/
  | implausibleTimerExpiry
  /-- The fill time reaches fill_limit_s (R11). -/
  | fillTimeLimit
  /-- 10 s of granted drain time after DRY (R13). -/
  | drainOutTimer
  /-- A reading of the tank, booster and vapour sensors in 0.1 °C (R18). -/
  | sensorReading (tank booster vapour : Int)
  /-- Granted drain time reaches the purge time (R20). -/
  | purgeDone
  /-- WASH begins (R27, R28). -/
  | washStart
  /-- The wash timer reaches wash_s (R29). -/
  | washEnd
  /-- Held time reaches hold_limit_s (R31). -/
  | holdLimit
  /-- The 2 s latch confirmation timer expires (R33). -/
  | latchConfirmTimeout
  /-- The rinse-hold timer expires (R34). -/
  | rinseHoldExpiry
  /-- RINSE begins (R34, R35). -/
  | rinseStart
  /-- The dwell timer reaches dwell_s (R37). -/
  | dwellEnd
  /-- The oldest settling entry ends (R49). -/
  | settlingEnd
  /-- The tank heater's accumulated wait reaches starve_s (R54). -/
  | agingPromotion
  /-- The 1 s halt clear timer ends (R59). -/
  | haltClearTimer
  /-- A PENDING changeover starts (R71). -/
  | changeoverStart
  /-- The move timer expires (R73). -/
  | moveTimerExpiry
  /-- An alignment move starts (R73). -/
  | alignmentStart
  /-- A regeneration of the EXHAUSTED standby column starts (R75). -/
  | regenStart
  /-- The phase time remaining reaches 0 (R77). -/
  | regenPhaseEnd
  /-- The QUEUED head order of a channel starts (R107). -/
  | orderStart (channel : Channel)
  /-- The order watchdog of a channel expires (R108). -/
  | orderWatchdogExpiry (channel : Channel)
  /-- A DONE message from an address: tag, delivered steps, reason code (R109). -/
  | done (address : Addr) (orderTag : Octet) (delivered : BitVec 16) (reason : Octet)
  /-- The 2 s latch release timer expires (R126). -/
  | latchReleaseTimeout
  /-- A MOVED message from an address: reached percentage, reason code (R127). -/
  | moved (address : Addr) (reached : Octet) (reason : Octet)
  /-- A retract task starts (R129). -/
  | retractStart
  /-- The retract time limit is reached (R129). -/
  | retractTimeLimit
  /-- The vent timer expires (R133). -/
  | ventTimerExpiry
  /-- The cooling window has run 10 s (R133). -/
  | coolingWindowEnd
  /-- A Module Bus frame ends with the UP octets read in it (R140). -/
  | frameEnd (up : UpFrame)
  /-- The second consecutive good CLOSING frame (R150). -/
  | messageDelivered
  /-- The fiftieth frame of CLOSING (R151). -/
  | closingLimit
  /-- The downstream no-progress count reaches 50 (R151). -/
  | downstreamNoProgress
  /-- The upstream no-progress count reaches 50 (R152). -/
  | upstreamNoProgress
  /-- The tenth frame of a grant without a good MSG 1 frame (R155). -/
  | grantWithdrawal
  /-- The BREAK count reaches 0 (R157). -/
  | lineBreakEnd
  /-- The eighth good READY frame in COUNT at an address (R162). -/
  | bringUpQuery (address : Addr)
  /-- The 250-frame answer timer of an address expires (R162). -/
  | answerTimeout (address : Addr)
  /-- A CAPS message from an address with its six body octets (R164). -/
  | caps (address : Addr) (body : Vector Octet 6)
  /-- The silent count of an address reaches 16 (R162, R167). -/
  | silentCountLimit (address : Addr)
  /-- The sixteenth consecutive all-zero frame (R169). -/
  | stuckLineBreak
  /-- The sixty-fourth all-zero frame in WATCH (R169). -/
  | busStuck
  /-- The 2500-frame countdown in STUCK ends (R169). -/
  | stuckRepeatBreak
  /-- The sixteenth consecutive frame in STUCK that is not all zero (R169). -/
  | busStuckClear
  /-- The supply fails after PFW (R191). -/
  | supplyFail
  deriving DecidableEq, Repr

end Sys2Proof
end

