-- ==== Sys2Proof/Decode.lean ====
section
/-! DEFINITION. Reading a command from the bits of an opcode-table row. The table gives no row any bits: the commands
reach the block as frames of the Panel Link (whose decoder is Machine/Catalogue.lean), as pulses, samples and bus frames,
and as the expiry of timers. -/

namespace Sys2Proof

/-- The command that a word spells by the table's bits: none, since no row of the table gives bits. -/
def decodeTableWord (_nbits _w : Nat) : Option Instr := none

end Sys2Proof
end

