-- ==== Sys2Proof/Machine/Arith.lean ====
section
/-! DEFINITION. The computations of 05_volume_hardness_and_dose_arithmetic.md, on non-negative integers, in the order in
which the formulas are written (R86). -/

namespace Sys2Proof.Machine

/-- ceil(a / b) as R86 forms it. -/
def ceilDiv (a b : Nat) : Nat := (a + b - 1) / b

/-- The rinse pulse target (R87). -/
def pulseTarget (rinseMl k : Nat) : Nat := ceilDiv (rinseMl * k) 1000

/-- The metered volume in mL (R88). -/
def meteredMl (pulses k : Nat) : Nat := pulses * 1000 / k

/-- The hardness accumulator step (R89): q and the new accumulator. -/
def accumulatorStep (acc h k : Nat) : Nat × Nat := ((acc + h) / k, acc + h - (acc + h) / k * k)

/-- The capacity decrement (R90). -/
def decrement (capacity q : Nat) : Nat := capacity - q

/-- The regeneration credit (R91). -/
def regenCredit (c cond s : Nat) : Nat := c * cond * s / 100

/-- The hardness factor in % (R92). -/
def hardnessFactor (residual gain : Nat) : Nat := min 400 (100 + residual * gain / 100)

/-- The detergent dose in µL (R93). -/
def detergentDose (volume rate hf soil maxUl : Nat) : Nat := min maxUl (volume * rate / 1000 * hf * soil / 10000)

/-- Steps and carry (R94): steps and the new carry. -/
def stepsAndCarry (volume carry ulPerStep : Nat) : Nat × Nat :=
  ((volume + carry) / ulPerStep, volume + carry - (volume + carry) / ulPerStep * ulPerStep)

/-- The carry under a new step size (R95). -/
def clampCarry (carry ulPerStep : Nat) : Nat := min carry (ulPerStep - 1)

/-- Rinse-aid accrual of one pulse (R96) with the threshold `t`: the new accumulator and the steps owed. -/
def rinseAidStep (acc rate t : Nat) : Nat × Nat := (acc + rate - (acc + rate) / t * t, (acc + rate) / t)

/-- The stock decrement (R97). -/
def stockAfter (stock delivered ulPerStep : Nat) : Nat := stock - delivered * ulPerStep

/-- The purge time in ms (R98). -/
def purgeMsOf (purgeMl rate : Nat) : Nat := ceilDiv (purgeMl * 1000) rate

/-- A count that saturates. -/
def satAdd (limit n k : Nat) : Nat := min limit (n + k)

end Sys2Proof.Machine
end

