-- ==== Sys2Proof/Config.lean ====
section
/-! DEFINITION. What the manual leaves to the part in hand (a free value without a body) and the fixed figures of the
part that several blocks read. -/

namespace Sys2Proof.Config

/-- The revision in the IDENT reply (R186). The manual gives the field and no value, so it is a free value: nothing can be
proved of it. Log entry 2. -/
opaque partRevision : BitVec 32

/-- The part code in the IDENT reply (R186). -/
def partCode : Nat := 0x0082

/-- The number of settings in the IDENT reply (R186). -/
def settingCount : Nat := 40

/-- Longest notice queue (R185). -/
def noticeLimit : Nat := 16

/-- Longest fault list (R172). -/
def faultLimit : Nat := 40

/-- Rows of the escalation history (R177). -/
def historyLimit : Nat := 16

/-- Longest order list of a channel (R102). -/
def orderLimit : Nat := 4

/-- Longest downstream message queue (R154). -/
def queueLimit : Nat := 8

/-- Settling time of a load in ms (R49). -/
def settlingMs : Nat := 40

/-- Run-on window in ms (R3). -/
def runOnMs : Nat := 500

/-- No-progress limit of both message channels, and of CLOSING, in frames (R151, R152). -/
def progressLimit : Nat := 50

/-- Frames a silent entry keeps its link (R167). -/
def silentLimit : Nat := 16

/-- The duration of a store write in ms. DESIGN CHOICE (log entry 95): R190 and R191 give 8 ms as the longest, and every write
lasts it. -/
def storeWriteMs : Nat := 8

end Sys2Proof.Config
end

