-- ==== Sys2Proof/Machine/State.lean ====
section
/-! DEFINITION. The state of the CJ-82: one record per block of 00_scope.md 1.4, the working settings, the millisecond
count and the queue of waiting commands. All of it is plain data. A timer is held as the milliseconds it still has to run
(`…Left`), an accumulated time as the milliseconds counted (`…Ms`); both stand for the timer the manual names. Values that
are a function of others (heater and pump outputs, the paused flag, residual hardness, the fault level, ATTN, GO) are held
once and computed by the accessors of Machine/Ops.lean. -/

namespace Sys2Proof.Machine

open Sys2Proof

/-- The reasons a command stops the model. None exists: every command of the table has an effect in every state, and the
faults of the machine are records of its fault list. An empty type is safe: no claim can rest on a stop. -/
inductive Fault where
  deriving DecidableEq, Repr

/-- The reasons a command is refused by the model. -/
inductive Refusal where
  /-- The command's meaning is not written. Safe: nothing is claimed of it. No arm raises it. -/
  | notModelled (mnemonic : String)
  deriving DecidableEq, Repr

/-! ### Water and Heat Unit (01_water_path_and_heat.md) -/

/-- The two users of the inlet (R1). -/
inductive InletUser where
  | tankFill
  | rinse
  deriving DecidableEq, Repr

/-- The inlet phase. -/
inductive InletPhase where
  | closed
  | opening
  | opened
  deriving DecidableEq, Repr

/-- The outcome of a draw (R3). -/
inductive DrawOutcome where
  | released
  | noFlow
  | cut
  deriving DecidableEq, Repr

/-- An open run-on window (R3, R5). -/
structure RunOn where
  user : InletUser
  outcome : DrawOutcome
  pulses : Nat
  left : Nat
  deriving DecidableEq, Repr

/-- The level codes (R7). -/
inductive LevelCode where
  | dry
  | partly
  | full
  | implausible
  deriving DecidableEq, Repr

/-- The tank states (R9). -/
inductive TankState where
  | empty
  | filling
  | heating
  | ready
  | draining
  deriving DecidableEq, Repr

/-- The kinds of fill (R10). -/
inductive FillKind where
  | fill
  | topUp
  deriving DecidableEq, Repr

/-- The fill in progress: kind, and fill time counted while open (R10, R11). -/
structure FillRec where
  kind : FillKind
  timeMs : Nat
  deriving DecidableEq, Repr

/-- A thermostat: demand, and the mark that its claim was refused as unfit (R16). -/
structure Thermostat where
  demand : Bool
  unfit : Bool
  deriving DecidableEq, Repr

/-- A sensor record (R18), in 0.1 °C. -/
structure Sensor where
  last : Option Int
  bad : Nat
  failed : Bool
  deriving DecidableEq, Repr

/-- The users of the drain pump (R20). -/
inductive DrainUser where
  | purge
  | level
  | draining
  deriving DecidableEq, Repr

/-- The state of WHU. `fillEnded` is the kind of a fill whose draw report is still to come (R11); `purgeTime` the purge
time computed when the purge was asked for (R98); `boosterFull` the last FULL switch sample, if one was taken (R17);
`tankSet` and `boosterSet` the setpoints in force, those of the last valid reading of each sensor (R12, R40). -/
structure Whu where
  owner : Option InletUser
  phase : InletPhase
  tankWaiting : Bool
  rinseWaiting : Bool
  runOn : Option RunOn
  draw : Nat
  quietLeft : Option Nat
  prevSample : Option LevelCode
  accepted : Option LevelCode
  implausibleLeft : Option Nat
  boosterFull : Option Bool
  tankSet : Option Int
  boosterSet : Option Int
  tank : TankState
  fill : Option FillRec
  fillEnded : Option FillKind
  tankHeat : Thermostat
  boosterA : Thermostat
  boosterB : Thermostat
  tankSensor : Sensor
  boosterSensor : Sensor
  vapourSensor : Sensor
  drainUser : Option DrainUser
  purgeTime : Nat
  purgeMs : Nat
  drainOutMs : Option Nat
  deriving DecidableEq, Repr

/-! ### Cycle Sequencer (02_the_wash_cycle.md) -/

/-- The cycle states (2.3), in the order of their codes. -/
inductive CycleState where
  | idle
  | armed
  | wash
  | held
  | purge
  | rinseWait
  | rinse
  | dwell
  | vent
  deriving DecidableEq, Repr

/-- The outcomes of a cycle (R41), in the order of their codes (R187). -/
inductive CycleOutcome where
  | complete
  | cancelled
  | rinseIncomplete
  | abortedFault
  | abortedHold
  | powerLost
  | reset
  deriving DecidableEq, Repr

/-- The dosing reports counted for an entry (R41, R103, R104). -/
structure Dosing where
  doseUl : Nat
  detSteps : Nat
  raSteps : Nat
  hardWater : Bool
  doseShort : Bool
  deriving DecidableEq, Repr

/-- The ACTIVE entry of the cycle queue (R23, R24). `dosing` keeps the reports of fills made while ARMED (R41). -/
structure ActiveEntry where
  recipe : Nat
  queuedAt : BitVec 32
  copy : Recipe
  number : Nat
  dosing : Dosing
  deriving DecidableEq, Repr

/-- The PENDING entry of the cycle queue (R23, R24). -/
structure PendingEntry where
  recipe : Nat
  queuedAt : BitVec 32
  deriving DecidableEq, Repr

/-- The state a hold left (R30). -/
inductive HeldFrom where
  | wash
  | purge
  deriving DecidableEq, Repr

/-- The hold record (R30, R31). -/
structure Hold where
  door : Bool
  level : Bool
  left : Option HeldFrom
  heldMs : Nat
  deriving DecidableEq, Repr

/-- The rinse-wait record (R33, R34). -/
structure RinseWait where
  holdLeft : Option Nat
  holdExpired : Bool
  confirmLeft : Option Nat
  confirmed : Bool
  tempMet : Bool
  deriving DecidableEq, Repr

/-- The rinse record (R35, R36). `closing` is set once the cycle has released the inlet or been cut, so that only the
draw report of this rinse is taken for it. -/
structure RinseRec where
  target : Nat
  count : Nat
  cut : Bool
  closing : Bool
  deriving DecidableEq, Repr

/-- The cycle record (R41). The outcome is absent while the record is open. -/
structure CycleRecord where
  number : Nat
  recipe : Option Nat
  outcome : Option CycleOutcome
  washS : Nat
  lowTemp : Option Int
  rinseMl : Nat
  minTemp : Option Int
  maxTemp : Option Int
  dosing : Dosing
  lowRinse : Bool
  ventCut : Bool
  doorBlocked : Bool
  deriving DecidableEq, Repr

/-- The state of CSQ. -/
structure Csq where
  recipes : Vector Recipe 8
  active : Option ActiveEntry
  waiting : Option PendingEntry
  phase : CycleState
  hold : Hold
  washMs : Nat
  rinseWait : RinseWait
  rinse : RinseRec
  dwellMs : Nat
  record : Option CycleRecord
  counter : Nat
  cycleOpen : Nat
  deriving DecidableEq, Repr

/-! ### Load Budget Arbiter (03_mains_load_budget.md) -/

/-- The eleven loads in the order of their numbers (R46). -/
inductive Load where
  | drainPump
  | washPump
  | rinsePump
  | doorDrive
  | ventFan
  | valveMotor
  | doserDet
  | doserRa
  | boosterA
  | boosterB
  | tankHeater
  deriving DecidableEq, Repr

/-- The states of a claim (R46). -/
inductive ClaimState where
  | idle
  | waiting
  | granted
  deriving DecidableEq, Repr

/-- A claim record (R46). `grantOrder` numbers the grants, so that "most recently granted" (R52) is decided within a
millisecond too. -/
structure Claim where
  state : ClaimState
  claimTime : BitVec 32
  waitMs : Nat
  promoted : Bool
  counted : Nat
  grantOrder : Nat
  deriving DecidableEq, Repr

/-- An entry of the settling list (R49). -/
structure Settling where
  load : Load
  watts : Nat
  left : Nat
  deriving DecidableEq, Repr

/-- The state of LBA. `told` marks the loads whose BUDGET_UNFIT stands (R55), `breaker` the class 0 and 1 loads whose
capability change broke the class sum (R55), `released` the released HALT frames counted (R59). -/
structure Lba where
  claims : Vector Claim 11
  inForce : Nat
  settling : List Settling
  halt : Bool
  haltClearLeft : Option Nat
  released : Nat
  told : Vector Bool 11
  breaker : Vector Bool 11
  grants : Nat
  deriving DecidableEq, Repr

/-! ### Softener Controller (04_water_softening.md) -/

/-- The two columns. -/
inductive Column where
  | a
  | b
  deriving DecidableEq, Repr

/-- The column states (R64), in the order of their codes (R187). -/
inductive ColumnState where
  | service
  | ready
  | exhausted
  | regenBrine
  | regenSlow
  | regenFast
  deriving DecidableEq, Repr

/-- A column record (R64). The paused flag is the accessor `State.regenPaused`. -/
structure ColumnRec where
  state : ColumnState
  capacity : Nat
  condition : Nat
  brineWeak : Bool
  regens : Nat
  phaseLeft : Nat
  deriving DecidableEq, Repr

/-- The changeover states (chapter 4), in the order of their codes. -/
inductive Changeover where
  | none
  | due
  | pending
  | claimed
  | moving
  | returning
  | aligning
  deriving DecidableEq, Repr

/-- The state of SFC. `moveLimit` is the limit fixed at the grant (R71, R73), `keptTrigger` a trigger taken in ALIGNING
(R69), `saltLow` the salt state last followed (R78), `alignHeld` an alignment that ended unfit and waits for the next test
event (R73), `stuckGone` a VALVE_STUCK record that a SOFT reset removed, until the first acceptance after it (R84). -/
structure Sfc where
  colA : ColumnRec
  colB : ColumnRec
  serviceCol : Column
  serve : Column
  acc : Nat
  changeover : Changeover
  target : Column
  moveLeft : Option Nat
  moveLimit : Nat
  keptTrigger : Bool
  brineSeen : Bool
  saltLow : Bool
  alignHeld : Bool
  stuckGone : Bool
  deriving DecidableEq, Repr

/-! ### Dosing Controller (06_chemical_dosing.md) -/

/-- Order origins (R102), in the order of their codes. -/
inductive Origin where
  | rinseEnd
  | fill
  | topUp
  | manual
  | raStream
  | prime
  deriving DecidableEq, Repr

/-- What an order runs: steps, or for PRIME seconds (R102). -/
inductive Amount where
  | steps (n : Nat)
  | seconds (n : Nat)
  deriving DecidableEq, Repr

/-- Order states (R102). DONE is taken as the order leaves the list. -/
inductive OrderState where
  | queued
  | sent
  | done
  deriving DecidableEq, Repr

/-- An order (R102). `started` marks a head that has claimed its load and asked for the queue (R107). -/
structure Order where
  tag : Octet
  origin : Origin
  amount : Amount
  ulPerStep : Nat
  state : OrderState
  started : Bool
  deriving DecidableEq, Repr

/-- A channel record (R101), its unfit mark and its order list (R100). -/
structure ChannelRec where
  stock : Nat
  carry : Nat
  empty : Bool
  low : Bool
  nextTag : Octet
  stop : Bool
  watchdogLeft : Option Nat
  unfit : Bool
  orders : List Order
  deriving DecidableEq, Repr

/-- The state of DSC. -/
structure Dsc where
  det : ChannelRec
  ra : ChannelRec
  acc : Nat
  owed : Nat
  flush : Bool
  deriving DecidableEq, Repr

/-! ### Door and Vent Controller (07_door_drive_and_drying.md) -/

/-- Door states (R122), in the order of their codes (R187). -/
inductive DoorState where
  | closed
  | closedLatched
  | ajar
  | opened
  | pushing
  | blocked
  | unknown
  deriving DecidableEq, Repr

/-- The three bits of the door record (R122). -/
structure DoorBits where
  latch : Bool
  fan : Bool
  home : Bool
  deriving DecidableEq, Repr

/-- The origin of a PUSH (R127). -/
inductive PushOrigin where
  | vent
  | panel
  deriving DecidableEq, Repr

/-- The message state of a PUSH (R127). -/
inductive MoveState where
  | claimed
  | queued
  | delivered
  deriving DecidableEq, Repr

/-- The pusher task (7.3). -/
inductive PusherTask where
  | none
  | push (origin : PushOrigin) (target : Nat) (message : MoveState)
  | retract (left : Nat)
  deriving DecidableEq, Repr

/-- The vent steps (7.4). -/
inductive VentStep where
  | none
  | unlatch
  | push
  | retract
  | fanWait
  | fan
  deriving DecidableEq, Repr

/-- The vent record (R122). -/
structure Vent where
  step : VentStep
  pct : Nat
  secs : Nat
  ventCut : Bool
  doorBlocked : Bool
  fanOnly : Bool
  closedByUser : Bool
  timerLeft : Option Nat
  coolingLeft : Option Nat
  deriving DecidableEq, Repr

/-- The state of DVC. `blockedGone` and `latchGone` say that a SOFT reset removed a record of DOOR_BLOCKED, or of
DOOR_LATCH_FAIL with detail 1, and no indication has been accepted since (R138). `retractHeld` is the model's own: a RETRACT was
refused, or ended, as unfit, and none of R129's items has changed since (log entry 89). -/
structure Dvc where
  door : DoorState
  bits : Option DoorBits
  openedFlag : Bool
  lastReached : Nat
  latch : Bool
  fan : Bool
  retract : Bool
  releaseLeft : Option Nat
  task : PusherTask
  owed : Bool
  vent : Vent
  blockedGone : Bool
  latchGone : Bool
  retractHeld : Bool
  deriving DecidableEq, Repr

/-! ### Module Bus Interface (08_module_bus.md) -/

/-- The line state (R140, R157). A break is held as its milliseconds left, two for each BREAK frame. -/
inductive Line where
  | running
  | brk (left : Nat)
  deriving DecidableEq, Repr

/-- A bay record (R146): the candidate octet with the frame it was read in, and the accepted octet. -/
structure Bay where
  candidate : Option (Octet × Nat)
  accepted : Option Octet
  deriving DecidableEq, Repr

/-- The fields of a downstream message (R148). -/
inductive DownBody where
  | dose (tag : Octet) (steps : Nat)
  | prime (tag : Octet) (seconds : Nat)
  | move (target : Nat)
  | capsQuery
  deriving DecidableEq, Repr

/-- The enqueuing block (R154), with the channel or entry the message is for. -/
inductive Enqueuer where
  | dsc (channel : Channel)
  | dvc
  | msu
  deriving DecidableEq, Repr

/-- A message of the downstream queue (R154). `sending` marks the one the channel is sending. -/
structure DownMsg where
  dest : Addr
  body : DownBody
  source : Enqueuer
  sending : Bool
  deriving DecidableEq, Repr

/-- The phases of the downstream channel (R150). -/
inductive DownPhase where
  | idle
  | prepare
  | present (index : Nat)
  | closing (good : Nat)
  deriving DecidableEq, Repr

/-- The downstream channel. `shown` says that the frame on the line carries the phase, `closingFrames` counts the frames
of CLOSING (R151). -/
structure DownChan where
  phase : DownPhase
  stopSeen : Nat
  noProgress : Nat
  closingFrames : Nat
  shown : Bool
  deriving DecidableEq, Repr

/-- The upstream grant (R155). -/
structure Grant where
  owner : Addr
  frames : Nat
  msgSeen : Bool
  deriving DecidableEq, Repr

/-- The look of one good upstream frame (R152). -/
structure Look where
  msg : Bool
  data : Octet
  tgl : Bool
  deriving DecidableEq, Repr

/-- The upstream channel (R152). `taken` is the header and body octets taken. -/
structure UpChan where
  echo : Bool
  stop : Bool
  taken : List Octet
  look : Option Look
  msgZero : Nat
  noProgress : Nat
  deriving DecidableEq, Repr

/-- The state of MBI. `dn` is the frame on the line. `departed` is the model's own mark: a message has left the downstream
queue in this event, and those who wait for room ask again at its end (log entry 106). -/
structure Mbi where
  frameNo : Nat
  line : Line
  dn : Vector Octet 24
  bays : Vector Bay 8
  queue : List DownMsg
  departed : Bool
  down : DownChan
  grant : Option Grant
  up : UpChan
  deriving DecidableEq, Repr

/-! ### Module Supervisor (09_module_supervision.md) -/

/-- Expected kinds (R160), in the order of their codes. -/
inductive Kind where
  | none
  | door
  | softener
  | doseDet
  | doseRa
  deriving DecidableEq, Repr

/-- Link states (R160), in the order of their codes (R187). -/
inductive LinkState where
  | notExpected
  | seeking
  | linked
  | lost
  deriving DecidableEq, Repr

/-- Bring-up phases (R162). The answer timer counts frames. -/
inductive BringUp where
  | count (good : Nat)
  | query
  | answer (left : Nat)
  | mismatch
  deriving DecidableEq, Repr

/-- The figures of a capability record (R163). -/
inductive CapFields where
  | none
  | door (travelDs driveW fanW maxPct : Nat)
  | softener (moveDs motorW : Nat)
  | doser (ulPerStep pumpW maxSteps : Nat)
  deriving DecidableEq, Repr

/-- A capability record with its revision (R160). -/
structure CapRecord where
  fields : CapFields
  revision : Nat
  deriving DecidableEq, Repr

/-- Last status bits (R168). -/
structure StatusBits where
  ready : Bool
  mfault : Bool
  orderBusy : Bool
  deriving DecidableEq, Repr

/-- A module table entry (R160); its expected kind is setting 32 + address. `wantQuery` is a CAPS_QUERY the full queue
refused (R162), `unpinLeft` the answer timer of the query of an UNPIN (R166), `linkMfault` the MFAULT bit of the last good
bay since the link (R168). -/
structure Entry where
  link : LinkState
  bringUp : BringUp
  caps : CapRecord
  pinned : Bool
  lossMark : Bool
  silent : Nat
  bayErrors : Nat
  msgAborts : Nat
  grantLapses : Nat
  status : Option StatusBits
  wantQuery : Bool
  unpinLeft : Option Nat
  linkMfault : Option Bool
  deriving DecidableEq, Repr

/-- The stuck watch (R169). -/
inductive StuckWatch where
  | off
  | watch (seen : Nat)
  | stuck (toNext good : Nat)
  deriving DecidableEq, Repr

/-- The state of MSU; the grant owner it holds is MBI's grant. -/
structure Msu where
  entries : Vector Entry 8
  stuckCount : Nat
  watch : StuckWatch
  deriving DecidableEq, Repr

/-! ### Fault Unit (10_faults_and_protective_actions.md) -/

/-- The fault codes (10.1), in the order of their values from 0x01. -/
inductive FaultCode where
  | tankLevelImplausible
  | tankFillTimeout
  | inletNoFlow
  | sensorTank
  | sensorBooster
  | sensorVapour
  | boosterOvertemp
  | tankOvertemp
  | boosterDry
  | rinseLowTemp
  | softenerExhausted
  | saltLow
  | regenNoBrine
  | valveStuck
  | detEmpty
  | raEmpty
  | doserStall
  | doorLatchFail
  | doorBlocked
  | doorForced
  | doorObstructed
  | moduleLost
  | moduleMismatch
  | moduleFault
  | busStuck
  | budgetUnfit
  | settingsLost
  deriving DecidableEq, Repr

/-- Fault classes (R172), in the order of their severity. -/
inductive FaultClass where
  | warning
  | stop
  | lockout
  deriving DecidableEq, Repr

/-- The fault level (R178), in the order of its codes. -/
inductive FaultLevel where
  | none
  | warning
  | stop
  | lockout
  deriving DecidableEq, Repr

/-- A fault record (R172); `ack` is clear mode ACK. -/
structure FaultRec where
  code : FaultCode
  detail : Nat
  cls : FaultClass
  ack : Bool
  present : Bool
  count : Nat
  firstCycle : Nat
  escalated : Bool
  deriving DecidableEq, Repr

/-- A row of the escalation history (R177); the rows stand in the order of their last raise, oldest first. -/
structure HistoryRow where
  code : FaultCode
  detail : Nat
  cycles : List Nat
  deriving DecidableEq, Repr

/-- The state of FLU; the fault level is the accessor `State.level`. -/
structure Flu where
  list : List FaultRec
  history : List HistoryRow
  overflow : Nat
  deriving DecidableEq, Repr

/-! ### Settings Store (12_start_up_standby_and_the_settings_store.md) -/

/-- Reset kinds in the order of their STARTED codes (R192). -/
inductive ResetKind where
  | powerOn
  | full
  | soft
  deriving DecidableEq, Repr

/-- Load results (R192), in the order of their codes. -/
inductive LoadResult where
  | newest
  | older
  | defaults
  deriving DecidableEq, Repr

/-- The two images. -/
inductive ImageId where
  | settings
  | counters
  deriving DecidableEq, Repr

/-- The settings image: settings, recipe table, pinned records (chapter 12). -/
structure SettingsImage where
  settings : Vector Int 40
  recipes : Vector Recipe 8
  pins : Vector (Option CapRecord) 8
  deriving DecidableEq, Repr

/-- The saved figures of a channel. -/
structure ChannelImage where
  stock : Nat
  carry : Nat
  empty : Bool
  deriving DecidableEq, Repr

/-- The counters image (chapter 12). -/
structure CountersImage where
  colA : ColumnRec
  colB : ColumnRec
  serviceCol : Column
  acc : Nat
  det : ChannelImage
  ra : ChannelImage
  raAcc : Nat
  counter : Nat
  cycleOpen : Nat
  deriving DecidableEq, Repr

/-- A stored copy of an image: its sequence number, whether it passes its check, its values. -/
structure StoreCopy (α : Type) where
  seq : Nat
  good : Bool
  image : α
  deriving DecidableEq, Repr

/-- The non-volatile memory: two copies of each image, absent while never written. -/
structure Nvm where
  set1 : Option (StoreCopy SettingsImage)
  set2 : Option (StoreCopy SettingsImage)
  cnt1 : Option (StoreCopy CountersImage)
  cnt2 : Option (StoreCopy CountersImage)
  deriving DecidableEq, Repr

/-- The write state (R190); `second` names the copy being written. -/
inductive WriteState where
  | idle
  | writing (image : ImageId) (second : Bool) (left : Nat)
  deriving DecidableEq, Repr

/-- The last save result (R190, R191), in the order of its codes. -/
inductive SaveResult where
  | none
  | done
  | abandoned
  deriving DecidableEq, Repr

/-- The power state (R193), with the two states before RUNNING (R191, R192). -/
inductive Power where
  | off
  | oscillator (left : Nat)
  | running
  | standbyPending
  | standby
  deriving DecidableEq, Repr

/-- Causes in a STANDBY notice (R193), in the order of their codes. -/
inductive StandbyCause where
  | sleep
  | octet
  | door
  | fault
  | request
  deriving DecidableEq, Repr

/-- The mode of a RESET request (R192). -/
inductive ResetMode where
  | soft
  | full
  deriving DecidableEq, Repr

/-- A RESET request answered and not yet taken: waiting for its reply to be sent, or due (R192). -/
inductive ResetReq where
  | none
  | asked (mode : ResetMode)
  | due (mode : ResetMode)
  deriving DecidableEq, Repr

/-- A request frame as received (R181). -/
structure ReqFrame where
  kind : Octet
  tag : Octet
  body : List Octet
  deriving DecidableEq, Repr

/-- The state of STO. `saveWaits` marks a SAVE whose settings write has not started, `saveRuns` that the settings write in
progress serves one (R190); `held` is the requests completed during the settle (R194). -/
structure Sto where
  nvm : Nvm
  write : WriteState
  settingsMark : Bool
  countersMark : Bool
  pfw : Bool
  settingsLoad : LoadResult
  countersLoad : LoadResult
  lastSave : SaveResult
  saveWaits : Bool
  saveRuns : Bool
  power : Power
  settle : Option (StandbyCause × Nat)
  wakeMask : Octet
  wakePulseLeft : Option Nat
  held : List ReqFrame
  resetReq : ResetReq
  deriving DecidableEq, Repr

/-! ### Panel Link (11_panel_link.md) -/

/-- Status codes (R183). -/
inductive Status where
  | ok
  | accepted
  | clamped
  | busy
  | badForm
  | unknownKind
  | outOfRange
  | notNow
  | lockedOut
  | tooLate
  | notFound
  | queueFull
  deriving DecidableEq, Repr

/-- Events of a FAULT notice (R187). -/
inductive FaultEvent where
  | created
  | removed
  | classChanged
  deriving DecidableEq, Repr

/-- Events of a SOFTENER notice (R187). -/
inductive SoftenerEvent where
  | changeoverStart
  | changeoverComplete
  | changeoverFailed
  | phaseStart
  | regenEnd
  | regenAborted
  | saltLowSet
  | saltLowCleared
  deriving DecidableEq, Repr

/-- The notices (R187) with the values their blocks hand over. -/
inductive Notice where
  | cyclePhase (number : Nat) (recipe : Option Nat) (phase : CycleState) (door level : Bool)
  | cycleEnd (record : CycleRecord)
  | fault (event : FaultEvent) (code : FaultCode) (detail : Nat) (cls : FaultClass) (count firstCycle : Nat)
  | door (door : DoorState) (bits : Option DoorBits) (lastReached : Nat) (latch fan retract : Bool)
      (moved : Option (Octet × Nat))
  | softener (event : SoftenerEvent) (column : Column) (state : ColumnState)
  | stock (channel : Channel) (stock : Nat) (low empty : Bool)
  | module (address : Addr) (kind : Kind) (link : LinkState) (reported : Option Octet)
  | started (kind : ResetKind) (settingsLoad countersLoad : LoadResult) (imageTag : Int)
  | standby (power : Power) (cause : StandbyCause)
  deriving DecidableEq, Repr

/-- The receive state (R182); an assembled frame holds the octets after START and the ms left before a gap. -/
inductive RxState where
  | hunt
  | assemble (octets : List Octet) (gapLeft : Nat)
  deriving DecidableEq, Repr

/-- A reply (R183): the KIND of its request, its TAG, status, and the fields after the status. -/
structure Reply where
  kind : Octet
  tag : Octet
  status : Status
  fields : List Octet
  deriving DecidableEq, Repr

/-- Where the frame being sent came from. `orphan` is a notice whose queue a SOFT reset has emptied (R188). -/
inductive TxSource where
  | reply
  | busy
  | notice
  | orphan
  deriving DecidableEq, Repr

/-- The frame being sent, from START to CRC (R181, R184). -/
structure TxFrame where
  source : TxSource
  octets : List Octet
  deriving DecidableEq, Repr

/-- The state of PLK; ATTN is the accessor `State.attn`. The BUSY slot holds a request's KIND and TAG. -/
structure Plk where
  rx : RxState
  reply : Option Reply
  busy : Option (Octet × Octet)
  tx : Option TxFrame
  notices : List Notice
  gap : Bool
  linkErrors : Nat
  dropped : Nat
  deriving DecidableEq, Repr

/-! ### The machine -/

/-- The state of the part: milliseconds since start, the working settings 1 to 40, the blocks, and the commands waiting,
first in first out. -/
structure State where
  now : BitVec 32
  settings : Vector Int 40
  plk : Plk
  whu : Whu
  csq : Csq
  lba : Lba
  sfc : Sfc
  dsc : Dsc
  dvc : Dvc
  mbi : Mbi
  msu : Msu
  flu : Flu
  sto : Sto
  pending : List Instr
  deriving DecidableEq, Repr

/-! ### Values after reset -/

/-- The settings table's defaults (chapter 12), settings 1 to 40. -/
def defaultSettings : Vector Int 40 :=
  #v[3000, 600, 600, 820, 300, 120, 1, 3600, 100, 750,
     250, 2700, 2700, 2800, 180, 300, 480, 2000, 600, 900,
     120, 40, 2000, 15, 30000, 300, 250, 10000, 5000, 15,
     450, 1, 2, 3, 4, 0, 0, 0, 0, 0]

/-- The default recipe (2.1). -/
def defaultRecipe : Recipe :=
  { washS := 90, tankC := 600, rinseC := 830, rinseMl := 2500, purgeMl := 2500, dwellS := 5, ventPct := 20, ventS := 120,
    soilPct := 100 }

/-- The default recipe table (R22). -/
def defaultRecipes : Vector Recipe 8 := Vector.replicate 8 defaultRecipe

/-- The default capability record of a kind (R165). -/
def defaultCaps : Kind → CapRecord
  | .none => { fields := .none, revision := 0 }
  | .door => { fields := .door 40 60 40 100, revision := 0 }
  | .softener => { fields := .softener 80 20, revision := 0 }
  | .doseDet => { fields := .doser 100 15 20, revision := 0 }
  | .doseRa => { fields := .doser 100 15 20, revision := 0 }

/-- A column record of a blank store (R85). -/
def ColumnRec.fresh (state : ColumnState) (capacity : Nat) : ColumnRec :=
  { state := state, capacity := capacity, condition := 100, brineWeak := false, regens := 0, phaseLeft := 0 }

/-- The counters a blank store gives (R45, R85, R121), the capacity for the column_capacity given. -/
def defaultCounters (columnCapacity : Nat) : CountersImage :=
  { colA := ColumnRec.fresh .service (columnCapacity * 100), colB := ColumnRec.fresh .ready (columnCapacity * 100),
    serviceCol := .a, acc := 0,
    det := { stock := 0, carry := 0, empty := true }, ra := { stock := 0, carry := 0, empty := true },
    raAcc := 0, counter := 0, cycleOpen := 0 }

/-- The settings image a blank store gives (R192). -/
def defaultImage : SettingsImage :=
  { settings := defaultSettings, recipes := defaultRecipes, pins := Vector.replicate 8 Option.none }

/-- A non-volatile memory that nothing has written. -/
def blankNvm : Nvm := { set1 := Option.none, set2 := Option.none, cnt1 := Option.none, cnt2 := Option.none }

/-- An order list, watchdog and marks after reset (R120, R121) around the stored figures. -/
def ChannelRec.restored (i : ChannelImage) (low : Bool) (tag : Octet) : ChannelRec :=
  { stock := i.stock, carry := i.carry, empty := i.empty, low := low, nextTag := tag, stop := false,
    watchdogLeft := Option.none, unfit := false, orders := [] }

/-- WHU after a reset (R21). The FULL switch has no sample yet (log entry 4), and no setpoint is in force. -/
def Whu.reset : Whu :=
  { owner := Option.none, phase := .closed, tankWaiting := false, rinseWaiting := false, runOn := Option.none, draw := 0,
    quietLeft := Option.none, prevSample := Option.none, accepted := Option.none, implausibleLeft := Option.none,
    boosterFull := Option.none, tankSet := Option.none, boosterSet := Option.none, tank := .empty, fill := Option.none,
    fillEnded := Option.none,
    tankHeat := { demand := false, unfit := false }, boosterA := { demand := false, unfit := false },
    boosterB := { demand := false, unfit := false },
    tankSensor := { last := Option.none, bad := 0, failed := false },
    boosterSensor := { last := Option.none, bad := 0, failed := false },
    vapourSensor := { last := Option.none, bad := 0, failed := false },
    drainUser := Option.none, purgeTime := 0, purgeMs := 0, drainOutMs := Option.none }

/-- No dosing counted. -/
def Dosing.zero : Dosing := { doseUl := 0, detSteps := 0, raSteps := 0, hardWater := false, doseShort := false }

/-- The rinse-wait record cleared. -/
def RinseWait.reset : RinseWait :=
  { holdLeft := Option.none, holdExpired := false, confirmLeft := Option.none, confirmed := false, tempMet := false }

/-- The hold record cleared. -/
def Hold.reset : Hold := { door := false, level := false, left := Option.none, heldMs := 0 }

/-- The rinse record cleared. -/
def RinseRec.reset : RinseRec := { target := 0, count := 0, cut := false, closing := false }

/-- CSQ with an empty queue (R44, R45). -/
def Csq.cleared (recipes : Vector Recipe 8) (counter cycleOpen : Nat) : Csq :=
  { recipes := recipes, active := Option.none, waiting := Option.none, phase := .idle,
    hold := Hold.reset, washMs := 0,
    rinseWait := RinseWait.reset,
    rinse := RinseRec.reset, dwellMs := 0, record := Option.none,
    counter := counter, cycleOpen := cycleOpen }

/-- A claim record after reset (R62). -/
def Claim.idle : Claim := { state := .idle, claimTime := 0, waitMs := 0, promoted := false, counted := 0, grantOrder := 0 }

/-- LBA after a reset with a budget (R62). -/
def Lba.reset (budget : Nat) : Lba :=
  { claims := Vector.replicate 11 Claim.idle, inForce := budget, settling := [], halt := false,
    haltClearLeft := Option.none, released := 0, told := Vector.replicate 11 false, breaker := Vector.replicate 11 false,
    grants := 0 }

/-- The vent record at rest. -/
def Vent.reset : Vent :=
  { step := .none, pct := 0, secs := 0, ventCut := false, doorBlocked := false, fanOnly := false, closedByUser := false,
    timerLeft := Option.none, coolingLeft := Option.none }

/-- DVC after a reset (R138). -/
def Dvc.reset (openedFlag : Bool) : Dvc :=
  { door := .unknown, bits := Option.none, openedFlag := openedFlag, lastReached := 0, latch := false, fan := false,
    retract := false, releaseLeft := Option.none, task := .none, owed := false,
    vent := Vent.reset, blockedGone := false, latchGone := false, retractHeld := false }

/-- The idle downstream channel. -/
def DownChan.reset : DownChan := { phase := .idle, stopSeen := 0, noProgress := 0, closingFrames := 0, shown := false }

/-- The upstream channel at rest. -/
def UpChan.reset : UpChan := { echo := false, stop := false, taken := [], look := Option.none, msgZero := 0, noProgress := 0 }

/-- MBI at the start of a line break that follows a reset (R157 to R159). DESIGN CHOICE (log entry 85): the number of the last
frame built reads 0 until one is built. -/
def Mbi.reset : Mbi :=
  { frameNo := 0, line := .brk 8, dn := Vector.replicate 24 0#8,
    bays := Vector.replicate 8 { candidate := Option.none, accepted := Option.none }, queue := [], departed := false,
    down := DownChan.reset,
    grant := Option.none, up := UpChan.reset }

/-- A module table entry after POWER-ON and FULL reset (R171). -/
def Entry.fresh (kind : Kind) (pin : Option CapRecord) : Entry :=
  { link := if kind = .none then .notExpected else .seeking, bringUp := .count 0, caps := pin.getD (defaultCaps kind),
    pinned := pin.isSome, lossMark := false, silent := 0, bayErrors := 0, msgAborts := 0, grantLapses := 0,
    status := Option.none, wantQuery := false, unpinLeft := Option.none, linkMfault := Option.none }

/-- The fault list after POWER-ON with a blank store: both channels empty (R121), SETTINGS_LOST with its condition ended
(R192, 10.1). -/
def blankStoreFaults : List FaultRec :=
  [{ code := .detEmpty, detail := 0, cls := .warning, ack := false, present := true, count := 1, firstCycle := 0,
     escalated := false },
   { code := .raEmpty, detail := 0, cls := .warning, ack := false, present := true, count := 1, firstCycle := 0,
     escalated := false },
   { code := .settingsLost, detail := 0, cls := .warning, ack := true, present := false, count := 1, firstCycle := 0,
     escalated := false }]

/-- The notices of a POWER-ON start with a blank store (R192, R173). -/
def blankStoreNotices : List Notice :=
  [.started .powerOn .defaults .defaults 0, .fault .created .detEmpty 0 .warning 1 0,
   .fault .created .raEmpty 0 .warning 1 0, .fault .created .settingsLost 0 .warning 1 0]

/-- The STARTED frame of that start as sent: START, LEN, KIND, TAG, flags octet, POWER-ON, DEFAULTS, DEFAULTS, image_tag,
CRC-16 (R181, R187, R192). -/
def startedOctets : List Octet :=
  [0xC3#8, 0x08#8, 0x88#8, 0x00#8, 0x00#8, 0x00#8, 0x02#8, 0x02#8, 0x00#8, 0x00#8, 0x51#8, 0xDE#8]

/-- PLK after the same start: the STARTED notice is being sent (R184, R188). -/
def Plk.reset : Plk :=
  { rx := .hunt, reply := Option.none, busy := Option.none,
    tx := some { source := .notice, octets := startedOctets },
    notices := blankStoreNotices, gap := false, linkErrors := 0, dropped := 0 }

/-- STO after POWER-ON with a blank store (R192). -/
def Sto.reset : Sto :=
  { nvm := blankNvm, write := .idle, settingsMark := false, countersMark := false, pfw := false,
    settingsLoad := .defaults, countersLoad := .defaults, lastSave := .none, saveWaits := false,
    saveRuns := false, power := .running, settle := Option.none, wakeMask := 0#8, wakePulseLeft := Option.none, held := [],
    resetReq := .none }

/-- SFC after POWER-ON with a blank store (R85). -/
def Sfc.reset : Sfc :=
  { colA := (defaultCounters 2000).colA, colB := (defaultCounters 2000).colB, serviceCol := .a, serve := .a, acc := 0,
    changeover := .none, target := .b, moveLeft := Option.none, moveLimit := 0, keptTrigger := false, brineSeen := false,
    saltLow := false, alignHeld := false, stuckGone := false }

/-- DSC after POWER-ON with a blank store (R121, R113). -/
def Dsc.reset : Dsc :=
  { det := ChannelRec.restored (defaultCounters 2000).det true 0#8,
    ra := ChannelRec.restored (defaultCounters 2000).ra true 0#8, acc := 0, owed := 0, flush := false }

/-- MSU after POWER-ON with a blank store (R171). -/
def Msu.reset : Msu :=
  { entries := #v[Entry.fresh .door Option.none, Entry.fresh .softener Option.none, Entry.fresh .doseDet Option.none,
      Entry.fresh .doseRa Option.none, Entry.fresh .none Option.none, Entry.fresh .none Option.none,
      Entry.fresh .none Option.none, Entry.fresh .none Option.none],
    stuckCount := 0, watch := .off }

/-- The part right after a POWER-ON start with a blank store: the oscillator has settled, every block has its POWER-ON
state, the start-up line break runs and the STARTED notice goes out (R192). That the store is blank is a choice, log
entry 1; no command waits. -/
def State.reset : State :=
  { now := 0, settings := defaultSettings, plk := Plk.reset, whu := Whu.reset, csq := Csq.cleared defaultRecipes 0 0,
    lba := Lba.reset 3600, sfc := Sfc.reset, dsc := Dsc.reset, dvc := Dvc.reset true, mbi := Mbi.reset, msu := Msu.reset,
    flu := { list := blankStoreFaults, history := [], overflow := 0 }, sto := Sto.reset, pending := [] }

end Sys2Proof.Machine
end

