-- ==== Sys2Proof/Machine/Codec.lean ====
section
/-! DEFINITION. Octets and numbers: the three checks (R143, R181), the field encodings of R186, the code numbers the
catalogue gives or derives, and the notice bodies of R187. -/

namespace Sys2Proof.Machine

open Sys2Proof

/-! ### Checks -/

/-- One bit through a check register of `w` bits with the polynomial `poly` (R143). -/
def crcBit (w poly reg : Nat) (b : Bool) : Nat :=
  if decide (2 ^ (w - 1) ≤ reg) != b then ((reg * 2) % 2 ^ w) ^^^ poly else (reg * 2) % 2 ^ w

/-- The bits of an octet, most significant first (R140, R181). -/
def octetBits (o : Octet) : List Bool :=
  [o.getLsbD 7, o.getLsbD 6, o.getLsbD 5, o.getLsbD 4, o.getLsbD 3, o.getLsbD 2, o.getLsbD 1, o.getLsbD 0]

/-- The bits of a run of octets. -/
def octetsBits : List Octet → List Bool
  | [] => []
  | o :: os => octetBits o ++ octetsBits os

/-- CRC-4 of a bay: its first octet and bits 7..4 of its second (R143). -/
def crc4 (first second : Octet) : Nat := ((octetBits first ++ (octetBits second).take 4).foldl (crcBit 4 0x3) 0)

/-- CRC-8 over octets (R143). -/
def crc8 (os : List Octet) : Nat := (octetsBits os).foldl (crcBit 8 0x07) 0

/-- CRC-16 over octets (R181). -/
def crc16 (os : List Octet) : Nat := (octetsBits os).foldl (crcBit 16 0x1021) 0xFFFF

/-! ### Field encodings (R186) -/

/-- A number in one octet. -/
def e1 (n : Nat) : List Octet := [BitVec.ofNat 8 n]

/-- A number in two octets, most significant first. -/
def e2 (n : Nat) : List Octet := [BitVec.ofNat 8 (n / 256), BitVec.ofNat 8 n]

/-- A number in four octets, most significant first. -/
def e4 (n : Nat) : List Octet := e2 (n / 65536) ++ e2 n

/-- A temperature: signed, two octets, 0.1 °C. -/
def eTemp (t : Int) : List Octet := e2 (BitVec.ofInt 16 t).toNat

/-- A SET or GET value: signed, four octets. -/
def eValue (v : Int) : List Octet := e4 (BitVec.ofInt 32 v).toNat

/-- A flag or a yes/no field in one octet. -/
def eBool (b : Bool) : List Octet := e1 b.toNat

/-- A one-octet field that may be absent. -/
def eOpt1 : Option Nat → List Octet
  | some n => e1 n
  | none => e1 0xFF

/-- A two-octet field that may be absent. -/
def eOpt2 : Option Nat → List Octet
  | some n => e2 n
  | none => e2 0xFFFF

/-- A four-octet field that may be absent. -/
def eOpt4 : Option Nat → List Octet
  | some n => e4 n
  | none => e4 0xFFFFFFFF

/-- A temperature that may be absent. -/
def eOptTemp : Option Int → List Octet
  | some t => eTemp t
  | none => e2 0x7FFF

/-- A set of flags in one octet from bit 0 upwards. -/
def eFlags (fs : List Bool) : List Octet := e1 (fs.foldr (fun b n => 2 * n + b.toNat) 0)

/-- The number in two octets. -/
def d2 (hi lo : Octet) : Nat := hi.toNat * 256 + lo.toNat

/-- The signed temperature in two octets. -/
def dTemp (hi lo : Octet) : Int := (BitVec.ofNat 16 (d2 hi lo)).toInt

/-- The four-octet value, as bits. -/
def d4 (a b c d : Octet) : BitVec 32 := BitVec.ofNat 32 (d2 a b * 65536 + d2 c d)

/-! ### Code numbers -/

/-- Status codes (R183). -/
def Status.code : Status → Nat
  | .ok => 0x00
  | .accepted => 0x01
  | .clamped => 0x02
  | .busy => 0x10
  | .badForm => 0x11
  | .unknownKind => 0x12
  | .outOfRange => 0x13
  | .notNow => 0x14
  | .lockedOut => 0x15
  | .tooLate => 0x16
  | .notFound => 0x17
  | .queueFull => 0x18

/-- Cycle state codes (R187). -/
def CycleState.code : CycleState → Nat
  | .idle => 0
  | .armed => 1
  | .wash => 2
  | .held => 3
  | .purge => 4
  | .rinseWait => 5
  | .rinse => 6
  | .dwell => 7
  | .vent => 8

/-- Cycle outcome codes (R187). -/
def CycleOutcome.code : CycleOutcome → Nat
  | .complete => 0
  | .cancelled => 1
  | .rinseIncomplete => 2
  | .abortedFault => 3
  | .abortedHold => 4
  | .powerLost => 5
  | .reset => 6

/-- Level codes in the order of R7. -/
def LevelCode.code : LevelCode → Nat
  | .dry => 0
  | .partly => 1
  | .full => 2
  | .implausible => 3

/-- Tank state codes in the order of R9. -/
def TankState.code : TankState → Nat
  | .empty => 0
  | .filling => 1
  | .heating => 2
  | .ready => 3
  | .draining => 4

/-- Claim state codes in the order of R46. -/
def ClaimState.code : ClaimState → Nat
  | .idle => 0
  | .waiting => 1
  | .granted => 2

/-- Column codes (R187). -/
def Column.code : Column → Nat
  | .a => 0
  | .b => 1

/-- Column state codes (R187). -/
def ColumnState.code : ColumnState → Nat
  | .service => 0
  | .ready => 1
  | .exhausted => 2
  | .regenBrine => 3
  | .regenSlow => 4
  | .regenFast => 5

/-- Changeover state codes in the order of chapter 4. -/
def Changeover.code : Changeover → Nat
  | .none => 0
  | .due => 1
  | .pending => 2
  | .claimed => 3
  | .moving => 4
  | .returning => 5
  | .aligning => 6

/-- Channel codes (R186). -/
def channelCode : Channel → Nat
  | .det => 0
  | .ra => 1

/-- Origin codes in the order of R102. -/
def Origin.code : Origin → Nat
  | .rinseEnd => 0
  | .fill => 1
  | .topUp => 2
  | .manual => 3
  | .raStream => 4
  | .prime => 5

/-- Order state codes in the order of R102. -/
def OrderState.code : OrderState → Nat
  | .queued => 0
  | .sent => 1
  | .done => 2

/-- Door state codes (R187). -/
def DoorState.code : DoorState → Nat
  | .closed => 0
  | .closedLatched => 1
  | .ajar => 2
  | .opened => 3
  | .pushing => 4
  | .blocked => 5
  | .unknown => 6

/-- Vent step codes in the order of R122. -/
def VentStep.code : VentStep → Nat
  | .none => 0
  | .unlatch => 1
  | .push => 2
  | .retract => 3
  | .fanWait => 4
  | .fan => 5

/-- Kind codes (R160). -/
def Kind.code : Kind → Nat
  | .none => 0
  | .door => 1
  | .softener => 2
  | .doseDet => 3
  | .doseRa => 4

/-- The kind of a code; a code above 4 is refused before it is held (R161). -/
def Kind.ofCode : Nat → Kind
  | 1 => .door
  | 2 => .softener
  | 3 => .doseDet
  | 4 => .doseRa
  | _ => .none

/-- Link state codes (R187). -/
def LinkState.code : LinkState → Nat
  | .notExpected => 0
  | .seeking => 1
  | .linked => 2
  | .lost => 3

/-- Bring-up phase codes in the order of R160. -/
def BringUp.code : BringUp → Nat
  | .count _ => 0
  | .query => 1
  | .answer _ => 2
  | .mismatch => 3

/-- Fault codes (10.1). -/
def FaultCode.code : FaultCode → Nat
  | .tankLevelImplausible => 0x01
  | .tankFillTimeout => 0x02
  | .inletNoFlow => 0x03
  | .sensorTank => 0x04
  | .sensorBooster => 0x05
  | .sensorVapour => 0x06
  | .boosterOvertemp => 0x07
  | .tankOvertemp => 0x08
  | .boosterDry => 0x09
  | .rinseLowTemp => 0x0A
  | .softenerExhausted => 0x0B
  | .saltLow => 0x0C
  | .regenNoBrine => 0x0D
  | .valveStuck => 0x0E
  | .detEmpty => 0x0F
  | .raEmpty => 0x10
  | .doserStall => 0x11
  | .doorLatchFail => 0x12
  | .doorBlocked => 0x13
  | .doorForced => 0x14
  | .doorObstructed => 0x15
  | .moduleLost => 0x16
  | .moduleMismatch => 0x17
  | .moduleFault => 0x18
  | .busStuck => 0x19
  | .budgetUnfit => 0x1A
  | .settingsLost => 0x1B

/-- Every fault code, in the order of the fault table (10.1). -/
def FaultCode.all : List FaultCode :=
  [.tankLevelImplausible, .tankFillTimeout, .inletNoFlow, .sensorTank, .sensorBooster, .sensorVapour, .boosterOvertemp,
   .tankOvertemp, .boosterDry, .rinseLowTemp, .softenerExhausted, .saltLow, .regenNoBrine, .valveStuck, .detEmpty, .raEmpty,
   .doserStall, .doorLatchFail, .doorBlocked, .doorForced, .doorObstructed, .moduleLost, .moduleMismatch, .moduleFault,
   .busStuck, .budgetUnfit, .settingsLost]

/-- The fault of a code octet, if the table has it (R176). -/
def FaultCode.ofCode (n : Nat) : Option FaultCode := FaultCode.all.find? (fun c => c.code == n)

/-- Fault class codes in the order of R172. -/
def FaultClass.code : FaultClass → Nat
  | .warning => 0
  | .stop => 1
  | .lockout => 2

/-- Fault level codes in the order of chapter 10. -/
def FaultLevel.code : FaultLevel → Nat
  | .none => 0
  | .warning => 1
  | .stop => 2
  | .lockout => 3

/-- FAULT notice event codes (R187). -/
def FaultEvent.code : FaultEvent → Nat
  | .created => 0
  | .removed => 1
  | .classChanged => 2

/-- SOFTENER notice event codes (R187). -/
def SoftenerEvent.code : SoftenerEvent → Nat
  | .changeoverStart => 0
  | .changeoverComplete => 1
  | .changeoverFailed => 2
  | .phaseStart => 3
  | .regenEnd => 4
  | .regenAborted => 5
  | .saltLowSet => 6
  | .saltLowCleared => 7

/-- Reset kind codes (R192). -/
def ResetKind.code : ResetKind → Nat
  | .powerOn => 0
  | .full => 1
  | .soft => 2

/-- Load result codes (R192). -/
def LoadResult.code : LoadResult → Nat
  | .newest => 0
  | .older => 1
  | .defaults => 2

/-- Save result codes in the order of chapter 12. -/
def SaveResult.code : SaveResult → Nat
  | .none => 0
  | .done => 1
  | .abandoned => 2

/-- Power state codes in the order of chapter 12; the two states before RUNNING have no code of their own and no notice. -/
def Power.code : Power → Nat
  | .running => 0
  | .standbyPending => 1
  | .standby => 2
  | .off => 0
  | .oscillator _ => 0

/-- STANDBY notice cause codes (R193). -/
def StandbyCause.code : StandbyCause → Nat
  | .sleep => 0
  | .octet => 1
  | .door => 2
  | .fault => 3
  | .request => 4

/-- Enqueuing block codes (R154). DESIGN CHOICE (log entry 109): the section numbers that R186 gives the blocks. -/
def Enqueuer.code : Enqueuer → Nat
  | .dsc _ => 5
  | .dvc => 6
  | .msu => 8

/-- Downstream message kind codes (R148). -/
def DownBody.code : DownBody → Nat
  | .dose _ _ => 0x1
  | .prime _ _ => 0x2
  | .move _ => 0x3
  | .capsQuery => 0x4

/-- The octets of a downstream message, header first (R148). -/
def DownBody.octets : DownBody → List Octet
  | .dose tag steps => 0x13#8 :: tag :: e2 steps
  | .prime tag seconds => 0x22#8 :: tag :: e1 seconds
  | .move target => 0x31#8 :: e1 target
  | .capsQuery => [0x40#8]

/-- The fields of a capability record in the order of the CAPS layout from body octet 2 (R163). -/
def CapFields.octets : CapFields → List Octet
  | .none => []
  | .door travel drive fan pct => e1 travel ++ e1 drive ++ e1 fan ++ e1 pct
  | .softener move motor => e1 move ++ e1 motor
  | .doser ul pump steps => e2 ul ++ e1 pump ++ e1 steps

/-- The record read from the layout's octets 2 onwards, if every field of the kind is in its range (R163, R164, R166). -/
def CapFields.read (kind : Kind) (os : List Octet) : Option CapFields :=
  match kind, os with
  | .door, t :: d :: f :: p :: _ =>
    if 1 ≤ t.toNat ∧ 1 ≤ p.toNat ∧ p.toNat ≤ 100 then some (.door t.toNat d.toNat f.toNat p.toNat) else Option.none
  | .softener, m :: w :: _ => if 1 ≤ m.toNat then some (.softener m.toNat w.toNat) else Option.none
  | .doseDet, h :: l :: w :: s :: _ =>
    if 1 ≤ d2 h l ∧ d2 h l ≤ 1000 ∧ 1 ≤ s.toNat then some (.doser (d2 h l) w.toNat s.toNat) else Option.none
  | .doseRa, h :: l :: w :: s :: _ =>
    if 1 ≤ d2 h l ∧ d2 h l ≤ 1000 ∧ 1 ≤ s.toNat then some (.doser (d2 h l) w.toNat s.toNat) else Option.none
  | _, _ => Option.none

/-- Octets in a record of the kind (R186). -/
def Kind.recordLength : Kind → Nat
  | .none => 0
  | .door => 4
  | .softener => 2
  | .doseDet => 4
  | .doseRa => 4

/-! ### Recipes, notices and frames -/

/-- The nine fields of a recipe in recipe table order (R186). DEDUCED (log entry 70): its three fields in seconds are numbers of
a stated range and not times of 4 octets, so they take 2, 1 and 2 octets. -/
def recipeOctets (r : Recipe) : List Octet :=
  e2 r.washS ++ eTemp r.tankC ++ eTemp r.rinseC ++ e2 r.rinseMl ++ e2 r.purgeMl ++ e1 r.dwellS ++ e1 r.ventPct ++
    e2 r.ventS ++ e1 r.soilPct

/-- The door bits of a DOOR notice (R187); none is sent as absent. -/
def DoorBits.octets : Option DoorBits → List Octet
  | some b => eFlags [b.latch, b.fan, b.home]
  | none => e1 0xFF

/-- The fields of a CYCLE_END notice (R187); after the outcome of a POWER_LOST report every field is absent. -/
def CycleRecord.octets (r : CycleRecord) : List Octet :=
  e4 r.number ++ eOpt1 r.recipe ++ eOpt1 (r.outcome.map CycleOutcome.code) ++
    (if r.outcome = some .powerLost then
      eOpt2 none ++ eOptTemp none ++ eOpt4 none ++ eOptTemp none ++ eOptTemp none ++ eOpt4 none ++ eOpt4 none ++
        eOpt4 none ++ eOpt1 none
    else
      e2 r.washS ++ eOptTemp r.lowTemp ++ e4 r.rinseMl ++ eOptTemp r.minTemp ++ eOptTemp r.maxTemp ++
        e4 r.dosing.doseUl ++ e4 r.dosing.detSteps ++ e4 r.dosing.raSteps ++
        eFlags [r.lowRinse, r.ventCut, r.dosing.hardWater, r.dosing.doseShort, r.doorBlocked])

/-- The KIND of a notice (R187). -/
def Notice.kind : Notice → Octet
  | .cyclePhase .. => 0x81#8
  | .cycleEnd .. => 0x82#8
  | .fault .. => 0x83#8
  | .door .. => 0x84#8
  | .softener .. => 0x85#8
  | .stock .. => 0x86#8
  | .module .. => 0x87#8
  | .started .. => 0x88#8
  | .standby .. => 0x89#8

/-- The fields of a notice after its flags octet (R187). -/
def Notice.fields : Notice → List Octet
  | .cyclePhase number recipe phase holdDoor holdLevel =>
    e4 number ++ eOpt1 recipe ++ e1 phase.code ++ eFlags [holdDoor, holdLevel]
  | .cycleEnd record => record.octets
  | .fault event code detail cls count firstCycle =>
    e1 event.code ++ e1 code.code ++ e1 detail ++ e1 cls.code ++ e1 count ++ e4 firstCycle
  | .door state bits lastReached latch fan retract moved =>
    e1 state.code ++ DoorBits.octets bits ++ e1 lastReached ++ eFlags [latch, fan, retract] ++
      (match moved with
      | some (reason, reached) => [reason] ++ e1 reached
      | none => eOpt1 none ++ eOpt1 none)
  | .softener event column state => e1 event.code ++ e1 column.code ++ e1 state.code
  | .stock channel ul low empty => e1 (channelCode channel) ++ e4 ul ++ eFlags [low, empty]
  | .module address kind link reported =>
    e1 address.val ++ e1 kind.code ++ e1 link.code ++ eOpt1 (reported.map BitVec.toNat)
  | .started kind settingsLoad countersLoad imageTag =>
    e1 kind.code ++ e1 settingsLoad.code ++ e1 countersLoad.code ++ e2 imageTag.toNat
  | .standby power cause => e1 power.code ++ e1 cause.code

/-- A whole Panel Link frame (R181). -/
def panelFrame (kind tag : Octet) (body : List Octet) : List Octet :=
  let covered := BitVec.ofNat 8 (body.length + 2) :: kind :: tag :: body
  0xC3#8 :: covered ++ e2 (crc16 covered)

/-- The frame of a notice with its GAP flag (R185, R187). -/
def Notice.frame (gap : Bool) (n : Notice) : List Octet := panelFrame n.kind 0#8 (eBool gap ++ n.fields)

/-- The frame of a reply (R183). -/
def Reply.frame (r : Reply) : List Octet := panelFrame (r.kind + 0x40#8) r.tag (e1 r.status.code ++ r.fields)

/-- The frame of a BUSY reply (R183). -/
def busyFrame (kind tag : Octet) : List Octet := panelFrame (kind + 0x40#8) tag (e1 Status.busy.code)

end Sys2Proof.Machine
end

