-- ==== Sys2Proof/Machine/Ops.lean ====
section
/-! DEFINITION. The named operations every block shares: reading settings, module entries and derived values; placing
notices and replies; the writes of the store; the fault list; the reports to the cycle record. -/

namespace Sys2Proof.Machine

open Sys2Proof

namespace State

/-! ### Updates of one block -/

/-- Change PLK. -/
def onPlk (s : State) (f : Plk → Plk) : State := { s with plk := f s.plk }
/-- Change WHU. -/
def onWhu (s : State) (f : Whu → Whu) : State := { s with whu := f s.whu }
/-- Change CSQ. -/
def onCsq (s : State) (f : Csq → Csq) : State := { s with csq := f s.csq }
/-- Change LBA. -/
def onLba (s : State) (f : Lba → Lba) : State := { s with lba := f s.lba }
/-- Change SFC. -/
def onSfc (s : State) (f : Sfc → Sfc) : State := { s with sfc := f s.sfc }
/-- Change DSC. -/
def onDsc (s : State) (f : Dsc → Dsc) : State := { s with dsc := f s.dsc }
/-- Change DVC. -/
def onDvc (s : State) (f : Dvc → Dvc) : State := { s with dvc := f s.dvc }
/-- Change MBI. -/
def onMbi (s : State) (f : Mbi → Mbi) : State := { s with mbi := f s.mbi }
/-- Change MSU. -/
def onMsu (s : State) (f : Msu → Msu) : State := { s with msu := f s.msu }
/-- Change FLU. -/
def onFlu (s : State) (f : Flu → Flu) : State := { s with flu := f s.flu }
/-- Change STO. -/
def onSto (s : State) (f : Sto → Sto) : State := { s with sto := f s.sto }

/-- The part runs: the supply is up and the oscillator has settled (R192). -/
def on (s : State) : Bool :=
  match s.sto.power with
  | .running | .standbyPending | .standby => true
  | .off | .oscillator _ => false

/-- The effect of a command on a part that runs; a part without supply, or waiting for its oscillator, takes none. -/
def whenOn (s : State) (f : State → State) : State := if s.on then f s else s

end State

/-! ### Settings (chapter 12) -/

/-- Places of the settings in working memory; setting number n stands at n − 1. -/
abbrev SettingIx := Fin 40

namespace SettingIx
/-- Setting 1. -/
def flowQuiet : SettingIx := 0
/-- Setting 2. -/
def fillLimit : SettingIx := 1
/-- Setting 3. -/
def tankHold : SettingIx := 2
/-- Setting 4. -/
def boosterHold : SettingIx := 3
/-- Setting 5. -/
def holdLimit : SettingIx := 4
/-- Setting 6. -/
def rinseHold : SettingIx := 5
/-- Setting 7. -/
def requireDoor : SettingIx := 6
/-- Setting 8. -/
def mainsBudget : SettingIx := 7
/-- Setting 9. -/
def drainPumpW : SettingIx := 8
/-- Setting 10. -/
def washPumpW : SettingIx := 9
/-- Setting 11. -/
def rinsePumpW : SettingIx := 10
/-- Setting 12. -/
def boosterAW : SettingIx := 11
/-- Setting 13. -/
def boosterBW : SettingIx := 12
/-- Setting 14. -/
def tankHeaterW : SettingIx := 13
/-- Setting 15. -/
def starve : SettingIx := 14
/-- Setting 16. -/
def inletHardness : SettingIx := 15
/-- Setting 17. -/
def kFactor : SettingIx := 16
/-- Setting 18. -/
def columnCapacity : SettingIx := 17
/-- Setting 19. -/
def brineS : SettingIx := 18
/-- Setting 20. -/
def slowRinseS : SettingIx := 19
/-- Setting 21. -/
def fastRinseS : SettingIx := 20
/-- Setting 22. -/
def saltLowCredit : SettingIx := 21
/-- Setting 23. -/
def detRate : SettingIx := 22
/-- Setting 24. -/
def hardnessGain : SettingIx := 23
/-- Setting 25. -/
def doseMax : SettingIx := 24
/-- Setting 26. -/
def raRate : SettingIx := 25
/-- Setting 27. -/
def drainRate : SettingIx := 26
/-- Setting 28. -/
def containerDet : SettingIx := 27
/-- Setting 29. -/
def containerRa : SettingIx := 28
/-- Setting 30. -/
def stockLow : SettingIx := 29
/-- Setting 31. -/
def ventEnd : SettingIx := 30
/-- Setting 40. -/
def imageTag : SettingIx := 39
end SettingIx

/-- The setting that holds the expected kind of an address: 32 to 39 (R160). -/
def kindIx (a : Addr) : SettingIx := ⟨31 + a.val, by omega⟩

/-- The range of setting n, at its place n − 1 (chapter 12). -/
def settingRange : Vector (Int × Int) 40 :=
  #v[(500, 10000), (60, 1800), (500, 700), (750, 900), (60, 1800), (10, 600), (0, 1), (2000, 11000), (20, 500), (100, 2500),
     (50, 1500), (500, 6000), (0, 6000), (500, 6000), (30, 1800), (0, 1000), (100, 2000), (200, 20000), (60, 3600), (60, 3600),
     (30, 900), (10, 100), (0, 5000), (0, 50), (1000, 60000), (0, 1000), (50, 1000), (500, 25000), (500, 25000), (5, 50),
     (300, 800), (0, 4), (0, 4), (0, 4), (0, 4), (0, 4), (0, 4), (0, 4), (0, 4), (0, 65535)]

/-- A value brought into the range of a setting (R189), a w_booster_b of 1 to 499 raised to 500 (R56). -/
def clampSetting (i : SettingIx) (v : Int) : Int :=
  let c := max (settingRange.get i).1 (min (settingRange.get i).2 v)
  if i = SettingIx.boosterBW ∧ 1 ≤ c ∧ c ≤ 499 then 500 else c

namespace State

/-- The working value of a setting. -/
def val (s : State) (i : SettingIx) : Int := s.settings.get i

/-- The working value of a setting that counts something. -/
def num (s : State) (i : SettingIx) : Nat := (s.val i).toNat

/-- The K-factor in pulses per litre. -/
def k (s : State) : Nat := s.num SettingIx.kFactor

end State

/-! ### Modules (R160, R165) -/

/-- The addresses in rising order. -/
def allAddrs : List Addr := [0, 1, 2, 3, 4, 5, 6, 7]

namespace State

/-- The expected kind of an address (R160). -/
def kindAt (s : State) (a : Addr) : Kind := Kind.ofCode (s.num (kindIx a))

/-- The module table entry of an address. -/
def entry (s : State) (a : Addr) : Entry := s.msu.entries.get a

/-- Change one module table entry. -/
def onEntry (s : State) (a : Addr) (f : Entry → Entry) : State :=
  s.onMsu fun m => { m with entries := m.entries.set a.val (f (m.entries.get a)) a.isLt }

/-- The lowest address whose expected kind is the one given: the module of that kind (R63, R100, R122). -/
def moduleOf (s : State) (kind : Kind) : Option Addr := allAddrs.find? fun a => s.kindAt a = kind

/-- An address is LINKED. -/
def linkedAt (s : State) (a : Addr) : Bool := (s.entry a).link = .linked

/-- The module of a kind is LINKED; with no address expecting the kind it is not (R63, R100, R122). -/
def linked (s : State) (kind : Kind) : Bool :=
  match s.moduleOf kind with
  | some a => s.linkedAt a
  | none => false

/-- The figures in force for a kind: those of its module's entry, or the default record (R46, R94, R165). -/
def caps (s : State) (kind : Kind) : CapFields :=
  match s.moduleOf kind with
  | some a => (s.entry a).caps.fields
  | none => (defaultCaps kind).fields

/-- The bay record of an address. -/
def bay (s : State) (a : Addr) : Bay := s.mbi.bays.get a

/-- Change one bay record. -/
def onBay (s : State) (a : Addr) (f : Bay → Bay) : State :=
  s.onMbi fun m => { m with bays := m.bays.set a.val (f (m.bays.get a)) a.isLt }

/-- The accepted indication of the module of a kind as its owner holds it: present only while the module is LINKED
(R146). -/
def indication (s : State) (kind : Kind) : Option Octet :=
  match s.moduleOf kind with
  | some a => if s.linkedAt a then (s.bay a).accepted else none
  | none => none

end State

/-- The kind of a dosing channel (R100). -/
def channelKind : Channel → Kind
  | .det => .doseDet
  | .ra => .doseRa

namespace CapFields

/-- travel_ds of a door record. -/
def travelDs : CapFields → Nat
  | .door t _ _ _ => t
  | _ => 40
/-- drive_w of a door record. -/
def driveW : CapFields → Nat
  | .door _ d _ _ => d
  | _ => 60
/-- fan_w of a door record. -/
def fanW : CapFields → Nat
  | .door _ _ f _ => f
  | _ => 40
/-- max_pct of a door record. -/
def maxPct : CapFields → Nat
  | .door _ _ _ p => p
  | _ => 100
/-- move_ds of a softener record. -/
def moveDs : CapFields → Nat
  | .softener m _ => m
  | _ => 80
/-- motor_w of a softener record. -/
def motorW : CapFields → Nat
  | .softener _ w => w
  | _ => 20
/-- ul_per_step of a channel record. -/
def ulPerStep : CapFields → Nat
  | .doser u _ _ => u
  | _ => 100
/-- pump_w of a channel record. -/
def pumpW : CapFields → Nat
  | .doser _ w _ => w
  | _ => 15
/-- max_steps_per_s of a channel record. -/
def maxSteps : CapFields → Nat
  | .doser _ _ n => n
  | _ => 20

end CapFields

namespace State

/-- ul_per_step of a channel (R94). -/
def ulPerStep (s : State) (c : Channel) : Nat := (s.caps (channelKind c)).ulPerStep

/-- container_ul of a channel (R101). -/
def containerUl (s : State) : Channel → Nat
  | .det => s.num SettingIx.containerDet * 1000
  | .ra => s.num SettingIx.containerRa * 1000

end State

/-! ### Indication fields (R145) -/

/-- The field in bits 7..4 of an octet. -/
def highField (o : Octet) : Nat := o.toNat / 16

/-- The address field in bits 7..5 of an octet. -/
def addrField (o : Octet) : Addr := ⟨o.toNat / 32, by have := o.isLt; omega⟩

/-- The door state of a door indication (R123). -/
def doorStateOf (o : Octet) : DoorState :=
  match highField o with
  | 0 => .closed
  | 1 => .closedLatched
  | 2 => .ajar
  | 3 => .opened
  | 4 => .pushing
  | _ => .blocked

/-- The bits of a door indication (R145). -/
def doorBitsOf (o : Octet) : DoorBits := { latch := o.getLsbD 0, fan := o.getLsbD 1, home := o.getLsbD 2 }

/-- The valve field of a softener indication (R145). -/
inductive Valve where
  | serves (c : Column)
  | moving
  | fault
  deriving DecidableEq, Repr

/-- The valve field of an octet; values 4 to 15 are VALVE_FAULT (R145). -/
def valveOf (o : Octet) : Valve :=
  match highField o with
  | 0 => .serves .a
  | 1 => .serves .b
  | 2 => .moving
  | _ => .fault

/-- Hardness HARD: the field value 2, or 3 which is taken as HARD (R68). -/
def isHard (o : Octet) : Bool := o.getLsbD 1

/-- Hardness MARGINAL. -/
def isMarginal (o : Octet) : Bool := !o.getLsbD 1 && o.getLsbD 0

/-- Hardness SOFT. -/
def isSoft (o : Octet) : Bool := !o.getLsbD 1 && !o.getLsbD 0

/-- SALT_LOW. -/
def isSaltLow (o : Octet) : Bool := o.getLsbD 2

/-- BRINE_FLOW. -/
def isBrineFlow (o : Octet) : Bool := o.getLsbD 3

/-- The pump field of a channel indication, 4 to 15 taken as STALLED (R145). -/
def pumpField (o : Octet) : Nat := min 3 (highField o)

/-! ### Loads and claims (R46) -/

/-- Every load, in the order of the load numbers. -/
def allLoads : List Load :=
  [.drainPump, .washPump, .rinsePump, .doorDrive, .ventFan, .valveMotor, .doserDet, .doserRa, .boosterA, .boosterB,
   .tankHeater]

namespace Load

/-- The place of a load in the claim table; its load number is one more. -/
def ix : Load → Fin 11
  | .drainPump => 0
  | .washPump => 1
  | .rinsePump => 2
  | .doorDrive => 3
  | .ventFan => 4
  | .valveMotor => 5
  | .doserDet => 6
  | .doserRa => 7
  | .boosterA => 8
  | .boosterB => 9
  | .tankHeater => 10

/-- The load number. -/
def number (l : Load) : Nat := l.ix.val + 1

/-- The class of a load: 0 SAFETY, 1 PROCESS, 2 RINSE_HEAT, 3 TANK_HEAT. -/
def cls : Load → Nat
  | .drainPump => 0
  | .washPump | .rinsePump | .doorDrive | .ventFan | .valveMotor | .doserDet | .doserRa => 1
  | .boosterA | .boosterB => 2
  | .tankHeater => 3

/-- A heater load. -/
def heater (l : Load) : Bool := decide (2 ≤ l.cls)

end Load

/-- The motor load of a dosing channel (R100). -/
def channelLoad : Channel → Load
  | .det => .doserDet
  | .ra => .doserRa

namespace State

/-- The current wattage of a load (R46). -/
def watts (s : State) : Load → Nat
  | .drainPump => s.num SettingIx.drainPumpW
  | .washPump => s.num SettingIx.washPumpW
  | .rinsePump => s.num SettingIx.rinsePumpW
  | .doorDrive => (s.caps .door).driveW
  | .ventFan => (s.caps .door).fanW
  | .valveMotor => (s.caps .softener).motorW
  | .doserDet => (s.caps .doseDet).pumpW
  | .doserRa => (s.caps .doseRa).pumpW
  | .boosterA => s.num SettingIx.boosterAW
  | .boosterB => s.num SettingIx.boosterBW
  | .tankHeater => s.num SettingIx.tankHeaterW

/-- The claim record of a load. -/
def claimOf (s : State) (l : Load) : Claim := s.lba.claims.get l.ix

/-- Change the claim record of a load. -/
def onClaim (s : State) (l : Load) (f : Claim → Claim) : State :=
  s.onLba fun b => { b with claims := b.claims.set l.ix.val (f (b.claims.get l.ix)) l.ix.isLt }

/-- The claim of a load is GRANTED. -/
def granted (s : State) (l : Load) : Bool := (s.claimOf l).state = .granted

/-- The claim of a load is WAITING. -/
def waits (s : State) (l : Load) : Bool := (s.claimOf l).state = .waiting

/-! ### Faults and their level (R178) -/

/-- The record of a key, if it is in the list. -/
def faultRec (s : State) (code : FaultCode) (detail : Nat) : Option FaultRec :=
  s.flu.list.find? fun r => r.code = code ∧ r.detail = detail

/-- A key is in the fault list. -/
def hasFault (s : State) (code : FaultCode) (detail : Nat) : Bool := (s.faultRec code detail).isSome

/-- Some record of the class is in the list. -/
def hasClass (s : State) (c : FaultClass) : Bool := s.flu.list.any fun r => r.cls = c

/-- The fault level (R178). -/
def level (s : State) : FaultLevel :=
  if s.hasClass .lockout then .lockout
  else if s.hasClass .stop then .stop
  else if s.hasClass .warning then .warning
  else .none

/-- The level is LOCKOUT. -/
def locked (s : State) : Bool := s.hasClass .lockout

/-! ### Values computed from others -/

/-- The inlet is obtainable (R1): no owner, no changeover pending or valve motion commanded, no LOCKOUT. -/
def obtainable (s : State) : Bool :=
  s.whu.owner.isNone &&
    (match s.sfc.changeover with
    | .none | .due => true
    | .pending | .claimed | .moving | .returning | .aligning => false) && !s.locked

/-- A column record. -/
def column (s : State) : Column → ColumnRec
  | .a => s.sfc.colA
  | .b => s.sfc.colB

/-- Change a column record. -/
def onColumn (s : State) (c : Column) (f : ColumnRec → ColumnRec) : State :=
  match c with
  | .a => s.onSfc fun x => { x with colA := f x.colA }
  | .b => s.onSfc fun x => { x with colB := f x.colB }

end State

/-- The other column. -/
def Column.other : Column → Column
  | .a => .b
  | .b => .a

/-- A column state is one of the three REGEN states (R64). -/
def ColumnState.regen : ColumnState → Bool
  | .regenBrine | .regenSlow | .regenFast => true
  | .service | .ready | .exhausted => false

namespace State

/-- The column that regenerates, if one does. -/
def regenColumn (s : State) : Option Column :=
  if s.sfc.colA.state.regen then some .a else if s.sfc.colB.state.regen then some .b else none

/-- The paused flag (R76): it is set exactly while one of the four causes holds. -/
def regenPaused (s : State) : Bool :=
  s.whu.owner.isSome || !s.linked .softener || s.locked ||
    (match s.sfc.changeover with
    | .moving | .returning | .aligning => true
    | .none | .due | .pending | .claimed => false)

/-- The residual hardness (R68), by the first row that applies. -/
def residual (s : State) : Nat :=
  let h := s.num SettingIx.inletHardness
  if (s.column s.sfc.serviceCol).capacity = 0 then h
  else
    match s.indication .softener with
    | none => h
    | some o => if isHard o then h else if isMarginal o then h / 2 else 0

/-- Softener busy (R82). -/
def softenerBusy (s : State) : Bool :=
  s.regenColumn.isSome ||
    (match s.sfc.changeover with
    | .none | .due => false
    | .pending | .claimed | .moving | .returning | .aligning => true)

/-- The wash pump output (R29). -/
def washPumpOn (s : State) : Bool := s.on && decide (s.csq.phase = .wash) && s.granted .washPump

/-- The inlet valve is energised (R2, R3). -/
def valveOpen (s : State) : Bool := s.on && decide (s.whu.phase = .opened)

/-- The rinse pump output (R35): from the opening of the valve for RINSE to the release. -/
def rinsePumpOn (s : State) : Bool :=
  s.valveOpen && decide (s.csq.phase = .rinse) && decide (s.whu.owner = some .rinse) && s.granted .rinsePump

/-- The drain pump output (R20). -/
def drainPumpOn (s : State) : Bool := s.on && s.whu.drainUser.isSome && s.granted .drainPump

/-- The accepted code is PARTIAL or FULL (R15). -/
def tankWet (s : State) : Bool := s.whu.accepted = some .partly || s.whu.accepted = some .full

/-- The tank heater output (R15). -/
def tankHeaterOn (s : State) : Bool := s.on && s.granted .tankHeater && s.tankWet

/-- The last sample of the FULL switch read closed (R15, R17). -/
def boosterClosed (s : State) : Bool := s.whu.boosterFull = some true

/-- The booster stage A output (R15). -/
def boosterAOn (s : State) : Bool := s.on && s.granted .boosterA && s.boosterClosed

/-- The booster stage B output (R15). -/
def boosterBOn (s : State) : Bool := s.on && s.granted .boosterB && s.boosterClosed

/-- ATTN (R184). -/
def attn (s : State) : Bool := s.on && !s.plk.notices.isEmpty

/-- WAKE (R194). -/
def wakeLine (s : State) : Bool := s.on && s.sto.wakePulseLeft.isSome

/-- The tank setpoint (R9). -/
def tankSetpoint (s : State) : Int :=
  match s.csq.active with
  | some e => e.copy.tankC
  | none => s.val SettingIx.tankHold

/-- The booster setpoint (R17). -/
def boosterSetpoint (s : State) : Int :=
  match s.csq.active with
  | some e => e.copy.rinseC
  | none => s.val SettingIx.boosterHold

/-- The tank reading that may be used: none while the sensor is failed or SENSOR_TANK is present (R9, R16, R18). DESIGN
CHOICE (log entry 58): a record of SENSOR_TANK in the list counts as present, so an escalated one, left after a valid reading
until it is acknowledged, keeps the reading from use. -/
def tankReading (s : State) : Option Int :=
  if s.whu.tankSensor.failed || s.hasFault .sensorTank 0 then none else s.whu.tankSensor.last

/-- The booster reading that may be used (R17, R18; log entry 58 as for the tank). -/
def boosterReading (s : State) : Option Int :=
  if s.whu.boosterSensor.failed || s.hasFault .sensorBooster 0 then none else s.whu.boosterSensor.last

/-- A dosing channel record. -/
def channel (s : State) : Channel → ChannelRec
  | .det => s.dsc.det
  | .ra => s.dsc.ra

/-- Change a dosing channel record. -/
def onChannel (s : State) (c : Channel) (f : ChannelRec → ChannelRec) : State :=
  match c with
  | .det => s.onDsc fun d => { d with det := f d.det }
  | .ra => s.onDsc fun d => { d with ra := f d.ra }

/-- Change the vent record. -/
def onVent (s : State) (f : Vent → Vent) : State := s.onDvc fun d => { d with vent := f d.vent }

/-! ### Panel Link: replies and notices (R184, R185) -/

/-- A reset that is due comes before any further frame (R184, R192). DESIGN CHOICE (log entry 114). -/
def resetDue (s : State) : Bool :=
  match s.sto.resetReq with
  | .due _ => true
  | .none | .asked _ => false

/-- The idle transmitter takes the frame that R184 chooses; a notice carries the gap mark and clears it (R185). -/
def chooseTx (s : State) : State :=
  match s.plk.tx, s.plk.reply, s.plk.busy, s.plk.notices with
  | some _, _, _, _ => s
  | none, some r, _, _ => s.onPlk fun p => { p with tx := some { source := .reply, octets := r.frame } }
  | none, none, some b, _ => s.onPlk fun p => { p with tx := some { source := .busy, octets := busyFrame b.1 b.2 } }
  | none, none, none, n :: _ =>
    s.onPlk fun p => { p with tx := some { source := .notice, octets := n.frame p.gap }, gap := false }
  | none, none, none, [] => s

/-- At the end of an event the transmitter, if idle, starts its next frame (R184, log entry 16). DESIGN CHOICE (log
entry 114): none while a reset is due. -/
def kickTx (s : State) : State := if s.resetDue then s else s.chooseTx

/-- A block places a notice (R185). -/
def place (s : State) (n : Notice) : State :=
  if s.plk.notices.length < Config.noticeLimit then
    s.onPlk fun p => { p with notices := p.notices ++ [n] }
  else s.onPlk fun p => { p with gap := true, dropped := satAdd 255 p.dropped 1 }

/-- A reply is placed in the reply slot (R183). -/
def reply (s : State) (kind tag : Octet) (status : Status) (fields : List Octet) : State :=
  s.onPlk fun p => { p with reply := some { kind := kind, tag := tag, status := status, fields := fields } }

/-- One more link error (R182). -/
def linkError (s : State) : State := s.onPlk fun p => { p with linkErrors := satAdd 65535 p.linkErrors 1 }

/-! ### The store (R190) -/

/-- The pinned record of an address (R166). -/
def pin (s : State) (a : Addr) : Option CapRecord := if (s.entry a).pinned then some (s.entry a).caps else none

/-- The settings image of working memory. -/
def settingsImage (s : State) : SettingsImage :=
  { settings := s.settings, recipes := s.csq.recipes,
    pins := #v[s.pin 0, s.pin 1, s.pin 2, s.pin 3, s.pin 4, s.pin 5, s.pin 6, s.pin 7] }

/-- The counters image of working memory. -/
def countersImage (s : State) : CountersImage :=
  { colA := s.sfc.colA, colB := s.sfc.colB, serviceCol := s.sfc.serviceCol, acc := s.sfc.acc,
    det := { stock := s.dsc.det.stock, carry := s.dsc.det.carry, empty := s.dsc.det.empty },
    ra := { stock := s.dsc.ra.stock, carry := s.dsc.ra.carry, empty := s.dsc.ra.empty },
    raAcc := s.dsc.acc, counter := s.csq.counter, cycleOpen := s.csq.cycleOpen }

end State

/-- Which copy holds the newest sequence number among those that pass their check: `some true` for the second. Of two
numbers the later is the one that follows the other; if neither does, the first copy is taken (R192). -/
def newestCopy {α : Type} (c1 c2 : Option (StoreCopy α)) : Option Bool :=
  match c1, c2 with
  | some a, some b =>
    if a.good && b.good then some (b.seq == (a.seq + 1) % 65536)
    else if a.good then some false
    else if b.good then some true
    else none
  | some a, none => if a.good then some false else none
  | none, some b => if b.good then some true else none
  | none, none => none

/-- The copy a write goes to and the number it gives it (R190); a store without a good copy is written from the first
copy, with number 0 (log entry 6). -/
def writeTarget {α : Type} (c1 c2 : Option (StoreCopy α)) : Bool × Nat :=
  match newestCopy c1 c2, c1, c2 with
  | some false, some a, _ => (true, (a.seq + 1) % 65536)
  | some true, _, some b => (false, (b.seq + 1) % 65536)
  | _, _, _ => (false, 0)

namespace State

/-- A write of an image starts: the mark is cleared, the copy takes the values as they stand and does not pass its check
until the write ends; a SAVE that waits for a settings write is served by it (R190). DESIGN CHOICE (log entry 91): the copy
bears its new sequence number from the start of the write on, so a copy left by an abandoned one is named as the later at the
next load. DESIGN CHOICE (log entry 95): every write lasts the longest time that the rule allows. -/
def startWrite (s : State) (image : ImageId) : State :=
  match image with
  | .settings =>
    let t := writeTarget s.sto.nvm.set1 s.sto.nvm.set2
    let c := some { seq := t.2, good := false, image := s.settingsImage }
    s.onSto fun x =>
      { x with
        nvm := if t.1 then { x.nvm with set2 := c } else { x.nvm with set1 := c },
        write := .writing .settings t.1 Config.storeWriteMs, settingsMark := false,
        saveRuns := x.saveWaits, saveWaits := false }
  | .counters =>
    let t := writeTarget s.sto.nvm.cnt1 s.sto.nvm.cnt2
    let c := some { seq := t.2, good := false, image := s.countersImage }
    s.onSto fun x =>
      { x with
        nvm := if t.1 then { x.nvm with cnt2 := c } else { x.nvm with cnt1 := c },
        write := .writing .counters t.1 Config.storeWriteMs, countersMark := false }

/-- With the write state IDLE, PFW released and no FULL reset waiting, a marked image is written, the counters first
(R190, R191, R192). -/
def kickStore (s : State) : State :=
  if s.sto.pfw then s
  else if s.sto.resetReq = .due .full then s
  else
    match s.sto.write with
    | .writing _ _ _ => s
    | .idle =>
      if s.sto.countersMark then s.startWrite .counters
      else if s.sto.settingsMark then s.startWrite .settings
      else s

/-- A block has the persistent counters saved (R190). -/
def saveCounters (s : State) : State := (s.onSto fun x => { x with countersMark := true }).kickStore

/-- A copy that a write leaves passing its check. -/
def sealCopy {α : Type} (c : Option (StoreCopy α)) : Option (StoreCopy α) := c.map fun x => { x with good := true }

/-- The write in progress ends: its copy passes its check and the write state is IDLE. A SAVE is DONE with the settings write
that serves it, since the counters are written before the settings when both marks stand (R190; log entry 49). -/
def endWrite (s : State) : State :=
  match s.sto.write with
  | .idle => s
  | .writing .settings second _ =>
    s.onSto fun x =>
      { x with
        nvm := if second then { x.nvm with set2 := sealCopy x.nvm.set2 } else { x.nvm with set1 := sealCopy x.nvm.set1 },
        write := .idle, saveRuns := false, lastSave := if x.saveRuns then .done else x.lastSave }
  | .writing .counters second _ =>
    s.onSto fun x =>
      { x with
        nvm := if second then { x.nvm with cnt2 := sealCopy x.nvm.cnt2 } else { x.nvm with cnt1 := sealCopy x.nvm.cnt1 },
        write := .idle }

/-! ### Wake (R194) -/

/-- The wake mask enables a cause (R193). -/
def wakes (s : State) : StandbyCause → Bool
  | .octet => s.sto.wakeMask.getLsbD 0
  | .door => s.sto.wakeMask.getLsbD 1
  | .fault => s.sto.wakeMask.getLsbD 2
  | .sleep | .request => false

/-- A wake cause is taken: in STANDBY with no settle in progress it starts the 2 ms settle, and pulses WAKE for 10 ms if
its bit is set (R194). -/
def wake (s : State) (cause : StandbyCause) : State :=
  if s.sto.power = .standby ∧ s.sto.settle = none then
    s.onSto fun x =>
      { x with settle := some (cause, 2), wakePulseLeft := if s.wakes cause then some 10 else x.wakePulseLeft }
  else s

/-- The power state changes, with its notice (R193). -/
def setPower (s : State) (p : Power) (cause : StandbyCause) : State :=
  (s.onSto fun x => { x with power := p }).place (.standby p cause)

/-- An accepted RUN, PREPARE or DRAIN ends STANDBY_PENDING (R25, R193). -/
def endPendingStandby (s : State) : State :=
  if s.sto.power = .standbyPending then s.setPower .running .request else s

end State

/-! ### The fault list (R173 to R177) -/

/-- The clear mode of the fault table is ACK (10.1). -/
def FaultCode.tableAck : FaultCode → Bool
  | .tankFillTimeout | .inletNoFlow | .boosterOvertemp | .tankOvertemp | .boosterDry | .regenNoBrine | .valveStuck
  | .doserStall | .doorLatchFail | .doorForced | .doorObstructed | .moduleLost | .moduleMismatch | .settingsLost => true
  | .tankLevelImplausible | .sensorTank | .sensorBooster | .sensorVapour | .rinseLowTemp | .softenerExhausted | .saltLow
  | .detEmpty | .raEmpty | .doorBlocked | .moduleFault | .busStuck | .budgetUnfit => false

/-- The more severe of two classes. -/
def FaultClass.worse : FaultClass → FaultClass → FaultClass
  | .lockout, _ => .lockout
  | _, .lockout => .lockout
  | .stop, _ => .stop
  | _, .stop => .stop
  | .warning, .warning => .warning

/-- A record has this key. -/
def FaultRec.keyed (r : FaultRec) (code : FaultCode) (detail : Nat) : Bool := r.code = code ∧ r.detail = detail

/-- The steps from an older to a newer value of the cycle counter, counted forward along its sequence, which passes from
4294967295 to 1 (R177). -/
def cycleSpan (older newer : Nat) : Nat :=
  if older ≤ newer then newer - older else newer + 4294967295 - older

/-- The history with one more raise of a key (R177). DESIGN CHOICE (log entry 77): a row that an escalation has emptied is in use
still, and counts among the 16. -/
def pushHistory (rows : List HistoryRow) (code : FaultCode) (detail cycle : Nat) : List HistoryRow :=
  let mine := rows.find? fun r => r.code = code ∧ r.detail = detail
  let rest := rows.filter fun r => !(r.code = code ∧ r.detail = detail)
  let cycles := ((mine.map HistoryRow.cycles).getD []) ++ [cycle]
  let row := { code := code, detail := detail, cycles := if 3 < cycles.length then cycles.drop (cycles.length - 3) else cycles }
  if mine = none ∧ Config.historyLimit ≤ rest.length then rest.drop 1 ++ [row] else rest ++ [row]

/-- The row of a key holds three values whose newest exceeds the oldest by 9 or less (R177). -/
def escalates (rows : List HistoryRow) (code : FaultCode) (detail : Nat) : Bool :=
  match rows.find? fun r => r.code = code ∧ r.detail = detail with
  | some r =>
    (match r.cycles with
    | [a, _, c] => decide (cycleSpan a c ≤ 9)
    | _ => false)
  | none => false

namespace State

/-- Change the record of a key. -/
def onFault (s : State) (code : FaultCode) (detail : Nat) (f : FaultRec → FaultRec) : State :=
  s.onFlu fun u => { u with list := u.list.map fun r => if r.keyed code detail then f r else r }

/-- A FAULT notice about a record. -/
def faultNotice (s : State) (event : FaultEvent) (r : FaultRec) : State :=
  s.place (.fault event r.code r.detail r.cls r.count r.firstCycle)

/-- The FAULT notice about the record of a key. -/
def noteFault (s : State) (event : FaultEvent) (code : FaultCode) (detail : Nat) : State :=
  match s.faultRec code detail with
  | some r => s.faultNotice event r
  | none => s

/-- A record leaves the list, with its notice (R175). -/
def removeFault (s : State) (code : FaultCode) (detail : Nat) : State :=
  match s.faultRec code detail with
  | some r =>
    (s.onFlu fun u => { u with list := u.list.filter fun x => !x.keyed code detail }).faultNotice .removed r
  | none => s

/-- A new record at the tail, with its notice (R173). -/
def createFault (s : State) (code : FaultCode) (detail : Nat) (cls : FaultClass) : State :=
  let r :=
    { code := code, detail := detail, cls := cls, ack := code.tableAck || decide (cls = .lockout), present := true,
      count := 1, firstCycle := s.csq.counter, escalated := false }
  (s.onFlu fun u => { u with list := u.list ++ [r] }).faultNotice .created r

/-- The record a new key may displace in a full list (R174). -/
def displaceable (s : State) (cls : FaultClass) : Option FaultRec :=
  match s.flu.list.find? fun r => r.cls = .warning ∧ r.present = false with
  | some r => some r
  | none => if cls = .warning then none else s.flu.list.find? fun r => r.cls = .warning

/-- The list takes a raise (R173, R174), or counts it as an overflow: the state, and whether it was taken. -/
def enterFault (s : State) (code : FaultCode) (detail : Nat) (cls : FaultClass) : State × Bool :=
  match s.faultRec code detail with
  | some r =>
    let c := r.cls.worse cls
    let s := s.onFault code detail fun r =>
      { r with count := satAdd 255 r.count 1, present := true, cls := c, ack := r.ack || decide (c = .lockout) }
    (if c = r.cls then s else s.noteFault .classChanged code detail, true)
  | none =>
    if s.flu.list.length < Config.faultLimit then (s.createFault code detail cls, true)
    else
      match s.displaceable cls with
      | some r => ((s.removeFault r.code r.detail).createFault code detail cls, true)
      | none => (s.onFlu fun u => { u with overflow := satAdd 255 u.overflow 1 }, false)

/-- The escalation test of a STOP raise, or of a raise of a STOP record (R177). DESIGN CHOICE (log entries 78, 79): a WARNING
raise of a STOP record is recorded, and a third STOP raise of a LOCKOUT record empties its row and changes no class. -/
def escalate (s : State) (code : FaultCode) (detail : Nat) (cls : FaultClass) : State :=
  match s.faultRec code detail with
  | none => s
  | some r =>
    if cls = .stop ∨ r.cls = .stop then
      let s := s.onFlu fun u => { u with history := pushHistory u.history code detail s.csq.counter }
      if escalates s.flu.history code detail then
        let s := s.onFlu fun u =>
          { u with
            history := u.history.map fun h => if h.code = code ∧ h.detail = detail then { h with cycles := [] } else h }
        if r.cls = .lockout then s
        else
          (s.onFault code detail fun r => { r with cls := .lockout, ack := true, escalated := true }).noteFault
            .classChanged code detail
      else s
    else s

/-- The list's part of a raise: the record, the escalation test, and the raise as a wake cause. Whether it was taken tells
whether it is handed on (R173). -/
def raiseList (s : State) (code : FaultCode) (detail : Nat) (cls : FaultClass) : State × Bool :=
  let (s, taken) := s.enterFault code detail cls
  if taken then ((s.escalate code detail cls).wake .fault, true) else (s, false)

/-- A raise of a code whose class is always WARNING: it restrains no job and does not act on a cycle (R39, R178), so the
list's part is the whole of it. -/
def warn (s : State) (code : FaultCode) (detail : Nat) : State := (s.raiseList code detail .warning).1

/-- The end of a condition is reported (R175). -/
def endCondition (s : State) (code : FaultCode) (detail : Nat) : State :=
  match s.faultRec code detail with
  | none => s
  | some r =>
    if r.ack then s.onFault code detail fun r => { r with present := false } else s.removeFault code detail

/-! ### Reports to the cycle record (R41, R103) -/

/-- A dosing report is counted for the ACTIVE entry: in the open record, or with the entry while ARMED. -/
def countDosing (s : State) (f : Dosing → Dosing) : State :=
  s.onCsq fun c =>
    match c.active, c.record with
    | none, _ => c
    | some _, some r => { c with record := some { r with dosing := f r.dosing } }
    | some e, none => { c with active := some { e with dosing := f e.dosing } }

/-- Steps placed are counted as ordered. -/
def countSteps (s : State) (c : Channel) (n : Nat) : State :=
  s.countDosing fun d =>
    match c with
    | .det => { d with detSteps := d.detSteps + n }
    | .ra => { d with raSteps := d.raSteps + n }

/-- Dropped steps set DOSE_SHORT. -/
def countDrop (s : State) (n : Nat) : State :=
  if n = 0 then s else s.countDosing fun d => { d with doseShort := true }

/-- A computed dose is counted. -/
def countDose (s : State) (ul : Nat) (hard : Bool) : State :=
  s.countDosing fun d => { d with doseUl := d.doseUl + ul, hardWater := d.hardWater || hard }

/-! ### Timers -/

end State

/-- A timer after `n` ms. -/
def runDown (n : Nat) (t : Option Nat) : Option Nat := t.map (· - n)

/-- An accumulated time after `n` ms, held at its limit once it reaches it. -/
def runUp (n limit c : Nat) : Nat := if c < limit then min (c + n) limit else c

end Sys2Proof.Machine
end

