-- ==== Sys2Proof/Machine/Queue.lean ====
section
/-! DEFINITION. The downstream message queue of MBI (R154) and the blocks that wait for room in it (R107, R127, R162). -/

namespace Sys2Proof.Machine

open Sys2Proof

/-- Mark the first message that satisfies `p` as being sent; `none` if there is none. -/
def markFirst (p : DownMsg → Bool) : List DownMsg → Option (List DownMsg)
  | [] => none
  | m :: ms => if p m then some ({ m with sending := true } :: ms) else (markFirst p ms).map (m :: ·)

namespace State

/-- A message may be chosen: its destination is LINKED, or it is a CAPS_QUERY (R154). -/
def eligible (s : State) (m : DownMsg) : Bool := s.linkedAt m.dest || decide (m.body = .capsQuery)

/-- An IDLE channel takes the oldest eligible message and enters PREPARE (R150, R154). -/
def choose (s : State) : State :=
  if s.mbi.down.phase = .idle then
    match markFirst s.eligible s.mbi.queue with
    | some q => s.onMbi fun m => { m with queue := q, down := { DownChan.reset with phase := .prepare } }
    | none => s
  else s

/-- A block enqueues a message; with the queue full it is refused and the queue unchanged (R154). -/
def enqueue (s : State) (dest : Addr) (body : DownBody) (source : Enqueuer) : State × Bool :=
  if s.mbi.queue.length < Config.queueLimit then
    ((s.onMbi fun m =>
      { m with queue := m.queue ++ [{ dest := dest, body := body, source := source, sending := false }] }).choose, true)
  else (s, false)

/-- The message an order travels as (R107). -/
def orderBody (o : Order) : DownBody :=
  match o.amount with
  | .steps n => .dose o.tag n
  | .seconds n => .prime o.tag n

/-- The watchdog length of an order in ms (R108). -/
def watchdogMs (o : Order) (maxSteps : Nat) : Nat :=
  match o.amount with
  | .steps n => (ceilDiv n maxSteps + 5) * 1000
  | .seconds n => (n + 5) * 1000

/-- DSC asks for the message of a started head to be enqueued while its module is LINKED; if the queue takes it, the order
is SENT and the watchdog length set (R107, R108). -/
def askOrder (s : State) (c : Channel) : State :=
  match (s.channel c).orders, s.moduleOf (channelKind c) with
  | o :: rest, some a =>
    if o.started = true ∧ o.state = .queued ∧ s.linked (channelKind c) = true then
      match s.enqueue a (orderBody o) (.dsc c) with
      | (s, true) =>
        s.onChannel c fun r =>
          { r with
            orders := { o with state := .sent } :: rest
            watchdogLeft := some (watchdogMs o (s.caps (channelKind c)).maxSteps) }
      | (s, false) => s
    else s
  | _, _ => s

/-- DVC asks for the MOVE of a PUSH whose claim is granted, while the door module is LINKED (R127). -/
def askMove (s : State) : State :=
  match s.dvc.task, s.moduleOf .door with
  | .push origin target .claimed, some a =>
    if s.granted .doorDrive = true ∧ s.linked .door = true then
      match s.enqueue a (.move target) .dvc with
      | (s, true) => s.onDvc fun d => { d with task := .push origin target .queued }
      | (s, false) => s
    else s
  | _, _ => s

/-- MSU enqueues the CAPS_QUERY of an entry, or keeps it wanted while the queue is full (R162, R166). -/
def askQuery (s : State) (a : Addr) : State :=
  match s.enqueue a .capsQuery .msu with
  | (s, true) => s.onEntry a fun e => { e with wantQuery := false }
  | (s, false) => s.onEntry a fun e => { e with wantQuery := true }

/-- MSU asks again for every query the full queue refused (R162). -/
def askQueries (s : State) : State :=
  allAddrs.foldl
    (fun s a => if (s.entry a).wantQuery = true ∧ (s.entry a).link ≠ .notExpected then s.askQuery a else s) s

/-- A dequeue (R154): the channel and the blocks that wait for room take it at the end of the event, in `askWaiting`. DESIGN
CHOICE (log entry 106): so a head that the same event unstarts (R117) does not take the place that its own loss frees. -/
def dequeued (s : State) : State := s.onMbi fun m => { m with departed := true }

/-- In an event with a dequeue the channel chooses, and the blocks that wait for room ask again (R154). DESIGN CHOICE (log
entry 86): DSC asks first, detergent before rinse aid, then DVC, then MSU by address. -/
def askWaiting (s : State) : State :=
  if s.mbi.departed then
    (((((s.onMbi fun m => { m with departed := false }).choose).askOrder .det).askOrder .ra).askMove).askQueries
  else s

/-- The message being sent leaves the queue and the channel becomes IDLE (R150, R151). -/
def dropSending (s : State) : State :=
  s.onMbi fun m => { m with queue := m.queue.filter (fun x => !x.sending), down := DownChan.reset }

/-- The message being sent, if any. -/
def sendingMsg (s : State) : Option DownMsg := s.mbi.queue.find? DownMsg.sending

/-- Messages removed at their enqueuer's request; one that is being sent ends with MSG at 0 from the next frame (R151,
R154). -/
def removeMsgs (s : State) (p : DownMsg → Bool) : State :=
  if s.mbi.queue.any p then
    let stopped := s.mbi.queue.any fun m => p m && m.sending
    (s.onMbi fun m =>
      { m with queue := m.queue.filter (fun x => !p x), down := if stopped then DownChan.reset else m.down }).dequeued
  else s

end State

end Sys2Proof.Machine
end

