-- ==== Sys2Proof/Machine/Budget.lean ====
section
/-! DEFINITION. The Load Budget Arbiter (03_mains_load_budget.md): claims and releases, settling, the grant walk,
revocation, unfit loads, changes of wattage and of the budget. -/

namespace Sys2Proof.Machine

open Sys2Proof

/-- The claim time `a` is older than `b` (R46). -/
def olderClaim (a b : BitVec 32) : Bool := a != b && decide ((b - a).toNat < 2147483648)

/-- The answer a claimant gets in the event of its claim (R47). -/
inductive ClaimAnswer where
  | taken
  | held
  | withheld
  | ignored
  | unfit
  deriving DecidableEq, Repr

/-- Put a load into a list by an order. -/
def insertBy (le : Load → Load → Bool) (l : Load) : List Load → List Load
  | [] => [l]
  | x :: xs => if le l x then l :: x :: xs else x :: insertBy le l xs

namespace State

/-! ### The budget law (R50) -/

/-- The sum of counted wattage of GRANTED claims. -/
def sumGranted (s : State) : Nat :=
  allLoads.foldl (fun n l => if s.granted l then n + (s.claimOf l).counted else n) 0

/-- The sum of settling wattage. -/
def sumSettling (s : State) : Nat := s.lba.settling.foldl (fun n e => n + e.watts) 0

/-- mains_budget_w. -/
def mains (s : State) : Nat := s.num SettingIx.mainsBudget

/-- The sum of the class 0 and class 1 wattages (R56). -/
def classSum (s : State) : Nat := allLoads.foldl (fun n l => if l.heater then n else n + s.watts l) 0

/-- A load has an entry in the settling list. -/
def settles (s : State) (l : Load) : Bool := s.lba.settling.any fun e => e.load = l

/-- A GRANTED class 0 or 1 claim waits for an increase (R57). -/
def increases (s : State) (l : Load) : Bool :=
  s.granted l && !l.heater && decide ((s.claimOf l).counted < s.watts l)

/-- The wattage a claim asks the walk for: the load's, or the increase of a grant (R51, R57). -/
def wanted (s : State) (l : Load) : Nat :=
  if s.granted l then s.watts l - (s.claimOf l).counted else s.watts l

/-- A claim fits (R50). -/
def fits (s : State) (l : Load) : Bool :=
  decide (s.sumGranted + s.sumSettling + s.wanted l ≤ s.lba.inForce) && decide (s.sumGranted + s.wanted l ≤ s.mains) &&
    (s.granted l || !s.settles l)

/-! ### Settling, revocation, grants -/

/-- A load's counted wattage enters the settling list, ordered by end time (R49). -/
def settle (s : State) (l : Load) (w : Nat) : State :=
  s.onLba fun b => { b with settling := b.settling ++ [{ load := l, watts := w, left := Config.settlingMs }] }

/-- A claim goes back to IDLE: a GRANTED one settles, wait and promoted flag are cleared (R48, R55, R61). -/
def endClaim (s : State) (l : Load) : State :=
  match (s.claimOf l).state with
  | .idle => s
  | .waiting => s.onClaim l fun c => { c with state := .idle, waitMs := 0, promoted := false, counted := 0 }
  | .granted =>
    (s.settle l (s.claimOf l).counted).onClaim l fun c =>
      { c with state := .idle, waitMs := 0, promoted := false, counted := 0 }

/-- A GRANTED claim is revoked: it waits again with its claim time, wait and flag as they were (R53). -/
def revoke (s : State) (l : Load) : State :=
  (s.settle l (s.claimOf l).counted).onClaim l fun c => { c with state := .waiting, counted := 0 }

/-- The changeover valve's grant (R71): in CLAIMED, SERVE names the target, the move runs, a notice is placed; in ALIGNING
the move timer starts (R73). -/
def valveGranted (s : State) : State :=
  let limit := 2 * (s.caps .softener).moveDs * 100 + 2000
  match s.sfc.changeover with
  | .claimed =>
    (s.onSfc fun x =>
      { x with serve := x.target, changeover := .moving, moveLeft := some limit, moveLimit := limit }).place
      (.softener .changeoverStart s.sfc.target (s.column s.sfc.target).state)
  | .aligning => s.onSfc fun x => { x with moveLeft := some limit, moveLimit := limit }
  | .none | .due | .pending | .moving | .returning => s

/-- The vent fan's grant (R133). -/
def fanGranted (s : State) : State :=
  if s.dvc.vent.step = .fanWait then
    (s.onVent fun v => { v with step := .fan, timerLeft := some (v.secs * 1000) }).onDvc fun d => { d with fan := true }
  else s

/-- A grant event at its claimant. Heaters and pumps are switched by their outputs alone (R15, R20, R29, R35). -/
def granteeEvent (s : State) (l : Load) : State :=
  match l with
  | .doorDrive => s.askMove
  | .ventFan => s.fanGranted
  | .valveMotor => s.valveGranted
  | .drainPump | .washPump | .rinsePump | .doserDet | .doserRa | .boosterA | .boosterB | .tankHeater => s

/-- A claim is granted, or a grant takes its increase (R51, R57). -/
def grant (s : State) (l : Load) : State :=
  if s.granted l then s.onClaim l fun c => { c with counted := s.watts l }
  else
    ((s.onLba fun b => { b with grants := b.grants + 1 }).onClaim l fun c =>
      { c with state := .granted, counted := s.watts l, grantOrder := s.lba.grants + 1 }).granteeEvent l

/-! ### The grant walk (R51 to R53) -/

/-- The class a claim counts as: 2 once promoted (R54). -/
def walkClass (s : State) (l : Load) : Nat := if (s.claimOf l).promoted then min 2 l.cls else l.cls

/-- The walk takes `a` no later than `b`: class, then claim time, then load number (R51). -/
def walkLe (s : State) (a b : Load) : Bool :=
  if s.walkClass a < s.walkClass b then true
  else if s.walkClass b < s.walkClass a then false
  else if olderClaim (s.claimOf a).claimTime (s.claimOf b).claimTime then true
  else if olderClaim (s.claimOf b).claimTime (s.claimOf a).claimTime then false
  else decide (a.number ≤ b.number)

/-- The claims the walk takes, in its order (R51, R57). -/
def walkOrder (s : State) : List Load :=
  (allLoads.filter fun l => s.waits l || s.increases l).foldr (insertBy s.walkLe) []

/-- The GRANTED heaters in the order of revocation: class 3 first, then class 2, the most recently granted first (R52). -/
def candidates (s : State) : List Load :=
  ([Load.boosterA, .boosterB, .tankHeater].filter s.granted).foldr
    (insertBy fun a b =>
      if s.walkClass b < s.walkClass a then true
      else if s.walkClass a < s.walkClass b then false
      else decide ((s.claimOf b).grantOrder ≤ (s.claimOf a).grantOrder)) []

/-- Revoke candidates in order until the granted wattage with `w` more lies within `limit` (R52, R58). -/
def revokeUntil (w limit : Nat) : List Load → State → State
  | [], s => s
  | l :: ls, s => if s.sumGranted + w ≤ limit then s else revokeUntil w limit ls (s.revoke l)

/-- The revocation step for a claim that does not fit (R52, R53). -/
def makeRoom (s : State) (l : Load) : State :=
  if s.walkClass l ≤ 1 then revokeUntil (s.wanted l) s.mains s.candidates s
  else if s.walkClass l = 2 ∧ s.granted .tankHeater = true ∧ (s.claimOf .tankHeater).promoted = false ∧
      ¬ s.sumGranted + s.wanted l ≤ s.mains ∧
      s.sumGranted - (s.claimOf .tankHeater).counted + s.wanted l ≤ s.mains then s.revoke .tankHeater
  else s

/-- One walk: grant the claims in order; at the first that does not fit, make room for it and stop (R51). The flag says that
room was made: a revocation, and a revocation alone here, adds to the settling list. -/
def walkThrough : List Load → State → State × Bool
  | [], s => (s, false)
  | l :: ls, s =>
    if s.fits l then walkThrough ls (s.grant l)
    else (s.makeRoom l, decide (s.lba.settling.length < (s.makeRoom l).lba.settling.length))

/-- Walks, each one that revoked being followed by another (R51, R53), at most `n` of them. -/
def walkAgain : Nat → State → State
  | 0, s => s
  | n + 1, s =>
    match walkThrough s.walkOrder s with
    | (t, true) => walkAgain n t
    | (t, false) => t

/-- The grant walk; under a LOCKOUT no walk grants anything (R51, R61). A revoked heater settles and so is not granted again
in the event: at most the three heaters are revoked, and the fourth walk revokes nothing. -/
def walk (s : State) : State := if s.locked then s else walkAgain 4 s

/-! ### Claims and releases (R47, R48, R55) -/

/-- A load is unfit (R55). -/
def loadUnfit (s : State) (l : Load) : Bool :=
  decide (s.lba.inForce < s.watts l) || (s.lba.breaker.get l.ix && decide (s.mains < s.classSum))

/-- A claimant is told unfit: BUDGET_UNFIT is raised with the load number (R55). -/
def tellUnfit (s : State) (l : Load) : State :=
  (s.onLba fun b => { b with told := b.told.set l.ix.val true l.ix.isLt }).warn .budgetUnfit l.number

/-- A load has been told unfit and is not yet fit again. -/
def toldUnfit (s : State) (l : Load) : Bool := s.lba.told.get l.ix

/-- A claim is taken (R47). -/
def claim (s : State) (l : Load) : State × ClaimAnswer :=
  if (s.claimOf l).state ≠ .idle then (s, .held)
  else if s.locked then (s, .withheld)
  else if l = .boosterB ∧ s.watts .boosterB = 0 then (s, .ignored)
  else if s.loadUnfit l then (s.tellUnfit l, .unfit)
  else
    ((s.onClaim l fun c => { c with state := .waiting, claimTime := s.now, waitMs := 0, promoted := false }).walk, .taken)

/-- A release is taken (R48). -/
def release (s : State) (l : Load) : State :=
  if (s.claimOf l).state = .idle then s else (s.endClaim l).walk

/-- An owed retract is tested again at the end of the event (R129). -/
def freeRetract (s : State) : State := s.onDvc fun d => { d with retractHeld := false }

/-- A fit event at its claimant (R55): a dosing channel clears its unfit mark (R108), a pump that is still needed is
claimed again, an owed retract is tested again (R129). The tests of the valve and the thermostats read that the load is no
longer told unfit (R70, R16). -/
def fitEvent (s : State) (l : Load) : State :=
  match l with
  | .doserDet => s.onChannel .det fun r => { r with unfit := false }
  | .doserRa => s.onChannel .ra fun r => { r with unfit := false }
  | .drainPump => if s.whu.drainUser.isSome then (s.claim .drainPump).1 else s
  | .washPump => if s.csq.phase = .wash then (s.claim .washPump).1 else s
  | .rinsePump =>
    if s.csq.phase = .rinseWait ∨ s.csq.phase = .rinse ∧ s.csq.rinse.closing = false then (s.claim .rinsePump).1 else s
  | .doorDrive => s.freeRetract
  | .ventFan | .valveMotor | .boosterA | .boosterB | .tankHeater => s

/-- Re-test one load (R55): an unfit claim ends and its claimant is told; a fit load ends its BUDGET_UNFIT. The list gains
the loads whose claims ended. -/
def retestOne (p : State × List Load) (l : Load) : State × List Load :=
  let (s, ended) := p
  if s.loadUnfit l then
    if (s.claimOf l).state = .idle then (s, ended) else ((s.endClaim l).tellUnfit l, ended ++ [l])
  else if s.toldUnfit l then
    (((s.onLba fun b => { b with told := b.told.set l.ix.val false l.ix.isLt }).endCondition .budgetUnfit l.number).fitEvent l,
      ended)
  else (s, ended)

/-- Re-test every load against the budget in force and the class sum (R55). -/
def retest (s : State) : State × List Load := allLoads.foldl retestOne (s, [])

/-- The class sum has come back within mains_budget_w: no load breaks it any more (R55). -/
def clearBreakers (s : State) : State :=
  if s.classSum ≤ s.mains then s.onLba fun b => { b with breaker := Vector.replicate 11 false } else s

/-! ### Changes of the budget and of wattages (R57, R58) -/

/-- A decrease in progress takes force at the first moment at which G + S is not greater than the new value: the state, and
whether the budget in force changed (R58). -/
def takeForce (s : State) : State × Bool :=
  if s.mains < s.lba.inForce ∧ s.sumGranted + s.sumSettling ≤ s.mains then
    (s.onLba fun b => { b with inForce := s.mains }, true)
  else (s, false)

/-- A new mains_budget_w has been taken into working memory (R58). The list holds the loads whose claims ended. A decrease that
waits for force tests the loads as well: the new value alone ends the unfitness of a load that broke the class sum, once it is
not below that sum (R55). -/
def budgetSet (s : State) : State × List Load :=
  let s := s.clearBreakers
  if s.lba.inForce ≤ s.mains then
    let (s, ended) := (s.onLba fun b => { b with inForce := s.mains }).retest
    (s.walk, ended)
  else
    let s := revokeUntil 0 s.mains s.candidates s
    let (s, ended) := s.takeForce.1.retest
    (s.walk, ended)

/-- One load's claim record takes its new wattage (R57). A class 0 or 1 increase that does not fit has its heaters revoked
here, whatever else waits. DESIGN CHOICE (log entry 61): one that fits at once, which has no row in R57's table, is taken by
the walk in its place, so a claim that stops the walk before it keeps the old counted wattage. -/
def wattsOne (before : State) (s : State) (l : Load) : State :=
  if before.watts l = s.watts l then s
  else if l = .boosterB ∧ s.watts l = 0 then s.endClaim l
  else if s.granted l then
    if s.watts l ≤ (s.claimOf l).counted then s.onClaim l fun c => { c with counted := s.watts l }
    else if l.heater then
      let inc := s.watts l - (s.claimOf l).counted
      if s.loadUnfit l then s
      else if s.sumGranted + s.sumSettling + inc ≤ s.lba.inForce ∧ s.sumGranted + inc ≤ s.mains then
        s.onClaim l fun c => { c with counted := s.watts l }
      else s.revoke l
    else if s.loadUnfit l then s
    else revokeUntil (s.watts l - (s.claimOf l).counted) s.mains s.candidates s
  else s

/-- The class 0 and 1 loads whose wattage rose and left the class sum above mains_budget_w are marked, a second rise on a sum
already above it too (R55). DESIGN CHOICE (log entry 80): of a record that raises two wattages both loads are marked. -/
def markBreakers (before s : State) : State :=
  if s.mains < s.classSum then
    allLoads.foldl
      (fun s l =>
        if !l.heater && decide (before.watts l < s.watts l) then
          s.onLba fun b => { b with breaker := b.breaker.set l.ix.val true l.ix.isLt }
        else s) s
  else s

/-- The class 1 loads whose wattage a capability record gives, in the order of their numbers (R46). -/
def capabilityLoads : List Load := [.doorDrive, .ventFan, .valveMotor, .doserDet, .doserRa]

/-- The wattage of a load in the default capability record of its kind (R165); a setting has none. -/
def defaultWatts (s : State) : Load → Nat
  | .doorDrive => (defaultCaps .door).fields.driveW
  | .ventFan => (defaultCaps .door).fields.fanW
  | .valveMotor => (defaultCaps .softener).fields.motorW
  | .doserDet => (defaultCaps .doseDet).fields.pumpW
  | .doserRa => (defaultCaps .doseRa).fields.pumpW
  | l => s.watts l

/-- Add one load to a running class sum, and mark it if the sum is then above mains_budget_w. -/
def rederiveOne (p : State × Nat) (l : Load) : State × Nat :=
  let sum := p.2 + p.1.watts l
  (if p.1.mains < sum then p.1.onLba fun b => { b with breaker := b.breaker.set l.ix.val true l.ix.isLt } else p.1, sum)

/-- The unfit marks derived from the settings and the capability records at POWER-ON and FULL reset (R62). DESIGN CHOICE (log
entry 46): to the three pump settings the records are added one by one, those not above their default first, then those above
it, each in the order of the load numbers; a load whose record takes the sum above mains_budget_w is the one that broke it. -/
def rederiveBreakers (s : State) : State :=
  let low := capabilityLoads.filter fun l => s.watts l ≤ s.defaultWatts l
  let high := capabilityLoads.filter fun l => s.defaultWatts l < s.watts l
  ((low ++ high).foldl rederiveOne (s, s.watts .drainPump + s.watts .washPump + s.watts .rinsePump)).1

/-- Wattages have changed from `before` (R57): the loads' records take them, unfit loads are tested, the walk runs. The
list holds the loads whose claims ended. -/
def wattsChanged (before s : State) : State × List Load :=
  if allLoads.all fun l => before.watts l = s.watts l then (s, [])
  else
    let s := (markBreakers before s).clearBreakers
    let s := allLoads.foldl (wattsOne before) s
    let (s, ended) := s.retest
    (s.walk, ended)

/-- The end of the oldest settling entry (R49): it leaves, a decrease is tested, the walk runs. The list holds the loads
whose claims ended, and the flag says whether the budget in force changed. -/
def settlingEnds (s : State) : State × List Load × Bool :=
  let s := s.onLba fun b => { b with settling := b.settling.drop 1 }
  let (s, forced) := s.takeForce
  let (s, ended) := if forced then s.retest else (s, [])
  (s.walk, ended, forced)

/-- Every claim ends at the first LOCKOUT (R61). -/
def endAllClaims (s : State) : State := allLoads.foldl endClaim s

/-- The tank heater's claim is promoted (R54). -/
def promote (s : State) : State := (s.onClaim .tankHeater fun c => { c with promoted := true }).walk

end State

end Sys2Proof.Machine
end

