-- ==== Sys2Proof/Machine/Softener.lean ====
section
/-! DEFINITION. The Softener Controller (04_water_softening.md): accounting, triggers, changeover, alignment,
regeneration, salt, and what the loss of the module, a LOCKOUT and an unfit valve motor do to them. -/

namespace Sys2Proof.Machine

open Sys2Proof

namespace State

/-- The changeover becomes DUE, and SOFTENER_EXHAUSTED is raised with it (R70). -/
def becomeDue (s : State) : State := (s.onSfc fun x => { x with changeover := .due }).warn .softenerExhausted 0

/-- A changeover may start (R71). -/
def changeoverReady (s : State) : Bool :=
  decide (s.sfc.changeover = .pending) && s.whu.owner.isNone && !s.locked

/-- A PENDING changeover whose conditions hold claims VALVE_MOTOR (R71). -/
def startChangeover (s : State) : State :=
  if s.changeoverReady then
    match (s.onSfc fun x => { x with changeover := .claimed }).claim .valveMotor with
    | (s, .unfit) => s.becomeDue
    | (s, .withheld) => s.onSfc fun x => { x with changeover := .pending }
    | (s, .taken) => s
    | (s, .held) => s
    | (s, .ignored) => s
  else s

/-- The target of a changeover is READY, the module LINKED and no VALVE_STUCK record present (R69). -/
def changeoverFree (s : State) : Bool :=
  decide ((s.column s.sfc.target).state = .ready) && s.linked .softener && !s.hasFault .valveStuck 0

/-- The changeover becomes PENDING and starts if it may (R70, R71). -/
def becomePending (s : State) : State := (s.onSfc fun x => { x with changeover := .pending }).startChangeover

/-- A trigger's changeover is placed: PENDING if nothing blocks it, else DUE (R69). -/
def placeChangeover (s : State) : State :=
  let s := s.onSfc fun x => { x with target := x.serviceCol.other }
  if s.changeoverFree then s.becomePending else s.becomeDue

/-- A changeover trigger (R69). -/
def changeoverTrigger (s : State) : State :=
  match s.sfc.changeover with
  | .none => s.placeChangeover
  | .aligning => s.onSfc fun x => { x with keptTrigger := true }
  | .due | .pending | .claimed | .moving | .returning => s

/-- A DUE changeover is re-tested (R70). DESIGN CHOICE (log entry 107): a motor made unfit in MOVING or RETURNING (R73) keeps it
DUE until its fit event, as a refused claim does. -/
def retestDue (s : State) : State :=
  if s.sfc.changeover = .due ∧ s.changeoverFree = true ∧ s.toldUnfit .valveMotor = false then s.becomePending else s

/-! ### Regeneration (4.6) -/

/-- A SOFTENER notice about a column with its state as it stands (R83). -/
def noteSoftener (s : State) (event : SoftenerEvent) (c : Column) : State :=
  s.place (.softener event c (s.column c).state)

/-- The accepted indication shows SALT_LOW. -/
def showsSaltLow (s : State) : Bool :=
  match s.indication .softener with
  | some o => isSaltLow o
  | none => false

/-- A regeneration of a column starts in BRINE (R75). -/
def beginRegen (s : State) (c : Column) : State :=
  ((s.onColumn c fun r =>
    { r with
      state := .regenBrine, capacity := 0, brineWeak := s.showsSaltLow, phaseLeft := s.num SettingIx.brineS * 1000 }).onSfc
    fun x => { x with brineSeen := false }).noteSoftener .phaseStart c

/-- The column not in service may start its regeneration (R75). -/
def regenReady (s : State) : Bool :=
  decide ((s.column s.sfc.serviceCol.other).state = .exhausted) && s.linked .softener && s.regenColumn.isNone

/-- The test for a regeneration start (R75). -/
def startRegen (s : State) : State := if s.regenReady then s.beginRegen s.sfc.serviceCol.other else s

/-- REGEN_NO_BRINE's detail for a column (R77). -/
def columnDetail : Column → Nat
  | .a => 1
  | .b => 2

/-- The next phase of a column begins (R77). -/
def nextPhase (s : State) (c : Column) (state : ColumnState) (seconds : Nat) : State :=
  (s.onColumn c fun r => { r with state := state, phaseLeft := seconds * 1000 }).noteSoftener .phaseStart c

/-- BRINE ended without brine seen (R77). -/
def noBrine (s : State) (c : Column) : State :=
  if s.sfc.brineSeen then s
  else (s.onColumn c fun r => { r with brineWeak := true }).warn .regenNoBrine (columnDetail c)

/-- The end of a regeneration (R79). -/
def endRegen (s : State) (c : Column) : State :=
  (((((s.onColumn c fun r =>
    { r with
      state := .ready, phaseLeft := 0, regens := satAdd 65535 r.regens 1
      capacity := regenCredit (s.num SettingIx.columnCapacity) r.condition
        (if r.brineWeak then s.num SettingIx.saltLowCredit else 100) }).saveCounters).noteSoftener .regenEnd c).retestDue
    ).startRegen)

/-- The phase of a column ends (R77, R79). -/
def endPhase (s : State) (c : Column) : State :=
  match (s.column c).state with
  | .regenBrine => (s.noBrine c).nextPhase c .regenSlow (s.num SettingIx.slowRinseS)
  | .regenSlow => s.nextPhase c .regenFast (s.num SettingIx.fastRinseS)
  | .regenFast => s.endRegen c
  | .service | .ready | .exhausted => s

/-! ### Alignment (R73) -/

/-- The valve field of the accepted indication, if one is accepted. -/
def acceptedValve (s : State) : Option Valve := (s.indication .softener).map valveOf

/-- The valve is not where SERVE names it, and is not in fault: it moves or serves the other column (R73). -/
def valveAstray (s : State) : Bool :=
  match s.acceptedValve with
  | some .moving => true
  | some (.serves c) => decide (c ≠ s.sfc.serve)
  | some .fault => false
  | none => false

/-- An alignment move may start (R73). -/
def alignmentReady (s : State) : Bool :=
  decide (s.sfc.changeover = .none) && s.linked .softener && !s.hasFault .valveStuck 0 && s.whu.owner.isNone &&
    !s.locked && s.valveAstray

/-- An alignment ends with the state NONE; a trigger kept in it makes the changeover DUE (R69, R73). -/
def endAlignment (s : State) : State :=
  if s.sfc.keptTrigger then
    ((s.onSfc fun x =>
      { x with keptTrigger := false, moveLeft := none, target := x.serviceCol.other }).becomeDue).retestDue
  else s.onSfc fun x => { x with changeover := .none, moveLeft := none }

/-- An alignment ends as unfit: it waits for the next test event of R73, and not for any other event. -/
def holdAlignment (s : State) : State := s.endAlignment.onSfc fun x => { x with alignHeld := true }

/-- An alignment move starts (R73). -/
def startAlignment (s : State) : State :=
  if s.alignmentReady then
    match (s.onSfc fun x => { x with changeover := .aligning }).claim .valveMotor with
    | (s, .unfit) => s.holdAlignment
    | (s, .withheld) => s.holdAlignment
    | (s, .taken) => s
    | (s, .held) => s
    | (s, .ignored) => s
  else s

/-- One of the events at which R73 tests the alignment: an alignment that ended unfit is free to start at its end. -/
def freeAlignment (s : State) : State := s.onSfc fun x => { x with alignHeld := false }

/-- The alignment test that every event ends with (R73). -/
def testAlignment (s : State) : State := if s.sfc.alignHeld then s else s.startAlignment

/-! ### The move (R72, R73) -/

/-- A MOVING changeover fails and the valve is brought back (R73). -/
def failMove (s : State) : State :=
  (s.onSfc fun x =>
    { x with serve := x.serviceCol, changeover := .returning, moveLeft := some x.moveLimit }).warn .valveStuck 0

/-- RETURNING ends (R73). -/
def endReturning (s : State) : State :=
  (((s.onSfc fun x => { x with moveLeft := none }).release .valveMotor).noteSoftener .changeoverFailed s.sfc.target
    ).becomeDue

/-- VALVE_FAULT or the timer ends an alignment (R73). -/
def failAlignment (s : State) : State := ((s.warn .valveStuck 0).release .valveMotor).endAlignment

/-- The column in SERVICE and the target change places (R72). DESIGN CHOICE (log entry 63): a target that a REGEN request has
meanwhile put into regeneration becomes SERVICE all the same, with capacity 0; its regeneration ends without a notice. -/
def swapColumns (s : State) : State :=
  ((s.onColumn s.sfc.serviceCol fun r => { r with state := .exhausted, capacity := 0 }).onColumn s.sfc.target
    fun r => { r with state := .service }).onSfc
    fun x => { x with serviceCol := x.target, changeover := .none, moveLeft := none }

/-- The changeover completes (R72). -/
def completeMove (s : State) : State :=
  ((s.swapColumns.release .valveMotor).noteSoftener .changeoverComplete s.sfc.target).startRegen

/-- The move timer expires (R73). -/
def endMoveTimer (s : State) : State :=
  match s.sfc.changeover with
  | .moving => s.failMove
  | .returning => s.endReturning
  | .aligning => s.failAlignment
  | .none | .due | .pending | .claimed => s

/-! ### Accounting (R65) -/

/-- The hardness field of the accepted indication is SOFT, and the module is LINKED (R69). -/
def showsSoft (s : State) : Bool :=
  match s.indication .softener with
  | some o => isSoft o
  | none => false

/-- A pulse is charged to the service column (R65); bringing its capacity to 0 is the exhaustion trigger (R69). -/
def accountPulse (s : State) : State :=
  let step := accumulatorStep s.sfc.acc (s.num SettingIx.inletHardness) s.k
  let c := s.sfc.serviceCol
  let old := (s.column c).capacity
  let left := decrement old step.1
  let s := (s.onSfc fun x => { x with acc := step.2 }).onColumn c fun r => { r with capacity := left }
  if 0 < old ∧ left = 0 then
    (s.onColumn c fun r =>
      { r with condition := if s.showsSoft then min 100 (r.condition + 5) else r.condition }).changeoverTrigger
  else s

/-! ### An accepted softener indication -/

/-- Breakthrough (R69): HARD is accepted after an octet that was not HARD, with capacity left. -/
def breakthrough (s : State) (previous : Option Octet) (o : Octet) : State :=
  match previous with
  | some p =>
    if isHard o ∧ isHard p = false ∧ 0 < (s.column s.sfc.serviceCol).capacity then
      (s.onColumn s.sfc.serviceCol fun r =>
        { r with capacity := 0, condition := max 50 (r.condition - 5) }).changeoverTrigger
    else s
  | none => s

/-- SALT_LOW is followed (R78): the record, the notice, and brine_weak in BRINE. The state last followed is kept over a loss of
the module (log entry 41) and forgotten at a reset (DESIGN CHOICE, log entry 100). -/
def followSalt (s : State) (previous : Option Octet) (o : Octet) : State :=
  if isSaltLow o then
    let s :=
      match s.regenColumn with
      | some c =>
        if (s.column c).state = .regenBrine then s.onColumn c fun r => { r with brineWeak := true } else s
      | none => s
    if (previous.map isSaltLow).getD false then s
    else ((s.onSfc fun x => { x with saltLow := true }).warn .saltLow 0).noteSoftener .saltLowSet s.sfc.serviceCol
  else if s.sfc.saltLow then
    ((s.onSfc fun x => { x with saltLow := false }).endCondition .saltLow 0).noteSoftener .saltLowCleared s.sfc.serviceCol
  else s.endCondition .saltLow 0

/-- BRINE_FLOW is followed (R77). -/
def followBrine (s : State) (o : Octet) : State :=
  match s.regenColumn with
  | some c =>
    if isBrineFlow o ∧ (s.column c).state = .regenBrine ∧ s.regenPaused = false then
      s.onSfc fun x => { x with brineSeen := true }
    else s
  | none => s

/-- The valve field is followed (R71 to R73). -/
def followValve (s : State) (v : Valve) : State :=
  match s.sfc.changeover, v with
  | .moving, .serves c => if c = s.sfc.target then s.completeMove else s
  | .moving, .fault => s.failMove
  | .moving, .moving => s
  | .returning, .serves c => if c = s.sfc.serviceCol then s.endReturning else s
  | .returning, .fault => s
  | .returning, .moving => s
  | .aligning, .serves c => if c = s.sfc.serve then (s.release .valveMotor).endAlignment else s
  | .aligning, .fault => s.failAlignment
  | .aligning, .moving => s
  | .claimed, .fault => ((s.release .valveMotor).warn .valveStuck 0).becomeDue
  | .none, .fault => s.warn .valveStuck 0
  | .due, .fault => s.warn .valveStuck 0
  | .pending, .fault => s.warn .valveStuck 0
  | .none, _ | .due, _ | .pending, _ | .claimed, _ => s

/-- The accepted valve field names the SERVE column: the VALVE_STUCK condition ends (R73). -/
def followServe (s : State) (v : Valve) : State :=
  if v = .serves s.sfc.serve then s.endCondition .valveStuck 0 else s

/-- The first acceptance after a SOFT reset that removed a VALVE_STUCK record: it is raised again if the valve field names
another place than the SERVE column (R84). -/
def recallStuck (s : State) (v : Valve) : State :=
  if s.sfc.stuckGone then
    let s := s.onSfc fun x => { x with stuckGone := false }
    if v = .serves s.sfc.serve ∨ s.hasFault .valveStuck 0 = true then s else s.warn .valveStuck 0
  else s

/-- A softener indication is accepted after the one given (R63, R68 to R73, R77, R78, R84). DESIGN CHOICE (log entry 62): the
fields of one octet act in the order hardness, salt, brine, valve, so HARD accepted with the target column is judged against
the column left, and HARD with VALVE_FAULT in NONE first places the changeover and then fails it; a VALVE_STUCK raised again
stands before the alignment is tested. -/
def softenerAccepted (s : State) (previous : Option Octet) (o : Octet) : State :=
  (((((((s.breakthrough previous o).followSalt previous o).followBrine o).followValve (valveOf o)).recallStuck (valveOf o)
    ).followServe (valveOf o)).retestDue).freeAlignment

/-! ### Link changes, LOCKOUT, unfit (R81, R82, R55) -/

/-- The softener module has become LINKED (R70, R73, R75, R81): a DUE changeover is re-tested, an EXHAUSTED standby column
starts its regeneration, and the alignment is tested at the end of the event. -/
def softenerLinked (s : State) : State := s.retestDue.startRegen.freeAlignment

/-- The softener module has left LINKED (R81). -/
def softenerLost (s : State) : State :=
  let s := s.freeAlignment
  match s.sfc.changeover with
  | .pending => s.becomeDue
  | .claimed => (s.release .valveMotor).becomeDue
  | .aligning => (s.release .valveMotor).endAlignment
  | .none | .due | .moving | .returning => s

/-- The VALVE_MOTOR claim was ended by a LOCKOUT (R71, R73, R82). -/
def softenerLockout (s : State) : State :=
  let s := s.freeAlignment
  match s.sfc.changeover with
  | .claimed => s.onSfc fun x => { x with changeover := .pending }
  | .aligning => s.endAlignment
  | .none | .due | .pending | .moving | .returning => s

/-- The VALVE_MOTOR claim was ended as unfit (R71, R73). -/
def valveUnfit (s : State) : State :=
  match s.sfc.changeover with
  | .claimed => s.becomeDue
  | .aligning => s.holdAlignment
  | .none | .due | .pending | .moving | .returning => s

/-! ### The REGEN request (R80) -/

/-- The column of a code octet (R187). -/
def columnOf (code : Octet) : Option Column :=
  if code = 0#8 then some .a else if code = 1#8 then some .b else none

/-- The REGEN request after the LOCKOUT test (R80). DESIGN CHOICE (log entry 63): a READY target is regenerated whatever the
changeover state, PENDING, CLAIMED and MOVING included, and the changeover goes on. -/
def regenRequest (s : State) (code : Octet) : State × Status :=
  match columnOf code with
  | none => (s, .outOfRange)
  | some c =>
    if s.linked .softener = false then (s, .notNow)
    else
      match (s.column c).state, s.sfc.changeover with
      | .regenBrine, _ => (s, .notNow)
      | .regenSlow, _ => (s, .notNow)
      | .regenFast, _ => (s, .notNow)
      | .ready, _ => (s.beginRegen c, .accepted)
      | .exhausted, _ => (s.beginRegen c, .accepted)
      | .service, .pending => (s, .accepted)
      | .service, .claimed => (s, .accepted)
      | .service, .moving => (s, .accepted)
      | .service, .none =>
        if (s.column c.other).state = .ready ∧ s.hasFault .valveStuck 0 = false then
          ((s.onSfc fun x => { x with target := c.other }).becomePending, .accepted)
        else (s, .notNow)
      | .service, .due => (s, .notNow)
      | .service, .returning => (s, .notNow)
      | .service, .aligning => (s, .notNow)

/-! ### Settings (R67) -/

/-- A new column_capacity clamps both columns (R67). -/
def clampColumns (s : State) : State :=
  let f : ColumnRec → ColumnRec := fun r =>
    { r with capacity := min r.capacity (s.num SettingIx.columnCapacity * 100) }
  (s.onColumn .a f).onColumn .b f

/-- A new k_factor zeroes the hardness and rinse-aid accumulators (R67). -/
def zeroAccumulators (s : State) : State :=
  (s.onSfc fun x => { x with acc := 0 }).onDsc fun d => { d with acc := 0 }

end State

end Sys2Proof.Machine
end

