-- ==== Sys2Proof/Machine/Dosing.lean ====
section
/-! DEFINITION. The Dosing Controller (06_chemical_dosing.md): orders and their life, detergent, rinse aid, stock and the
empty and low flags, module loss, LOCKOUT, and the panel's DOSE and STOCK. -/

namespace Sys2Proof.Machine

open Sys2Proof

/-- The fault that says a channel is empty (R111). -/
def emptyFault : Channel → FaultCode
  | .det => .detEmpty
  | .ra => .raEmpty

/-- DOSER_STALL's detail for a channel (R108, R110). -/
def channelDetail : Channel → Nat
  | .det => 1
  | .ra => 2

/-- The steps of an order; a PRIME order has none (R102). -/
def orderSteps (o : Order) : Nat :=
  match o.amount with
  | .steps n => n
  | .seconds _ => 0

/-- The steps of the orders of a list. -/
def listSteps (os : List Order) : Nat := os.foldl (fun n o => n + orderSteps o) 0

/-- An origin of a detergent dose (R103, R104). -/
def Origin.detergent : Origin → Bool
  | .rinseEnd | .fill | .topUp => true
  | .manual | .raStream | .prime => false

/-- A list with its last order given `n` more steps: the new list, and the steps that do not fit below 65535. `none` if the
last order cannot take steps: it is PRIME, SENT, or of another step size (R103). -/
def mergeLast (n ul : Nat) : List Order → Option (List Order × Nat)
  | [] => none
  | [o] =>
    match o.amount with
    | .steps m =>
      if o.state = .queued ∧ o.ulPerStep = ul then
        some ([{ o with amount := .steps (satAdd 65535 m n) }], m + n - 65535)
      else none
    | .seconds _ => none
  | o :: os => (mergeLast n ul os).map fun p => (o :: p.1, p.2)

namespace State

/-! ### Starting the head (R107, R108) -/

/-- The head order of a channel may start (R107). -/
def orderReady (s : State) (c : Channel) : Bool :=
  match (s.channel c).orders with
  | o :: _ =>
    decide (o.state = .queued) && !o.started && s.linked (channelKind c) && !s.locked && !(s.channel c).unfit &&
      !(s.channel c).stop
  | [] => false

/-- Mark the head of a list as started, or as not started. -/
def markHead (s : State) (c : Channel) (b : Bool) : State :=
  s.onChannel c fun r =>
    { r with
      orders := match r.orders with
        | o :: os => { o with started := b } :: os
        | [] => [] }

/-- The head order starts if it may: it claims its load, and asks for the queue (R107, R108). -/
def startOrder (s : State) (c : Channel) : State :=
  if s.orderReady c then
    match s.claim (channelLoad c) with
    | (s, .unfit) => s.onChannel c fun r => { r with unfit := true }
    | (s, .taken) => (s.markHead c true).askOrder c
    | (s, .held) => (s.markHead c true).askOrder c
    | (s, .withheld) => s
    | (s, .ignored) => s
  else s

/-! ### Placing (R102, R103) -/

/-- A new order at the tail (R102). -/
def createOrder (s : State) (c : Channel) (origin : Origin) (amount : Amount) : State :=
  s.onChannel c fun r =>
    { r with
      nextTag := r.nextTag + 1#8
      orders := r.orders ++
        [{ tag := r.nextTag, origin := origin, amount := amount, ulPerStep := s.ulPerStep c, state := .queued,
           started := false }] }

/-- A count of steps is placed (R103). -/
def placeSteps (s : State) (c : Channel) (origin : Origin) (n : Nat) : State :=
  if n = 0 then s
  else if (s.channel c).empty || s.locked then s.countDrop n
  else if (s.channel c).orders.length < Config.orderLimit then
    ((s.createOrder c origin (.steps n)).countSteps c n).startOrder c
  else if origin.detergent then
    match mergeLast n (s.ulPerStep c) (s.channel c).orders with
    | some (os, lost) => ((s.onChannel c fun r => { r with orders := os }).countSteps c (n - lost)).countDrop lost
    | none => s.countDrop n
  else s.countDrop n

/-! ### Detergent (R92 to R94, R104) -/

/-- A detergent dose from a volume and a soil percentage (R104). -/
def dose (s : State) (origin : Origin) (ml soil : Nat) : State :=
  let ul := detergentDose ml (s.num SettingIx.detRate) (hardnessFactor s.residual (s.num SettingIx.hardnessGain)) soil
    (s.num SettingIx.doseMax)
  let r := stepsAndCarry ul s.dsc.det.carry (s.ulPerStep .det)
  ((s.onChannel .det fun x => { x with carry := r.2 }).placeSteps .det origin r.1).countDose ul (decide (0 < s.residual))

/-! ### Rinse aid (R96, R105, R106) -/

/-- Owed steps go out as one order (R105, R106). -/
def placeOwed (s : State) : State :=
  (s.onDsc fun d => { d with owed := 0, flush := false }).placeSteps .ra .raStream s.dsc.owed

/-- With the flush mark set and the RA list empty, the owed steps are placed (R106). -/
def flushTest (s : State) : State := if s.dsc.flush ∧ s.dsc.ra.orders = [] then s.placeOwed else s

/-- The rinse-end step (R106). -/
def rinseEndStep (s : State) : State :=
  if 0 < s.dsc.owed then (s.onDsc fun d => { d with flush := true }).flushTest else s

/-- A pulse credited to RINSE accrues rinse aid (R96, R105). DESIGN CHOICE (log entry 64): with a ra_rate of 0 and the
accumulator at T or more, after a restore or a fall of ul_per_step, the pulse pays the excess out. -/
def accruePulse (s : State) : State :=
  let r := rinseAidStep s.dsc.acc (s.num SettingIx.raRate) (s.k * s.ulPerStep .ra)
  let s := s.onDsc fun d => { d with acc := r.1, owed := satAdd 65535 d.owed r.2 }
  if s.dsc.ra.orders = [] ∧ (8 ≤ s.dsc.owed ∨ s.dsc.flush = true) then s.placeOwed else s

/-! ### Stock, low and empty (R111, R113, R114) -/

/-- L of R113. -/
def lowL (s : State) (c : Channel) : Nat := s.containerUl c * s.num SettingIx.stockLow / 100

/-- U of R113. -/
def lowU (s : State) (c : Channel) : Nat := s.containerUl c * (s.num SettingIx.stockLow + 5) / 100

/-- The low flag is evaluated (R113). -/
def evalLow (s : State) (c : Channel) : State :=
  s.onChannel c fun r =>
    { r with low := if r.stock < s.lowL c then true else if s.lowU c ≤ r.stock then false else r.low }

/-- The restore rule of the low flag (R113). -/
def restoreLow (s : State) (c : Channel) : State :=
  s.onChannel c fun r => { r with low := decide (r.stock < s.lowU c) }

/-- One STOCK notice if the event that began at `before` changed the low or the empty flag (R113). -/
def noteStock (before s : State) (c : Channel) : State :=
  let r := s.channel c
  if (before.channel c).low = r.low ∧ (before.channel c).empty = r.empty then s
  else s.place (.stock c r.stock r.low r.empty)

/-- The low flag is evaluated, and a change is reported (R113). -/
def lowEvent (before s : State) (c : Channel) : State := noteStock before (s.evalLow c) c

/-- Every QUEUED order of a list is dropped and its steps reported (R111, R119). -/
def dropQueued (s : State) (c : Channel) : State :=
  let n := listSteps ((s.channel c).orders.filter fun o => o.state = .queued)
  (s.onChannel c fun r => { r with orders := r.orders.filter fun o => o.state ≠ .queued }).countDrop n

/-- The channel becomes empty (R111); the STOCK notice and the low flag follow in the event that called it. -/
def becomeEmpty (s : State) (c : Channel) : State :=
  ((s.onChannel c fun r => { r with empty := true, stock := 0 }).dropQueued c).warn (emptyFault c) 0

/-! ### The end of an order (R109, R110, R117) -/

/-- The SENT order of a channel: its head, while it is SENT (R102). -/
def sentOrder (s : State) (c : Channel) : Option Order :=
  match (s.channel c).orders with
  | o :: _ => if o.state = .sent then some o else none
  | [] => none

/-- The reason of a DONE (R110); codes 5 to 255 are STALLED (R148). -/
def doneReason (s : State) (c : Channel) (reason : Octet) : State :=
  if reason = 0#8 ∨ reason = 3#8 ∨ reason = 4#8 then s
  else if reason = 2#8 then s.becomeEmpty c
  else s.warn .doserStall (channelDetail c)

/-- The head leaves the list: watchdog and STOP clear, the claim is released (R109, R117). -/
def removeHead (s : State) (c : Channel) : State :=
  (s.onChannel c fun r => { r with orders := r.orders.drop 1, watchdogLeft := none, stop := false }).release (channelLoad c)

/-- Tests after an order has left the list (R106, R107). -/
def afterRemoval (s : State) (c : Channel) : State :=
  match c with
  | .det => s.startOrder .det
  | .ra => (s.startOrder .ra).flushTest

/-- A DONE is taken for a channel (R109). -/
def takeDone (s : State) (c : Channel) (tag : Octet) (delivered : Nat) (reason : Octet) : State :=
  match s.sentOrder c with
  | none => s
  | some o =>
    if o.tag ≠ tag then s
    else
      let n :=
        match o.amount with
        | .steps m => min m delivered
        | .seconds _ => delivered
      (lowEvent s ((((s.onChannel c fun r => { r with stock := stockAfter r.stock n o.ulPerStep }).countDrop
        (orderSteps o - n)).doneReason c reason).removeHead c) c).afterRemoval c

/-- The message of a channel's order of a tag. A message of an order already DONE may still stand beside it. -/
def orderMsg (c : Channel) (tag : Octet) (m : DownMsg) : Bool :=
  match m.source, m.body with
  | .dsc d, .dose t _ => decide (d = c ∧ t = tag)
  | .dsc d, .prime t _ => decide (d = c ∧ t = tag)
  | .dsc _, .move _ => false
  | .dsc _, .capsQuery => false
  | .dvc, _ => false
  | .msu, _ => false

/-- A channel module has left LINKED (R117): the SENT order's own message is removed, and no other. DESIGN CHOICE (log entry
97): it is removed while it is being sent, too. DESIGN CHOICE (log entry 99): the removal of the last order on RA is tested by
R106 like any other, so with the flush mark set the owed steps are placed and the mark is cleared. -/
def channelLost (s : State) (c : Channel) : State :=
  match (s.channel c).orders with
  | [] => s
  | o :: _ =>
    if o.state = .sent then
      (((s.countDrop (orderSteps o)).removeHead c).removeMsgs (orderMsg c o.tag)).afterRemoval c
    else if o.started then (s.markHead c false).release (channelLoad c)
    else s

/-- The motor load of a channel was made unfit (R108). -/
def doserUnfit (s : State) (c : Channel) : State :=
  let s := s.onChannel c fun r => { r with unfit := true }
  if (s.sentOrder c).isSome then s.onChannel c fun r => { r with stop := true } else s.markHead c false

/-- The first LOCKOUT record has entered the list (R119); the removals test the flush mark (R106). -/
def channelLockout (s : State) (c : Channel) : State :=
  let s := s.dropQueued c
  let s := if (s.sentOrder c).isSome then s.onChannel c fun r => { r with stop := true } else s
  match c with
  | .det => s
  | .ra => s.flushTest

/-- The order watchdog runs (R108). -/
def watchdogRuns (s : State) (c : Channel) : Bool :=
  (s.sentOrder c).isSome && s.granted (channelLoad c) && !s.lba.halt && (s.channel c).watchdogLeft.isSome

/-- The watchdog expires (R108). -/
def watchdogExpires (s : State) (c : Channel) : State :=
  (s.onChannel c fun r => { r with stop := true, watchdogLeft := none }).warn .doserStall (channelDetail c)

/-! ### Requests (R114, R115) -/

/-- The channel of a code octet (R186). -/
def channelOf (code : Octet) : Option Channel :=
  if code = 0#8 then some .det else if code = 1#8 then some .ra else none

/-- The STOCK request after the LOCKOUT test (R114). -/
def stockRequest (s : State) (code : Octet) (ml : Nat) : State × Status :=
  match channelOf code with
  | none => (s, .outOfRange)
  | some c =>
    let t := s.onChannel c fun r => { r with stock := min (ml * 1000) (s.containerUl c), empty := r.empty && decide (ml = 0) }
    let t := if 0 < ml then t.endCondition (emptyFault c) 0 else t
    (lowEvent s t c, if s.containerUl c < ml * 1000 then .clamped else .ok)

/-- What an accepted DOSE request answers: the tag of the order created, if one was, and its steps (R115). -/
structure DoseReply where
  tag : Option Octet
  steps : Nat
  deriving DecidableEq, Repr

/-- No order created. -/
def noDose : DoseReply := { tag := none, steps := 0 }

/-- The tests that both kinds of DOSE request share once their values are in range (R115). -/
def doseRefusal (s : State) (c : Channel) (manual : Bool) : Option Status :=
  if s.csq.phase = .rinse then some .notNow
  else if s.linked (channelKind c) = false then some .notNow
  else if manual ∧ (s.channel c).empty = true then some .notNow
  else if Config.orderLimit ≤ (s.channel c).orders.length then some .queueFull
  else none

/-- The DOSE request of kind MANUAL after the LOCKOUT test (R115). -/
def manualRequest (s : State) (code : Octet) (ul : Nat) : State × Status × DoseReply :=
  match channelOf code with
  | none => (s, .outOfRange, noDose)
  | some c =>
    if ul < 100 ∨ 60000 < ul then (s, .outOfRange, noDose)
    else
      match s.doseRefusal c true with
      | some st => (s, st, noDose)
      | none =>
        let r := stepsAndCarry ul (s.channel c).carry (s.ulPerStep c)
        ((s.onChannel c fun x => { x with carry := r.2 }).placeSteps c .manual r.1, .ok,
          { tag := if r.1 = 0 then none else some (s.channel c).nextTag, steps := r.1 })

/-- The DOSE request of kind PRIME after the LOCKOUT test (R115). -/
def primeRequest (s : State) (code : Octet) (seconds : Nat) : State × Status × DoseReply :=
  match channelOf code with
  | none => (s, .outOfRange, noDose)
  | some c =>
    if seconds < 1 ∨ 60 < seconds then (s, .outOfRange, noDose)
    else
      match s.doseRefusal c false with
      | some st => (s, st, noDose)
      | none =>
        ((s.createOrder c .prime (.seconds seconds)).startOrder c, .ok, { tag := some (s.channel c).nextTag, steps := 0 })

/-! ### Changes of figures (R95, R116) -/

/-- A container setting has changed (R116). -/
def containerChanged (s : State) (c : Channel) : State :=
  lowEvent s (s.onChannel c fun r => { r with stock := min r.stock (s.containerUl c) }) c

/-- stock_low_pct has changed (R116). -/
def lowChanged (s : State) : State :=
  let s := lowEvent s s .det
  lowEvent s s .ra

/-- The step sizes may have changed from `before`: the carries are clamped (R95). -/
def clampCarries (before s : State) : State :=
  let one : State → Channel → State := fun s c =>
    if before.ulPerStep c = s.ulPerStep c then s
    else s.onChannel c fun r => { r with carry := clampCarry r.carry (s.ulPerStep c) }
  one (one s .det) .ra

end State

end Sys2Proof.Machine
end

