-- ==== Sys2Proof/Machine/Door.lean ====
section
/-! DEFINITION. The Door and Vent Controller's latch and pusher (07_door_drive_and_drying.md, R125 to R129) and what a cycle
end and a LOCKOUT do to it (R139, R61). The vent itself, whose end reports to the cycle, is in Machine/Vent.lean. -/

namespace Sys2Proof.Machine

open Sys2Proof

namespace State

/-- A DOOR notice with the door record as it stands (R123, R187). -/
def noteDoor (s : State) (moved : Option (Octet × Nat)) : State :=
  s.place (.door s.dvc.door s.dvc.bits s.dvc.lastReached s.dvc.latch s.dvc.fan s.dvc.retract moved)

/-- The accepted door indication shows the latch engaged, if it shows anything (R126). -/
def latchEngaged (s : State) : Option Bool := s.dvc.bits.map DoorBits.latch

/-! ### The pusher's tasks (R127, R129) -/

/-- Have DVC's waiting MOVE removed from the downstream queue (R127). DESIGN CHOICE (log entry 97): one that is being sent is
removed too. -/
def withdrawMove (s : State) : State := s.removeMsgs fun m => decide (m.source = .dvc)

/-- A PUSH ends as at a loss of the door module (R127). -/
def abandonPush (s : State) : State :=
  ((s.onDvc fun d => { d with task := .none, owed := true }).release .doorDrive).withdrawMove

/-- A RETRACT ends with its mark kept (R129). -/
def abandonRetract (s : State) : State :=
  (s.onDvc fun d => { d with task := .none, retract := false }).release .doorDrive

/-- A RETRACT that ends with its mark kept, with its DOOR notice (R123, R129). -/
def breakRetract (s : State) : State := s.abandonRetract.noteDoor none

/-- Any pusher task ends: a PUSH as at a loss, a RETRACT with its mark kept (R125, R127, R129). -/
def abandonTask (s : State) : State :=
  match s.dvc.task with
  | .none => s
  | .push .. => s.abandonPush
  | .retract _ => s.breakRetract

/-- A RETRACT task runs. -/
def retracting (s : State) : Bool :=
  match s.dvc.task with
  | .retract _ => true
  | .none => false
  | .push .. => false

/-- The conditions of a RETRACT but for the pusher task (R129). -/
def retractFree (s : State) : Bool :=
  s.dvc.owed && !s.dvc.latch && s.linked .door && !s.hasFault .doorObstructed 0 && !s.locked

/-- A RETRACT may start (R129). -/
def retractReady (s : State) : Bool := decide (s.dvc.task = .none) && s.retractFree

/-- An owed retract waits for the next test of R129. -/
def holdRetract (s : State) : State := s.onDvc fun d => { d with retractHeld := true }

/-- The retract time limit in ms (R129). -/
def retractMs (s : State) : Nat := (s.caps .door).travelDs * 100 + 2000

/-- A RETRACT starts if it may, claiming DOOR_DRIVE or keeping the claim a PUSH left; refused as unfit, it ends at once with
its DOOR notice, stays owed and waits for the next test (R123, R129). -/
def startRetract (s : State) : State :=
  if s.retractReady then
    match s.claim .doorDrive with
    | (s, .unfit) => s.holdRetract.noteDoor none
    | (s, .withheld) => s
    | (s, .taken) => s.onDvc fun d => { d with task := .retract s.retractMs, retract := true }
    | (s, .held) => s.onDvc fun d => { d with task := .retract s.retractMs, retract := true }
    | (s, .ignored) => s
  else s

/-- R129's test at the end of an event: an owed retract starts. DESIGN CHOICE (log entry 89): a RETRACT that was refused, or
ended, as unfit is not itself a change of the items tested, so one held since then waits, and a test that finds them not met
frees it. -/
def testRetract (s : State) : State :=
  if s.retractReady then if s.dvc.retractHeld then s else s.startRetract else s.freeRetract

/-- A RETRACT makes way for a PUSH: its end is reported and its claim kept for the PUSH (R123, R129; log entry 36). -/
def yieldRetract (s : State) : State :=
  if s.retracting then (s.onDvc fun d => { d with task := .none, retract := false }).noteDoor none else s

/-- A PUSH task starts: its claim, and at a grant its message; refused, it ends at once with no motion, and R129 tests again,
the task having changed. The flag says whether it was refused (R127). -/
def startPush (s : State) (origin : PushOrigin) (target : Nat) : State × Bool :=
  match (s.yieldRetract.onDvc fun d => { d with task := .push origin target .claimed }).claim .doorDrive with
  | (s, .taken) => (s, false)
  | (s, .held) => (s.askMove, false)
  | (s, .unfit) => ((s.onDvc fun d => { d with task := .none }).freeRetract, true)
  | (s, .withheld) => ((s.onDvc fun d => { d with task := .none }).freeRetract, true)
  | (s, .ignored) => (s, false)

/-- DOOR_BLOCKED is raised, and marked in a vent in progress (R128). -/
def doorBlocked (s : State) : State :=
  (if s.dvc.vent.step = .none then s else s.onVent fun v => { v with doorBlocked := true }).warn .doorBlocked 0

/-- The retract's time limit is reached (R129). -/
def limitRetract (s : State) : State :=
  (((s.onDvc fun d => { d with task := .none, retract := false, owed := false }).release .doorDrive).doorBlocked).noteDoor
    none

/-- A MOVED is taken only while a PUSH is QUEUED or DELIVERED (R127). -/
def movedTaken (s : State) : Bool :=
  match s.dvc.task with
  | .push _ _ .queued => true
  | .push _ _ .delivered => true
  | .push _ _ .claimed => false
  | .none => false
  | .retract _ => false

/-- The reason of a MOVED as DVC takes it: a code above 3 is BLOCKED (R148). -/
def movedReason (reason : Octet) : Octet := if 3 < reason.toNat then 1#8 else reason

/-- The door's part of a MOVED taken: reached position, owed mark, DOOR_BLOCKED, and the retract that follows at once or
the release of the claim (R127, R129). -/
def takeMoved (s : State) (reached : Nat) (reason : Octet) : State :=
  let s := s.onDvc fun d => { d with lastReached := min 100 reached, owed := true, task := .none }
  let s := if movedReason reason = 1#8 then s.doorBlocked else s
  let s := if s.retractReady then s.startRetract else s.release .doorDrive
  s.noteDoor (some (movedReason reason, min 100 reached))

/-! ### The latch (R125, R126) -/

/-- LATCH is asked for: any pusher task ends, then LATCH is set (R125). -/
def askLatch (s : State) : State := s.abandonTask.onDvc fun d => { d with latch := true }

/-- LATCH is cleared: the release timer runs for 2 s, whatever the link, unless the accepted indication already shows the
latch clear (R126). -/
def clearLatch (s : State) : State :=
  s.onDvc fun d =>
    { d with
      latch := false
      releaseLeft := if s.latchEngaged = some false then none else some 2000 }

/-! ### Cycle end (R139) and LOCKOUT (R61) -/

/-- A vent in progress ends without a report; a MOVE still waiting is removed whatever became of its PUSH (R139). -/
def dropVent (s : State) : State :=
  if s.dvc.vent.step = .none then s
  else
    ((s.abandonTask.withdrawMove.onDvc fun d => { d with fan := false }).release .ventFan).onVent fun v =>
      { v with step := .none, timerLeft := none, coolingLeft := none }

/-- The door's part of a cycle end (R139); `numbered` says that the cycle had a number. -/
def doorCycleEnd (s : State) (numbered : Bool) : State :=
  let s := s.dropVent
  let s := if s.dvc.latch then s.clearLatch else s
  let s := if numbered then s.onDvc fun d => { d with openedFlag := false } else s
  s.startRetract

/-- The DOOR_DRIVE claim has been ended by a LOCKOUT: the task ends (R127, R129). A vent whose PUSH ends so is told as at a
refusal: FAN_ONLY is set and it moves to RETRACT, where the cycle end of the same LOCKOUT ends it (R131, R139). -/
def doorLockout (s : State) : State :=
  let pushed : Bool := match s.dvc.task with
    | .push .vent _ _ => decide (s.dvc.vent.step = .push)
    | .push .panel _ _ => false
    | .none => false
    | .retract _ => false
  let s := s.abandonTask
  if pushed then s.onVent fun v => { v with fanOnly := true, step := .retract } else s

end State

end Sys2Proof.Machine
end

