-- ==== Sys2Proof/Machine/Water.lean ====
section
/-! DEFINITION. The Water and Heat Unit (01_water_path_and_heat.md): the inlet and its draws, fills and tank states,
thermostats, and the drain pump. Draw reports to the Cycle Sequencer are handed back to the caller. -/

namespace Sys2Proof.Machine

open Sys2Proof

/-- A draw report (R5). -/
structure DrawReport where
  user : InletUser
  pulses : Nat
  outcome : DrawOutcome
  deriving DecidableEq, Repr

/-- The origin of the dose of a fill (R11, R104). -/
def FillKind.origin : FillKind → Origin
  | .fill => .fill
  | .topUp => .topUp

/-- The report of a run-on window (R5). -/
def RunOn.report (r : RunOn) : DrawReport := { user := r.user, pulses := r.pulses, outcome := r.outcome }

namespace State

/-! ### The inlet (R1 to R3) -/

/-- The obtainable inlet goes to a waiting user, RINSE first (R1). -/
def handOver (s : State) : State :=
  if s.obtainable then
    if s.whu.rinseWaiting then
      s.onWhu fun w => { w with rinseWaiting := false, owner := some .rinse, phase := .opening, draw := 0 }
    else if s.whu.tankWaiting then
      s.onWhu fun w => { w with tankWaiting := false, owner := some .tankFill, phase := .opening, draw := 0 }
    else s
  else s

/-- The inlet closes (R3): an open draw leaves a run-on window, an opening one leaves nothing here. The changeover and the
alignment are tested at the end of the event, an alignment that ended unfit among them (R71, R73). -/
def closeInlet (s : State) (outcome : DrawOutcome) : State :=
  match s.whu.owner with
  | none => s
  | some user =>
    (s.onWhu fun w =>
      { w with
        owner := none, phase := .closed, quietLeft := none
        runOn :=
          if w.phase = .opened then
            some { user := user, outcome := outcome, pulses := w.draw, left := Config.runOnMs }
          else w.runOn }).freeAlignment

/-- The inlet opens (R2): a run-on window of an earlier draw ends, and its report is given (R4). -/
def openInlet (s : State) : State × Option DrawReport :=
  (s.onWhu fun w =>
    { w with phase := .opened, quietLeft := some (s.num SettingIx.flowQuiet), runOn := none },
    s.whu.runOn.map RunOn.report)

/-- The run-on window ends (R5). -/
def endRunOn (s : State) : State × Option DrawReport :=
  (s.onWhu fun w => { w with runOn := none }, s.whu.runOn.map RunOn.report)

/-! ### The drain pump (R13, R20) -/

/-- The drain pump takes a user and claims DRAIN_PUMP (R20). -/
def takeDrain (s : State) (u : DrainUser) : State :=
  ((s.onWhu fun w => { w with drainUser := some u }).claim .drainPump).1

/-- The drain pump's user ends and DRAIN_PUMP is released (R20). -/
def dropDrain (s : State) : State := (s.onWhu fun w => { w with drainUser := none, drainOutMs := none }).release .drainPump

/-- A purge is asked for (R20, R98). -/
def startPurge (s : State) (ml : Nat) : State :=
  (s.onWhu fun w => { w with purgeTime := purgeMsOf ml (s.num SettingIx.drainRate), purgeMs := 0 }).takeDrain .purge

/-- A purge ends and its count is discarded (R20, R32). -/
def endPurge (s : State) : State := (s.onWhu fun w => { w with purgeTime := 0, purgeMs := 0 }).dropDrain

/-- Level keeping follows an accepted code: FULL claims, PARTIAL and DRY release (R20). -/
def levelKeep (s : State) (code : LevelCode) : State :=
  match code with
  | .full => if s.whu.drainUser = none then s.takeDrain .level else s
  | .partly => if s.whu.drainUser = some .level then s.dropDrain else s
  | .dry => if s.whu.drainUser = some .level then s.dropDrain else s
  | .implausible => s

/-- Level keeping and purging end at a cycle end, level keeping at the end of DWELL too (R20, R40). -/
def endCycleDrain (s : State) : State :=
  match s.whu.drainUser with
  | some .purge => s.endPurge
  | some .level => s.dropDrain
  | some .draining => s
  | none => s.onWhu fun w => { w with purgeTime := 0, purgeMs := 0 }

/-! ### Fills and the tank state (R9 to R13) -/

/-- The tank setpoint in force: a changed setpoint takes effect at the next valid tank reading (R12, R40). DESIGN CHOICE
(log entry 57): a bad reading brings none into force. -/
def tankTarget (s : State) : Int := s.whu.tankSet.getD s.tankSetpoint

/-- The booster setpoint in force, changed by the next valid booster reading (R17, R40; log entry 57). -/
def boosterTarget (s : State) : Int := s.whu.boosterSet.getD s.boosterSetpoint

/-- The tank state that a recompute gives (R9). -/
def tankFor (s : State) : TankState :=
  if s.tankWet then
    match s.tankReading with
    | some t => if s.tankTarget - 50 ≤ t then .ready else .heating
    | none => .heating
  else .empty

/-- A recompute of the tank state (R9). -/
def recomputeTank (s : State) : State := s.onWhu fun w => { w with tank := s.tankFor }

/-- A fill ends without a draw, or before its draw report (R11): the inlet is released or the request withdrawn. A fill
released in OPENING has its report of 0 pulses at once, and its volume goes to the Dosing Controller. -/
def closeFill (s : State) : State :=
  match s.whu.fill with
  | none => s
  | some f =>
    let s := s.onWhu fun w => { w with fill := none }
    if s.whu.tankWaiting then s.onWhu fun w => { w with tankWaiting := false }
    else if s.whu.owner = some .tankFill then
      if s.whu.phase = .opened then
        (s.closeInlet .released).onWhu fun w => { w with fillEnded := some f.kind }
      else (s.closeInlet .released).dose f.kind.origin 0 100
    else s.onWhu fun w => { w with fillEnded := some f.kind }

/-- A fill's end event: it is closed and the tank state recomputed (R11). -/
def endFill (s : State) : State := s.closeFill.recomputeTank

/-- A fill starts (R10); with FULL already accepted it ends at once (R11). -/
def startFill (s : State) (kind : FillKind) : State :=
  let s := s.onWhu fun w =>
    { w with
      tank := .filling, fill := some { kind := kind, timeMs := 0 }
      tankWaiting := w.tankWaiting || !decide (w.owner = some .tankFill) }
  if s.whu.accepted = some .full then s.endFill else s

/-- An EMPTY tank is filled while the ACTIVE cycle is ARMED (R10). -/
def armFill (s : State) : State := if s.whu.tank = .empty ∧ s.csq.phase = .armed then s.startFill .fill else s

/-- A draw report ends the fill in progress (R11): the tank is recomputed, and the volume dosed. -/
def reportFill (s : State) (pulses : Nat) : State :=
  match s.whu.fill with
  | some f => (s.onWhu fun w => { w with fill := none }).recomputeTank.dose f.kind.origin (meteredMl pulses s.k) 100
  | none => s

/-- A draw report for TANK_FILL (R11): a fill ended before it is dosed, a fill it ends is recomputed and dosed. -/
def tankReport (s : State) (r : DrawReport) : State :=
  match s.whu.fillEnded with
  | some kind => (s.onWhu fun w => { w with fillEnded := none }).dose kind.origin (meteredMl r.pulses s.k) 100
  | none => s.reportFill r.pulses

/-- The DRAIN request after the LOCKOUT test (R13). -/
def drainRequest (s : State) : State × Status :=
  if s.csq.phase ≠ .idle then (s, .notNow)
  else if s.whu.tank = .draining then (s, .ok)
  else
    let s := s.closeFill.onWhu fun w =>
      { w with tank := .draining, tankHeat := { w.tankHeat with demand := false } }
    let s := (s.release .tankHeater).takeDrain .draining
    (if s.whu.accepted = some .dry then s.onWhu fun w => { w with drainOutMs := some 0 } else s, .ok)

/-- 10 s of granted drain time after DRY: the drain ends and the tank is EMPTY (R13). -/
def finishDrain (s : State) : State := (s.dropDrain.onWhu fun w => { w with tank := .empty }).armFill

/-- A PREPARE request after the LOCKOUT test (R14). -/
def prepareRequest (s : State) : State × Status :=
  if s.hasClass .stop then (s, .notNow)
  else
    match s.whu.tank with
    | .draining => (s, .notNow)
    | .empty => (s.startFill .fill, .ok)
    | .filling => (s, .ok)
    | .heating => (s, .ok)
    | .ready => (s, .ok)

/-! ### Thermostats (R15 to R17) -/

/-- A thermostat of a heater load. -/
def thermostat (s : State) : Load → Thermostat
  | .tankHeater => s.whu.tankHeat
  | .boosterA => s.whu.boosterA
  | .boosterB => s.whu.boosterB
  | _ => { demand := false, unfit := false }

/-- Change the thermostat of a heater load. -/
def onThermostat (s : State) (l : Load) (f : Thermostat → Thermostat) : State :=
  match l with
  | .tankHeater => s.onWhu fun w => { w with tankHeat := f w.tankHeat }
  | .boosterA => s.onWhu fun w => { w with boosterA := f w.boosterA }
  | .boosterB => s.onWhu fun w => { w with boosterB := f w.boosterB }
  | _ => s

/-- The part is in STANDBY. -/
def inStandby (s : State) : Bool := decide (s.sto.power = .standby)

/-- The conditions of a thermostat other than its temperature (R16, R17). -/
def heatAllowed (s : State) (l : Load) : Bool :=
  !s.locked && !s.inStandby &&
    (match l with
    | .tankHeater => s.tankWet && decide (s.whu.tank ≠ .draining)
    | .boosterA => s.boosterClosed
    | .boosterB => s.boosterClosed && decide (s.watts .boosterB ≠ 0)
    | _ => false)

/-- The reading a thermostat uses (R16 to R18). -/
def heatReading (s : State) (l : Load) : Option Int := if l = .tankHeater then s.tankReading else s.boosterReading

/-- Demand goes ON below this temperature (R16, R17). -/
def heatBelow (s : State) (l : Load) : Int :=
  match l with
  | .tankHeater => s.tankTarget - 20
  | .boosterB => s.boosterTarget - 60
  | _ => s.boosterTarget - 20

/-- Demand goes OFF at or above this temperature (R16, R17). -/
def heatUpTo (s : State) (l : Load) : Int :=
  match l with
  | .tankHeater => s.tankTarget
  | .boosterB => s.boosterTarget - 30
  | _ => s.boosterTarget

/-- A thermostat claims its load; refused as unfit it sets its mark, otherwise it clears it (R16). -/
def heatClaim (s : State) (l : Load) : State :=
  match s.claim l with
  | (s, .unfit) => s.onThermostat l fun t => { t with unfit := true }
  | (s, .taken) => s.onThermostat l fun t => { t with unfit := false }
  | (s, .held) => s
  | (s, .withheld) => s
  | (s, .ignored) => s

/-- A thermostat turns its demand OFF and releases its load (R15, R16). -/
def heatOff (s : State) (l : Load) : State := (s.onThermostat l fun t => { t with demand := false }).release l

/-- A thermostat is evaluated (R16, R17): demand, and the claim of a demand whose load is not marked unfit. -/
def evalHeat (s : State) (l : Load) : State :=
  match s.heatReading l with
  | none => s.heatOff l
  | some t =>
    if s.heatAllowed l = false then s.heatOff l
    else if s.heatUpTo l ≤ t then s.heatOff l
    else
      let s := if t < s.heatBelow l then s.onThermostat l fun x => { x with demand := true } else s
      if (s.thermostat l).demand ∧ (s.thermostat l).unfit = false then s.heatClaim l else s

/-- All three thermostats are evaluated. DESIGN CHOICE (log entry 69): stage A, stage B and the tank heater claim in this order
within one event. -/
def evalHeats (s : State) : State := ((s.evalHeat .boosterA).evalHeat .boosterB).evalHeat .tankHeater

/-- The budget in force or the heater's wattage setting has changed: a thermostat marked unfit `before` the change claims
once more if its demand is ON, and one without demand loses its mark (R16). A claim that this change has just ended as unfit
is not made again by it. -/
def retryHeat (before s : State) (l : Load) : State :=
  if (before.thermostat l).unfit then
    if (s.thermostat l).demand then s.heatClaim l else s.onThermostat l fun t => { t with unfit := false }
  else s

/-- The three heaters, in the order in which their thermostats are evaluated. -/
def heaters : List Load := [.boosterA, .boosterB, .tankHeater]

/-- `retryHeat` for heaters in a list. -/
def retryHeats (before s : State) (ls : List Load) : State := ls.foldl (retryHeat before) s

/-! ### Flow pulses (R4) -/

/-- Where a pulse goes (R4). -/
inductive PulseCredit where
  | draw (user : InletUser)
  | runOn (user : InletUser)
  | stray
  deriving DecidableEq, Repr

/-- The credit of a pulse taken now (R4). -/
def pulseCredit (s : State) : PulseCredit :=
  match s.whu.phase, s.whu.owner, s.whu.runOn with
  | .opened, some u, _ => .draw u
  | _, _, some r => .runOn r.user
  | _, _, none => .stray

/-- The counters of a pulse (R4), and the quiet window it starts again (R6). -/
def countPulse (s : State) : State :=
  match s.pulseCredit with
  | .draw _ =>
    s.onWhu fun w => { w with draw := satAdd 65535 w.draw 1, quietLeft := some (s.num SettingIx.flowQuiet) }
  | .runOn _ => s.onWhu fun w => { w with runOn := w.runOn.map fun r => { r with pulses := satAdd 65535 r.pulses 1 } }
  | .stray => s

/-- The user a pulse is credited to is RINSE. -/
def creditsRinse (s : State) : Bool :=
  match s.pulseCredit with
  | .draw u => decide (u = .rinse)
  | .runOn u => decide (u = .rinse)
  | .stray => false

/-! ### LOCKOUT (R3, R13, R15, R20) -/

/-- The water side of a LOCKOUT: the inlet closes with outcome CUT, a draw not yet open being reported at once to the fill
that opened it (a fill that ended before waits for its own run-on); a drain ends; the thermostats' demands go OFF. The claims
have been ended by the arbiter. A report for RINSE finds its cycle ended in the same event and is not made. -/
def waterLockout (s : State) : State :=
  let opening := decide (s.whu.phase = .opening) && decide (s.whu.owner = some .tankFill)
  let s := s.closeInlet .cut
  let s := if opening then s.reportFill 0 else s
  let draining := decide (s.whu.tank = .draining)
  let s := s.onWhu fun w =>
    { w with
      drainUser := none, purgeTime := 0, purgeMs := 0, drainOutMs := none
      tankHeat := { w.tankHeat with demand := false }, boosterA := { w.boosterA with demand := false }
      boosterB := { w.boosterB with demand := false } }
  if draining then s.recomputeTank else s

end State

end Sys2Proof.Machine
end

