-- ==== Sys2Proof/Machine/Cycle.lean ====
section
/-! DEFINITION. The Cycle Sequencer (02_the_wash_cycle.md): the queue, the cycle states, holds, the rinse, the cycle record
and the cycle end. What the vent and the raising of faults do to a cycle stands in Machine/Vent.lean and
Machine/Raise.lean. -/

namespace Sys2Proof.Machine

open Sys2Proof

/-- The next value of the cycle counter, from 4294967295 to 1 (R28). -/
def nextCycle (n : Nat) : Nat := if 4294967295 ≤ n then 1 else n + 1

/-- The lower of a recorded and a new temperature. -/
def lowerOf (old : Option Int) (t : Int) : Option Int :=
  match old with
  | some o => some (min o t)
  | none => some t

/-- The higher of a recorded and a new temperature. -/
def higherOf (old : Option Int) (t : Int) : Option Int :=
  match old with
  | some o => some (max o t)
  | none => some t

namespace State

/-- The number of the ACTIVE cycle, 0 while none is assigned (R26). -/
def cycleNumber (s : State) : Nat :=
  match s.csq.active with
  | some e => e.number
  | none => 0

/-- The recipe copy of the ACTIVE entry (R23); the default recipe with no entry, which no rule reads. -/
def recipe (s : State) : Recipe :=
  match s.csq.active with
  | some e => e.copy
  | none => defaultRecipe

/-- A CYCLE_PHASE notice of the state as it stands (R26). -/
def notePhase (s : State) : State :=
  s.place (.cyclePhase s.cycleNumber (s.csq.active.map ActiveEntry.recipe) s.csq.phase s.csq.hold.door s.csq.hold.level)

/-- The cycle state changes, with its notice (R26). -/
def enterState (s : State) (p : CycleState) : State := (s.onCsq fun c => { c with phase := p }).notePhase

/-- Change the open cycle record. -/
def onRecord (s : State) (f : CycleRecord → CycleRecord) : State :=
  s.onCsq fun c => { c with record := c.record.map f }

/-! ### Arming and the queue (R23 to R25, R27) -/

/-- A new ACTIVE entry in ARMED with a copy of its recipe (R23, R27); an EMPTY tank is filled (R10). -/
def arm (s : State) (recipe : Nat) (queuedAt : BitVec 32) : State :=
  ((s.onCsq fun c =>
    { c with
      active := some
        { recipe := recipe, queuedAt := queuedAt, copy := (c.recipes.toList[recipe]?).getD defaultRecipe, number := 0,
          dosing := Dosing.zero }
      record := none, hold := Hold.reset, washMs := 0, rinseWait := RinseWait.reset, rinse := RinseRec.reset
      dwellMs := 0 }).enterState .armed).armFill

/-- The door state lets a wash run: CLOSED or CLOSED_LATCHED (R27, R30). -/
def doorShut (s : State) : Bool := decide (s.dvc.door = .closed) || decide (s.dvc.door = .closedLatched)

/-- WASH may begin (R27). -/
def washReady (s : State) : Bool :=
  decide (s.csq.phase = .armed) && decide (s.whu.tank = .ready) && s.linked .door && s.doorShut &&
    (s.dvc.openedFlag || decide (s.val SettingIx.requireDoor = 0)) && !s.hasClass .stop

/-- The record of a cycle as it is opened (R28, R41). -/
def openRecord (number : Nat) (e : ActiveEntry) : CycleRecord :=
  { number := number, recipe := some e.recipe, outcome := none, washS := 0, lowTemp := none, rinseMl := 0, minTemp := none,
    maxTemp := none, dosing := e.dosing, lowRinse := false, ventCut := false, doorBlocked := false }

/-- WASH begins (R28, R29). -/
def startWash (s : State) : State :=
  match s.csq.active with
  | none => s
  | some e =>
    let n := nextCycle s.csq.counter
    let s := (s.onCsq fun c =>
      { c with
        counter := n, cycleOpen := n, active := some { e with number := n }, record := some (openRecord n e)
        washMs := 0, hold := Hold.reset }).saveCounters
    (((s.endCondition .rinseLowTemp 0).enterState .wash).claim .washPump).1

/-! ### Holds (R30, R31) -/

/-- A hold reason. -/
inductive HoldReason where
  | door
  | level
  deriving DecidableEq, Repr

/-- A hold record with a reason set or cleared. -/
def Hold.put (h : Hold) (r : HoldReason) (b : Bool) : Hold :=
  match r with
  | .door => { h with door := b }
  | .level => { h with level := b }

/-- A hold record has a reason. -/
def Hold.has (h : Hold) : HoldReason → Bool
  | .door => h.door
  | .level => h.level

/-- A hold reason arises (R30). -/
def addHold (s : State) (r : HoldReason) : State :=
  match s.csq.phase with
  | .wash =>
    ((s.onCsq fun c => { c with hold := { Hold.put c.hold r true with left := some .wash } }).release .washPump).enterState
      .held
  | .purge =>
    (((s.onCsq fun c => { c with hold := { Hold.put c.hold r true with left := some .purge } }).onWhu fun w =>
      { w with drainUser := none }).release .drainPump).enterState .held
  | .held => if Hold.has s.csq.hold r then s else (s.onCsq fun c => { c with hold := Hold.put c.hold r true }).notePhase
  | .idle | .armed | .rinseWait | .rinse | .dwell | .vent => s

/-- The cycle returns to the state a hold left (R31). -/
def resume (s : State) : State :=
  let left := s.csq.hold.left
  let s := s.onCsq fun c => { c with hold := { c.hold with left := none } }
  match left with
  | some .wash => ((s.enterState .wash).claim .washPump).1
  | some .purge => (s.enterState .purge).takeDrain .purge
  | none => s

/-- A hold reason goes (R31). DESIGN CHOICE (log entry 60): when the last reason goes, the one CYCLE_PHASE notice is that of
the state resumed, and the emptied set has none of its own. -/
def dropHold (s : State) (r : HoldReason) : State :=
  if s.csq.phase = .held ∧ Hold.has s.csq.hold r = true then
    let s := s.onCsq fun c => { c with hold := Hold.put c.hold r false }
    if s.csq.hold.door || s.csq.hold.level then s.notePhase else s.resume
  else s

/-- After a fill end (R11): an EMPTY tank of an ARMED cycle is filled again (R10), and the reason LEVEL goes with the tank
HEATING or READY (R31). -/
def afterFill (s : State) : State :=
  let s := s.armFill
  if s.whu.tank = .heating ∨ s.whu.tank = .ready then s.dropHold .level else s

/-- A fill ends by an event other than its draw report (R11, R31). -/
def fillEnds (s : State) : State := if s.whu.fill.isSome then s.endFill.afterFill else s

/-! ### RINSE_WAIT (R33, R34) -/

/-- Entry to RINSE_WAIT (R33). -/
def enterRinseWait (s : State) : State :=
  (((s.onCsq fun c =>
    { c with
      rinseWait :=
        { holdLeft := some (s.num SettingIx.rinseHold * 1000), holdExpired := false, confirmLeft := some 2000,
          confirmed := false, tempMet := false } }).enterState .rinseWait).claim .rinsePump).1.askLatch

/-- The wash timer reaches wash_s (R29). -/
def endWash (s : State) : State :=
  let s := (s.onRecord fun r => { r with washS := s.csq.washMs / 1000 }).release .washPump
  if 0 < s.recipe.purgeMl then (s.enterState .purge).startPurge s.recipe.purgeMl else s.enterRinseWait

/-- The purge is over, done or withdrawn (R32). -/
def leavePurge (s : State) : State := s.endPurge.enterRinseWait

/-- The heat condition of R34. -/
def heatMet (s : State) : Bool := s.csq.rinseWait.tempMet || s.csq.rinseWait.holdExpired

/-- RINSE may begin (R34). -/
def rinseReady (s : State) : Bool :=
  decide (s.csq.phase = .rinseWait) && s.heatMet && s.obtainable && s.granted .rinsePump && s.csq.rinseWait.confirmed

/-- A valid booster reading in RINSE_WAIT (R34). -/
def rinseHeat (s : State) (t : Int) : State :=
  if s.csq.phase = .rinseWait ∧ s.recipe.rinseC - 10 ≤ t ∧ s.csq.rinseWait.holdExpired = false then
    s.onCsq fun c => { c with rinseWait := { c.rinseWait with tempMet := true, holdLeft := none } }
  else if s.csq.phase = .rinseWait ∧ s.recipe.rinseC - 10 ≤ t then
    s.onCsq fun c => { c with rinseWait := { c.rinseWait with tempMet := true } }
  else s

/-- The rinse-hold timer expires (R34). -/
def expireRinseHold (s : State) : State :=
  ((s.onCsq fun c => { c with rinseWait := { c.rinseWait with holdLeft := none, holdExpired := true } }).onRecord fun r =>
    { r with lowRinse := true }).warn .rinseLowTemp 0

/-! ### RINSE (R35, R36) -/

/-- RINSE begins (R35), with level keeping if FULL is accepted (R20). -/
def startRinse (s : State) : State :=
  let s := (s.onCsq fun c =>
    { c with
      rinse := { target := pulseTarget s.recipe.rinseMl s.k, count := 0, cut := false, closing := false } }).enterState
    .rinse
  let s := s.onWhu fun w => { w with rinseWaiting := w.rinseWaiting || !decide (w.owner = some .rinse) }
  if s.whu.accepted = some .full then s.levelKeep .full else s

/-- A new k_factor before the valve has opened for RINSE: the target is computed again (R87). -/
def retarget (s : State) : State :=
  if s.csq.phase = .rinse ∧ s.csq.rinse.closing = false ∧ s.valveOpen = false then
    s.onCsq fun c => { c with rinse := { c.rinse with target := pulseTarget s.recipe.rinseMl s.k } }
  else s

/-- A pulse credited to RINSE at the Cycle Sequencer (R35). -/
def rinsePulse (s : State) : State :=
  if s.csq.phase = .rinse then s.onCsq fun c => { c with rinse := { c.rinse with count := c.rinse.count + 1 } } else s

/-- The pulse count stands at the target of an open rinse (R35). -/
def rinseTargetMet (s : State) : Bool :=
  decide (s.csq.phase = .rinse) && !s.csq.rinse.closing && decide (s.whu.owner = some .rinse) &&
    decide (s.whu.phase = .opened) && decide (s.csq.rinse.target ≤ s.csq.rinse.count)

/-- The target is reached: the inlet and RINSE_PUMP are released (R35). -/
def reachTarget (s : State) : State :=
  ((s.onCsq fun c => { c with rinse := { c.rinse with closing := true } }).closeInlet .released).release .rinsePump

/-- Entry to DWELL (R37). -/
def enterDwell (s : State) : State := (s.onCsq fun c => { c with dwellMs := 0 }).enterState .dwell

/-! ### The cycle end (R40, R41) -/

/-- The record of the ACTIVE cycle as it is closed: the open one, or that of a cycle that ends in ARMED (R41). A rinse ended
in RINSE by a LOCKOUT or a reset takes its volume from the pulse count. -/
def closingRecord (s : State) (e : ActiveEntry) (outcome : CycleOutcome) : CycleRecord :=
  let r := s.csq.record.getD (openRecord 0 e)
  { r with
    outcome := some outcome, washS := s.csq.washMs / 1000
    rinseMl :=
      if s.csq.phase = .rinse ∧ (outcome = .abortedFault ∨ outcome = .reset) then meteredMl s.csq.rinse.count s.k
      else r.rinseMl }

/-- Step 1 of R40: pumps, inlet, purge and level keeping end. A draw report made here finds its cycle ended. -/
def stopOutputs (s : State) : State :=
  let s := ((s.release .washPump).release .rinsePump).onWhu fun w => { w with rinseWaiting := false }
  (if s.whu.owner = some .rinse then s.closeInlet .released else s).endCycleDrain

/-- Step 5 of R40: the queue shifts. -/
def shiftQueue (s : State) : State :=
  match s.csq.waiting with
  | some p => (s.onCsq fun c => { c with waiting := none }).arm p.recipe p.queuedAt
  | none =>
    (s.onCsq fun c => Csq.cleared c.recipes c.counter c.cycleOpen).notePhase

/-- A cycle ends (R40). -/
def endCycle (s : State) (outcome : CycleOutcome) : State :=
  match s.csq.active with
  | none => s
  | some e =>
    let s := s.stopOutputs
    let r := s.closingRecord e outcome
    let s := s.doorCycleEnd (decide (e.number ≠ 0))
    let s := (s.onCsq fun c => { c with record := none }).place (.cycleEnd r)
    ((s.onCsq fun c => { c with cycleOpen := 0 }).saveCounters).shiftQueue

/-! ### The draw report of a rinse (R35, R36) -/

/-- A draw report for RINSE reaches the cycle that released the inlet or was cut (R35, R36). DESIGN CHOICE (log entry 103): at
a full rinse end the detergent dose (R104) comes before the rinse-aid step (R106). -/
def rinseReport (s : State) (r : DrawReport) : State :=
  if s.csq.phase = .rinse ∧ s.csq.rinse.closing = true then
    let ml := meteredMl r.pulses s.k
    let s := s.onRecord fun x => { x with rinseMl := ml }
    if s.csq.rinse.cut then s.rinseEndStep.endCycle .rinseIncomplete
    else ((s.dose .rinseEnd ml s.recipe.soilPct).rinseEndStep).enterDwell
  else s

/-- A draw report reaches its user (R5, R11, R35). -/
def deliverReport (s : State) : Option DrawReport → State
  | none => s
  | some r =>
    match r.user with
    | .tankFill => (s.tankReport r).afterFill
    | .rinse => s.rinseReport r

/-- The rinse is cut short: the mark is set and RINSE_PUMP released (R36). -/
def markCut (s : State) : State :=
  (s.onCsq fun c => { c with rinse := { c.rinse with cut := true, closing := true } }).release .rinsePump

/-- DOOR_FORCED is raised, its condition ending in the same event (R36). -/
def doorForced (s : State) : State := (s.warn .doorForced 0).endCondition .doorForced 0

/-- Door state OPEN accepted in RINSE (R36). -/
def forceRinse (s : State) : State :=
  if s.csq.rinse.cut then s
  else
    let s := s.markCut.doorForced
    if s.whu.rinseWaiting then
      (s.onWhu fun w => { w with rinseWaiting := false }).rinseReport { user := .rinse, pulses := 0, outcome := .released }
    else if s.whu.owner = some .rinse then
      if s.whu.phase = .opened then s.closeInlet .released
      else (s.closeInlet .released).rinseReport { user := .rinse, pulses := 0, outcome := .released }
    else s

/-- Door state OPEN accepted in DWELL (R37). -/
def forceDwell (s : State) : State :=
  (s.doorForced.onRecord fun r => { r with ventCut := decide (0 < s.recipe.ventPct) }).endCycle .complete

/-- An accepted door state, or UNKNOWN, at the Cycle Sequencer but for the latch (R30, R31, R36, R37). -/
def cycleDoor (s : State) : State :=
  match s.csq.phase with
  | .wash => if s.doorShut then s else s.addHold .door
  | .purge => if s.doorShut then s else s.addHold .door
  | .held => if s.doorShut then s.dropHold .door else s.addHold .door
  | .rinse => if s.dvc.door = .opened then s.forceRinse else s
  | .dwell => if s.dvc.door = .opened then s.forceDwell else s
  | .idle | .armed | .rinseWait | .vent => s

/-- An accepted indication shows the latch engaged in RINSE_WAIT: it is confirmed (R33). -/
def confirmLatch (s : State) : State :=
  if s.csq.phase = .rinseWait ∧ s.latchEngaged = some true then
    s.onCsq fun c => { c with rinseWait := { c.rinseWait with confirmLeft := none, confirmed := true } }
  else s

/-- The latch is confirmed and an accepted indication shows it not engaged, in RINSE_WAIT (R33). -/
def latchLost (s : State) : Bool :=
  decide (s.csq.phase = .rinseWait) && s.csq.rinseWait.confirmed && decide (s.latchEngaged = some false)

/-! ### Level codes at the tank and the cycle (R8, R10, R13, R20, R30, R32) -/

/-- DRY is accepted with a fill already running: WASH and HELD still take the reason LEVEL (R30). -/
def addLevel (s : State) : State :=
  if s.csq.phase = .wash ∨ s.csq.phase = .held then s.addHold .level else s

/-- The kind of a fill started now: TOP_UP from HEATING or READY, else FILL (R10). -/
def fillKind (s : State) : FillKind := if s.whu.tank = .empty then .fill else .topUp

/-- DRY is accepted. -/
def acceptDry (s : State) : State :=
  match s.whu.tank with
  | .draining => s.onWhu fun w => { w with drainOutMs := some 0 }
  | .filling => if s.csq.phase = .purge then s.leavePurge else s.addLevel
  | .empty | .heating | .ready =>
    match s.csq.phase with
    | .wash => (s.startFill s.fillKind).addHold .level
    | .held => (s.startFill s.fillKind).addHold .level
    | .purge => (s.onWhu fun w => { w with tank := .empty }).leavePurge
    | .idle | .armed | .rinseWait | .rinse | .dwell | .vent => (s.onWhu fun w => { w with tank := .empty }).armFill

/-- A code other than DRY is accepted: the drain-out timer stops (R13), and FULL ends a fill (R11). -/
def acceptWet (s : State) (code : LevelCode) : State :=
  let s := s.onWhu fun w => { w with drainOutMs := none }
  if code = .full then s.fillEnds else s

/-- A level code is accepted (R7): the implausible timer, the first recompute, the tank, the cycle and the drain pump; the
thermostats are evaluated at the end of the event. -/
def acceptLevel (s : State) (code : LevelCode) : State :=
  let first := s.whu.accepted.isNone
  let s := s.onWhu fun w =>
    { w with accepted := some code, implausibleLeft := if code = .implausible then some 2000 else none }
  let s := if first ∧ s.whu.tank = .empty then s.recomputeTank.armFill else s
  let s := if code = .dry then s.acceptDry else s.acceptWet code
  if s.csq.phase = .rinse ∨ s.csq.phase = .dwell then s.levelKeep code else s

end State

end Sys2Proof.Machine
end

