-- ==== Sys2Proof/Machine/Raise.lean ====
section
/-! DEFINITION. A raise of any class handed on to the machine (R39, R173, R179): the jobs' side of a LOCKOUT, and the effect
of a STOP on the cycle; and the sensor readings, whose faults are of every class (R18, R19). -/

namespace Sys2Proof.Machine

open Sys2Proof

namespace State

/-- The Cycle Sequencer's side of a LOCKOUT: PENDING is removed, rinse aid owed by a rinse in progress takes its rinse-end
step, and the cycle ends ABORTED_FAULT (R39, R106, R119). -/
def cycleLockout (s : State) : State :=
  let s := s.onCsq fun c => { c with waiting := none }
  let s := if s.csq.phase = .rinse then s.rinseEndStep else s
  s.endCycle .abortedFault

/-- The fault level has become LOCKOUT: every block acts (R179); the order among the blocks is a choice (log entry 12). -/
def enterLockout (s : State) : State :=
  (((((s.endAllClaims.waterLockout).channelLockout .det).channelLockout .ra).doorLockout).softenerLockout).cycleLockout

/-- A state in which a STOP raise ends the cycle (R39, R178). -/
def stopEnds (s : State) : Bool :=
  match s.csq.phase with
  | .armed | .wash | .held | .purge | .rinseWait => true
  | .idle | .rinse | .dwell | .vent => false

/-- The raise is handed on with the class its record now holds (R39, R173). -/
def handOn (s : State) (code : FaultCode) (detail : Nat) : State :=
  match s.faultRec code detail with
  | none => s
  | some r =>
    match r.cls with
    | .warning => s
    | .stop => if s.stopEnds then s.endCycle .abortedFault else s
    | .lockout => s.cycleLockout

/-- A raise (R173): the list takes it, and hands it on; a level that becomes LOCKOUT acts on every block (R179). -/
def raise (s : State) (code : FaultCode) (detail : Nat) (cls : FaultClass) : State :=
  match s.raiseList code detail cls with
  | (t, true) => if t.locked && !s.locked then t.enterLockout else t.handOn code detail
  | (t, false) => t

/-! ### The quiet window, the fill limit and the implausible timer (R6, R8, R11) -/

/-- The quiet window expires: the inlet closes with NO_FLOW, a rinse that held it is cut, INLET_NO_FLOW is raised and its
condition ends (R6, R36). -/
def stallInlet (s : State) : State :=
  let rinse := decide (s.whu.owner = some .rinse) && decide (s.csq.phase = .rinse) && !s.csq.rinse.cut
  let s := s.closeInlet .noFlow
  let s := if rinse then s.markCut else s
  (s.raise .inletNoFlow 0 .stop).endCondition .inletNoFlow 0

/-- The fill time reaches its limit (R11). -/
def limitFill (s : State) : State :=
  ((s.raise .tankFillTimeout 0 .stop).endCondition .tankFillTimeout 0).fillEnds

/-- IMPLAUSIBLE has stood for 2 s: it is raised, and a fill in progress ends (R8, R11). -/
def levelImplausible (s : State) : State := (s.raise .tankLevelImplausible 0 .stop).fillEnds

/-! ### Sensor readings (R12, R18, R19) -/

/-- A sensor record after a reading (R18), and whether the reading is the fifth bad one in a row. -/
def readSensor (x : Sensor) (t : Int) : Sensor × Bool :=
  if -100 ≤ t ∧ t ≤ 1250 then ({ last := some t, bad := 0, failed := false }, false)
  else if x.bad = 4 then ({ x with bad := 5, failed := true }, true)
  else ({ x with bad := min 5 (x.bad + 1) }, false)

/-- A reading is valid (R18). -/
def validReading (t : Int) : Bool := decide (-100 ≤ t) && decide (t ≤ 1250)

/-- A valid reading crosses its limit upwards, or is the first valid one (R19). -/
def crosses (previous : Option Int) (t limit : Int) : Bool :=
  decide (limit ≤ t) &&
    (match previous with
    | some p => decide (p < limit)
    | none => true)

/-- The over-temperature event of a valid reading (R19), or the end of its condition. -/
def overTemp (s : State) (code : FaultCode) (previous : Option Int) (t limit : Int) : State :=
  if crosses previous t limit then s.raise code 0 .lockout
  else if t < limit then s.endCondition code 0
  else s

/-- Readiness at a valid tank reading (R12); it asks for no more than the reading, so a record of SENSOR_TANK that waits for
its acknowledgement does not hold it up. -/
def tankReady (s : State) (t : Int) : State :=
  match s.whu.tank with
  | .heating => if s.tankTarget - 50 ≤ t then s.onWhu fun w => { w with tank := .ready } else s
  | .ready => if t < s.tankTarget - 80 then s.onWhu fun w => { w with tank := .heating } else s
  | .empty | .filling | .draining => s

/-- SENSOR_TANK is raised: a READY tank returns to HEATING (R12, R18). -/
def tankFailed (s : State) : State :=
  (if s.whu.tank = .ready then s.onWhu fun w => { w with tank := .heating } else s).raise .sensorTank 0 .stop

/-- A reading of the tank sensor (R12, R18, R19, R29). A valid one brings the setpoint into force first. DESIGN CHOICE (log
entry 59): a reading that raises TANK_OVERTEMP in WASH ends the cycle before the lowest temperature is updated, so it does
not enter the record. -/
def readTank (s : State) (t : Int) : State :=
  let previous := s.whu.tankSensor.last
  let r := readSensor s.whu.tankSensor t
  let s := s.onWhu fun w => { w with tankSensor := r.1 }
  if validReading t then
    let s := s.onWhu fun w => { w with tankSet := some s.tankSetpoint }
    let s := ((s.endCondition .sensorTank 0).overTemp .tankOvertemp previous t 850).tankReady t
    if s.csq.phase = .wash then s.onRecord fun x => { x with lowTemp := lowerOf x.lowTemp t } else s
  else if r.2 then s.tankFailed
  else s

/-- A reading of the booster sensor (R17 to R19, R34, R35, R40). A valid one brings the setpoint into force first. DESIGN
CHOICE (log entry 59): a reading that raises BOOSTER_OVERTEMP with the valve open for RINSE ends the cycle before the extremes
are updated, so it enters neither of them. -/
def readBooster (s : State) (t : Int) : State :=
  let previous := s.whu.boosterSensor.last
  let r := readSensor s.whu.boosterSensor t
  let s := s.onWhu fun w => { w with boosterSensor := r.1 }
  if validReading t then
    let s := s.onWhu fun w => { w with boosterSet := some s.boosterSetpoint }
    let s := ((s.endCondition .sensorBooster 0).overTemp .boosterOvertemp previous t 980).rinseHeat t
    if s.csq.phase = .rinse ∧ s.whu.phase = .opened ∧ s.whu.owner = some .rinse then
      s.onRecord fun x => { x with minTemp := lowerOf x.minTemp t, maxTemp := higherOf x.maxTemp t }
    else s
  else if r.2 then s.raise .sensorBooster 0 .stop
  else s

/-- A stage of the booster is energised. -/
def boosterOn (s : State) : Bool := s.boosterAOn || s.boosterBOn

/-- A sample of the FULL switch (R17): open releases both stages, and raises BOOSTER_DRY if one was energised before the
sample, as `wasOn` says. -/
def sampleBooster (s : State) (wasOn closed : Bool) : State :=
  let s := s.onWhu fun w => { w with boosterFull := some closed }
  if closed then s.endCondition .boosterDry 0
  else
    let s := (s.heatOff .boosterA).heatOff .boosterB
    if wasOn then s.raise .boosterDry 0 .stop else s

end State

end Sys2Proof.Machine
end

