-- ==== Sys2Proof/Machine/Vent.lean ====
section
/-! DEFINITION. The vent (07_door_drive_and_drying.md, R130 to R135), the accepted door indication (R123, R124, R126, R134),
the loss of the door module (R137), and the halt (R59, R135). -/

namespace Sys2Proof.Machine

open Sys2Proof

namespace State

/-! ### The end of a vent (R133, R134) -/

/-- The vent ends and reports to the Cycle Sequencer, which ends the cycle COMPLETE (R38, R133). -/
def reportVent (s : State) : State :=
  let v := s.dvc.vent
  let s := ((s.onDvc fun d => { d with fan := false }).release .ventFan).onVent fun v =>
    { v with step := .none, timerLeft := none, coolingLeft := none }
  if s.csq.phase = .vent then
    (s.onRecord fun r => { r with ventCut := r.ventCut || v.ventCut, doorBlocked := r.doorBlocked || v.doorBlocked }).endCycle
      .complete
  else s

/-- The vent ends at once with VENT_CUT; a MOVE still waiting is removed whatever became of its PUSH (R134). -/
def cutVent (s : State) : State := (s.abandonTask.withdrawMove.onVent fun v => { v with ventCut := true }).reportVent

/-! ### The steps (R130 to R133) -/

/-- FAN_WAIT: VENT_FAN is claimed (R133). -/
def waitFan (s : State) : State :=
  match (s.onVent fun v => { v with step := .fanWait }).claim .ventFan with
  | (s, .taken) => s
  | (s, .held) => if s.granted .ventFan then s.fanGranted else s
  | (s, .unfit) => s.cutVent
  | (s, .withheld) => s.cutVent
  | (s, .ignored) => s

/-- The wait in RETRACT is over (R132). -/
def afterRetract (s : State) : State :=
  if s.dvc.vent.closedByUser then s.cutVent
  else if s.dvc.vent.secs = 0 then s.reportVent
  else s.waitFan

/-- RETRACT: the vent waits for a retract that runs or starts, and else goes on (R132). -/
def ventRetract (s : State) : State :=
  let s := (s.onVent fun v => { v with step := .retract }).startRetract
  if s.retracting then s else s.afterRetract

/-- A PUSH of the vent ended without a MOVED, or was not made: FAN_ONLY (R131). -/
def fanOnly (s : State) : State := (s.onVent fun v => { v with fanOnly := true }).ventRetract

/-- PUSH (R131). -/
def ventPush (s : State) : State :=
  let s := s.onVent fun v => { v with step := .push }
  if s.hasFault .doorObstructed 0 then s.fanOnly
  else if s.dvc.door = .opened then s.ventRetract
  else
    match s.startPush .vent (min s.dvc.vent.pct (s.caps .door).maxPct) with
    | (s, true) => s.fanOnly
    | (s, false) => s

/-- VENT entry (R38, R130). -/
def enterVent (s : State) : State :=
  let s := (s.enterState .vent).onVent fun v =>
    { v with
      step := .unlatch, pct := s.recipe.ventPct, secs := s.recipe.ventS, ventCut := false, doorBlocked := false
      fanOnly := false, closedByUser := false, timerLeft := none, coolingLeft := none }
  let s := s.clearLatch
  if s.linked .door = false then s.cutVent
  else if s.dvc.releaseLeft.isNone then s.ventPush
  else s

/-- The dwell timer reaches dwell_s (R37). -/
def endDwell (s : State) : State :=
  let s := s.endCycleDrain
  if 0 < s.recipe.ventPct then s.enterVent else s.endCycle .complete

/-- The latch release timer expires (R126, R130). -/
def expireRelease (s : State) : State :=
  let s := (s.onDvc fun d => { d with releaseLeft := none }).warn .doorLatchFail 1
  if s.dvc.vent.step = .unlatch then s.cutVent else s

/-- A MOVED is taken (R127, R131). -/
def moved (s : State) (reached : Nat) (reason : Octet) : State :=
  if s.movedTaken then
    let step := s.dvc.vent.step
    let s := s.takeMoved reached reason
    if step = .push then
      (if min 100 reached < 5 then s.onVent fun v => { v with fanOnly := true } else s).ventRetract
    else s
  else s

/-- The pusher task ended without its message or home bit: a vent in PUSH goes on with the fan alone, one in RETRACT goes on
(R127, R131, R132). -/
def ventGoesOn (s : State) : State :=
  match s.dvc.vent.step with
  | .push => s.fanOnly
  | .retract => s.afterRetract
  | .none | .unlatch | .fanWait | .fan => s

/-- The retract time limit is reached (R129, R132). -/
def retractLimit (s : State) : State :=
  let s := s.limitRetract
  if s.dvc.vent.step = .retract then s.afterRetract else s

/-! ### Halt (R59, R135) -/

/-- The halt flag is set (R135): DOOR_OBSTRUCTED is raised, a PUSH whose MOVE is not delivered ends, a RETRACT ends with its
mark kept. -/
def haltDoor (s : State) : State :=
  let s := s.raise .doorObstructed 0 .stop
  match s.dvc.task with
  | .push _ _ .delivered => s
  | .push _ _ .claimed => s.abandonPush.ventGoesOn
  | .push _ _ .queued => s.abandonPush.ventGoesOn
  | .retract _ => s.breakRetract.ventGoesOn
  | .none => s

/-- The HALT bit of a frame (R59). -/
def readHalt (s : State) (asserted : Bool) : State :=
  if asserted then
    let t := s.onLba fun b => { b with halt := true, haltClearLeft := none, released := 0 }
    if s.lba.halt then t else t.haltDoor
  else if s.lba.halt ∧ s.lba.haltClearLeft = none then
    if s.lba.released = 0 then s.onLba fun b => { b with released := 1 }
    else s.onLba fun b => { b with released := 0, haltClearLeft := some 1000 }
  else s

/-- The halt clear timer ends: the flag and DOOR_OBSTRUCTED's condition end (R59, R135). -/
def clearHalt (s : State) : State :=
  (s.onLba fun b => { b with halt := false, haltClearLeft := none, released := 0 }).endCondition .doorObstructed 0

/-! ### Claims made unfit (R55, R127, R129, R133) -/

/-- DOOR_DRIVE was made unfit: a RETRACT waits for the next test of R129, that of the fit event among them. -/
def driveUnfit (s : State) : State :=
  match s.dvc.task with
  | .push .. => s.abandonPush.ventGoesOn
  | .retract _ => s.breakRetract.holdRetract.ventGoesOn
  | .none => s

/-- VENT_FAN was made unfit. -/
def fanUnfit (s : State) : State :=
  match s.dvc.vent.step with
  | .fanWait => s.cutVent
  | .fan => s.cutVent
  | .none | .unlatch | .push | .retract => s

/-- A claimant is told that its claim has ended as unfit (R55). -/
def toldEnded (s : State) (l : Load) : State :=
  match l with
  | .doorDrive => s.driveUnfit
  | .ventFan => s.fanUnfit
  | .valveMotor => s.valveUnfit
  | .doserDet => s.doserUnfit .det
  | .doserRa => s.doserUnfit .ra
  | .boosterA => s.onThermostat .boosterA fun t => { t with unfit := true }
  | .boosterB => s.onThermostat .boosterB fun t => { t with unfit := true }
  | .tankHeater => s.onThermostat .tankHeater fun t => { t with unfit := true }
  | .drainPump | .washPump | .rinsePump => s

/-- The claimants of a list of loads are told. -/
def tellEnded (s : State) (ls : List Load) : State := ls.foldl toldEnded s

/-- The wattages have changed from `before` (R57): the arbiter acts, the claimants are told, and a thermostat marked unfit
whose own wattage has changed claims once more (R16, R17). -/
def rewatt (before s : State) : State :=
  let r := wattsChanged before s
  retryHeats before (tellEnded r.1 r.2) (heaters.filter fun l => before.watts l ≠ s.watts l)

/-- A new mains_budget_w is taken (R58, R16). -/
def rebudget (s : State) : State :=
  let r := s.budgetSet
  let t := tellEnded r.1 r.2
  if t.lba.inForce = s.lba.inForce then t else retryHeats s t heaters

/-- The oldest settling entry ends (R49, R58, R16). -/
def endSettling (s : State) : State :=
  match s.settlingEnds with
  | (t, ended, true) => retryHeats s (tellEnded t ended) heaters
  | (t, ended, false) => tellEnded t ended

/-! ### The accepted door indication (R123, R124, R126, R134) -/

/-- The door record takes an octet: state, bits, opened flag, release timer, owed mark (R123, R124, R126, R129). -/
def recordDoor (s : State) (previous : Option Octet) (o : Octet) : State :=
  let b := doorBitsOf o
  s.onDvc fun d =>
    { d with
      door := doorStateOf o, bits := some b
      openedFlag := match doorStateOf o with
        | .ajar | .opened | .pushing | .blocked => true
        | .closed | .closedLatched | .unknown => d.openedFlag
      releaseLeft := if b.latch then d.releaseLeft else none
      owed := if b.home then false else d.owed || previous.isNone }

/-- An acceptance with pusher-home set ends a RETRACT (R129). -/
def homeRetract (s : State) (home : Bool) : State := if home ∧ s.retracting = true then s.abandonRetract else s

/-- An acceptance whose state is not BLOCKED and whose pusher-home bit is set ends DOOR_BLOCKED (R128). -/
def endBlocked (s : State) (home : Bool) : State :=
  if home ∧ s.dvc.door ≠ .blocked then s.endCondition .doorBlocked 0 else s

/-- LATCH is set in RINSE or DWELL and the latch is shown clear, the door not OPEN (R126). -/
def latchFails (s : State) : Bool :=
  s.dvc.latch && (decide (s.csq.phase = .rinse) || decide (s.csq.phase = .dwell)) &&
    decide (s.latchEngaged = some false) && decide (s.dvc.door ≠ .opened)

/-- The vent at an accepted octet (R130, R132, R134): `step` is its step before, `confirmed` says that the latch release is
confirmed by it, `retracted` that a RETRACT ended by it. -/
def ventDoor (s : State) (step : VentStep) (confirmed retracted : Bool) : State :=
  let shutByUser := decide (s.dvc.door = .closed) && !s.dvc.vent.fanOnly
  if s.dvc.vent.step ≠ step then s
  else
    match step with
    | .none => s
    | .unlatch => if confirmed then s.ventPush else s
    | .push => if shutByUser then s.onVent fun v => { v with closedByUser := true } else s
    | .retract =>
      let s := if shutByUser then s.onVent fun v => { v with closedByUser := true } else s
      if retracted then s.afterRetract else s
    | .fanWait => if shutByUser then s.cutVent else s
    | .fan => if shutByUser then s.cutVent else s

/-- The first acceptance after a SOFT reset that removed a record of DOOR_BLOCKED, or of DOOR_LATCH_FAIL with detail 1: it is
raised again if its condition is present (R138). -/
def recallDoor (s : State) (home : Bool) : State :=
  let blocked := s.dvc.blockedGone && !(home && decide (s.dvc.door ≠ .blocked)) && !s.hasFault .doorBlocked 0
  let latched := s.dvc.latchGone && decide (s.latchEngaged = some true) && !s.dvc.latch && !s.hasFault .doorLatchFail 1
  let s := s.onDvc fun d => { d with blockedGone := false, latchGone := false }
  let s := if blocked then s.warn .doorBlocked 0 else s
  if latched then s.warn .doorLatchFail 1 else s

/-- The Cycle Sequencer's latch tests at an accepted octet (R33). -/
def latchDoor (s : State) : State := if s.latchLost then s.raise .doorLatchFail 0 .stop else s.confirmLatch

/-- A door indication is accepted after the one given (R123). It is a wake cause before any fault it raises (R194). -/
def doorAccepted (s : State) (previous : Option Octet) (o : Octet) : State :=
  let home := (doorBitsOf o).home
  let step := s.dvc.vent.step
  let confirmed := s.dvc.releaseLeft.isSome && !(doorBitsOf o).latch
  let retracted := s.retracting && home
  let changed := decide (s.dvc.door ≠ doorStateOf o) || decide (s.dvc.bits ≠ some (doorBitsOf o))
  let s := ((((s.wake .door).recordDoor previous o).homeRetract home).endBlocked home).recallDoor home
  let s := if changed || retracted then s.noteDoor none else s
  let s := if s.latchFails then s.raise .doorLatchFail 0 .stop else s
  let s := s.ventDoor step confirmed retracted
  s.cycleDoor.latchDoor

/-! ### The door module lost (R137) -/

/-- The first part of the loss: a RETRACT ends with its mark kept, the record becomes UNKNOWN, one notice reports both, the
cycle takes the record, and an unconfirmed latch fails (R123, R129, R30, R33). -/
def doorUnknown (s : State) : State :=
  let changed := decide (s.dvc.door ≠ .unknown) || s.dvc.bits.isSome || s.retracting
  let s := if s.retracting then s.abandonRetract else s
  let s := s.onDvc fun d => { d with door := .unknown, bits := none, releaseLeft := none }
  let s := (if changed then s.noteDoor none else s).cycleDoor
  if s.csq.phase = .rinseWait ∧ s.csq.rinseWait.confirmed = false then s.raise .doorLatchFail 0 .stop else s

/-- The rest of the loss: the vent ends with VENT_CUT, any pusher task ends, FAN is cleared (R134, R137). -/
def doorGone (s : State) : State :=
  if s.dvc.vent.step = .none then (s.abandonTask.onDvc fun d => { d with fan := false }).release .ventFan
  else s.cutVent

/-! ### The vapour sensor (R18, R133) -/

/-- The cooling window at a valid vapour reading (R133). -/
def coolVent (s : State) (t : Int) : State :=
  if s.dvc.vent.step = .fan then
    s.onVent fun v =>
      { v with
        coolingLeft := if t ≤ s.val SettingIx.ventEnd then some (v.coolingLeft.getD 10000) else none }
  else s

/-- A reading of the vapour sensor (R18, R133). -/
def readVapour (s : State) (t : Int) : State :=
  let r := readSensor s.whu.vapourSensor t
  let s := s.onWhu fun w => { w with vapourSensor := r.1 }
  if validReading t then (s.endCondition .sensorVapour 0).coolVent t
  else if r.2 then (s.onVent fun v => { v with coolingLeft := none }).warn .sensorVapour 0
  else s

end State

end Sys2Proof.Machine
end

