-- ==== Sys2Proof/Machine/Supervisor.lean ====
section
/-! DEFINITION. The Module Supervisor (09_module_supervision.md): capability changes, links and losses, bring-up, CAPS, pins,
expected kinds, the line break (R157, R158) and the stuck line. -/

namespace Sys2Proof.Machine

open Sys2Proof

namespace State

/-! ### Capability changes (R165) -/

/-- Capability records may have changed from `before`: wattages and step sizes are taken by their readers (R57, R95). -/
def capsChange (before s : State) : State := clampCarries before (rewatt before s)

/-- The capability record of an entry is set (R165). -/
def setCaps (s : State) (a : Addr) (c : CapRecord) : State := capsChange s (s.onEntry a fun e => { e with caps := c })

/-! ### Owners of a kind (R147, R167) -/

/-- An address is the module of its kind, and the kind has an owner. -/
def owns (s : State) (a : Addr) : Bool :=
  decide (s.kindAt a ≠ .none) && decide (s.moduleOf (s.kindAt a) = some a)

/-- The first part of an owner's loss, taken before MODULE_LOST (R39, R137). -/
def ownerUnknown (s : State) : Kind → State
  | .door => s.doorUnknown
  | .none | .softener | .doseDet | .doseRa => s

/-- The rest of an owner's loss (R81, R117, R137). -/
def ownerGone (s : State) : Kind → State
  | .door => s.doorGone
  | .softener => s.softenerLost
  | .doseDet => s.channelLost .det
  | .doseRa => s.channelLost .ra
  | .none => s

/-- The owner of a kind takes the link of its module (R81); the starts of R107 and R129 are tested at the end of the event,
and R27 reads the link. -/
def ownerLinked (s : State) : Kind → State
  | .softener => s.softenerLinked
  | .none | .door | .doseDet | .doseRa => s

/-! ### Link states (R160, R162, R164, R167) -/

/-- A MODULE notice of an entry as it stands (R160, R187). -/
def noteModule (s : State) (a : Addr) (reported : Option Octet) : State :=
  s.place (.module a (s.kindAt a) (s.entry a).link reported)

/-- An entry's link state changes: its bay is cleared at a change to or from LINKED (R146). -/
def putLink (s : State) (a : Addr) (l : LinkState) : State :=
  let cross := s.linkedAt a != decide (l = .linked)
  let s := s.onEntry a fun e => { e with link := l }
  if cross then s.onBay a fun _ => { candidate := none, accepted := none } else s

/-- An entry's link state is set, with a MODULE notice if it changes. -/
def setLink (s : State) (a : Addr) (l : LinkState) (reported : Option Octet) : State :=
  if (s.entry a).link = l then s else (s.putLink a l).noteModule a reported

/-- The CAPS_QUERY of an entry that waits in the queue is removed, and is no longer wanted (R161, R162). DESIGN CHOICE (log entry
97): one that is being sent stays and ends by itself. -/
def withdrawQuery (s : State) (a : Addr) : State :=
  (s.onEntry a fun e => { e with wantQuery := false }).removeMsgs fun m =>
    decide (m.dest = a) && decide (m.source = .msu) && !m.sending

/-- An entry's bring-up starts afresh: COUNT with count 0, no answer timer, no query waiting (R162). -/
def restartBringUp (s : State) (a : Addr) : State :=
  (s.onEntry a fun e => { e with bringUp := .count 0, silent := 0, unpinLeft := none }).withdrawQuery a

/-- An entry returns to COUNT; a mismatch condition ends (R162). -/
def returnToCount (s : State) (a : Addr) : State := (s.restartBringUp a).endCondition .moduleMismatch a.val

/-- The class of MODULE_LOST for an address (R167). -/
def lossClass (s : State) (a : Addr) : FaultClass := if s.moduleOf .door = some a then .stop else .warning

/-- The silent count of an entry that leaves LINKED for a phase: a CAPS leaves it as it stands (R164), a return to COUNT
starts it again (log entry 40). -/
def silentAfter (s : State) (a : Addr) : BringUp → Nat
  | .mismatch => (s.entry a).silent
  | .count _ => 0
  | .query => 0
  | .answer _ => 0

/-- A LINKED entry leaves LINKED as a loss: its bring-up, its mark and its notice (R167). DESIGN CHOICE (log entry 75): a
CAPS_QUERY of an UNPIN that still waits, or is still wanted, is withdrawn. -/
def dropLink (s : State) (a : Addr) (l : LinkState) (phase : BringUp) (reported : Option Octet) : State :=
  ((s.restartBringUp a).onEntry a fun e =>
    { e with bringUp := phase, silent := s.silentAfter a phase, lossMark := true, linkMfault := none }).setLink a l reported

/-- What the loss of an entry brings: MODULE_FAULT's condition ends, the owner takes the loss, MODULE_LOST is raised
(R167). -/
def takeLoss (s : State) (a : Addr) : State :=
  let kind := s.kindAt a
  let owner := s.owns a
  let s := s.endCondition .moduleFault a.val
  let s := if owner then s.ownerUnknown kind else s
  let s := s.raise .moduleLost a.val (s.lossClass a)
  if owner then s.ownerGone kind else s

/-- One entry is lost (R167). -/
def lose (s : State) (a : Addr) (l : LinkState) (phase : BringUp) (reported : Option Octet) : State :=
  (s.dropLink a l phase reported).takeLoss a

/-- An entry becomes LINKED (R164): the loss mark clears, the channel may choose its messages (R154), the owner takes the
link. DESIGN CHOICE (log entry 67): the bring-up phase, which the spec moves in SEEKING and LOST alone, stands at COUNT 0 while
LINKED and is reported so. DESIGN CHOICE (log entry 112): a query that a full queue refused is no longer wanted. -/
def link (s : State) (a : Addr) : State :=
  let s := (s.onEntry a fun e =>
    { e with
      bringUp := .count 0, lossMark := false, unpinLeft := none, wantQuery := false, linkMfault := none }).setLink a .linked none
  let s := (s.endCondition .moduleLost a.val).choose
  if s.owns a then s.ownerLinked (s.kindAt a) else s

/-! ### Bring-up (R162) -/

/-- The CAPS_QUERY of an entry is enqueued and its phase is QUERY (R162). -/
def bringUpQuery (s : State) (a : Addr) : State :=
  (s.onEntry a fun e => { e with bringUp := .query, silent := 0 }).askQuery a

/-- A bad bay in QUERY, ANSWER or MISMATCH: the silent count rises, and at 16 the entry returns to COUNT (R162). -/
def silentBay (s : State) (a : Addr) : State :=
  if Config.silentLimit ≤ (s.entry a).silent + 1 then s.returnToCount a
  else s.onEntry a fun e => { e with silent := e.silent + 1 }

/-- A bad bay of an entry that is being brought up (R162). -/
def missBay (s : State) (a : Addr) : State :=
  match (s.entry a).bringUp with
  | .count _ => s.onEntry a fun e => { e with bringUp := .count 0 }
  | .query => s.silentBay a
  | .answer _ => s.silentBay a
  | .mismatch => s.silentBay a

/-- A good bay of an entry that is being brought up (R162). -/
def seeBay (s : State) (a : Addr) (ready : Bool) : State :=
  match (s.entry a).bringUp, ready with
  | .count n, true =>
    if 8 ≤ n + 1 then s.bringUpQuery a else s.onEntry a fun e => { e with bringUp := .count (n + 1) }
  | .count _, false => s.onEntry a fun e => { e with bringUp := .count 0 }
  | .query, true => s.onEntry a fun e => { e with silent := 0 }
  | .answer _, true => s.onEntry a fun e => { e with silent := 0 }
  | .mismatch, true => s.onEntry a fun e => { e with silent := 0 }
  | .query, false => s.returnToCount a
  | .answer _, false => s.returnToCount a
  | .mismatch, false => s.returnToCount a

/-- The answer timer of an entry expires (R162), or that of an UNPIN's query (R166). -/
def expireAnswer (s : State) (a : Addr) : State :=
  match (s.entry a).link, (s.entry a).bringUp with
  | .linked, _ => s.onEntry a fun e => { e with unpinLeft := none }
  | .seeking, .answer _ => s.returnToCount a
  | .lost, .answer _ => s.returnToCount a
  | _, _ => s

/-- One frame of the answer timers of an entry (R162, R166). -/
def countAnswer (s : State) (a : Addr) : State :=
  match (s.entry a).bringUp, (s.entry a).unpinLeft with
  | .answer n, _ =>
    if n ≤ 1 then s.expireAnswer a else s.onEntry a fun e => { e with bringUp := .answer (n - 1) }
  | _, some n =>
    if n ≤ 1 then s.expireAnswer a else s.onEntry a fun e => { e with unpinLeft := some (n - 1) }
  | _, none => s

/-- A LINKED entry stays silent to the limit, or an entry being brought up does (R162, R167). -/
def silentLimit (s : State) (a : Addr) : State :=
  match (s.entry a).link, (s.entry a).bringUp with
  | .linked, _ => s.lose a .lost (.count 0) none
  | .notExpected, _ => s
  | .seeking, .count _ => s
  | .lost, .count _ => s
  | .seeking, _ => s.returnToCount a
  | .lost, _ => s.returnToCount a

/-- MFAULT of a good bay of a LINKED entry (R168). -/
def readMfault (s : State) (a : Addr) (mfault : Bool) : State :=
  let raises := mfault && decide ((s.entry a).linkMfault ≠ some true)
  let s := s.onEntry a fun e => { e with linkMfault := some mfault }
  if raises then s.warn .moduleFault a.val
  else if mfault then s
  else s.endCondition .moduleFault a.val

/-- The frame-end report of a good bay (R147, R162, R167, R168). -/
def goodBay (s : State) (a : Addr) (b : StatusBits) : State :=
  let s := s.onEntry a fun e => { e with status := some b }
  match (s.entry a).link with
  | .notExpected => s
  | .seeking => (s.seeBay a b.ready).countAnswer a
  | .lost => (s.seeBay a b.ready).countAnswer a
  | .linked =>
    if b.ready then ((s.onEntry a fun e => { e with silent := 0 }).readMfault a b.mfault).countAnswer a
    else s.lose a .lost (.count 0) none

/-- The frame-end report of a bad bay (R143, R162, R167, R168). -/
def badBay (s : State) (a : Addr) : State :=
  let s := s.onEntry a fun e => { e with bayErrors := satAdd 65535 e.bayErrors 1 }
  match (s.entry a).link with
  | .notExpected => s
  | .seeking => (s.missBay a).countAnswer a
  | .lost => (s.missBay a).countAnswer a
  | .linked =>
    if Config.silentLimit ≤ (s.entry a).silent + 1 then s.lose a .lost (.count 0) none
    else (s.onEntry a fun e => { e with silent := e.silent + 1 }).countAnswer a

/-! ### CAPS (R163, R164) -/

/-- An invalid CAPS is a mismatch (R164); the entry is not queried again, so a query still wanted or waiting is withdrawn. -/
def mismatch (s : State) (a : Addr) (reported : Octet) : State :=
  match (s.entry a).link with
  | .linked => (s.warn .moduleMismatch a.val).lose a .seeking .mismatch (some reported)
  | .notExpected | .seeking | .lost =>
    (((s.warn .moduleMismatch a.val).withdrawQuery a).onEntry a fun e => { e with bringUp := .mismatch }).setLink a
      .seeking (some reported)

/-- A valid CAPS is taken (R164, R165): the record first, unless it is pinned, then the link. -/
def takeCaps (s : State) (a : Addr) (c : CapRecord) : State :=
  let s := if (s.entry a).pinned then s else s.setCaps a c
  if s.linkedAt a then s.onEntry a fun e => { e with unpinLeft := none } else s.link a

/-- A CAPS is taken for the entry (R164). -/
def takesCaps (s : State) (a : Addr) : Bool :=
  match (s.entry a).link, (s.entry a).bringUp with
  | .linked, _ => true
  | .notExpected, _ => false
  | _, .query => true
  | _, .answer _ => true
  | _, .count _ => false
  | _, .mismatch => false

/-- The record a CAPS body carries, if it is valid for the kind (R163, R164). -/
def readCaps (kind : Kind) (body : Vector Octet 6) : Option CapRecord :=
  if (body.get 0).toNat = kind.code then
    (CapFields.read kind [body.get 2, body.get 3, body.get 4, body.get 5]).map fun f =>
      { fields := f, revision := (body.get 1).toNat }
  else none

/-- A CAPS message is delivered (R164). -/
def capsMessage (s : State) (a : Addr) (body : Vector Octet 6) : State :=
  if s.takesCaps a then
    match readCaps (s.kindAt a) body with
    | some c => s.takeCaps a c
    | none => s.mismatch a (body.get 0)
  else s

/-! ### Pins (R166) and counters (R170) -/

/-- The address of an octet. -/
def addrOf (o : Octet) : Option Addr := if h : o.toNat < 8 then some ⟨o.toNat, h⟩ else none

/-- The MODULE PIN request after the LOCKOUT test (R166). -/
def pinRequest (s : State) (address : Octet) (fields : List Octet) : State × Status :=
  match addrOf address with
  | none => (s, .outOfRange)
  | some a =>
    if s.kindAt a = .none then (s, .notNow)
    else
      match CapFields.read (s.kindAt a) fields with
      | none => (s, .outOfRange)
      | some f =>
        ((s.setCaps a { fields := f, revision := (s.entry a).caps.revision }).onEntry a fun e => { e with pinned := true },
          .ok)

/-- The MODULE UNPIN request after the LOCKOUT test (R166). -/
def unpinRequest (s : State) (address : Octet) : State × Status :=
  match addrOf address with
  | none => (s, .outOfRange)
  | some a =>
    if (s.entry a).pinned then
      let s := s.onEntry a fun e => { e with pinned := false }
      (if s.linkedAt a then s.askQuery a else s.setCaps a (defaultCaps (s.kindAt a)), .ok)
    else (s, .ok)

/-- The three counts of an entry are set to 0 (R170). -/
def clearCounts (s : State) (a : Addr) : State :=
  s.onEntry a fun e => { e with bayErrors := 0, msgAborts := 0, grantLapses := 0 }

/-- The MODULE CLEAR_COUNTERS request after the LOCKOUT test (R170). -/
def clearRequest (s : State) (address : Octet) : State × Status :=
  if address = 0xFF#8 then (allAddrs.foldl clearCounts s, .ok)
  else
    match addrOf address with
    | none => (s, .outOfRange)
    | some a => (s.clearCounts a, .ok)

/-- msg_aborts of an address rises by 1 (R168). -/
def countAbort (s : State) (a : Addr) : State :=
  s.onEntry a fun e => { e with msgAborts := satAdd 65535 e.msgAborts 1 }

/-! ### Expected kinds (R161) -/

/-- The kinds that have an owner. -/
def ownedKinds : List Kind := [.door, .softener, .doseDet, .doseRa]

/-- After a change of expected kinds from `before`, a kind whose module was LINKED and is another one now, or is LINKED no
more, is lost to its owner; one whose module is LINKED now is linked (R161). For the door, an owed retract is tested again
(R129). DESIGN CHOICE (log entry 81): the bay of a module that was LINKED before keeps its accepted octet, so the next one
accepted there is not the first after a link. -/
def rehome (before s : State) (kind : Kind) : State :=
  let same := decide (before.moduleOf kind = s.moduleOf kind) && (before.linked kind == s.linked kind)
  if same then s
  else
    let s := if before.linked kind then (s.ownerUnknown kind).ownerGone kind else s
    let s := if kind = .door then s.freeRetract else s
    if s.linked kind then s.ownerLinked kind else s

/-- A new expected kind is taken for an address (R161). -/
def takeKind (s : State) (a : Addr) (code : Int) : State :=
  let kind := Kind.ofCode code.toNat
  let l : LinkState := if kind = .none then .notExpected else .seeking
  let changes := decide ((s.entry a).link ≠ l)
  let t := (s.returnToCount a).putLink a l
  let t := (t.onEntry a fun e =>
    { e with
      pinned := false, caps := defaultCaps kind, linkMfault := none }).endCondition .moduleFault a.val
  let t := { t with settings := t.settings.set (kindIx a).val code (kindIx a).isLt }
  let t := if changes then t.noteModule a none else t
  capsChange s (ownedKinds.foldl (rehome s) t)

/-! ### The line break (R157, R158, R162, R167) -/

/-- MBI's part of a line break (R157, R158), and the halt clear timer (R59). -/
def stopLine (s : State) : State :=
  (s.onMbi fun m =>
    { m with
      line := .brk 8, dn := Vector.replicate 24 0#8, queue := [], down := DownChan.reset, grant := none, up := UpChan.reset
      bays := Vector.replicate 8 { candidate := none, accepted := none } }).onLba fun b =>
    { b with haltClearLeft := none, released := 0 }

/-- One entry at a line break, or at BUS_STUCK: a LINKED one leaves LINKED as a loss, another starts its bring-up afresh;
both take the link state given (R162, R167, R169). -/
def unlink (l : LinkState) (s : State) (a : Addr) : State :=
  match (s.entry a).link with
  | .linked => s.dropLink a l (.count 0) none
  | .notExpected => s
  | .seeking => (s.returnToCount a).setLink a l none
  | .lost => (s.returnToCount a).setLink a l none

/-- Every expected entry takes the link state given, and then the losses are taken in the order of the addresses (R158,
R167, R169). -/
def unlinkAll (s : State) (l : LinkState) : State :=
  (allAddrs.filter s.linkedAt).foldl takeLoss (allAddrs.foldl (unlink l) s)

/-- A line break ordered by MODULE BUS_RESET or by stuck-line recovery (R157, R158): a MOVE dropped from the queue is a MOVED
of reason GO_LOST; a dropped dose order is taken with the loss of its module. The entries take the link state given. -/
def breakLine (s : State) (l : LinkState) : State :=
  let dropped := s.mbi.queue.any fun m => decide (m.source = .dvc)
  let s := s.stopLine
  (if dropped then s.moved s.dvc.lastReached 2#8 else s).unlinkAll l

/-- A line break that MSU did not order ends WATCH, and in STUCK restarts the count (R169). -/
def foreignBreak (s : State) : State :=
  s.onMsu fun m =>
    match m.watch with
    | .off => m
    | .watch _ => { m with watch := .off, stuckCount := 0 }
    | .stuck _ good => { m with watch := .stuck 2500 good }

/-- MODULE BUS_RESET (R157, R170). -/
def busReset (s : State) : State := (s.breakLine .seeking).foreignBreak

/-! ### The stuck line (R169) -/

/-- The sixteenth all-zero frame: a line break, and WATCH begins. -/
def watchLine (s : State) : State :=
  (s.breakLine .seeking).onMsu fun m => { m with stuckCount := 0, watch := .watch 0 }

/-- The sixty-fourth all-zero frame in WATCH: BUS_STUCK. -/
def setStuck (s : State) : State :=
  ((s.raise .busStuck 0 .stop).unlinkAll .lost).onMsu fun m => { m with watch := .stuck 2500 0 }

/-- The countdown in STUCK ends: another line break, the entries staying LOST. -/
def rebreakLine (s : State) : State :=
  (s.breakLine .lost).onMsu fun m =>
    { m with
      watch := match m.watch with
        | .stuck _ good => .stuck 2500 good
        | .off => .off
        | .watch n => .watch n }

/-- The sixteenth frame in STUCK that is not all zero: BUS_STUCK ends. -/
def clearStuck (s : State) : State :=
  (s.onMsu fun m => { m with watch := .off, stuckCount := 0 }).endCondition .busStuck 0

/-- The stuck watch at a frame end (R169). DESIGN CHOICE (log entry 74): a frame in STUCK that is the sixteenth not all zero ends
BUS_STUCK, and orders no line break if the countdown ends in it too. -/
def watchFrame (s : State) (zero : Bool) : State :=
  match s.msu.watch with
  | .off =>
    if zero then
      if 16 ≤ s.msu.stuckCount + 1 then s.watchLine
      else s.onMsu fun m => { m with stuckCount := m.stuckCount + 1 }
    else s.onMsu fun m => { m with stuckCount := 0 }
  | .watch n =>
    if zero then
      if 64 ≤ n + 1 then s.setStuck else s.onMsu fun m => { m with watch := .watch (n + 1) }
    else s.onMsu fun m => { m with watch := .off, stuckCount := 0 }
  | .stuck toNext good =>
    if !zero && decide (16 ≤ good + 1) then s.clearStuck
    else
      let good := if zero then 0 else good + 1
      if toNext ≤ 1 then (s.onMsu fun m => { m with watch := .stuck 0 good }).rebreakLine
      else s.onMsu fun m => { m with watch := .stuck (toNext - 1) good }

end State

end Sys2Proof.Machine
end

