-- ==== Sys2Proof/Machine/Frame.lean ====
section
/-! DEFINITION. The Module Bus Interface (08_module_bus.md): building a frame, and taking the end of one: the bays and their
double-look, the two message channels, the upstream grant. -/

namespace Sys2Proof.Machine

open Sys2Proof

/-! ### Building a frame (R141, R142, R144) -/

/-- The bits of an octet from bit 7 down, as far as they are named; the rest is 0. -/
def octetOf (b7 b6 b5 b4 : Bool) : Octet :=
  BitVec.ofNat 8 (128 * b7.toNat + 64 * b6.toNat + 32 * b5.toNat + 16 * b4.toNat)

/-- The motor load that gives a kind its GO bit (R60). -/
def motorOf : Kind → Option Load
  | .door => some .doorDrive
  | .softener => some .valveMotor
  | .doseDet => some .doserDet
  | .doseRa => some .doserRa
  | .none => none

namespace State

/-- The GO bit of a kind (R60). -/
def go (s : State) (kind : Kind) : Bool :=
  match motorOf kind with
  | some l => s.granted l && !s.lba.halt
  | none => false

/-- The FAN bit (R60). -/
def fanBit (s : State) : Bool := s.dvc.fan && s.granted .ventFan

/-- The softener command octet (R74, R76, R144). -/
def softenerOctet (s : State) : Octet :=
  let state := (s.regenColumn.map fun c => (s.column c).state).getD .service
  let run := !s.regenPaused
  octetOf (run && decide (state = .regenBrine)) (run && state.regen) (run && decide (state = .regenFast))
    (decide (s.sfc.serve = .b))

/-- The command octet of a kind (R144). -/
def commandOctet (s : State) : Kind → Octet
  | .none => 0#8
  | .door => octetOf s.dvc.latch s.fanBit s.dvc.retract false
  | .softener => s.softenerOctet
  | .doseDet => octetOf s.dsc.det.stop false false false
  | .doseRa => octetOf s.dsc.ra.stop false false false

/-- A bay of the DN frame: command and flags (R141, R142). -/
def dnBay (s : State) (a : Addr) : List Octet :=
  let c := s.commandOctet (s.kindAt a)
  let flags := octetOf (s.go (s.kindAt a)) (s.linkedAt a) false false
  [c, flags ||| BitVec.ofNat 8 (crc4 c flags)]

/-- The grant octet of DN slot 16 (R141). -/
def grantOctet (s : State) : Octet :=
  match s.mbi.grant with
  | some g => BitVec.ofNat 8 (g.owner.val * 32 + 16)
  | none => 0#8

/-- TGL of an octet of a message: 1 for the header, changing at each further one (R149). -/
def tglOf (index : Nat) : Bool := index % 2 == 0

/-- DN slot 18: destination, MSG, TGL (R141). -/
def controlOctet (dest : Addr) (msg tgl : Bool) : Octet :=
  BitVec.ofNat 8 (dest.val * 32 + 16 * msg.toNat + 8 * tgl.toNat)

/-- DN slots 17 and 18 (R150). -/
def dnMessage (s : State) : List Octet :=
  match s.mbi.down.phase, s.sendingMsg with
  | .idle, _ => [0#8, 0#8]
  | _, none => [0#8, 0#8]
  | .prepare, some m => [0#8, controlOctet m.dest false false]
  | .present i, some m => [(m.body.octets[i]?).getD 0#8, controlOctet m.dest true (tglOf i)]
  | .closing _, some m => [0#8, controlOctet m.dest false (tglOf (m.body.octets.length - 1))]

/-- The DN octets of a frame of the number given (R141, R142). -/
def dnOctets (s : State) (number : Nat) : List Octet :=
  let tail := s.grantOctet :: s.dnMessage ++
    [0#8, 0#8, octetOf s.mbi.up.echo s.mbi.up.stop false false, BitVec.ofNat 8 number]
  (allAddrs.foldr (fun a os => s.dnBay a ++ os) []) ++ tail ++ [BitVec.ofNat 8 (crc8 tail)]

/-- A list as the 24 octets of a frame. -/
def frameOf (os : List Octet) : Vector Octet 24 :=
  let at' : Nat → Octet := fun i => (os[i]?).getD 0#8
  #v[at' 0, at' 1, at' 2, at' 3, at' 4, at' 5, at' 6, at' 7, at' 8, at' 9, at' 10, at' 11, at' 12, at' 13, at' 14, at' 15,
    at' 16, at' 17, at' 18, at' 19, at' 20, at' 21, at' 22, at' 23]

/-- The next frame is built (R140); the downstream phase now shows on the line (R150). -/
def buildFrame (s : State) (number : Nat) : State :=
  let dn := frameOf (s.dnOctets number)
  s.onMbi fun m => { m with frameNo := number, dn := dn, down := { m.down with shown := true } }

/-! ### Bays and double-look (R143, R146) -/

/-- UP bay of an address: its octets, and whether its CRC-4 matches (R143). -/
def bayOctets (up : UpFrame) (a : Addr) : Octet × Octet :=
  (up.get ⟨2 * a.val, by omega⟩, up.get ⟨2 * a.val + 1, by omega⟩)

/-- A bay is good (R143). -/
def bayGood (up : UpFrame) (a : Addr) : Bool :=
  (bayOctets up a).2.toNat % 16 == crc4 (bayOctets up a).1 (bayOctets up a).2

/-- The status bits of a bay (R141). -/
def bayStatus (up : UpFrame) (a : Addr) : StatusBits :=
  let o := (bayOctets up a).2
  { ready := o.getLsbD 7, mfault := o.getLsbD 6, orderBusy := o.getLsbD 5 }

/-- An accepted octet goes to the owner of the kind while the address is LINKED and is the kind's module (R145, R146). -/
def deliverOctet (s : State) (a : Addr) (previous : Option Octet) (o : Octet) : State :=
  if s.linkedAt a && s.owns a then
    match s.kindAt a with
    | .door => s.doorAccepted previous o
    | .softener => s.softenerAccepted previous o
    | .doseDet => s
    | .doseRa => s
    | .none => s
  else s

/-- Double-look of a good bay (R146). -/
def lookBay (s : State) (a : Addr) (o : Octet) : State :=
  let b := s.bay a
  if b.accepted = some o then s.onBay a fun b => { b with candidate := none }
  else
    let again :=
      match b.candidate with
      | some (c, n) => decide (c = o) && decide ((n + 1) % 256 = s.mbi.frameNo)
      | none => false
    if again then (s.onBay a fun _ => { candidate := none, accepted := some o }).deliverOctet a b.accepted o
    else s.onBay a fun b => { b with candidate := some (o, s.mbi.frameNo) }

/-- One bay at a frame end (R143, R146, R147). DESIGN CHOICE (log entry 87): the acceptance acts before the status bits, so an
octet accepted in the frame whose READY 0 loses the link still reaches its owner. -/
def takeBay (up : UpFrame) (s : State) (a : Addr) : State :=
  if bayGood up a then (s.lookBay a (bayOctets up a).1).goodBay a (bayStatus up a)
  else (s.onBay a fun b => { b with candidate := none }).badBay a

/-- Every bay at a frame end. -/
def takeBays (s : State) (up : UpFrame) : State := allAddrs.foldl (takeBay up) s

/-! ### The downstream channel (R150, R151) -/

/-- A message has been delivered: its enqueuer is told (R127, R150, R162, R166). DESIGN CHOICE (log entry 76): the end of a
CAPS_QUERY whose entry has left QUERY changes nothing. DESIGN CHOICE (log entry 108): a MOVE names no PUSH, so one left in the
queue by a MOVED (R127) counts for the PUSH that stands. -/
def toldDelivered (s : State) (m : DownMsg) : State :=
  match m.source with
  | .dsc _ => s
  | .dvc =>
    match s.dvc.task with
    | .push origin target .queued => s.onDvc fun d => { d with task := .push origin target .delivered }
    | .push _ _ .claimed => s
    | .push _ _ .delivered => s
    | .retract _ => s
    | .none => s
  | .msu =>
    match (s.entry m.dest).link, (s.entry m.dest).bringUp with
    | .linked, _ => s.onEntry m.dest fun e => { e with unpinLeft := some 250 }
    | _, .query => s.onEntry m.dest fun e => { e with bringUp := .answer 250 }
    | _, .count _ => s
    | _, .answer _ => s
    | _, .mismatch => s

/-- The message being sent is delivered and leaves the queue (R150). -/
def deliverDown (s : State) : State :=
  match s.sendingMsg with
  | some m => (s.dropSending.toldDelivered m).dequeued
  | none => s

/-- An abandoned message is reported to its enqueuer (R151, R162; log entries 76 and 108). -/
def toldAbandoned (s : State) (m : DownMsg) : State :=
  match m.source, m.body with
  | .dsc c, .dose tag _ => s.takeDone c tag 0 3#8
  | .dsc c, .prime tag _ => s.takeDone c tag 0 3#8
  | .dsc _, .move _ => s
  | .dsc _, .capsQuery => s
  | .dvc, _ => s.moved s.dvc.lastReached 2#8
  | .msu, _ => if (s.entry m.dest).bringUp = .query then s.returnToCount m.dest else s

/-- The message being sent is abandoned (R151). -/
def abandonDown (s : State) : State :=
  match s.sendingMsg with
  | some m => ((s.dropSending.countAbort m.dest).toldAbandoned m).dequeued
  | none => s

/-- The channel moves to a phase; it shows from the next frame built (R150). -/
def downPhase (s : State) (p : DownPhase) : State :=
  s.onMbi fun m => { m with down := { DownChan.reset with phase := p } }

/-- A frame in PREPARE or PRESENT that brings no move: the counts of STOP and of no progress (R151). -/
def downWaits (s : State) (good stop : Bool) : State :=
  let seen := if good && stop then s.mbi.down.stopSeen + 1 else 0
  if 2 ≤ seen ∨ Config.progressLimit ≤ s.mbi.down.noProgress + 1 then s.abandonDown
  else s.onMbi fun m => { m with down := { m.down with stopSeen := seen, noProgress := m.down.noProgress + 1 } }

/-- The downstream channel at the end of a frame that carried its phase (R150, R151). DESIGN CHOICE (log entry 65): a frame
that brings the move and would be the fiftieth without progress makes the move. -/
def downFrame (s : State) (up : UpFrame) : State :=
  match s.mbi.down.phase, s.sendingMsg with
  | .idle, _ => s
  | _, none => s
  | .prepare, some m =>
    if good m && !stop && !echo then s.downPhase (.present 0) else s.downWaits (good m) stop
  | .present i, some m =>
    if good m && !stop && (echo == tglOf i) then
      (if i + 1 < m.body.octets.length then s.downPhase (.present (i + 1)) else s.downPhase (.closing 0))
    else s.downWaits (good m) stop
  | .closing n, some m =>
    if good m && decide (2 ≤ n + 1) then s.deliverDown
    else if Config.progressLimit ≤ s.mbi.down.closingFrames + 1 then s.deliverDown
    else
      s.onMbi fun x =>
        { x with
          down := { x.down with
            phase := .closing (if good m then n + 1 else 0), closingFrames := x.down.closingFrames + 1 } }
where
  /-- The frame is good for the part as sender (R149). -/
  good (m : DownMsg) : Bool := bayGood up m.dest
  /-- ECHO of UP slot 21. -/
  echo : Bool := (up.get 21).getLsbD 7
  /-- STOP of UP slot 21. -/
  stop : Bool := (up.get 21).getLsbD 6

/-! ### The upstream channel (R149, R152, R153, R155) -/

/-- A header that the part accepts: one of the three upstream kinds with its length (R153). -/
def headerTaken (h : Octet) : Bool := decide (h = 0x86#8) || decide (h = 0x94#8) || decide (h = 0xA2#8)

/-- Body length of a header (R148). -/
def bodyLength (h : Octet) : Nat := h.toNat % 16

/-- The frame is good for the part as receiver (R149). -/
def upGood (up : UpFrame) (owner : Addr) : Bool :=
  decide ((up.get 23).toNat = crc8 [up.get 19, up.get 20]) && decide (addrField (up.get 20) = owner)

/-- The grant ends and the upstream channel is cleared (R152, R155). -/
def endGrant (s : State) : State := s.onMbi fun m => { m with grant := none, up := UpChan.reset }

/-- A DONE message is taken for the channel whose module has the address (R109, R153). -/
def doneMessage (s : State) (a : Addr) (tag : Octet) (delivered : Nat) (reason : Octet) : State :=
  if s.moduleOf .doseDet = some a then s.takeDone .det tag delivered reason
  else if s.moduleOf .doseRa = some a then s.takeDone .ra tag delivered reason
  else s

/-- A MOVED message is taken if the address is the door module's (R127, R153). -/
def movedMessage (s : State) (a : Addr) (reached : Nat) (reason : Octet) : State :=
  if s.moduleOf .door = some a then s.moved reached reason else s

/-- A complete upstream message goes to its receiver (R153). -/
def deliverUp (s : State) (from' : Addr) (os : List Octet) : State :=
  match os with
  | [0x86#8, o0, o1, o2, o3, o4, o5] => s.capsMessage from' #v[o0, o1, o2, o3, o4, o5]
  | [0x94#8, tag, hi, lo, reason] => s.doneMessage from' tag (d2 hi lo) reason
  | [0xA2#8, reached, reason] => s.movedMessage from' reached.toNat reason
  | _ => s

/-- The message of the grant's owner ends after two good frames of MSG 0 (R152): delivered if complete and not refused,
else discarded and counted. -/
def finishUp (s : State) (owner : Addr) : State :=
  let os := s.mbi.up.taken
  let whole := decide (os.length = 1 + bodyLength (os.headD 0#8)) && !s.mbi.up.stop
  let s := s.endGrant
  if whole then s.deliverUp owner os else s.countAbort owner

/-- The upstream message is abandoned (R152). -/
def abandonUp (s : State) : State :=
  match s.mbi.grant with
  | some g => s.endGrant.countAbort g.owner
  | none => s

/-- The grant is withdrawn after ten frames (R155, R168). -/
def withdrawGrant (s : State) : State :=
  match s.mbi.grant with
  | some g => s.endGrant.onEntry g.owner fun e => { e with grantLapses := satAdd 255 e.grantLapses 1 }
  | none => s

/-- An octet is taken at its second look (R152); a header is tested (R153), and a refusal counted (R168). -/
def takeUpOctet (s : State) (owner : Addr) (o : Octet) (tgl : Bool) : State :=
  let u := s.mbi.up
  match u.taken with
  | [] =>
    let s := s.onMbi fun m =>
      { m with up := { m.up with taken := [o], echo := tgl, noProgress := 0, stop := !headerTaken o } }
    if headerTaken o then s else s.countAbort owner
  | h :: _ =>
    if 1 + bodyLength h < u.taken.length + 1 then s.onMbi fun m => { m with up := { m.up with stop := true } }
    else s.onMbi fun m => { m with up := { m.up with taken := m.up.taken ++ [o], echo := tgl, noProgress := 0 } }

/-- A look that takes an octet: the second of two good frames with the same MSG 1, data and TGL, with TGL differing from
ECHO and STOP at 0 (R152). -/
def takesOctet (u : UpChan) (l : Look) : Bool :=
  l.msg && decide (u.look = some l) && (l.tgl != u.echo) && !u.stop

/-- The look of a good frame (R152). -/
def lookOf (up : UpFrame) : Look :=
  { msg := (up.get 20).getLsbD 4, data := up.get 19, tgl := (up.get 20).getLsbD 3 }

/-- A good frame at the upstream channel: the octet it completes, and its look (R152). -/
def goodUpFrame (s : State) (owner : Addr) (l : Look) : State :=
  let s := if takesOctet s.mbi.up l then s.takeUpOctet owner l.data l.tgl else s
  s.onMbi fun m => { m with up := { m.up with look := some l, msgZero := if l.msg then 0 else m.up.msgZero + 1 } }

/-- The upstream channel and its grant at a frame end that carried the grant (R152, R155). DESIGN CHOICE (log entry 66): a
frame that takes an octet, or ends the message, and would be the fiftieth without progress does so, and the message is not
abandoned. -/
def upFrame (s : State) (up : UpFrame) (g : Grant) : State :=
  let good := upGood up g.owner
  let l := lookOf up
  let seen := g.msgSeen || (good && l.msg)
  let s := s.onMbi fun m =>
    { m with
      grant := some { g with frames := g.frames + 1, msgSeen := seen }
      up := { m.up with noProgress := if seen then m.up.noProgress + 1 else m.up.noProgress } }
  let s :=
    if good then s.goodUpFrame g.owner l
    else s.onMbi fun m => { m with up := { m.up with look := none, msgZero := 0 } }
  if 2 ≤ s.mbi.up.msgZero ∧ s.mbi.up.taken ≠ [] then s.finishUp g.owner
  else if Config.progressLimit ≤ s.mbi.up.noProgress then s.abandonUp
  else if 10 ≤ g.frames + 1 ∧ seen = false then s.withdrawGrant
  else s

/-- A request read in slot 16 is granted if no grant stands (R155). -/
def readRequest (s : State) (o : Octet) : State :=
  if s.mbi.grant = none ∧ o.toNat % 32 = 1 then
    s.onMbi fun m => { m with grant := some { owner := addrField o, frames := 0, msgSeen := false }, up := UpChan.reset }
  else s

/-- The upstream side of a frame end (R152, R155). -/
def takeUp (s : State) (up : UpFrame) : State :=
  (match s.mbi.grant with
  | some g => s.upFrame up g
  | none => s).readRequest (up.get 16)

/-! ### The frame end (R140, R147) -/

/-- The softener command octet of the frame just sent allows the draw: BRINE and RINSE_DRAIN clear, or no address expects a
SOFTENER (R2, R147). -/
def allowsDraw (s : State) : Bool :=
  match s.moduleOf .softener with
  | none => true
  | some a =>
    let o := s.mbi.dn.get ⟨2 * a.val, by omega⟩
    !o.getLsbD 7 && !o.getLsbD 6

/-- A frame has been sent: the inlet in OPENING opens if it allows the draw (R2, R4). -/
def inletFrame (s : State) : State :=
  if s.whu.phase = .opening ∧ s.allowsDraw = true then
    let r := s.openInlet
    r.1.deliverReport r.2
  else s

/-- Every UP slot read 0x00 (R147). -/
def allZero (up : UpFrame) : Bool := up.toList.all fun o => o = 0#8

/-- The line runs (R140). -/
def lineRuns (s : State) : Bool := decide (s.mbi.line = .running)

/-- The end of a frame (R140): what it hands on (R147), the two message channels and the stuck watch. DESIGN CHOICE (log entry
96): the bays and the answer timers of the entries act before the message channels. -/
def endFrame (s : State) (up : UpFrame) : State :=
  let shown := s.mbi.down.shown
  let s := (s.inletFrame.readHalt (!(up.get 22).getLsbD 7)).takeBays up
  let s := if shown && s.mbi.down.shown then s.downFrame up else s
  (s.takeUp up).watchFrame (allZero up)

/-- The next frame is built at its start, from the owners' values as the event of the frame end has left them, unless that
event has ordered a line break (R140, R157). -/
def nextFrame (s : State) : State := if s.lineRuns then s.buildFrame ((s.mbi.frameNo + 1) % 256) else s

/-- The BREAK count reaches 0: the line runs (R157). -/
def startLine (s : State) : State := s.onMbi fun m => { m with line := .running }

end State

end Sys2Proof.Machine
end

