-- ==== Sys2Proof/Machine/Conditions.lean ====
section
/-! DEFINITION. What every event leaves settled: fault conditions that a held value defines are ended, or reported as
returned (R173, R175); every start that the blocks test at an event which changes its conditions is made in that event (R70,
R71, R73, R75, R107, R129); STANDBY_PENDING ends with the softener (R193); the thermostats are evaluated (R16, R17); the
transmitter chooses (R184). -/

namespace Sys2Proof.Machine

open Sys2Proof

/-- What a command answers. -/
abbrev Result := Host.Outcome State Fault Refusal

namespace State

/-- A sensor has failed, or has no valid reading yet (R18). -/
def sensorBad (x : Sensor) : Bool := x.failed || x.last.isNone

/-- A reading at or above its limit, or none since a reset, keeps an over-temperature condition (R19). -/
def stillHot (x : Sensor) (limit : Int) : Bool :=
  match x.last with
  | some t => decide (limit ≤ t)
  | none => true

/-- The entry of an address given as a fault detail. -/
def detailEntry (s : State) (detail : Nat) : Option Entry := (s.msu.entries.toList[detail]?)

/-- The load of a load number given as a fault detail, told unfit (R55). -/
def detailTold (s : State) (detail : Nat) : Bool := ((s.lba.told.toList[detail - 1]?).getD false)

/-- The pump field of a channel shows STALLED (R110). -/
def pumpStalled (s : State) (c : Channel) : Bool :=
  match s.indication (channelKind c) with
  | some o => pumpField o == 3
  | none => false

/-- The valve is anywhere but at the SERVE column (R73). -/
def valveStuck (s : State) : Bool :=
  match s.acceptedValve with
  | some v => decide (v ≠ .serves s.sfc.serve)
  | none => false

/-- A column is past BRINE in its regeneration (R77). -/
def pastBrine (s : State) (c : Column) : Bool :=
  decide ((s.column c).state = .regenSlow) || decide ((s.column c).state = .regenFast)

/-- The condition of a record is present, for the codes whose rule defines it by a value the raising block holds; a code
whose end is an event of its own answers `true` here and is ended there. DESIGN CHOICE (log entry 113): BUS_STUCK holds while
the watch is STUCK, so that of a record kept through a SOFT reset ends there; a value not read since a reset keeps a kept
record's condition. -/
def holds (s : State) (code : FaultCode) (detail : Nat) : Bool :=
  match code with
  | .tankLevelImplausible => s.whu.accepted.isNone || decide (s.whu.accepted = some .implausible)
  | .tankFillTimeout | .inletNoFlow | .doorForced | .settingsLost => false
  | .sensorTank => sensorBad s.whu.tankSensor
  | .sensorBooster => sensorBad s.whu.boosterSensor
  | .sensorVapour => sensorBad s.whu.vapourSensor
  | .boosterOvertemp => stillHot s.whu.boosterSensor 980
  | .tankOvertemp => stillHot s.whu.tankSensor 850
  | .boosterDry => !s.boosterClosed
  | .rinseLowTemp | .doorBlocked => true
  | .softenerExhausted => decide ((s.column s.sfc.serviceCol).capacity = 0)
  | .saltLow => (s.indication .softener).isNone || s.showsSaltLow
  | .regenNoBrine => if detail = 1 then s.pastBrine .a else s.pastBrine .b
  | .valveStuck => s.valveStuck
  | .detEmpty => s.dsc.det.empty
  | .raEmpty => s.dsc.ra.empty
  | .doserStall => if detail = 1 then s.pumpStalled .det else s.pumpStalled .ra
  | .doorLatchFail =>
    if detail = 0 then s.dvc.latch && decide (s.latchEngaged = some false)
    else !s.dvc.latch && decide (s.latchEngaged = some true)
  | .doorObstructed => s.lba.halt
  | .moduleLost => ((s.detailEntry detail).map Entry.lossMark).getD false
  | .moduleMismatch => ((s.detailEntry detail).map fun e => decide (e.bringUp = .mismatch)).getD false
  | .moduleFault =>
    ((s.detailEntry detail).map fun e => decide (e.link = .linked) && decide (e.linkMfault = some true)).getD false
  | .busStuck =>
    (match s.msu.watch with
    | .stuck _ _ => true
    | .off => false
    | .watch _ => false)
  | .budgetUnfit => s.detailTold detail

/-- The ACK keys whose condition is a held value that can return, with the class of their raise (R17, R73, R110, R126). -/
def returningKeys : List (FaultCode × Nat × FaultClass) :=
  [(.boosterDry, 0, .stop), (.valveStuck, 0, .warning), (.doserStall, 1, .warning), (.doserStall, 2, .warning),
   (.doorLatchFail, 0, .stop), (.doorLatchFail, 1, .warning)]

/-- A condition is known to be there: `holds`, and for BOOSTER_DRY a sample that read open, since the switch may have no
sample yet (R17). -/
def returns (s : State) (code : FaultCode) (detail : Nat) : Bool :=
  s.holds code detail && (decide (code ≠ .boosterDry) || s.whu.boosterFull.isSome)

/-- A condition that returns while its record is in the list is a raise (R175). DESIGN CHOICE (log entry 98): also where an accepted
OPEN with the latch clear brings DOOR_LATCH_FAIL of detail 0 back, though R126 has OPEN raise no new one. -/
def reportReturn (s : State) (k : FaultCode × Nat × FaultClass) : State :=
  match s.faultRec k.1 k.2.1 with
  | some r => if r.present = false ∧ s.returns k.1 k.2.1 = true then s.raise k.1 k.2.1 k.2.2 else s
  | none => s

/-- A condition that has ended is reported (R175). -/
def reportEnd (s : State) (r : FaultRec) : State :=
  if r.present = true ∧ s.holds r.code r.detail = false then s.endCondition r.code r.detail else s

/-- Conditions that have ended are reported. -/
def reportEnds (s : State) : State := s.flu.list.foldl reportEnd s

/-- Conditions that have returned or ended are reported. -/
def reportConditions (s : State) : State := (returningKeys.foldl reportReturn s).reportEnds

/-- STANDBY is entered (R193); the heaters' demands go OFF at the end of the event (R15, R16). -/
def enterStandby (s : State) (cause : StandbyCause) : State := s.setPower .standby cause

/-- STANDBY_PENDING becomes STANDBY when the softener is no longer busy (R82, R193). -/
def testStandby (s : State) : State :=
  if s.sto.power = .standbyPending ∧ s.softenerBusy = false then s.enterStandby .sleep else s

/-- The softener's starts: a DUE changeover re-tested, a PENDING one begun, an alignment, a regeneration (R70, R71, R73,
R75). -/
def startSoftener (s : State) : State := s.retestDue.startChangeover.testAlignment.startRegen

/-- The starts of the modules' jobs: the softener's, the head order of each channel, an owed retract (R107, R129). -/
def startJobs (s : State) : State := (((s.startSoftener).startOrder .det).startOrder .ra).testRetract

/-- What an event leaves settled: after a dequeue the blocks that wait for room ask again (R154; log entry 106), and the
transmitter then chooses (R184). DEDUCED (log entry 25): a start that a rule tests at events which change its conditions is
made at the end of the event in which they hold. A start refused as unfit may raise a fault whose condition does not hold,
which ends in the same event (R70; log entry 42). -/
def finish (s : State) : State := s.reportConditions.startJobs.reportEnds.testStandby.evalHeats.askWaiting.kickTx

/-- An event at a part that runs (R192): its effect, and what it leaves settled. A part without supply, or waiting for its
oscillator, takes no event. -/
def event (s : State) (f : State → State) : State := if s.on then (f s).finish else s

end State

end Sys2Proof.Machine
end

