-- ==== Sys2Proof/Machine/Time.lean ====
section
/-! DEFINITION. The passing of time: every timer of every block, the events that fall due, and what the part does when no
command waits. -/

namespace Sys2Proof.Machine

open Sys2Proof

/-- A fill record after `n` ms with the inlet open for the fill (R10). -/
def FillRec.after (n limit : Nat) (f : FillRec) : FillRec := { f with timeMs := runUp n limit f.timeMs }

namespace State

/-! ### Timers that run under a condition -/

/-- The fill time counts (R10). -/
def fillRuns (s : State) : Bool := decide (s.whu.owner = some .tankFill) && decide (s.whu.phase = .opened)

/-- Granted drain time counts (R20). -/
def drainRuns (s : State) : Bool := s.whu.drainUser.isSome && s.granted .drainPump

/-- fill_limit_s in ms. -/
def fillLimitMs (s : State) : Nat := s.num SettingIx.fillLimit * 1000

/-- wash_s in ms. -/
def washLimitMs (s : State) : Nat := s.recipe.washS * 1000

/-- hold_limit_s in ms. -/
def holdLimitMs (s : State) : Nat := s.num SettingIx.holdLimit * 1000

/-- dwell_s in ms. -/
def dwellLimitMs (s : State) : Nat := s.recipe.dwellS * 1000

/-- starve_s in ms. -/
def starveMs (s : State) : Nat := s.num SettingIx.starve * 1000

/-- The drain-out time in ms (R13). -/
def drainOutLimitMs : Nat := 10000

/-! ### `n` ms at each block -/

/-- WHU: run-on window, quiet window, implausible timer, fill time, drain times. -/
def passWhu (s : State) (n : Nat) : State :=
  s.onWhu fun w =>
    { w with
      runOn := w.runOn.map fun r => { r with left := r.left - n }
      quietLeft := runDown n w.quietLeft, implausibleLeft := runDown n w.implausibleLeft
      fill := if s.fillRuns then w.fill.map (FillRec.after n s.fillLimitMs) else w.fill
      purgeMs := if s.drainRuns && decide (w.drainUser = some .purge) then runUp n w.purgeTime w.purgeMs else w.purgeMs
      drainOutMs :=
        if s.drainRuns && decide (w.drainUser = some .draining) then w.drainOutMs.map (runUp n drainOutLimitMs)
        else w.drainOutMs }

/-- CSQ: wash timer, held time, rinse-wait timers, dwell timer. -/
def passCsq (s : State) (n : Nat) : State :=
  s.onCsq fun c =>
    { c with
      washMs := if s.washPumpOn then runUp n s.washLimitMs c.washMs else c.washMs
      hold := { c.hold with
        heldMs := if c.phase = .held then runUp n s.holdLimitMs c.hold.heldMs else c.hold.heldMs }
      rinseWait := { c.rinseWait with
        holdLeft := if c.phase = .rinseWait then runDown n c.rinseWait.holdLeft else c.rinseWait.holdLeft
        confirmLeft := if c.phase = .rinseWait then runDown n c.rinseWait.confirmLeft else c.rinseWait.confirmLeft }
      dwellMs := if c.phase = .dwell then runUp n s.dwellLimitMs c.dwellMs else c.dwellMs }

/-- LBA: the tank heater's wait, the settling list, the halt clear timer. -/
def passLba (s : State) (n : Nat) : State :=
  (s.onLba fun b =>
    { b with
      settling := b.settling.map fun e => { e with left := e.left - n }
      haltClearLeft := runDown n b.haltClearLeft }).onClaim .tankHeater fun c =>
    if c.state = .waiting then { c with waitMs := runUp n s.starveMs c.waitMs } else c

/-- SFC: the move timer, and the phase of a regeneration that is not paused (R76). -/
def passSfc (s : State) (n : Nat) : State :=
  let f : ColumnRec → ColumnRec := fun r =>
    if r.state.regen && !s.regenPaused then { r with phaseLeft := r.phaseLeft - n } else r
  s.onSfc fun x => { x with moveLeft := runDown n x.moveLeft, colA := f x.colA, colB := f x.colB }

/-- DSC: the order watchdogs (R108). -/
def passDsc (s : State) (n : Nat) : State :=
  let f : Channel → ChannelRec → ChannelRec := fun c r =>
    if s.watchdogRuns c then { r with watchdogLeft := runDown n r.watchdogLeft } else r
  s.onDsc fun d => { d with det := f .det d.det, ra := f .ra d.ra }

/-- DVC: the release timer, the retract limit, the vent timer and the cooling window. -/
def passDvc (s : State) (n : Nat) : State :=
  s.onDvc fun d =>
    { d with
      releaseLeft := runDown n d.releaseLeft
      task := match d.task with
        | .retract left => .retract (left - n)
        | .none => .none
        | .push o t m => .push o t m
      vent := { d.vent with
        timerLeft := runDown n d.vent.timerLeft, coolingLeft := runDown n d.vent.coolingLeft } }

/-- MBI: a line break (R157). -/
def passMbi (s : State) (n : Nat) : State :=
  s.onMbi fun m =>
    { m with
      line := match m.line with
        | .running => .running
        | .brk left => .brk (left - n) }

/-- STO: a write, the settle, the WAKE pulse. -/
def passSto (s : State) (n : Nat) : State :=
  s.onSto fun x =>
    { x with
      write := match x.write with
        | .idle => .idle
        | .writing i c left => .writing i c (left - n)
      settle := x.settle.map fun p => (p.1, p.2 - n)
      wakePulseLeft := runDown n x.wakePulseLeft }

/-- PLK: the gap between the octets of a frame (R182). -/
def passPlk (s : State) (n : Nat) : State :=
  s.onPlk fun p =>
    { p with
      rx := match p.rx with
        | .hunt => .hunt
        | .assemble os left => .assemble os (left - n) }

/-- `n` ms pass. A timer stops at its end and waits there for its event. Without supply nothing runs; until the oscillator
has settled only its wait does. -/
def advance (s : State) (n : Nat) : State :=
  match s.sto.power with
  | .off => s
  | .oscillator left => s.onSto fun x => { x with power := .oscillator (left - n) }
  | .running | .standbyPending | .standby =>
    ((((((((({ s with now := s.now + BitVec.ofNat 32 n }).passWhu n).passCsq n).passLba n).passSfc n).passDsc n).passDvc
      n).passMbi n).passSto n).passPlk n

/-- The event of a timer that has `left` ms to run: they pass, and it acts. A timer that does not run has no event. -/
def expire (s : State) (left : Option Nat) (f : State → State) : State :=
  match left with
  | some n => s.event fun s => f (s.advance n)
  | none => s

/-- The event of an accumulated time that runs from `count` to `limit`. -/
def reach (s : State) (runs : Bool) (count limit : Nat) (f : State → State) : State :=
  s.expire (if runs then some (limit - count) else none) f

end State

end Sys2Proof.Machine
end

