-- ==== Sys2Proof/Machine/Reset.lean ====
section
/-! DEFINITION. Loading the store and the start of the part after POWER-ON, FULL and SOFT reset (R192), with the values each
block's chapter gives: R21, R44, R45, R62, R84, R85, R120, R121, R138, R159, R171, R180, R188. -/

namespace Sys2Proof.Machine

open Sys2Proof

/-! ### Loading (R192) -/

/-- The copy R192 takes first: the one whose number follows the other's by 1, else the first. `true` names the second. -/
def laterCopy {α : Type} (c1 c2 : Option (StoreCopy α)) : Bool :=
  match c1, c2 with
  | some a, some b => b.seq == (a.seq + 1) % 65536
  | none, _ => false
  | some _, none => false

/-- The values of a copy that passes its check. -/
def passing {α : Type} : Option (StoreCopy α) → Option α
  | some c => if c.good then some c.image else none
  | none => none

/-- An image is loaded: its values, and the load result (R192). -/
def loadImage {α : Type} (c1 c2 : Option (StoreCopy α)) (defaults : α) : α × LoadResult :=
  let first := if laterCopy c1 c2 then c2 else c1
  let second := if laterCopy c1 c2 then c1 else c2
  match passing first, passing second with
  | some i, _ => (i, .newest)
  | none, some i => (i, .older)
  | none, none => (defaults, .defaults)

/-! ### Blocks restored from the counters (R85, R121) -/

/-- A column record restored after POWER-ON or FULL reset (R85). -/
def restoreColumn (columnCapacity : Nat) (r : ColumnRec) : ColumnRec :=
  if r.state.regen then { r with state := .exhausted, capacity := 0, phaseLeft := 0 }
  else { r with capacity := min r.capacity (columnCapacity * 100), phaseLeft := 0 }

/-- SFC around column records whose changeover is derived again (R84, R85). DESIGN CHOICE (log entry 100): the SALT_LOW state last
followed is forgotten, at a SOFT reset too. -/
def Sfc.derived (colA colB : ColumnRec) (serviceCol : Column) (acc : Nat) : Sfc :=
  let spent := match serviceCol with
    | .a => colA.capacity == 0
    | .b => colB.capacity == 0
  { colA := colA, colB := colB, serviceCol := serviceCol, serve := serviceCol, acc := acc
    changeover := if spent then .due else .none, target := serviceCol.other, moveLeft := none, moveLimit := 0,
    keptTrigger := false, brineSeen := false, saltLow := false, alignHeld := false, stuckGone := false }

/-- A channel restored after POWER-ON or FULL reset, its low flag by the restore rule (R113, R121). -/
def restoreChannel (i : ChannelImage) (containerUl ulPerStep lowU : Nat) : ChannelRec :=
  let stock := min i.stock containerUl
  ChannelRec.restored { i with stock := stock, carry := clampCarry i.carry ulPerStep } (decide (stock < lowU)) 0#8

/-- The cycle record of a POWER_LOST report (R41, R45). -/
def lostRecord (number : Nat) : CycleRecord :=
  { number := number, recipe := none, outcome := some .powerLost, washS := 0, lowTemp := none, rinseMl := 0,
    minTemp := none, maxTemp := none, dosing := Dosing.zero, lowRinse := false, ventCut := false, doorBlocked := false }

/-- PLK with nothing received, waiting or queued (R188). -/
def Plk.cleared : Plk :=
  { rx := .hunt, reply := none, busy := none, tx := none, notices := [], gap := false, linkErrors := 0, dropped := 0 }

/-- The module table after POWER-ON or FULL reset (R171). -/
def Msu.loaded (settings : Vector Int 40) (pins : Vector (Option CapRecord) 8) : Msu :=
  let e : Addr → Entry := fun a => Entry.fresh (Kind.ofCode (settings.get (kindIx a)).toNat) (pins.get a)
  { entries := #v[e 0, e 1, e 2, e 3, e 4, e 5, e 6, e 7], stuckCount := 0, watch := .off }

namespace State

/-- A channel's empty flag has its fault raised (R120, R121). -/
def raiseEmpty (s : State) (c : Channel) : State := if (s.channel c).empty then s.warn (emptyFault c) 0 else s

/-- A changeover derived as DUE has SOFTENER_EXHAUSTED raised (R84, R85). -/
def raiseExhausted (s : State) : State := if s.sfc.changeover = .due then s.warn .softenerExhausted 0 else s

/-- SETTINGS_LOST, its condition ending in the same event (R192, 10.1). -/
def raiseLost (s : State) : State :=
  if s.sto.settingsLoad = .defaults ∨ s.sto.countersLoad = .defaults then
    (s.warn .settingsLost 0).endCondition .settingsLost 0
  else s

/-- The POWER_LOST report of a cycle that had not ended (R45). -/
def reportPowerLost (s : State) : State :=
  if 0 < s.csq.cycleOpen then
    ((s.place (.cycleEnd (lostRecord s.csq.cycleOpen))).onCsq fun c => { c with cycleOpen := 0 }).saveCounters
  else s

/-- Every block in its state after POWER-ON or FULL reset, from the images (R192). The queue of commands is kept. DESIGN
CHOICE: a STANDBY or STANDBY_PENDING that ends here has no STANDBY notice (log entry 92), a WAKE pulse in progress ends (log
entry 93), and requests held in a settle are dropped (log entry 105). -/
def loaded (s : State) (img : SettingsImage × LoadResult) (cnt : CountersImage × LoadResult) : State :=
  let si := img.1
  let ci := cnt.1
  let base : State :=
    { s with
      now := 0, settings := si.settings, plk := Plk.cleared, whu := Whu.reset
      csq := Csq.cleared si.recipes ci.counter ci.cycleOpen
      lba := Lba.reset (si.settings.get SettingIx.mainsBudget).toNat
      dvc := Dvc.reset true, mbi := Mbi.reset, msu := Msu.loaded si.settings si.pins
      flu := { list := [], history := [], overflow := 0 }
      sto := { s.sto with
        write := .idle, settingsMark := false, countersMark := false, settingsLoad := img.2, countersLoad := cnt.2,
        lastSave := .none, saveWaits := false, saveRuns := false, power := .running, settle := none, wakeMask := 0#8,
        wakePulseLeft := none, held := [], resetReq := .none } }
  let acc := if base.k ≤ ci.acc then 0 else ci.acc
  let cap := base.num SettingIx.columnCapacity
  { base.rederiveBreakers with
    sfc := Sfc.derived (restoreColumn cap ci.colA) (restoreColumn cap ci.colB) ci.serviceCol acc
    dsc :=
      { det := restoreChannel ci.det (base.containerUl .det) (base.ulPerStep .det) (base.lowU .det)
        ra := restoreChannel ci.ra (base.containerUl .ra) (base.ulPerStep .ra) (base.lowU .ra)
        acc := ci.raAcc, owed := 0, flush := false } }

/-- The start-up sequence with a reset kind (R192): both images are loaded, STARTED is placed, and what the loaded values
raise and report follows it. DESIGN CHOICE (log entry 71): what a FULL reset changes of the cycle state, the door record and
the link states has no CYCLE_PHASE, DOOR or MODULE notice. -/
def startUp (s : State) (kind : ResetKind) : State :=
  let img := loadImage s.sto.nvm.set1 s.sto.nvm.set2 defaultImage
  let cap := (img.1.settings.get SettingIx.columnCapacity).toNat
  let cnt := loadImage s.sto.nvm.cnt1 s.sto.nvm.cnt2 (defaultCounters cap)
  let s := s.loaded img cnt
  (((((s.place (.started kind img.2 cnt.2 (s.val SettingIx.imageTag))).raiseEmpty .det).raiseEmpty .ra).raiseExhausted
    ).raiseLost).reportPowerLost

/-- The supply rises: the oscillator wait begins (R192). -/
def riseSupply (s : State) : State :=
  match s.sto.power with
  | .off => s.onSto fun x => { x with power := .oscillator 10 }
  | .oscillator _ | .running | .standbyPending | .standby => s

/-- The oscillator has settled: POWER-ON (R192). PFW counts as released (log entry 14). -/
def settleOscillator (s : State) : State :=
  match s.sto.power with
  | .oscillator _ => (s.onSto fun x => { x with pfw := false }).startUp .powerOn
  | .off | .running | .standbyPending | .standby => s

/-- A write in progress runs to its end (R192). -/
def waitWrite (s : State) : State :=
  match s.sto.write with
  | .idle => s
  | .writing _ _ left => (s.advance left).endWrite

/-- The FULL reset: a write in progress ends, the counters image is written unless PFW is asserted, and both images are
loaded (R192). The time of that last write is not counted (log entry 15). -/
def fullReset (s : State) : State :=
  let s := s.waitWrite
  (if s.sto.pfw then s else (s.startWrite .counters).endWrite).startUp .full

/-! ### SOFT reset -/

/-- A module table entry after a SOFT reset (R171). -/
def softEntry (kind : Kind) (e : Entry) : Entry :=
  { e with
    link := if kind = .none then .notExpected else .seeking, bringUp := .count 0, lossMark := false, silent := 0
    status := none, wantQuery := false, unpinLeft := none, linkMfault := none }

/-- A column record after a SOFT reset (R84). -/
def softColumn (r : ColumnRec) : ColumnRec :=
  if r.state.regen then { r with state := .exhausted, capacity := 0, phaseLeft := 0 } else r

/-- A channel after a SOFT reset (R120). -/
def softChannel (s : State) (c : Channel) : ChannelRec :=
  let r := s.channel c
  { r with
    orders := [], stop := false, watchdogLeft := none, unfit := false, low := decide (r.stock < s.lowU c) }

/-- The frame the transmitter has begun, no more counted with a queue that a SOFT reset empties (R188). -/
def orphan (t : TxFrame) : TxFrame := { t with source := .orphan }

/-- A SOFT reset removes the record of a key: it is in the list and not of class LOCKOUT (R180). -/
def softRemoves (s : State) (code : FaultCode) (detail : Nat) : Bool :=
  match s.faultRec code detail with
  | some r => decide (r.cls ≠ .lockout)
  | none => false

/-- Every block in its state after a SOFT reset (R192). The records whose blocks look at them again at the first acceptance
after it are kept in mind (R84, R138). DESIGN CHOICE: a STANDBY or STANDBY_PENDING that ends here has no STANDBY notice (log
entry 92), a WAKE pulse in progress runs on (log entry 93), the opened flag stays as it stood at the end of a numbered cycle
too (R124 and R138 against R134 and R139, log entry 104), and requests held in a settle are dropped (log entry 105). -/
def softened (s : State) : State :=
  let e : Addr → Entry := fun a => softEntry (s.kindAt a) (s.entry a)
  { s with
    plk := { Plk.cleared with
      tx := s.plk.tx.map orphan, linkErrors := s.plk.linkErrors, dropped := s.plk.dropped }
    whu := Whu.reset
    csq := Csq.cleared s.csq.recipes s.csq.counter (if s.csq.active.isSome then 0 else s.csq.cycleOpen)
    lba := { Lba.reset s.mains with breaker := s.lba.breaker }
    sfc := { Sfc.derived (softColumn s.sfc.colA) (softColumn s.sfc.colB) s.sfc.serviceCol s.sfc.acc with
      stuckGone := s.sfc.stuckGone || s.softRemoves .valveStuck 0 }
    dsc := { det := s.softChannel .det, ra := s.softChannel .ra, acc := s.dsc.acc, owed := 0, flush := false }
    dvc := { Dvc.reset s.dvc.openedFlag with
      blockedGone := s.dvc.blockedGone || s.softRemoves .doorBlocked 0
      latchGone := s.dvc.latchGone || s.softRemoves .doorLatchFail 1 }
    mbi := Mbi.reset
    msu := { entries := #v[e 0, e 1, e 2, e 3, e 4, e 5, e 6, e 7], stuckCount := 0, watch := .off }
    flu := { list := s.flu.list.filter (fun r => r.cls = .lockout), history := s.flu.history, overflow := 0 }
    sto := { s.sto with
      power := .running, settle := none, wakeMask := 0#8, held := [], resetReq := .none } }

/-- The report of a cycle that a SOFT reset ends (R44): CYCLE_END with RESET, then IDLE (R26). -/
def reportReset (before s : State) : State :=
  match before.csq.active with
  | some e => ((s.place (.cycleEnd (before.closingRecord e .reset))).notePhase).saveCounters
  | none => s

/-- The abort of a regeneration at a SOFT reset (R84). -/
def reportAbort (before s : State) : State :=
  match before.regenColumn with
  | some c => s.noteSoftener .regenAborted c
  | none => s

/-- The DOOR notice of a door record that a SOFT reset made UNKNOWN (R123, R138). -/
def reportDoor (before s : State) : State :=
  if before.dvc.door ≠ .unknown ∨ before.dvc.bits.isSome then s.noteDoor none else s

/-- The MODULE notice of an entry whose link a SOFT reset changed (R160, R171). -/
def reportLink (before s : State) (a : Addr) : State :=
  if (before.entry a).link = (s.entry a).link then s else s.noteModule a none

/-- BUDGET_UNFIT is raised again for a load that is still unfit (R62). -/
def retellUnfit (before s : State) (l : Load) : State :=
  if before.toldUnfit l ∧ s.loadUnfit l then s.tellUnfit l else s

/-- The SOFT reset (R192): the blocks reset, STARTED is placed with the results of the last load, the reports follow. -/
def softReset (s : State) : State :=
  let t := s.softened.place (.started .soft s.sto.settingsLoad s.sto.countersLoad (s.val SettingIx.imageTag))
  let t := reportDoor s (reportAbort s (reportReset s t))
  let t := allAddrs.foldl (reportLink s) t
  let t := noteStock s (noteStock s t .det) .ra
  let t := ((t.raiseEmpty .det).raiseEmpty .ra).raiseExhausted
  allLoads.foldl (retellUnfit s) t

end State

end Sys2Proof.Machine
end

