-- ==== Sys2Proof/Machine/Report.lean ====
section
/-! DEFINITION. The bodies of the replies that report: the STATUS sections, MODULE READ and FAULTS, each item encoded by
R186 in the order in which its chapter lists it. DESIGN CHOICE (log entry 111): an item with alternatives sends the fields of
those that do not hold as absent, heater outputs go as an octet each, and hold reasons, door bits and commanded bits as flag
sets. -/

namespace Sys2Proof.Machine

open Sys2Proof

namespace State

/-- Two fields that are present or absent together. -/
def eIndication (o : Option Octet) : List Octet :=
  match o with
  | some o => e1 (pumpField o) ++ eBool (o.getLsbD 0)
  | none => eOpt1 none ++ eOpt1 none

/-- The PLK section (R186). -/
def statusPlk (s : State) : List Octet :=
  e2 s.plk.linkErrors ++ e1 s.plk.notices.length ++ eBool s.plk.gap ++ e1 s.plk.dropped

/-- A sensor's last valid reading and failed flag (R18). -/
def sensorOctets (x : Sensor) : List Octet := eOptTemp x.last ++ eBool x.failed

/-- The WHU section: accepted code, tank state, heater outputs, sensors (R7, R9, R15, R18). -/
def statusWhu (s : State) : List Octet :=
  eOpt1 (s.whu.accepted.map LevelCode.code) ++ e1 s.whu.tank.code ++ eBool s.tankHeaterOn ++ eBool s.boosterAOn ++
    eBool s.boosterBOn ++ sensorOctets s.whu.tankSensor ++ sensorOctets s.whu.boosterSensor ++ sensorOctets s.whu.vapourSensor

/-- The entries of the cycle queue as STATUS lists them: recipe, ms waited, cycle number (R24). -/
def queueEntries (s : State) : List (List Octet) :=
  (match s.csq.active with
    | some e => [e1 e.recipe ++ e4 (s.now - e.queuedAt).toNat ++ e4 e.number]
    | none => []) ++
    match s.csq.waiting with
    | some p => [e1 p.recipe ++ e4 (s.now - p.queuedAt).toNat ++ e4 0]
    | none => []

/-- A list as R186 sends it: its length, then its entries. -/
def eList (xs : List (List Octet)) : List Octet := e1 xs.length ++ xs.flatten

/-- The CSQ section (R24): held time in whole seconds (R31), wash seconds done (R29). -/
def statusCsq (s : State) : List Octet :=
  e1 s.csq.phase.code ++ eFlags [s.csq.hold.door, s.csq.hold.level] ++ e4 (s.csq.hold.heldMs / 1000) ++
    e2 (s.csq.washMs / 1000) ++ eList s.queueEntries

/-- The counted wattage, present while the claim is GRANTED (R46). -/
def countedOctets (s : State) (l : Load) : List Octet :=
  eOpt2 (if s.granted l then some (s.claimOf l).counted else none)

/-- The LBA section (R46). -/
def statusLba (s : State) : List Octet :=
  e2 s.mains ++ e2 s.lba.inForce ++ e4 s.sumGranted ++ e4 s.sumSettling ++ eBool s.lba.halt ++
    (allLoads.map fun l =>
      e1 (s.claimOf l).state.code ++ s.countedOctets l ++ eBool (s.claimOf l).promoted).flatten

/-- A column in the SFC section (R83). -/
def columnOctets (s : State) (c : Column) : List Octet :=
  let r := s.column c
  e1 r.state.code ++ e4 r.capacity ++ e1 r.condition ++ eBool r.brineWeak ++ e2 r.regens ++
    eOpt4 (if r.state.regen then some (ceilDiv r.phaseLeft 1000) else none) ++
    eOpt1 (if r.state.regen then some s.regenPaused.toNat else none)

/-- A changeover state has a target (R69, R80). DESIGN CHOICE (log entry 88): NONE and ALIGNING have none to report. -/
def Changeover.aims : Changeover → Bool
  | .due | .pending | .claimed | .moving | .returning => true
  | .none | .aligning => false

/-- The SFC section (R83). DESIGN CHOICE: the target is absent in NONE and ALIGNING (log entry 88), and the last accepted
indication goes as its whole octet (log entry 101). -/
def statusSfc (s : State) : List Octet :=
  e1 s.sfc.serviceCol.code ++ e1 s.sfc.serve.code ++ s.columnOctets .a ++ s.columnOctets .b ++ e2 s.sfc.acc ++
    e1 s.sfc.changeover.code ++ eOpt1 (if Changeover.aims s.sfc.changeover then some s.sfc.target.code else none) ++
    e2 s.residual ++ eOpt1 ((s.indication .softener).map BitVec.toNat)

/-- An order in the DSC section (R101). DEDUCED (log entry 70): the seconds of a PRIME order take 1 octet. -/
def orderOctets (o : Order) : List Octet :=
  [o.tag] ++ e1 o.origin.code ++
    (match o.amount with
    | .steps n => e2 n ++ eOpt1 none
    | .seconds n => eOpt2 none ++ e1 n) ++ e2 o.ulPerStep ++ e1 o.state.code

/-- A channel in the DSC section (R101). DESIGN CHOICE (log entry 102): the empty and low flags go as an octet each. -/
def channelOctets (s : State) (c : Channel) : List Octet :=
  let r := s.channel c
  e4 r.stock ++ e2 r.carry ++ eBool r.empty ++ eBool r.low ++ eBool r.unfit ++ eBool r.stop ++
    eIndication (s.indication (channelKind c)) ++ eList (r.orders.map orderOctets)

/-- The DSC section (R101). -/
def statusDsc (s : State) : List Octet :=
  s.channelOctets .det ++ s.channelOctets .ra ++ e4 s.dsc.acc ++ e2 s.dsc.owed ++ eBool s.dsc.flush

/-- The pusher task: its code, origin, target, message state, time limit (R122). DESIGN CHOICE (log entry 94): the limit goes as
the time left. -/
def taskOctets (t : PusherTask) : List Octet :=
  match t with
  | .none => e1 0 ++ eOpt1 none ++ eOpt1 none ++ eOpt1 none ++ eOpt4 none
  | .push origin target message =>
    e1 1 ++ e1 (match origin with | .vent => 0 | .panel => 1) ++ e1 target ++
      e1 (match message with | .claimed => 0 | .queued => 1 | .delivered => 2) ++ eOpt4 none
  | .retract left => e1 2 ++ eOpt1 none ++ eOpt1 none ++ eOpt1 none ++ e4 left

/-- The DVC section (R123). DESIGN CHOICE (log entry 83): the four marks of a vent go as an octet each. DESIGN CHOICE (log entry
94): the vent timer, the cooling window and the retract's time limit go as the time left. -/
def statusDvc (s : State) : List Octet :=
  let v := s.dvc.vent
  e1 s.dvc.door.code ++ DoorBits.octets s.dvc.bits ++ eBool s.dvc.openedFlag ++ e1 s.dvc.lastReached ++
    eFlags [s.dvc.latch, s.dvc.fan, s.dvc.retract] ++ taskOctets s.dvc.task ++ eBool s.dvc.owed ++ e1 v.step.code ++
    e1 v.pct ++ e2 v.secs ++ eBool v.ventCut ++ eBool v.doorBlocked ++ eBool v.fanOnly ++ eBool v.closedByUser ++
    eOpt4 v.timerLeft ++ eOpt4 v.coolingLeft

/-- The downstream channel's phase code in the order of 8.0, and its octet index. -/
def downOctets (p : DownPhase) : List Octet :=
  match p with
  | .idle => e1 0 ++ eOpt1 none
  | .prepare => e1 1 ++ eOpt1 none
  | .present i => e1 2 ++ e1 i
  | .closing _ => e1 3 ++ eOpt1 none

/-- The MBI section (R140, R154, R155). -/
def statusMbi (s : State) : List Octet :=
  (match s.mbi.line with
    | .running => e1 0 ++ eOpt1 none
    | .brk left => e1 1 ++ e1 (ceilDiv left 2)) ++ e1 s.mbi.frameNo ++
    eList (s.mbi.queue.map fun m => e1 m.dest.val ++ e1 m.body.code ++ e1 m.source.code) ++ downOctets s.mbi.down.phase ++
    eOpt1 (s.mbi.grant.map fun g => g.owner.val)

/-- A bring-up phase: its code, good-frame count, answer timer in ms, a frame being 2 ms (R140, R160, R186); an address that
expects no module has none of them. DESIGN CHOICE (log entry 94): the answer timer goes as the time left. -/
def bringUpOctets (kind : Kind) (b : BringUp) : List Octet :=
  if kind = .none then eOpt1 none ++ eOpt1 none ++ eOpt4 none
  else
    match b with
    | .count n => e1 b.code ++ e1 n ++ eOpt4 none
    | .query => e1 b.code ++ eOpt1 none ++ eOpt4 none
    | .answer n => e1 b.code ++ eOpt1 none ++ e4 (2 * n)
    | .mismatch => e1 b.code ++ eOpt1 none ++ eOpt4 none

/-- The stuck watch: its code, frames seen, frames to the next break, frames not all zero (R169). -/
def watchOctets (w : StuckWatch) : List Octet :=
  match w with
  | .off => e1 0 ++ eOpt1 none ++ eOpt2 none ++ eOpt1 none
  | .watch n => e1 1 ++ e1 n ++ eOpt2 none ++ eOpt1 none
  | .stuck toNext good => e1 2 ++ eOpt1 none ++ e2 toNext ++ e1 good

/-- The MSU section (R160, R168). -/
def statusMsu (s : State) : List Octet :=
  (allAddrs.map fun a =>
    e1 (s.kindAt a).code ++ e1 (s.entry a).link.code ++ bringUpOctets (s.kindAt a) (s.entry a).bringUp ++
      eBool (s.entry a).pinned).flatten ++ eOpt1 (s.mbi.grant.map fun g => g.owner.val) ++ watchOctets s.msu.watch ++
    (allAddrs.map fun a => eOpt1 ((s.entry a).status.map fun b => b.orderBusy.toNat)).flatten

/-- The FLU section (R172, R174). -/
def statusFlu (s : State) : List Octet := e1 s.level.code ++ e1 s.flu.list.length ++ e1 s.flu.overflow

/-- The STO section (R190): write state with the image and the copy, the marks, the last save result. DESIGN CHOICE (log entry
110): the codes of image and copy, and an octet per mark. -/
def statusSto (s : State) : List Octet :=
  (match s.sto.write with
    | .idle => e1 0 ++ eOpt1 none ++ eOpt1 none
    | .writing image second _ => e1 1 ++ e1 (match image with | .settings => 0 | .counters => 1) ++ e1 second.toNat) ++
    eBool s.sto.settingsMark ++ eBool s.sto.countersMark ++ e1 s.sto.lastSave.code

/-- The section of a code, if there is one (R186). -/
def statusSection (s : State) (code : Nat) : Option (List Octet) :=
  match code with
  | 0 => some s.statusPlk
  | 1 => some s.statusWhu
  | 2 => some s.statusCsq
  | 3 => some s.statusLba
  | 4 => some s.statusSfc
  | 5 => some s.statusDsc
  | 6 => some s.statusDvc
  | 7 => some s.statusMbi
  | 8 => some s.statusMsu
  | 9 => some s.statusFlu
  | 10 => some s.statusSto
  | _ => none

/-- The MODULE READ reply of an address (R170). DESIGN CHOICE: the last status bits are one flag set (log entry 83); the
absent record of the kind NONE takes no octet, and its revision goes as absent (log entry 90). -/
def moduleOctets (s : State) (a : Addr) : List Octet :=
  let e := s.entry a
  e1 (s.kindAt a).code ++ e1 e.link.code ++ bringUpOctets (s.kindAt a) e.bringUp ++ eBool e.pinned ++ e.caps.fields.octets ++
    eOpt1 (if s.kindAt a = .none then none else some e.caps.revision) ++ e2 e.bayErrors ++ e2 e.msgAborts ++ e1 e.grantLapses ++
    (match e.status with
    | some b => eFlags [b.ready, b.mfault, b.orderBusy]
    | none => eOpt1 none) ++ eOpt1 ((s.bay a).accepted.map BitVec.toNat)

/-- A record in the FAULTS reply (R186). -/
def faultOctets (r : FaultRec) : List Octet :=
  e1 r.code.code ++ e1 r.detail ++ e1 r.cls.code ++ eFlags [r.present, r.escalated, r.ack] ++ e1 r.count ++ e4 r.firstCycle

/-- The FAULTS reply from a first position (R176, R186). -/
def faultsOctets (s : State) (first : Nat) : List Octet :=
  let rs := (s.flu.list.drop first).take 10
  e1 s.flu.list.length ++ e1 s.flu.overflow ++ e1 s.level.code ++ e1 rs.length ++ (rs.map faultOctets).flatten

end State

end Sys2Proof.Machine
end

