-- ==== Sys2Proof/Machine/Serve.lean ====
section
/-! DEFINITION. What each request does at its owner, once PLK has found its form good and no LOCKOUT in its way (R183): the
new state, the status, and the fields of the reply (R186). -/

namespace Sys2Proof.Machine

open Sys2Proof

/-- What an owner answers: the state after, the status, and the fields that follow the status. -/
abbrev Answer := State × Status × List Octet

/-- A reply without fields. -/
def bare (p : State × Status) : Answer := (p.1, p.2, [])

namespace State

/-! ### PLK, STO and the settings -/

/-- IDENT (R186); the revision is a free value. DESIGN CHOICE (log entry 84): its fields take 2, 4 and 1 octets. -/
def serveIdent (s : State) : Answer :=
  (s, .ok, e2 Config.partCode ++ e4 Config.partRevision.toNat ++ e1 Config.settingCount)

/-- STATUS (R186). -/
def serveStatus (sect : Octet) (s : State) : Answer :=
  match s.statusSection sect.toNat with
  | some os => (s, .ok, os)
  | none => (s, .outOfRange, [])

/-- The place of a setting number from 1 to 40. -/
def settingIx (number : Octet) : Option SettingIx :=
  if h : 1 ≤ number.toNat ∧ number.toNat ≤ 40 then some ⟨number.toNat - 1, by omega⟩ else none

/-- GET (R189). -/
def serveGet (number : Octet) (s : State) : Answer :=
  match settingIx number with
  | some i => (s, .ok, eValue (s.val i))
  | none => (s, .outOfRange, [])

/-- Working memory takes a value. -/
def putSetting (s : State) (i : SettingIx) (v : Int) : State := { s with settings := s.settings.set i.val v i.isLt }

/-- A lowered starve_s that a WAITING tank heater claim already meets promotes it at once (R54). -/
def retestStarve (s : State) : State :=
  if s.waits .tankHeater ∧ (s.claimOf .tankHeater).promoted = false ∧ s.starveMs ≤ (s.claimOf .tankHeater).waitMs then
    s.promote
  else s

/-- What a changed setting does at once (R54, R57, R58, R67, R87, R116). `before` still has the old value. -/
def applySetting (before s : State) (i : SettingIx) : State :=
  if i = SettingIx.mainsBudget then s.rebudget
  else if SettingIx.drainPumpW ≤ i ∧ i ≤ SettingIx.tankHeaterW then rewatt before s
  else if i = SettingIx.starve then s.retestStarve
  else if i = SettingIx.kFactor then s.zeroAccumulators.retarget
  else if i = SettingIx.columnCapacity then s.clampColumns
  else if i = SettingIx.containerDet then s.containerChanged .det
  else if i = SettingIx.containerRa then s.containerChanged .ra
  else if i = SettingIx.stockLow then s.lowChanged
  else s

/-- The settings whose change R56 tests against the class sum. -/
def summed (i : SettingIx) : Bool := decide (SettingIx.mainsBudget ≤ i) && decide (i ≤ SettingIx.rinsePumpW)

/-- A setting is a clamped one: all but the expected kinds (R161, R189). -/
def clampedSetting (i : SettingIx) : Bool := decide (i.val < 31) || decide (i.val = 39)

/-- The settings of whose chapters R56, R67 and R99 say that a SET leaving the value unchanged is answered OK: 8 to 15, 17,
and 23 to 27. -/
def okUnchanged (i : SettingIx) : Bool :=
  (decide (SettingIx.mainsBudget ≤ i) && decide (i ≤ SettingIx.starve)) || decide (i = SettingIx.kFactor) ||
    (decide (SettingIx.detRate ≤ i) && decide (i ≤ SettingIx.drainRate))

/-- SET of a clamped setting (R56, R67, R99, R189). -/
def setClamped (s : State) (i : SettingIx) (v : Int) : Answer :=
  let c := clampSetting i v
  let st : Status := if c = v then .ok else .clamped
  if i = SettingIx.kFactor ∧ (s.whu.owner.isSome ∨ s.whu.runOn.isSome) then (s, .notNow, [])
  else if c = s.val i then (s, if okUnchanged i then .ok else st, eValue c)
  else
    let t := s.putSetting i c
    if summed i ∧ t.mains < t.classSum then (s, .outOfRange, [])
    else (applySetting s t i, st, eValue c)

/-- SET of an expected kind (R161). -/
def setKind (s : State) (i : SettingIx) (v : Int) : Answer :=
  if v < 0 ∨ 4 < v then (s, .outOfRange, [])
  else if s.csq.phase ≠ .idle then (s, .notNow, [])
  else if v = s.val i then (s, .ok, eValue v)
  else
    match addrOf (BitVec.ofNat 8 (i.val - 31)) with
    | some a => (s.takeKind a v, .ok, eValue v)
    | none => (s, .outOfRange, [])

/-- SET (R189). -/
def serveSet (number : Octet) (value : BitVec 32) (s : State) : Answer :=
  match settingIx number with
  | none => (s, .outOfRange, [])
  | some i => if clampedSetting i then s.setClamped i value.toInt else s.setKind i value.toInt

/-- SAVE (R190, R191): both marks are set, and the settings write that follows serves it. -/
def serveSave (s : State) : Answer :=
  if s.sto.pfw then (s, .notNow, [])
  else
    ((s.onSto fun x => { x with settingsMark := true, countersMark := true, saveWaits := true }).kickStore, .accepted, [])

/-- RESET with a mode (R192): the reset is taken once the reply has been sent. -/
def serveReset (mode : ResetMode) (s : State) : Answer := (s.onSto fun x => { x with resetReq := .asked mode }, .ok, [])

/-- SLEEP (R193); the mask has three bits. -/
def serveSleep (mask : Octet) (s : State) : Answer :=
  if s.csq.active.isSome then (s, .notNow, [])
  else if s.whu.tank = .filling ∨ s.whu.tank = .draining then (s, .notNow, [])
  else
    let s := s.onSto fun x => { x with wakeMask := mask &&& 7#8 }
    if s.softenerBusy then
      (if s.sto.power = .standbyPending then s else s.setPower .standbyPending .sleep, .accepted, [])
    else (s.enterStandby .sleep, .ok, [])

/-! ### CSQ -/

/-- Every field of a recipe is in its range (2.1). -/
def recipeInRange (r : Recipe) : Bool :=
  decide (20 ≤ r.washS ∧ r.washS ≤ 600) && decide (500 ≤ r.tankC ∧ r.tankC ≤ 700) &&
    decide (750 ≤ r.rinseC ∧ r.rinseC ≤ 900) && decide (1000 ≤ r.rinseMl ∧ r.rinseMl ≤ 5000) &&
    decide (r.purgeMl ≤ 5000) && decide (r.dwellS ≤ 30) && decide (r.ventPct ≤ 100) && decide (r.ventS ≤ 900) &&
    decide (50 ≤ r.soilPct ∧ r.soilPct ≤ 200)

/-- RECIPE_GET (R22). -/
def serveRecipeGet (number : Octet) (s : State) : Answer :=
  match s.csq.recipes.toList[number.toNat]? with
  | some r => (s, .ok, recipeOctets r)
  | none => (s, .outOfRange, [])

/-- RECIPE_SET (R22). -/
def serveRecipeSet (number : Octet) (r : Recipe) (s : State) : Answer :=
  if h : number.toNat < 8 then
    if recipeInRange r then (s.onCsq fun c => { c with recipes := c.recipes.set number.toNat r h }, .ok, [])
    else (s, .outOfRange, [])
  else (s, .outOfRange, [])

/-- RUN (R25, R193). -/
def serveRun (number : Octet) (s : State) : Answer :=
  if s.hasClass .stop then (s, .notNow, [])
  else if 7 < number.toNat then (s, .outOfRange, [])
  else
    match s.csq.active, s.csq.waiting with
    | some _, some _ => (s, .queueFull, [])
    | some _, none =>
      ((s.onCsq fun c => { c with waiting := some { recipe := number.toNat, queuedAt := s.now } }).endPendingStandby, .ok, [])
    | none, _ => ((s.arm number.toNat s.now).endPendingStandby, .ok, [])

/-- The ACTIVE cycle may be cancelled (R42). -/
def cancellable (s : State) : Bool :=
  match s.csq.phase with
  | .armed | .wash | .held | .purge | .rinseWait => true
  | .idle | .rinse | .dwell | .vent => false

/-- PENDING is removed (R42). -/
def dropWaiting (s : State) : State := s.onCsq fun c => { c with waiting := none }

/-- CANCEL with target PENDING (R42). -/
def serveCancelPending (s : State) : Answer :=
  if s.csq.waiting.isSome then (s.dropWaiting, .ok, []) else (s, .notFound, [])

/-- CANCEL with target ACTIVE (R42). -/
def serveCancelActive (s : State) : Answer :=
  if s.csq.active.isNone then (s, .notFound, [])
  else if s.cancellable then (s.endCycle .cancelled, .ok, [])
  else (s, .tooLate, [])

/-- CANCEL with target ALL (R42). -/
def serveCancelAll (s : State) : Answer :=
  if s.csq.active.isNone then (s, .notFound, [])
  else if s.cancellable then (s.dropWaiting.endCycle .cancelled, .ok, [])
  else (s.dropWaiting, .tooLate, [])

/-! ### WHU -/

/-- An accepted request ends STANDBY_PENDING (R193). -/
def accepting (p : State × Status) : State × Status := if p.2 = .ok then (p.1.endPendingStandby, p.2) else p

/-- PREPARE (R14, R193). -/
def servePrepare (s : State) : Answer := bare (accepting s.prepareRequest)

/-- DRAIN (R13, R193). -/
def serveDrain (s : State) : Answer := bare (accepting s.drainRequest)

/-! ### DSC and SFC -/

/-- The tag of a DOSE reply. -/
def doseTag (r : DoseReply) : List Octet := eOpt1 (r.tag.map BitVec.toNat)

/-- DOSE of kind MANUAL (R115). -/
def serveDoseManual (channel : Octet) (ul : BitVec 16) (s : State) : Answer :=
  match s.manualRequest channel ul.toNat with
  | (s, .ok, r) => (s, .ok, doseTag r ++ e2 r.steps)
  | (s, st, _) => (s, st, [])

/-- DOSE of kind PRIME (R115); a PRIME order has no steps. -/
def serveDosePrime (channel : Octet) (seconds : BitVec 16) (s : State) : Answer :=
  match s.primeRequest channel seconds.toNat with
  | (s, .ok, r) => (s, .ok, doseTag r ++ eOpt2 none)
  | (s, st, _) => (s, st, [])

/-- STOCK (R114). -/
def serveStock (channel : Octet) (ml : BitVec 16) (s : State) : Answer := bare (s.stockRequest channel ml.toNat)

/-- REGEN (R80). -/
def serveRegen (column : Octet) (s : State) : Answer := bare (s.regenRequest column)

/-! ### DVC (R136) -/

/-- The rows that both DOOR actions share. -/
def doorRefused (s : State) : Bool := !s.linked .door || s.hasFault .doorObstructed 0 || s.dvc.latch

/-- A PUSH task is in progress. -/
def pushing (s : State) : Bool :=
  match s.dvc.task with
  | .push .. => true
  | .none => false
  | .retract _ => false

/-- DOOR OPEN (R136). DESIGN CHOICE (log entry 73): a PUSH refused as unfit is answered ACCEPTED like any other, and the panel
is told by the BUDGET_UNFIT notice alone. -/
def serveDoorOpen (percent : Octet) (s : State) : Answer :=
  if percent.toNat < 1 ∨ 100 < percent.toNat then (s, .outOfRange, [])
  else if s.doorRefused then (s, .notNow, [])
  else if s.csq.phase ≠ .idle then (s, .notNow, [])
  else if s.dvc.task ≠ .none then (s, .notNow, [])
  else
    let target := min percent.toNat (s.caps .door).maxPct
    ((s.startPush .panel target).1, .accepted, e1 target)

/-- The accepted indication shows the pusher home. -/
def pusherHome (s : State) : Bool :=
  match s.dvc.bits with
  | some b => b.home
  | none => false

/-- DOOR RETRACT (R136). -/
def serveDoorRetract (s : State) : Answer :=
  if s.doorRefused then (s, .notNow, [])
  else if s.pushing then (s, .notNow, [])
  else if s.retracting then (s, .ok, [])
  else if s.pusherHome then (s, .ok, [])
  else ((s.onDvc fun d => { d with owed := true }).startRetract, .accepted, [])

/-! ### FLU (R176) -/

/-- FAULTS (R176). -/
def serveFaults (first : Octet) (s : State) : Answer :=
  if 39 < first.toNat then (s, .outOfRange, []) else (s, .ok, s.faultsOctets first.toNat)

/-- A record an ACK_FAULT may remove. -/
def ackable (r : FaultRec) : Bool := r.ack && !r.present

/-- ACK_FAULT of one key (R176); what a removal lets start is tested at the end of the event (R71, R73, R107, R129, R179). -/
def serveAckFault (code detail : Octet) (s : State) : Answer :=
  match FaultCode.ofCode code.toNat with
  | none => (s, .outOfRange, [])
  | some c =>
    match s.faultRec c detail.toNat with
    | none => (s, .notFound, [])
    | some r =>
      if ackable r then
        let s := s.removeFault c detail.toNat
        (s, .ok, e1 1 ++ e1 s.flu.list.length)
      else (s, .notNow, [])

/-- ACK_FAULT of ALL (R176). -/
def serveAckFaultAll (s : State) : Answer :=
  let gone := s.flu.list.filter ackable
  if gone = [] then (s, if s.flu.list.any FaultRec.ack then .notNow else .notFound, [])
  else
    let s := gone.foldl (fun s r => s.removeFault r.code r.detail) s
    (s, .ok, e1 gone.length ++ e1 s.flu.list.length)

/-! ### MSU (R166, R170) -/

/-- MODULE READ (R170). -/
def serveModuleRead (address : Octet) (s : State) : Answer :=
  match addrOf address with
  | some a => (s, .ok, s.moduleOctets a)
  | none => (s, .outOfRange, [])

/-- MODULE PIN (R166). -/
def serveModulePin (address : Octet) (fields : List Octet) (s : State) : Answer := bare (s.pinRequest address fields)

/-- MODULE UNPIN (R166). -/
def serveModuleUnpin (address : Octet) (s : State) : Answer := bare (s.unpinRequest address)

/-- MODULE CLEAR_COUNTERS (R170). -/
def serveModuleClear (address : Octet) (s : State) : Answer := bare (s.clearRequest address)

/-- MODULE BUS_RESET (R157, R170). -/
def serveBusReset (s : State) : Answer := (s.busReset, .accepted, [])

end State

end Sys2Proof.Machine
end

