-- ==== Sys2Proof/WellFormed.lean ====
section
/-! DEFINITION. Which commands can be written on the wire as they stand: each field of a request fits the octets that the
catalogue gives it (R186). Plant and bus events have no ill-formed value. -/

namespace Sys2Proof

/-- A temperature fits the signed two octets of R186. -/
def fitsTemp (t : Int) : Bool := decide (-32768 ≤ t) && decide (t < 32768)

/-- Every field of a recipe fits its octets in a RECIPE_SET body (R186). -/
def Recipe.fits (r : Recipe) : Bool :=
  decide (r.washS < 65536) && fitsTemp r.tankC && fitsTemp r.rinseC && decide (r.rinseMl < 65536) &&
    decide (r.purgeMl < 65536) && decide (r.dwellS < 256) && decide (r.ventPct < 256) && decide (r.ventS < 65536) &&
    decide (r.soilPct < 256)

/-- KIND octets of the request catalogue (R186). -/
def inCatalogue (kind : Octet) : Bool := decide (1 ≤ kind.toNat) && decide (kind.toNat ≤ 0x14)

/-- The command can be written as it stands: recipe fields fit, a PIN carries a record of 2 or 4 octets, and an
UNKNOWN_KIND frame is outside the catalogue. -/
def WellFormed : Instr → Bool
  | .recipeSet _ _ r => r.fits
  | .modulePin _ _ fields => decide (fields.length = 2) || decide (fields.length = 4)
  | .unknownKind _ kind => !inCatalogue kind
  | _ => true

end Sys2Proof
end

