-- ==== Sys2Proof/Machine/Catalogue.lean ====
section
/-! DEFINITION. The request catalogue of the Panel Link (R186): the body each request has on the wire, and reading a request
from a frame, total over every KIND and body. -/

namespace Sys2Proof.Machine

open Sys2Proof

/-! ### From a request to its frame -/

/-- A value octet by octet, most significant first. -/
def valueOctets (v : BitVec 32) : List Octet := e4 v.toNat

/-- A two-octet field. -/
def wordOctets (v : BitVec 16) : List Octet := e2 v.toNat

/-- The body of a request (R186); events of the plant have none. -/
def requestBody : Instr → Option (Octet × Octet × List Octet)
  | .ident tag => some (0x01#8, tag, [])
  | .status tag sect => some (0x02#8, tag, [sect])
  | .get tag number => some (0x03#8, tag, [number])
  | .set tag number value => some (0x04#8, tag, number :: valueOctets value)
  | .recipeGet tag number => some (0x05#8, tag, [number])
  | .recipeSet tag number fields => some (0x06#8, tag, number :: recipeOctets fields)
  | .run tag number => some (0x07#8, tag, [number])
  | .cancelPending tag => some (0x08#8, tag, [0#8])
  | .cancelActive tag => some (0x08#8, tag, [1#8])
  | .cancelAll tag => some (0x08#8, tag, [2#8])
  | .prepare tag => some (0x09#8, tag, [])
  | .drain tag => some (0x0A#8, tag, [])
  | .doseManual tag channel volume => some (0x0B#8, tag, channel :: 0#8 :: wordOctets volume)
  | .dosePrime tag channel seconds => some (0x0B#8, tag, channel :: 1#8 :: wordOctets seconds)
  | .stock tag channel volume => some (0x0C#8, tag, channel :: wordOctets volume)
  | .regen tag column => some (0x0D#8, tag, [column])
  | .doorOpen tag percent => some (0x0E#8, tag, [0#8, percent])
  | .doorRetract tag => some (0x0E#8, tag, [1#8])
  | .faults tag first => some (0x0F#8, tag, [first])
  | .ackFault tag code detail => some (0x10#8, tag, [code, detail])
  | .ackFaultAll tag => some (0x10#8, tag, [0xFF#8])
  | .moduleRead tag address => some (0x11#8, tag, [0#8, address])
  | .modulePin tag address fields => some (0x11#8, tag, 1#8 :: address :: fields)
  | .moduleUnpin tag address => some (0x11#8, tag, [2#8, address])
  | .moduleClearCounters tag address => some (0x11#8, tag, [3#8, address])
  | .moduleBusReset tag => some (0x11#8, tag, [4#8, 0xFF#8])
  | .save tag => some (0x12#8, tag, [])
  | .resetSoft tag => some (0x13#8, tag, [0#8])
  | .resetFull tag => some (0x13#8, tag, [1#8])
  | .sleep tag mask => some (0x14#8, tag, [mask])
  | .unknownKind tag kind => some (kind, tag, [])
  | _ => none

/-- The frame of a request. -/
def encodeRequest (i : Instr) : Option ReqFrame :=
  (requestBody i).map fun p => { kind := p.1, tag := p.2.1, body := p.2.2 }

/-! ### From a frame to its request -/

/-- What PLK makes of a good frame: a request for its owner, a refusal of its form, or a request of the right length whose
action, kind, target or mode no row of the catalogue has, which is refused OUT_OF_RANGE at the owner. -/
inductive Parsed where
  | good (i : Instr)
  | refused (st : Status)
  | badCode
  deriving DecidableEq, Repr

/-- The nine fields of a recipe from the fifteen octets of a RECIPE_SET body (R186). -/
def readRecipe : List Octet → Option Recipe
  | [a, b, c, d, e, f, g, h, i, j, k, l, m, n, o] =>
    some
      { washS := d2 a b, tankC := dTemp c d, rinseC := dTemp e f, rinseMl := d2 g h, purgeMl := d2 i j, dwellS := k.toNat,
        ventPct := l.toNat, ventS := d2 m n, soilPct := o.toNat }
  | _ => none

/-- The word of two octets. -/
def wordOf (hi lo : Octet) : BitVec 16 := BitVec.ofNat 16 (d2 hi lo)

/-- A body of one octet. -/
def one (body : List Octet) (f : Octet → Parsed) : Parsed :=
  match body with
  | [x] => f x
  | _ => .refused .badForm

/-- An empty body. -/
def none' (body : List Octet) (i : Instr) : Parsed :=
  match body with
  | [] => .good i
  | _ => .refused .badForm

/-- CANCEL by its target (R42, R186). -/
def readCancel (tag target : Octet) : Parsed :=
  match target.toNat with
  | 0 => .good (.cancelPending tag)
  | 1 => .good (.cancelActive tag)
  | 2 => .good (.cancelAll tag)
  | _ => .badCode

/-- DOSE by its kind (R115, R186). -/
def readDose (tag channel kind : Octet) (v : BitVec 16) : Parsed :=
  match kind.toNat with
  | 0 => .good (.doseManual tag channel v)
  | 1 => .good (.dosePrime tag channel v)
  | _ => .badCode

/-- DOOR by its action: OPEN has a percentage, RETRACT has none (R136, R186). -/
def readDoor (tag : Octet) : List Octet → Parsed
  | [action] => match action.toNat with
    | 0 => .refused .badForm
    | 1 => .good (.doorRetract tag)
    | _ => .badCode
  | [action, percent] => match action.toNat with
    | 0 => .good (.doorOpen tag percent)
    | 1 => .refused .badForm
    | _ => .badCode
  | _ => .refused .badForm

/-- ACK_FAULT of a key or of ALL (R176, R186). -/
def readAck (tag : Octet) : List Octet → Parsed
  | [code] => if code = 0xFF#8 then .good (.ackFaultAll tag) else .refused .badForm
  | [code, detail] => .good (.ackFault tag code detail)
  | _ => .refused .badForm

/-- RESET by its mode (R192). -/
def readReset (tag mode : Octet) : Parsed :=
  match mode.toNat with
  | 0 => .good (.resetSoft tag)
  | 1 => .good (.resetFull tag)
  | _ => .badCode

/-- Octets of the record a PIN of an address octet must carry: that of the expected kind, and the longest for an address
above 7 or of kind NONE (R186). -/
def State.pinLength (s : State) (address : Octet) : Nat :=
  match State.addrOf address with
  | some a => if s.kindAt a = .none then 4 else (s.kindAt a).recordLength
  | none => 4

/-- A MODULE body of an undefined action has a length the catalogue gives for some action. -/
def moduleLength (n : Nat) : Bool := n == 2 || n == 4 || n == 6

/-- MODULE by its action (R166, R170, R186). The absent address of a BUS_RESET is sent as all ones. DEDUCED (log entry 82): the
octet is not read, so any value in its place is taken alike. -/
def State.readModule (s : State) (tag : Octet) (body : List Octet) : Parsed :=
  match body with
  | [] => .refused .badForm
  | action :: rest =>
    match action.toNat, rest with
    | 0, [a] => .good (.moduleRead tag a)
    | 1, a :: fields => if fields.length = s.pinLength a then .good (.modulePin tag a fields) else .refused .badForm
    | 2, [a] => .good (.moduleUnpin tag a)
    | 3, [a] => .good (.moduleClearCounters tag a)
    | 4, [_] => .good (.moduleBusReset tag)
    | n, rest => if 4 < n && moduleLength (rest.length + 1) then .badCode else .refused .badForm

/-- Reading a request from a good frame (R183, R186). -/
def State.parse (s : State) (f : ReqFrame) : Parsed :=
  match f.kind.toNat with
  | 0x01 => none' f.body (.ident f.tag)
  | 0x02 => one f.body fun x => .good (.status f.tag x)
  | 0x03 => one f.body fun x => .good (.get f.tag x)
  | 0x04 => match f.body with
    | [n, a, b, c, d] => .good (.set f.tag n (d4 a b c d))
    | _ => .refused .badForm
  | 0x05 => one f.body fun x => .good (.recipeGet f.tag x)
  | 0x06 => match f.body with
    | [] => .refused .badForm
    | n :: rest => match readRecipe rest with
      | some r => .good (.recipeSet f.tag n r)
      | none => .refused .badForm
  | 0x07 => one f.body fun x => .good (.run f.tag x)
  | 0x08 => one f.body (readCancel f.tag)
  | 0x09 => none' f.body (.prepare f.tag)
  | 0x0A => none' f.body (.drain f.tag)
  | 0x0B => match f.body with
    | [c, k, hi, lo] => readDose f.tag c k (wordOf hi lo)
    | _ => .refused .badForm
  | 0x0C => match f.body with
    | [c, hi, lo] => .good (.stock f.tag c (wordOf hi lo))
    | _ => .refused .badForm
  | 0x0D => one f.body fun x => .good (.regen f.tag x)
  | 0x0E => readDoor f.tag f.body
  | 0x0F => one f.body fun x => .good (.faults f.tag x)
  | 0x10 => readAck f.tag f.body
  | 0x11 => s.readModule f.tag f.body
  | 0x12 => none' f.body (.save f.tag)
  | 0x13 => one f.body (readReset f.tag)
  | 0x14 => one f.body fun x => .good (.sleep f.tag x)
  | _ => .refused .unknownKind

/-- The refusal of a request's form, if any: a PIN record of another length than the expected kind's, or a KIND outside the
catalogue (R183, R186). Every other request has the form that the catalogue gives it. -/
def State.formOf (s : State) (i : Instr) : Option Status :=
  match i with
  | .modulePin _ address fields => if fields.length = s.pinLength address then none else some .badForm
  | .unknownKind _ _ => some .unknownKind
  | _ => none

/-- The owner's part of each request. -/
def serveOf (i : Instr) (s : State) : Answer :=
  match i with
  | .ident _ => s.serveIdent
  | .status _ sect => s.serveStatus sect
  | .get _ n => s.serveGet n
  | .set _ n v => s.serveSet n v
  | .recipeGet _ n => s.serveRecipeGet n
  | .recipeSet _ n r => s.serveRecipeSet n r
  | .run _ n => s.serveRun n
  | .cancelPending _ => s.serveCancelPending
  | .cancelActive _ => s.serveCancelActive
  | .cancelAll _ => s.serveCancelAll
  | .prepare _ => s.servePrepare
  | .drain _ => s.serveDrain
  | .doseManual _ c v => s.serveDoseManual c v
  | .dosePrime _ c v => s.serveDosePrime c v
  | .stock _ c v => s.serveStock c v
  | .regen _ c => s.serveRegen c
  | .doorOpen _ p => s.serveDoorOpen p
  | .doorRetract _ => s.serveDoorRetract
  | .faults _ n => s.serveFaults n
  | .ackFault _ c d => s.serveAckFault c d
  | .ackFaultAll _ => s.serveAckFaultAll
  | .moduleRead _ a => s.serveModuleRead a
  | .modulePin _ a fs => s.serveModulePin a fs
  | .moduleUnpin _ a => s.serveModuleUnpin a
  | .moduleClearCounters _ a => s.serveModuleClear a
  | .moduleBusReset _ => s.serveBusReset
  | .save _ => s.serveSave
  | .resetSoft _ => s.serveReset .soft
  | .resetFull _ => s.serveReset .full
  | .sleep _ m => s.serveSleep m
  | _ => (s, .unknownKind, [])

end Sys2Proof.Machine
end

