-- ==== Sys2Proof/Machine/Panel.lean ====
section
/-! DEFINITION. The Panel Link (11_panel_link.md): a request taken by the rows of R183, requests held during the settle
(R194), the assembly of octets (R182), and the end of a frame sent (R184). -/

namespace Sys2Proof.Machine

open Sys2Proof

namespace State

/-! ### Requests (R183) -/

/-- Requests that a LOCKOUT does not turn away, by KIND (R183). -/
def exempt (kind : Octet) : Bool :=
  kind == 0x01#8 || kind == 0x02#8 || kind == 0x03#8 || kind == 0x0F#8 || kind == 0x10#8 || kind == 0x13#8

/-- A request at a full reply slot (R183). -/
def turnAway (s : State) (kind tag : Octet) : State :=
  if s.plk.busy.isSome then s.linkError else s.onPlk fun p => { p with busy := some (kind, tag) }

/-- A request is answered by the first row of R183 that applies: `form` is the refusal of its KIND or length, if any, and
`serve` the owner. -/
def answer (s : State) (f : ReqFrame) (form : Option Status) (serve : State → Answer) : State :=
  if s.plk.reply.isSome then s.turnAway f.kind f.tag
  else
    match form with
    | some st => s.reply f.kind f.tag st []
    | none =>
      if s.locked && !exempt f.kind then s.reply f.kind f.tag .lockedOut []
      else
        match serve s with
        | (t, st, fields) => t.reply f.kind f.tag st fields

/-- A good frame is answered (R183). -/
def answerFrame (s : State) (f : ReqFrame) : State :=
  match s.parse f with
  | .good i => s.answer f none (serveOf i)
  | .refused st => s.answer f (some st) fun s => (s, st, [])
  | .badCode => s.answer f none fun s => (s, .outOfRange, [])

/-- A request completed during the settle is held (R194). -/
def hold (s : State) (f : ReqFrame) : State := s.onSto fun x => { x with held := x.held ++ [f] }

/-- A good frame is taken (R182, R183, R194). -/
def takeFrame (s : State) (f : ReqFrame) : State := if s.sto.settle.isSome then s.hold f else s.answerFrame f

/-- A request that comes as a command: its octets have been received, so in STANDBY it has woken the part and is held
(R183, R194). -/
def request (s : State) (f : ReqFrame) (form : Option Status) (serve : State → Answer) : State :=
  s.event fun s =>
    let s := s.wake .octet
    if s.sto.settle.isSome then s.hold f else s.answer f form serve

/-- A request of the catalogue that comes as a command, with the frame that the catalogue gives it (R186); the events of the
plant have none. -/
def takeRequest (s : State) (i : Instr) : State :=
  match encodeRequest i with
  | some f => s.request f (s.formOf i) (serveOf i)
  | none => s

/-! ### Octets (R182) -/

/-- The frame being assembled is discarded (R182). -/
def discard (s : State) : State := (s.onPlk fun p => { p with rx := .hunt }).linkError

/-- The longest gap between octets in ms (R182). -/
def gapMs : Nat := 5

/-- The octets of LEN, KIND, TAG and BODY, with the two CRC octets that follow them, are a good frame (R182). -/
def goodFrame (os : List Octet) : Option ReqFrame :=
  match os with
  | len :: kind :: tag :: rest =>
    let n := len.toNat - 2
    let covered := len :: kind :: tag :: rest.take n
    if rest.drop n = e2 (crc16 covered) then some { kind := kind, tag := tag, body := rest.take n } else none
  | _ => none

/-- A complete frame is taken or discarded (R182). -/
def completeFrame (s : State) (os : List Octet) : State :=
  match goodFrame os with
  | some f => (s.onPlk fun p => { p with rx := .hunt }).takeFrame f
  | none => s.discard

/-- An octet of a frame: LEN, or one of the LEN + 2 octets that follow it (R182). -/
def frameOctet (s : State) (os : List Octet) (o : Octet) : State :=
  match os with
  | [] =>
    if 2 ≤ o.toNat ∧ o.toNat ≤ 122 then s.onPlk fun p => { p with rx := .assemble [o] gapMs } else s.discard
  | len :: _ =>
    if os.length + 1 = len.toNat + 3 then s.completeFrame (os ++ [o])
    else s.onPlk fun p => { p with rx := .assemble (os ++ [o]) gapMs }

/-- An octet at the receiver, with its stop bit and whether it overran the one before (R182). In HUNT no frame is there to
be discarded, so a faulty octet is ignored there (log entry 17). -/
def assembleOctet (s : State) (o : Octet) (stopBit overrun : Bool) : State :=
  match s.plk.rx with
  | .hunt =>
    if o = 0xC3#8 ∧ stopBit = true ∧ overrun = false then s.onPlk fun p => { p with rx := .assemble [] gapMs } else s
  | .assemble os _ => if stopBit && !overrun then s.frameOctet os o else s.discard

/-- An octet received (R182, R194). -/
def receive (s : State) (o : Octet) (stopBit overrun : Bool) : State := (s.wake .octet).assembleOctet o stopBit overrun

/-- The time left before a gap discards the frame being assembled. -/
def gapLeft (s : State) : Option Nat :=
  match s.plk.rx with
  | .hunt => none
  | .assemble _ left => some left

/-! ### The transmitter (R184, R192) -/

/-- A RESET that was answered is due (R192). -/
def Sto.resetAnswered (x : Sto) : Sto :=
  { x with
    resetReq := match x.resetReq with
      | .asked m => .due m
      | .none => .none
      | .due m => .due m }

/-- The last octet of the frame being sent has gone: the slot it came from is emptied, or the notice leaves the queue
(R184); a RESET whose reply it was is due (R192). -/
def sendEnds (s : State) : State :=
  match s.plk.tx with
  | none => s
  | some t =>
    let s := s.onPlk fun p => { p with tx := none }
    match t.source with
    | .reply => (s.onPlk fun p => { p with reply := none }).onSto Sto.resetAnswered
    | .busy => s.onPlk fun p => { p with busy := none }
    | .notice => s.onPlk fun p => { p with notices := p.notices.drop 1 }
    | .orphan => s

/-! ### The settle (R194) -/

/-- The time left of the settle. -/
def settleLeft (s : State) : Option Nat := s.sto.settle.map Prod.snd

/-- The cause the settle was started by. -/
def settleCause (s : State) : StandbyCause := (s.sto.settle.map Prod.fst).getD .sleep

/-- The settle ends: the part is RUNNING, the notice names the cause, the requests held are taken in their order, and the
thermostats claim again at the end of the event (R194). -/
def endSettle (s : State) : State :=
  let held := s.sto.held
  let t := (s.onSto fun x => { x with settle := none, held := [] }).setPower .running s.settleCause
  held.foldl answerFrame t

end State

end Sys2Proof.Machine
end

