-- ==== Sys2Proof/Machine/Requests.lean ====
section
/-! DEFINITION. The commands that are requests of the Panel Link (R186): each is taken by the rows of R183, held during
the settle of a wake (R194), and answered by its owner. Its frame is the one that the catalogue gives it (`requestBody`), so
that a request held over a settle is read back as it was sent. -/

namespace Sys2Proof.Machine

open Sys2Proof

/-- IDENT (R186): part code, revision (a free value, log entry 2) and number of settings. -/
def execIdent (tag : Octet) (s : State) : Result := .next (s.takeRequest (.ident tag))

/-- STATUS (R186): the items of a section. -/
def execStatus (tag sect : Octet) (s : State) : Result := .next (s.takeRequest (.status tag sect))

/-- GET (R189). -/
def execGet (tag number : Octet) (s : State) : Result := .next (s.takeRequest (.get tag number))

/-- SET (R56, R67, R99, R161, R189). -/
def execSet (tag number : Octet) (value : BitVec 32) (s : State) : Result :=
  .next (s.takeRequest (.set tag number value))

/-- RECIPE_GET (R22). -/
def execRecipeGet (tag number : Octet) (s : State) : Result := .next (s.takeRequest (.recipeGet tag number))

/-- RECIPE_SET (R22). -/
def execRecipeSet (tag number : Octet) (fields : Recipe) (s : State) : Result :=
  .next (s.takeRequest (.recipeSet tag number fields))

/-- RUN (R25). -/
def execRun (tag number : Octet) (s : State) : Result := .next (s.takeRequest (.run tag number))

/-- CANCEL with target PENDING (R42). -/
def execCancelPending (tag : Octet) (s : State) : Result := .next (s.takeRequest (.cancelPending tag))

/-- CANCEL with target ACTIVE (R42). -/
def execCancelActive (tag : Octet) (s : State) : Result := .next (s.takeRequest (.cancelActive tag))

/-- CANCEL with target ALL (R42). -/
def execCancelAll (tag : Octet) (s : State) : Result := .next (s.takeRequest (.cancelAll tag))

/-- PREPARE (R14). -/
def execPrepare (tag : Octet) (s : State) : Result := .next (s.takeRequest (.prepare tag))

/-- DRAIN (R13). -/
def execDrain (tag : Octet) (s : State) : Result := .next (s.takeRequest (.drain tag))

/-- DOSE of kind MANUAL (R115). -/
def execDoseManual (tag channel : Octet) (volume : BitVec 16) (s : State) : Result :=
  .next (s.takeRequest (.doseManual tag channel volume))

/-- DOSE of kind PRIME (R115). -/
def execDosePrime (tag channel : Octet) (seconds : BitVec 16) (s : State) : Result :=
  .next (s.takeRequest (.dosePrime tag channel seconds))

/-- STOCK (R114). -/
def execStock (tag channel : Octet) (volume : BitVec 16) (s : State) : Result :=
  .next (s.takeRequest (.stock tag channel volume))

/-- REGEN (R80). -/
def execRegen (tag column : Octet) (s : State) : Result := .next (s.takeRequest (.regen tag column))

/-- DOOR OPEN (R136). -/
def execDoorOpen (tag percent : Octet) (s : State) : Result := .next (s.takeRequest (.doorOpen tag percent))

/-- DOOR RETRACT (R136). -/
def execDoorRetract (tag : Octet) (s : State) : Result := .next (s.takeRequest (.doorRetract tag))

/-- FAULTS (R176). -/
def execFaults (tag first : Octet) (s : State) : Result := .next (s.takeRequest (.faults tag first))

/-- ACK_FAULT of one key (R176). -/
def execAckFault (tag code detail : Octet) (s : State) : Result := .next (s.takeRequest (.ackFault tag code detail))

/-- ACK_FAULT of ALL (R176). -/
def execAckFaultAll (tag : Octet) (s : State) : Result := .next (s.takeRequest (.ackFaultAll tag))

/-- MODULE READ (R170). -/
def execModuleRead (tag address : Octet) (s : State) : Result := .next (s.takeRequest (.moduleRead tag address))

/-- MODULE PIN (R166); a body of another length than the expected kind's is BAD_FORM (R186). -/
def execModulePin (tag address : Octet) (fields : List Octet) (s : State) : Result :=
  .next (s.takeRequest (.modulePin tag address fields))

/-- MODULE UNPIN (R166). -/
def execModuleUnpin (tag address : Octet) (s : State) : Result := .next (s.takeRequest (.moduleUnpin tag address))

/-- MODULE CLEAR_COUNTERS (R170). -/
def execModuleClearCounters (tag address : Octet) (s : State) : Result :=
  .next (s.takeRequest (.moduleClearCounters tag address))

/-- MODULE BUS_RESET (R157, R170). -/
def execModuleBusReset (tag : Octet) (s : State) : Result := .next (s.takeRequest (.moduleBusReset tag))

/-- SAVE (R190, R191). -/
def execSave (tag : Octet) (s : State) : Result := .next (s.takeRequest (.save tag))

/-- RESET with mode SOFT (R192). -/
def execResetSoft (tag : Octet) (s : State) : Result := .next (s.takeRequest (.resetSoft tag))

/-- RESET with mode FULL (R192). -/
def execResetFull (tag : Octet) (s : State) : Result := .next (s.takeRequest (.resetFull tag))

/-- SLEEP (R193). -/
def execSleep (tag mask : Octet) (s : State) : Result := .next (s.takeRequest (.sleep tag mask))

/-- A good frame of a KIND outside the request catalogue (R183). -/
def execUnknownKind (tag kind : Octet) (s : State) : Result := .next (s.takeRequest (.unknownKind tag kind))

end Sys2Proof.Machine
end

