-- ==== Sys2Proof/Machine/LinkEvents.lean ====
section
/-! DEFINITION. The commands of the Panel Link's line: octets received and the end of a frame sent (R182, R184). -/

namespace Sys2Proof.Machine

open Sys2Proof

/-- PANEL_OCTET_RECEIVED (R182, R194). -/
def execPanelOctetReceived (octet : Octet) (stopBit overrun : Bool) (s : State) : Result :=
  .next (s.event fun s => s.receive octet stopBit overrun)

/-- OCTET_GAP_TIMEOUT: the rest of the 5 ms passes and the frame being assembled is discarded (R182). -/
def execOctetGapTimeout (s : State) : Result := .next (s.expire s.gapLeft State.discard)

/-- TRANSMIT_DONE (R184, R192). -/
def execTransmitDone (s : State) : Result := .next (s.event State.sendEnds)

end Sys2Proof.Machine
end

