-- ==== Sys2Proof/Machine/StoreEvents.lean ====
section
/-! DEFINITION. The commands of the supply and of the Settings Store: start-up, resets, store writes, PFW, the settle and the
WAKE pulse (R190 to R194). -/

namespace Sys2Proof.Machine

open Sys2Proof

namespace State

/-- The reset of a mode is due. -/
def dueReset (s : State) (m : ResetMode) : Bool := decide (s.sto.resetReq = .due m)

/-- The time left of the write in progress. -/
def writeLeft (s : State) : Option Nat :=
  match s.sto.write with
  | .idle => none
  | .writing _ _ left => some left

/-- The time left of the oscillator wait. -/
def oscillatorLeft (s : State) : Option Nat :=
  match s.sto.power with
  | .oscillator left => some left
  | .off | .running | .standbyPending | .standby => none

/-- A write ends, and the next marked image is written (R190). -/
def writeEnds (s : State) : State := s.endWrite.kickStore

/-- A settings write is abandoned: its copy fails its check, its mark is set again, a SAVE that it served is ABANDONED
(R191). -/
def abandonSettings (s : State) : State :=
  s.onSto fun x =>
    { x with
      settingsMark := true, saveRuns := false, lastSave := if x.saveRuns then .abandoned else x.lastSave }

/-- PFW is asserted: the counters are written at once (R191). -/
def assertPfw (s : State) : State :=
  if s.sto.pfw then s
  else
    let t := s.onSto fun x => { x with pfw := true }
    match s.sto.write with
    | .idle => t.startWrite .counters
    | .writing .counters _ _ => t.startWrite .counters
    | .writing .settings _ _ => t.abandonSettings.startWrite .counters

/-- PFW is released: the kept marks are served (R191). -/
def releasePfw (s : State) : State := (s.onSto fun x => { x with pfw := false }).kickStore

/-- The supply fails: the part stops, the PFW write having ended (R191). -/
def loseSupply (s : State) : State :=
  if s.on && s.sto.pfw then s.endWrite.onSto fun x => { x with power := .off } else s

end State

/-- SOFT_RESET_TAKEN (R192). -/
def execSoftResetTaken (s : State) : Result :=
  .next (s.event fun s => if s.dueReset .soft then s.softReset else s)

/-- FULL_RESET_TAKEN (R192). -/
def execFullResetTaken (s : State) : Result :=
  .next (s.event fun s => if s.dueReset .full then s.fullReset else s)

/-- SUPPLY_RISE (R192). -/
def execSupplyRise (s : State) : Result := .next s.riseSupply

/-- OSCILLATOR_SETTLED: the rest of the 10 ms passes and the part starts (R192). -/
def execOscillatorSettled (s : State) : Result :=
  .next (match s.oscillatorLeft with
    | some left => (s.advance left).settleOscillator.finish
    | none => s)

/-- STORE_WRITE_END (R190). -/
def execStoreWriteEnd (s : State) : Result := .next (s.expire s.writeLeft State.writeEnds)

/-- PFW_ASSERT (R191). -/
def execPfwAssert (s : State) : Result := .next (s.event State.assertPfw)

/-- PFW_RELEASE (R191). -/
def execPfwRelease (s : State) : Result := .next (s.event State.releasePfw)

/-- SETTLE_END (R194). -/
def execSettleEnd (s : State) : Result := .next (s.expire s.settleLeft State.endSettle)

/-- WAKE_PULSE_END (R194). -/
def execWakePulseEnd (s : State) : Result :=
  .next (s.expire s.sto.wakePulseLeft fun s => s.onSto fun x => { x with wakePulseLeft := none })

/-- SUPPLY_FAIL (R191); a supply that fails does so after PFW. -/
def execSupplyFail (s : State) : Result := .next s.loseSupply

end Sys2Proof.Machine
end

