-- ==== Sys2Proof/Machine/WaterEvents.lean ====
section
/-! DEFINITION. The commands of the water path: pulses, samples, readings, the inlet, fills and the drain pump
(01_water_path_and_heat.md). -/

namespace Sys2Proof.Machine

open Sys2Proof

namespace State

/-- A flow-meter pulse at its readers (R4): the draw, the softener, and for RINSE the rinse count and rinse aid. -/
def pulse (s : State) : State :=
  let t := s.countPulse.accountPulse
  if s.creditsRinse then t.rinsePulse.accruePulse else t

/-- The code of a sample pair (R7), `true` for closed. -/
def levelCodeOf (low high : Bool) : LevelCode :=
  match low, high with
  | false, false => .dry
  | true, false => .partly
  | true, true => .full
  | false, true => .implausible

/-- A sample pair of LOW and HIGH (R7). -/
def sampleLevel (s : State) (code : LevelCode) : State :=
  let again := decide (s.whu.prevSample = some code) && decide (s.whu.accepted ≠ some code)
  let s := s.onWhu fun w => { w with prevSample := some code }
  if again then s.acceptLevel code else s

/-- A sample of the three switches (R7, R17): whether a stage was energised is taken before any of them acts. DESIGN CHOICE
(log entry 68): the level code acts first and the FULL switch after it. -/
def sampleSwitches (s : State) (low high full : Bool) : State :=
  (s.sampleLevel (levelCodeOf low high)).sampleBooster s.boosterOn full

/-- A reading of the three sensors (R16 to R19); the thermostats are evaluated at the end of the event. DESIGN CHOICE (log
entry 72): the tank's acts first, then the booster's, then the vapour's. -/
def readSensors (s : State) (tank booster vapour : Int) : State :=
  ((s.readTank tank).readBooster booster).readVapour vapour

/-- IMPLAUSIBLE has stood for 2 s (R8). -/
def expireImplausible (s : State) : State := (s.onWhu fun w => { w with implausibleLeft := none }).levelImplausible

/-- The run-on window ends and its report is given (R5). -/
def finishRunOn (s : State) : State := s.endRunOn.1.deliverReport s.endRunOn.2

/-- The time left of the run-on window. -/
def runOnLeft (s : State) : Option Nat := s.whu.runOn.map RunOn.left

/-- The fill time of the fill in progress. -/
def fillMs (s : State) : Nat := (s.whu.fill.map FillRec.timeMs).getD 0

/-- The drain pump runs for a user. -/
def drainsFor (s : State) (u : DrainUser) : Bool := s.drainRuns && decide (s.whu.drainUser = some u)

end State

/-- FLOW_PULSE (R4). -/
def execFlowPulse (s : State) : Result := .next (s.event State.pulse)

/-- INLET_HANDOVER (R1). -/
def execInletHandover (s : State) : Result := .next (s.event State.handOver)

/-- QUIET_WINDOW_EXPIRY (R6). -/
def execQuietWindowExpiry (s : State) : Result := .next (s.expire s.whu.quietLeft State.stallInlet)

/-- RUN_ON_END (R5). -/
def execRunOnEnd (s : State) : Result := .next (s.expire s.runOnLeft State.finishRunOn)

/-- LEVEL_SAMPLE (R7, R17). -/
def execLevelSample (low high full : Bool) (s : State) : Result :=
  .next (s.event fun s => s.sampleSwitches low high full)

/-- IMPLAUSIBLE_TIMER_EXPIRY (R8). -/
def execImplausibleTimerExpiry (s : State) : Result :=
  .next (s.expire s.whu.implausibleLeft State.expireImplausible)

/-- FILL_TIME_LIMIT (R11). -/
def execFillTimeLimit (s : State) : Result :=
  .next (s.reach (s.fillRuns && s.whu.fill.isSome) s.fillMs s.fillLimitMs State.limitFill)

/-- DRAIN_OUT_TIMER (R13). -/
def execDrainOutTimer (s : State) : Result :=
  .next (s.reach (s.drainsFor .draining && s.whu.drainOutMs.isSome) (s.whu.drainOutMs.getD 0) State.drainOutLimitMs
    State.finishDrain)

/-- SENSOR_READING (R18). -/
def execSensorReading (tank booster vapour : Int) (s : State) : Result :=
  .next (s.event fun s => s.readSensors tank booster vapour)

/-- PURGE_DONE (R20, R32). -/
def execPurgeDone (s : State) : Result :=
  .next (s.reach (s.drainsFor .purge) s.whu.purgeMs s.whu.purgeTime State.leavePurge)

end Sys2Proof.Machine
end

