-- ==== Sys2Proof/Machine/CycleEvents.lean ====
section
/-! DEFINITION. The commands of the wash cycle (02_the_wash_cycle.md). -/

namespace Sys2Proof.Machine

open Sys2Proof

namespace State

/-- A state of the cycle. -/
def inPhase (s : State) (p : CycleState) : Bool := decide (s.csq.phase = p)

/-- The latch confirmation timer expires unconfirmed (R33). -/
def expireConfirm (s : State) : State :=
  (s.onCsq fun c => { c with rinseWait := { c.rinseWait with confirmLeft := none } }).raise .doorLatchFail 0 .stop

/-- A timer of RINSE_WAIT, which runs in that state alone. -/
def inWait (s : State) (left : Option Nat) : Option Nat := if s.inPhase .rinseWait then left else none

end State

/-- RINSE_TARGET_REACHED (R35). -/
def execRinseTargetReached (s : State) : Result :=
  .next (s.event fun s => if s.rinseTargetMet then s.reachTarget else s)

/-- WASH_START (R27, R28). -/
def execWashStart (s : State) : Result := .next (s.event fun s => if s.washReady then s.startWash else s)

/-- WASH_END (R29). -/
def execWashEnd (s : State) : Result := .next (s.reach s.washPumpOn s.csq.washMs s.washLimitMs State.endWash)

/-- HOLD_LIMIT (R31). -/
def execHoldLimit (s : State) : Result :=
  .next (s.reach (s.inPhase .held) s.csq.hold.heldMs s.holdLimitMs fun s => s.endCycle .abortedHold)

/-- LATCH_CONFIRM_TIMEOUT (R33). -/
def execLatchConfirmTimeout (s : State) : Result :=
  .next (s.expire (s.inWait s.csq.rinseWait.confirmLeft) State.expireConfirm)

/-- RINSE_HOLD_EXPIRY (R34). -/
def execRinseHoldExpiry (s : State) : Result :=
  .next (s.expire (s.inWait s.csq.rinseWait.holdLeft) State.expireRinseHold)

/-- RINSE_START (R34, R35). -/
def execRinseStart (s : State) : Result := .next (s.event fun s => if s.rinseReady then s.startRinse else s)

/-- DWELL_END (R37). -/
def execDwellEnd (s : State) : Result :=
  .next (s.reach (s.inPhase .dwell) s.csq.dwellMs s.dwellLimitMs State.endDwell)

end Sys2Proof.Machine
end

