-- ==== Sys2Proof/Machine/BudgetEvents.lean ====
section
/-! DEFINITION. The commands of the load budget (03_mains_load_budget.md). -/

namespace Sys2Proof.Machine

open Sys2Proof

namespace State

/-- The time left of the oldest settling entry. -/
def settlingLeft (s : State) : Option Nat := s.lba.settling.head?.map Settling.left

/-- The tank heater waits and is not promoted (R54). -/
def ages (s : State) : Bool := s.waits .tankHeater && !(s.claimOf .tankHeater).promoted

end State

/-- SETTLING_END (R49). -/
def execSettlingEnd (s : State) : Result := .next (s.expire s.settlingLeft State.endSettling)

/-- AGING_PROMOTION (R54). -/
def execAgingPromotion (s : State) : Result :=
  .next (s.reach s.ages (s.claimOf .tankHeater).waitMs s.starveMs State.promote)

/-- HALT_CLEAR_TIMER (R59). -/
def execHaltClearTimer (s : State) : Result := .next (s.expire s.lba.haltClearLeft State.clearHalt)

end Sys2Proof.Machine
end

