-- ==== Sys2Proof/Machine/SoftenerEvents.lean ====
section
/-! DEFINITION. The commands of the softener (04_water_softening.md). -/

namespace Sys2Proof.Machine

open Sys2Proof

namespace State

/-- The phase time left of a regeneration that is not paused (R76). -/
def regenLeft (s : State) : Option Nat :=
  if s.regenPaused then none else s.regenColumn.map fun c => (s.column c).phaseLeft

/-- The phase of the regenerating column ends (R77). -/
def endRegenPhase (s : State) : State :=
  match s.regenColumn with
  | some c => s.endPhase c
  | none => s

end State

/-- CHANGEOVER_START (R71). -/
def execChangeoverStart (s : State) : Result := .next (s.event State.startChangeover)

/-- MOVE_TIMER_EXPIRY (R73). -/
def execMoveTimerExpiry (s : State) : Result := .next (s.expire s.sfc.moveLeft State.endMoveTimer)

/-- ALIGNMENT_START (R73). -/
def execAlignmentStart (s : State) : Result := .next (s.event State.startAlignment)

/-- REGEN_START (R75). -/
def execRegenStart (s : State) : Result := .next (s.event State.startRegen)

/-- REGEN_PHASE_END (R77). -/
def execRegenPhaseEnd (s : State) : Result := .next (s.expire s.regenLeft State.endRegenPhase)

end Sys2Proof.Machine
end

