-- ==== Sys2Proof/Machine/DosingEvents.lean ====
section
/-! DEFINITION. The commands of dosing (06_chemical_dosing.md). -/

namespace Sys2Proof.Machine

open Sys2Proof

namespace State

/-- The time left of a channel's watchdog while it runs (R108). -/
def watchdogLeft (s : State) (c : Channel) : Option Nat :=
  if s.watchdogRuns c then (s.channel c).watchdogLeft else none

end State

/-- ORDER_START (R107). -/
def execOrderStart (channel : Channel) (s : State) : Result := .next (s.event fun s => s.startOrder channel)

/-- ORDER_WATCHDOG_EXPIRY (R108). -/
def execOrderWatchdogExpiry (channel : Channel) (s : State) : Result :=
  .next (s.expire (s.watchdogLeft channel) fun s => s.watchdogExpires channel)

/-- DONE (R109). -/
def execDone (address : Addr) (orderTag : Octet) (delivered : BitVec 16) (reason : Octet) (s : State) : Result :=
  .next (s.event fun s => s.doneMessage address orderTag delivered.toNat reason)

end Sys2Proof.Machine
end

