-- ==== Sys2Proof/Machine/DoorEvents.lean ====
section
/-! DEFINITION. The commands of the door and the vent (07_door_drive_and_drying.md). -/

namespace Sys2Proof.Machine

open Sys2Proof

namespace State

/-- The time left of a retract (R129). -/
def retractLeft (s : State) : Option Nat :=
  match s.dvc.task with
  | .retract left => some left
  | .none => none
  | .push .. => none

/-- A timer of the step FAN, which runs in that step alone (R133). -/
def inFan (s : State) (left : Option Nat) : Option Nat := if s.dvc.vent.step = .fan then left else none

end State

/-- LATCH_RELEASE_TIMEOUT (R126, R130). -/
def execLatchReleaseTimeout (s : State) : Result := .next (s.expire s.dvc.releaseLeft State.expireRelease)

/-- MOVED (R127, R131). -/
def execMoved (address : Addr) (reached reason : Octet) (s : State) : Result :=
  .next (s.event fun s => s.movedMessage address reached.toNat reason)

/-- RETRACT_START (R129). -/
def execRetractStart (s : State) : Result := .next (s.event State.startRetract)

/-- RETRACT_TIME_LIMIT (R129, R132). -/
def execRetractTimeLimit (s : State) : Result := .next (s.expire s.retractLeft State.retractLimit)

/-- VENT_TIMER_EXPIRY (R133). -/
def execVentTimerExpiry (s : State) : Result := .next (s.expire (s.inFan s.dvc.vent.timerLeft) State.reportVent)

/-- COOLING_WINDOW_END (R133). -/
def execCoolingWindowEnd (s : State) : Result := .next (s.expire (s.inFan s.dvc.vent.coolingLeft) State.reportVent)

end Sys2Proof.Machine
end

