-- ==== Sys2Proof/Machine/BusEvents.lean ====
section
/-! DEFINITION. The commands of the Module Bus and of module supervision (08_module_bus.md, 09_module_supervision.md). A
command that names a count of frames reaching its limit stands for the frames that bring it there (log entry 18). -/

namespace Sys2Proof.Machine

open Sys2Proof

namespace State

/-- The downstream channel is in CLOSING (R150). -/
def downCloses (s : State) : Bool :=
  match s.mbi.down.phase with
  | .closing _ => true
  | .idle | .prepare | .present _ => false

/-- The downstream channel waits for the destination (R151). -/
def downStands (s : State) : Bool :=
  match s.mbi.down.phase with
  | .prepare | .present _ => true
  | .idle | .closing _ => false

/-- A grant stands in which a good MSG 1 frame has been seen, or has not (R152, R155). -/
def grantStands (s : State) (seen : Bool) : Bool :=
  match s.mbi.grant with
  | some g => g.msgSeen == seen
  | none => false

/-- An entry counts good READY frames (R162). -/
def countsGood (s : State) (a : Addr) : Bool :=
  (decide ((s.entry a).link = .seeking) || decide ((s.entry a).link = .lost)) &&
    (match (s.entry a).bringUp with
    | .count _ => true
    | .query | .answer _ | .mismatch => false)

/-- The stuck watch is in STUCK (R169). -/
def isStuck (s : State) : Bool :=
  match s.msu.watch with
  | .stuck _ _ => true
  | .off | .watch _ => false

/-- The stuck watch is in WATCH (R169). -/
def isWatching (s : State) : Bool :=
  match s.msu.watch with
  | .watch _ => true
  | .off | .stuck _ _ => false

/-- The time left of a line break (R157). -/
def breakLeft (s : State) : Option Nat :=
  match s.mbi.line with
  | .running => none
  | .brk left => some left

/-- An effect that takes place only under a condition. -/
def onlyIf (s : State) (b : Bool) (f : State → State) : State := if b then f s else s

end State

/-- FRAME_END (R140); no frame ends during a line break. The frame that follows is built last, after every start that the
event makes, so that it carries them (R140, R142). -/
def execFrameEnd (up : UpFrame) (s : State) : Result :=
  .next (if s.on && s.lineRuns then (s.event fun s => s.endFrame up).nextFrame else s.event id)

/-- MESSAGE_DELIVERED (R150). -/
def execMessageDelivered (s : State) : Result := .next (s.event fun s => s.onlyIf s.downCloses State.deliverDown)

/-- CLOSING_LIMIT: the message is taken as delivered (R151). -/
def execClosingLimit (s : State) : Result :=
  .next (s.event fun s => if s.downCloses then s.deliverDown else s)

/-- DOWNSTREAM_NO_PROGRESS (R151). -/
def execDownstreamNoProgress (s : State) : Result :=
  .next (s.event fun s => s.onlyIf s.downStands State.abandonDown)

/-- UPSTREAM_NO_PROGRESS (R152). -/
def execUpstreamNoProgress (s : State) : Result :=
  .next (s.event fun s => s.onlyIf (s.grantStands true) State.abandonUp)

/-- GRANT_WITHDRAWAL (R155). -/
def execGrantWithdrawal (s : State) : Result :=
  .next (s.event fun s => s.onlyIf (s.grantStands false) State.withdrawGrant)

/-- LINE_BREAK_END (R157): the frame built is number 0, from the values that the event leaves (R140). -/
def execLineBreakEnd (s : State) : Result :=
  .next (if s.on && !s.lineRuns then (s.expire s.breakLeft State.startLine).buildFrame 0 else s)

/-- BRING_UP_QUERY (R162). -/
def execBringUpQuery (address : Addr) (s : State) : Result :=
  .next (s.event fun s => s.onlyIf (s.countsGood address) fun s => s.bringUpQuery address)

/-- ANSWER_TIMEOUT (R162, R166). -/
def execAnswerTimeout (address : Addr) (s : State) : Result := .next (s.event fun s => s.expireAnswer address)

/-- CAPS (R164). -/
def execCaps (address : Addr) (body : Vector Octet 6) (s : State) : Result :=
  .next (s.event fun s => s.capsMessage address body)

/-- SILENT_COUNT_LIMIT (R162, R167). -/
def execSilentCountLimit (address : Addr) (s : State) : Result := .next (s.event fun s => s.silentLimit address)

/-- STUCK_LINE_BREAK (R169). -/
def execStuckLineBreak (s : State) : Result :=
  .next (s.event fun s => s.onlyIf (decide (s.msu.watch = .off)) State.watchLine)

/-- BUS_STUCK (R169). -/
def execBusStuck (s : State) : Result := .next (s.event fun s => s.onlyIf s.isWatching State.setStuck)

/-- STUCK_REPEAT_BREAK (R169). -/
def execStuckRepeatBreak (s : State) : Result := .next (s.event fun s => s.onlyIf s.isStuck State.rebreakLine)

/-- BUS_STUCK_CLEAR (R169). -/
def execBusStuckClear (s : State) : Result := .next (s.event fun s => s.onlyIf s.isStuck State.clearStuck)

end Sys2Proof.Machine
end

