-- ==== Sys2Proof/Machine/Dispatch.lean ====
section
/-! DEFINITION. The meaning of every command, one arm per row of spec/opcode_table.json, in the table's order. -/

namespace Sys2Proof.Machine

open Sys2Proof

def exec (i : Instr) (s : State) : Host.Outcome State Fault Refusal :=
  match i with
  | .ident tag => Sys2Proof.Machine.execIdent tag s
  | .status tag sect => Sys2Proof.Machine.execStatus tag sect s
  | .get tag number => Sys2Proof.Machine.execGet tag number s
  | .set tag number value => Sys2Proof.Machine.execSet tag number value s
  | .recipeGet tag number => Sys2Proof.Machine.execRecipeGet tag number s
  | .recipeSet tag number fields => Sys2Proof.Machine.execRecipeSet tag number fields s
  | .run tag number => Sys2Proof.Machine.execRun tag number s
  | .cancelPending tag => Sys2Proof.Machine.execCancelPending tag s
  | .cancelActive tag => Sys2Proof.Machine.execCancelActive tag s
  | .cancelAll tag => Sys2Proof.Machine.execCancelAll tag s
  | .prepare tag => Sys2Proof.Machine.execPrepare tag s
  | .drain tag => Sys2Proof.Machine.execDrain tag s
  | .doseManual tag channel volume => Sys2Proof.Machine.execDoseManual tag channel volume s
  | .dosePrime tag channel seconds => Sys2Proof.Machine.execDosePrime tag channel seconds s
  | .stock tag channel volume => Sys2Proof.Machine.execStock tag channel volume s
  | .regen tag column => Sys2Proof.Machine.execRegen tag column s
  | .doorOpen tag percent => Sys2Proof.Machine.execDoorOpen tag percent s
  | .doorRetract tag => Sys2Proof.Machine.execDoorRetract tag s
  | .faults tag first => Sys2Proof.Machine.execFaults tag first s
  | .ackFault tag code detail => Sys2Proof.Machine.execAckFault tag code detail s
  | .ackFaultAll tag => Sys2Proof.Machine.execAckFaultAll tag s
  | .moduleRead tag address => Sys2Proof.Machine.execModuleRead tag address s
  | .modulePin tag address fields => Sys2Proof.Machine.execModulePin tag address fields s
  | .moduleUnpin tag address => Sys2Proof.Machine.execModuleUnpin tag address s
  | .moduleClearCounters tag address => Sys2Proof.Machine.execModuleClearCounters tag address s
  | .moduleBusReset tag => Sys2Proof.Machine.execModuleBusReset tag s
  | .save tag => Sys2Proof.Machine.execSave tag s
  | .resetSoft tag => Sys2Proof.Machine.execResetSoft tag s
  | .resetFull tag => Sys2Proof.Machine.execResetFull tag s
  | .sleep tag mask => Sys2Proof.Machine.execSleep tag mask s
  | .unknownKind tag kind => Sys2Proof.Machine.execUnknownKind tag kind s
  | .panelOctetReceived octet stopBit overrun => Sys2Proof.Machine.execPanelOctetReceived octet stopBit overrun s
  | .octetGapTimeout => Sys2Proof.Machine.execOctetGapTimeout s
  | .transmitDone => Sys2Proof.Machine.execTransmitDone s
  | .softResetTaken => Sys2Proof.Machine.execSoftResetTaken s
  | .fullResetTaken => Sys2Proof.Machine.execFullResetTaken s
  | .supplyRise => Sys2Proof.Machine.execSupplyRise s
  | .oscillatorSettled => Sys2Proof.Machine.execOscillatorSettled s
  | .storeWriteEnd => Sys2Proof.Machine.execStoreWriteEnd s
  | .pfwAssert => Sys2Proof.Machine.execPfwAssert s
  | .pfwRelease => Sys2Proof.Machine.execPfwRelease s
  | .settleEnd => Sys2Proof.Machine.execSettleEnd s
  | .wakePulseEnd => Sys2Proof.Machine.execWakePulseEnd s
  | .flowPulse => Sys2Proof.Machine.execFlowPulse s
  | .rinseTargetReached => Sys2Proof.Machine.execRinseTargetReached s
  | .inletHandover => Sys2Proof.Machine.execInletHandover s
  | .quietWindowExpiry => Sys2Proof.Machine.execQuietWindowExpiry s
  | .runOnEnd => Sys2Proof.Machine.execRunOnEnd s
  | .levelSample low high full => Sys2Proof.Machine.execLevelSample low high full s
  | .implausibleTimerExpiry => Sys2Proof.Machine.execImplausibleTimerExpiry s
  | .fillTimeLimit => Sys2Proof.Machine.execFillTimeLimit s
  | .drainOutTimer => Sys2Proof.Machine.execDrainOutTimer s
  | .sensorReading tank booster vapour => Sys2Proof.Machine.execSensorReading tank booster vapour s
  | .purgeDone => Sys2Proof.Machine.execPurgeDone s
  | .washStart => Sys2Proof.Machine.execWashStart s
  | .washEnd => Sys2Proof.Machine.execWashEnd s
  | .holdLimit => Sys2Proof.Machine.execHoldLimit s
  | .latchConfirmTimeout => Sys2Proof.Machine.execLatchConfirmTimeout s
  | .rinseHoldExpiry => Sys2Proof.Machine.execRinseHoldExpiry s
  | .rinseStart => Sys2Proof.Machine.execRinseStart s
  | .dwellEnd => Sys2Proof.Machine.execDwellEnd s
  | .settlingEnd => Sys2Proof.Machine.execSettlingEnd s
  | .agingPromotion => Sys2Proof.Machine.execAgingPromotion s
  | .haltClearTimer => Sys2Proof.Machine.execHaltClearTimer s
  | .changeoverStart => Sys2Proof.Machine.execChangeoverStart s
  | .moveTimerExpiry => Sys2Proof.Machine.execMoveTimerExpiry s
  | .alignmentStart => Sys2Proof.Machine.execAlignmentStart s
  | .regenStart => Sys2Proof.Machine.execRegenStart s
  | .regenPhaseEnd => Sys2Proof.Machine.execRegenPhaseEnd s
  | .orderStart channel => Sys2Proof.Machine.execOrderStart channel s
  | .orderWatchdogExpiry channel => Sys2Proof.Machine.execOrderWatchdogExpiry channel s
  | .done address orderTag delivered reason => Sys2Proof.Machine.execDone address orderTag delivered reason s
  | .latchReleaseTimeout => Sys2Proof.Machine.execLatchReleaseTimeout s
  | .moved address reached reason => Sys2Proof.Machine.execMoved address reached reason s
  | .retractStart => Sys2Proof.Machine.execRetractStart s
  | .retractTimeLimit => Sys2Proof.Machine.execRetractTimeLimit s
  | .ventTimerExpiry => Sys2Proof.Machine.execVentTimerExpiry s
  | .coolingWindowEnd => Sys2Proof.Machine.execCoolingWindowEnd s
  | .frameEnd up => Sys2Proof.Machine.execFrameEnd up s
  | .messageDelivered => Sys2Proof.Machine.execMessageDelivered s
  | .closingLimit => Sys2Proof.Machine.execClosingLimit s
  | .downstreamNoProgress => Sys2Proof.Machine.execDownstreamNoProgress s
  | .upstreamNoProgress => Sys2Proof.Machine.execUpstreamNoProgress s
  | .grantWithdrawal => Sys2Proof.Machine.execGrantWithdrawal s
  | .lineBreakEnd => Sys2Proof.Machine.execLineBreakEnd s
  | .bringUpQuery address => Sys2Proof.Machine.execBringUpQuery address s
  | .answerTimeout address => Sys2Proof.Machine.execAnswerTimeout address s
  | .caps address body => Sys2Proof.Machine.execCaps address body s
  | .silentCountLimit address => Sys2Proof.Machine.execSilentCountLimit address s
  | .stuckLineBreak => Sys2Proof.Machine.execStuckLineBreak s
  | .busStuck => Sys2Proof.Machine.execBusStuck s
  | .stuckRepeatBreak => Sys2Proof.Machine.execStuckRepeatBreak s
  | .busStuckClear => Sys2Proof.Machine.execBusStuckClear s
  | .supplyFail => Sys2Proof.Machine.execSupplyFail s

end Sys2Proof.Machine
end

