-- ==== Sys2Proof/Machine/Due.lean ====
section
/-! DEFINITION. What is due when no command waits: a timer that has run out, or a condition whose event has not been taken.
The order among events that are due together is a choice (log entry 13). -/

namespace Sys2Proof.Machine

open Sys2Proof

/-- A timer has run out. -/
def ranOut (left : Option Nat) : Bool := left == some 0

namespace State

/-- An accumulated time that runs has reached its limit. -/
def reached (runs : Bool) (count limit : Nat) : Bool := runs && decide (limit ≤ count)

/-- The inlet is obtainable and a user waits for it (R1). -/
def inletWanted (s : State) : Bool := s.obtainable && (s.whu.rinseWaiting || s.whu.tankWaiting)

/-- Timers of PLK and STO that have run out, and resets that are due. -/
def duePart (s : State) : List (Bool × Instr) :=
  [(ranOut s.writeLeft, .storeWriteEnd), (s.dueReset .full, .fullResetTaken), (s.dueReset .soft, .softResetTaken),
   (ranOut s.settleLeft, .settleEnd), (ranOut s.sto.wakePulseLeft, .wakePulseEnd), (ranOut s.gapLeft, .octetGapTimeout)]

/-- Timers of the water path and of the cycle that have run out. -/
def dueWater (s : State) : List (Bool × Instr) :=
  [(ranOut s.runOnLeft, .runOnEnd), (ranOut s.whu.quietLeft, .quietWindowExpiry),
   (ranOut s.whu.implausibleLeft, .implausibleTimerExpiry),
   (reached (s.fillRuns && s.whu.fill.isSome) s.fillMs s.fillLimitMs, .fillTimeLimit),
   (reached (s.drainsFor .draining && s.whu.drainOutMs.isSome) (s.whu.drainOutMs.getD 0) drainOutLimitMs, .drainOutTimer),
   (reached (s.drainsFor .purge) s.whu.purgeMs s.whu.purgeTime, .purgeDone),
   (reached s.washPumpOn s.csq.washMs s.washLimitMs, .washEnd),
   (reached (s.inPhase .held) s.csq.hold.heldMs s.holdLimitMs, .holdLimit),
   (ranOut (s.inWait s.csq.rinseWait.confirmLeft), .latchConfirmTimeout),
   (ranOut (s.inWait s.csq.rinseWait.holdLeft), .rinseHoldExpiry),
   (reached (s.inPhase .dwell) s.csq.dwellMs s.dwellLimitMs, .dwellEnd)]

/-- Timers of the budget, the softener, dosing, the door and the bus that have run out. -/
def dueModules (s : State) : List (Bool × Instr) :=
  [(ranOut s.settlingLeft, .settlingEnd),
   (reached s.ages (s.claimOf .tankHeater).waitMs s.starveMs, .agingPromotion),
   (ranOut s.lba.haltClearLeft, .haltClearTimer), (ranOut s.sfc.moveLeft, .moveTimerExpiry),
   (ranOut s.regenLeft, .regenPhaseEnd), (ranOut (s.watchdogLeft .det), .orderWatchdogExpiry .det),
   (ranOut (s.watchdogLeft .ra), .orderWatchdogExpiry .ra), (ranOut s.dvc.releaseLeft, .latchReleaseTimeout),
   (ranOut s.retractLeft, .retractTimeLimit), (ranOut (s.inFan s.dvc.vent.timerLeft), .ventTimerExpiry),
   (ranOut (s.inFan s.dvc.vent.coolingLeft), .coolingWindowEnd), (ranOut s.breakLeft, .lineBreakEnd)]

/-- Conditions whose event is to be taken. The starts among them are made at the end of the event in which their conditions
come to hold, so they are due only in a state that no event has left. A claim refused as unfit waits for the load to be fit
(R55), an alignment or a RETRACT that ended unfit for its next test (R73, R129). -/
def dueConditions (s : State) : List (Bool × Instr) :=
  [(s.rinseTargetMet, .rinseTargetReached), (s.changeoverReady, .changeoverStart),
   (s.alignmentReady && !s.sfc.alignHeld, .alignmentStart), (s.inletWanted, .inletHandover),
   (s.washReady, .washStart), (s.rinseReady, .rinseStart), (s.regenReady, .regenStart),
   (s.orderReady .det, .orderStart .det), (s.orderReady .ra, .orderStart .ra),
   (s.retractReady && !s.dvc.retractHeld, .retractStart)]

/-- Every event of a running part with whether it is due. -/
def dueEvents (s : State) : List (Bool × Instr) := s.duePart ++ s.dueWater ++ s.dueModules ++ s.dueConditions

/-- The first event that is due. Before it runs, the part waits for its oscillator alone (R192). -/
def dueEvent (s : State) : Option Instr :=
  if s.on then (s.dueEvents.find? Prod.fst).map Prod.snd
  else if ranOut s.oscillatorLeft then some .oscillatorSettled
  else none

end State

end Sys2Proof.Machine
end

