-- ==== Sys2Proof/Safety.lean ====
section
/-! DEFINITION. What counts as a safe state of the block, in terms that statements use: the bounds of every queue and list,
the budget law, what a LOCKOUT holds off, and when a request is answered in its own event. -/

namespace Sys2Proof.Machine

open Sys2Proof

namespace State

/-- The part runs and is neither in STANDBY nor in a settle (R193, R194). -/
def awake (s : State) : Bool := s.on && decide (s.sto.power ≠ .standby) && s.sto.settle.isNone

/-- The part answers a request in its own event: it is awake, and its reply slot is empty (R183, R194). -/
def takes (s : State) : Bool := s.awake && s.plk.reply.isNone

/-- The part hands a request of any KIND to its owner: it takes it, and no LOCKOUT turns it away (R183). -/
def serves (s : State) : Bool := s.takes && !s.locked

/-- No pump, heater or valve output is energised. -/
def quiet (s : State) : Bool :=
  !s.valveOpen && !s.washPumpOn && !s.rinsePumpOn && !s.drainPumpOn && !s.tankHeaterOn && !s.boosterAOn && !s.boosterBOn

/-- Every queue and list lies within the length its chapter gives: notices (R185), downstream messages (R154), orders
(R102), fault records (R172) and history rows (R177). -/
def Bounded (s : State) : Prop :=
  s.plk.notices.length ≤ Config.noticeLimit ∧ s.mbi.queue.length ≤ Config.queueLimit ∧
    s.dsc.det.orders.length ≤ Config.orderLimit ∧ s.dsc.ra.orders.length ≤ Config.orderLimit ∧
    s.flu.list.length ≤ Config.faultLimit ∧ s.flu.history.length ≤ Config.historyLimit

/-- The budget law: granted and settling wattage lie within the budget in force (R50). -/
def BudgetLaw (s : State) : Prop := s.sumGranted + s.sumSettling ≤ s.lba.inForce

/-- A key whose every raise is a WARNING by the fault table (10.1). -/
def warningKey (code : FaultCode) (detail : Nat) : Bool :=
  match code with
  | .sensorVapour | .rinseLowTemp | .softenerExhausted | .saltLow | .regenNoBrine | .valveStuck | .detEmpty | .raEmpty
  | .doserStall | .doorBlocked | .doorForced | .moduleMismatch | .moduleFault | .budgetUnfit | .settingsLost => true
  | .doorLatchFail => detail == 1
  | .tankLevelImplausible | .tankFillTimeout | .inletNoFlow | .sensorTank | .sensorBooster | .boosterOvertemp
  | .tankOvertemp | .boosterDry | .doorObstructed | .moduleLost | .busStuck => false

/-- Under a LOCKOUT no claim stands and the inlet is closed (R3, R61); with it, what this rests on: a closed inlet has no
owner, and a key that is always raised as WARNING is held as WARNING. -/
def LockoutSafe (s : State) : Prop :=
  (s.whu.owner = none → s.whu.phase = .closed) ∧
    (∀ r ∈ s.flu.list, warningKey r.code r.detail = true → r.cls = .warning) ∧
    (s.locked = true → (∀ l : Load, (s.claimOf l).state = .idle) ∧ s.whu.phase = .closed)

end State

end Sys2Proof.Machine
end

