-- ==== Sys2Proof/Certificates/Slice0/Obligations.lean ====
section
/-! DEFINITION. The statements for the provers: one definition per obligation of OBLIGATIONS.json, in its order. A
statement about a command says which state it answers: the effect written out, and then `State.finish`, what every event
leaves settled (conditions that returned or ended, the starts of the modules' jobs, STANDBY_PENDING, the thermostats, the
transmitter's choice; log entry 25). -/

open Sys2Proof Sys2Proof.Machine

/-- O1. For every command c and state s, a step of s with c put in front of its queue is exec c on s, and a step of a
state whose queue is c followed by rest is exec c on that state with rest waiting. With an empty queue a step runs
the event that is due; with none due, one millisecond passes. The order among events due together is the model's
choice (log entry 13). A part without supply has no due event and does not change. (95_what_each_step_holds.md;
00_scope.md, 1.8 Conventions) -/
def Obligations.StepRunsTheCommandInFront : Prop :=
  ((∀ (c : Instr) (s : State), step (s.push c) = exec c s) ∧
    ∀ (c : Instr) (rest : List Instr) (s : State), s.pending = c :: rest → step s =
        exec c { s with pending := rest }) ∧
  ((∀ (c : Instr) (s : State), s.pending = [] → s.dueEvent = some c → step s = exec c s) ∧
    (∀ s : State, s.pending = [] → s.dueEvent = none → step s = .next (s.advance 1)) ∧
    ∀ s : State, s.pending = [] → s.sto.power = .off → step s = .next s)

/-- O2. For every command c and every state s, exec c s answers a next state; it never faults and never refuses, and it
leaves the queue of waiting commands as it was. In a state in which the part does not run, every command other than
SUPPLY_RISE and OSCILLATOR_SETTLED leaves the whole state as it was. (95_what_each_step_holds.md; 11_panel_link.md,
11.2 Requests and replies; 12_start_up_standby_and_the_settings_store.md, 12.3 Start-up and resets) -/
def Obligations.EveryCommandAnswersANextState : Prop :=
  (∀ (c : Instr) (s : State), ∃ t : State, exec c s = .next t ∧ t.pending = s.pending) ∧
  (∀ (c : Instr) (s : State), s.on = false → c ≠ .supplyRise → c ≠ .oscillatorSettled → exec c s = .next s)

/-- O3. SUPPLY_RISE in a part without supply starts the 10 ms oscillator wait and changes nothing else; with supply it
changes nothing. SUPPLY_FAIL of a running part with PFW asserted leaves it without supply; the counters write that
PFW started has ended and its copy passes its check, and with the write state IDLE nothing but the power state
changes. Without PFW the model gives SUPPLY_FAIL no effect (log entry 20). Model choices this rests on: log entries
20, 22. (12_start_up_standby_and_the_settings_store.md, 12.2 Writing the store;
12_start_up_standby_and_the_settings_store.md, 12.3 Start-up and resets) -/
def Obligations.SupplyRisesAndFails : Prop :=
  (∀ s : State, s.sto.power = .off → exec .supplyRise s =
      .next { s with sto := { s.sto with power := .oscillator 10 } }) ∧
    (∀ s : State, s.sto.power ≠ .off → exec .supplyRise s = .next s) ∧
    (∀ (s : State) (copy : StoreCopy CountersImage) (left : Nat), s.on = true → s.sto.pfw = true →
      s.sto.write = .writing .counters false left → s.sto.nvm.cnt1 = some copy →
      exec .supplyFail s = .next
        { s with
          sto := { s.sto with
            nvm := { s.sto.nvm with cnt1 := some { copy with good := true } }, write := .idle, power := .off } }) ∧
    (∀ (s : State) (copy : StoreCopy CountersImage) (left : Nat), s.on = true → s.sto.pfw = true →
      s.sto.write = .writing .counters true left → s.sto.nvm.cnt2 = some copy →
      exec .supplyFail s = .next
        { s with
          sto := { s.sto with
            nvm := { s.sto.nvm with cnt2 := some { copy with good := true } }, write := .idle, power := .off } }) ∧
    (∀ s : State, s.sto.pfw = false → exec .supplyFail s = .next s) ∧
    ∀ s : State, s.on = true → s.sto.pfw = true → s.sto.write = .idle →
      exec .supplyFail s = .next { s with sto := { s.sto with power := .off } }

/-- O4. From any state that waits for its oscillator with a blank store, OSCILLATOR_SETTLED gives exactly State.reset
with the same commands waiting. That State.reset has a blank store is the model's choice (log entry 1), and so are
the values it gives where the spec gives none: PFW released (14), the count from 0 (5), the unnamed fields (3), and
the order of the start-up notices (48). A part that does not wait for its oscillator is left as it was. The frame
number of a line that has built no frame is log entry 85. (12_start_up_standby_and_the_settings_store.md, 12.3
Start-up and resets; 10_faults_and_protective_actions.md, 10.7 Resets) -/
def Obligations.PowerOnWithABlankStoreGivesReset : Prop :=
  (∀ (s : State) (left : Nat), s.sto.power = .oscillator left → s.sto.nvm = blankNvm →
      exec .oscillatorSettled s = .next { State.reset with pending := s.pending }) ∧
    ∀ s : State, s.oscillatorLeft = none → exec .oscillatorSettled s = .next s

/-- O5. From any state that waits for its oscillator, OSCILLATOR_SETTLED gives a running part whose settings, recipes
and load results are those of the images loaded from the store; whose water, door, bus and module blocks are in their
reset states, with the pins of the store; whose claims are all IDLE with the budget in force at mains_budget_w; whose
queue is empty in IDLE with the stored cycle counter and cycle_open 0; whose columns are the stored ones held within
column_capacity, a regenerating one EXHAUSTED with capacity 0, SERVE naming the service column, the changeover DUE
exactly when that column is spent, the accumulator kept below K; whose stocks and carries are the stored ones held
within container and step, with the empty flags and the rinse-aid accumulator stored and no order; and whose fault
list holds what the loaded values raise. The count of milliseconds from 0 is the model's choice (log entry 5), and so
are the order of the raises (log entry 48) and the fields that the spec names no value for, the phase times of the
columns, the purge time and the vent figures among them (log entry 3). The frame number of a line that has built no
frame is log entry 85. (12_start_up_standby_and_the_settings_store.md, 12.3 Start-up and resets;
01_water_path_and_heat.md, Resets; 02_the_wash_cycle.md, 2.12 Resets; 03_mains_load_budget.md, 3.9 Lockout and resets;
06_chemical_dosing.md, 6.11 Resets; 04_water_softening.md, 4.11 Resets; 07_door_drive_and_drying.md, 7.8 Cycle end and
resets; 09_module_supervision.md, 9.9 Resets; 10_faults_and_protective_actions.md, 10.7 Resets) -/
def Obligations.PowerOnRestoresTheStore : Prop :=
  ∀ (s : State) (left : Nat), s.sto.power = .oscillator left →
    let img := loadImage s.sto.nvm.set1 s.sto.nvm.set2 defaultImage
    let cnt := loadImage s.sto.nvm.cnt1 s.sto.nvm.cnt2
      (defaultCounters (img.1.settings.get SettingIx.columnCapacity).toNat)
    ∃ t : State, exec .oscillatorSettled s = .next t ∧ t.settings = img.1.settings ∧ t.sto.settingsLoad = img.2 ∧
      t.sto.countersLoad = cnt.2 ∧ t.sto.power = .running ∧ t.now = 0 ∧ t.whu = Whu.reset ∧ t.mbi = Mbi.reset ∧
      t.csq = Csq.cleared img.1.recipes cnt.1.counter 0 ∧ t.lba.inForce =
          (img.1.settings.get SettingIx.mainsBudget).toNat ∧
      t.lba.settling = [] ∧ (∀ l : Load, (t.claimOf l).state = .idle) ∧ t.sfc.serviceCol = cnt.1.serviceCol ∧
      t.dsc.det.stock = min cnt.1.det.stock ((img.1.settings.get SettingIx.containerDet).toNat * 1000) ∧
      t.dsc.ra.stock = min cnt.1.ra.stock ((img.1.settings.get SettingIx.containerRa).toNat * 1000) ∧
      t.sfc.colA = (if cnt.1.colA.state.regen then { cnt.1.colA with state := .exhausted, capacity := 0, phaseLeft := 0 }
        else { cnt.1.colA with
          capacity := min cnt.1.colA.capacity (t.num SettingIx.columnCapacity * 100), phaseLeft := 0 }) ∧
      t.sfc.colB = (if cnt.1.colB.state.regen then { cnt.1.colB with state := .exhausted, capacity := 0, phaseLeft := 0 }
        else { cnt.1.colB with
          capacity := min cnt.1.colB.capacity (t.num SettingIx.columnCapacity * 100), phaseLeft := 0 }) ∧
      t.sfc.serve = cnt.1.serviceCol ∧ t.sfc.acc = (if t.k ≤ cnt.1.acc then 0 else cnt.1.acc) ∧
      t.sfc.changeover = (if (t.column cnt.1.serviceCol).capacity = 0 then .due else .none) ∧
      t.dsc.det.carry = min cnt.1.det.carry (t.ulPerStep .det - 1) ∧ t.dsc.det.empty = cnt.1.det.empty ∧
      t.dsc.ra.carry = min cnt.1.ra.carry (t.ulPerStep .ra - 1) ∧ t.dsc.ra.empty = cnt.1.ra.empty ∧
      t.dsc.det.orders = [] ∧ t.dsc.ra.orders = [] ∧ t.dsc.acc = cnt.1.raAcc ∧ t.dsc.owed = 0 ∧
      t.dvc = Dvc.reset true ∧ t.msu = Msu.loaded img.1.settings img.1.pins ∧
      t.flu.list =
        (let warning := fun (c : FaultCode) (ack present : Bool) =>
          ({ code := c, detail := 0, cls := .warning, ack := ack, present := present, count := 1,
             firstCycle := cnt.1.counter, escalated := false } : FaultRec);
        (if cnt.1.det.empty then [warning .detEmpty false true] else []) ++
        (if cnt.1.ra.empty then [warning .raEmpty false true] else []) ++
        (if t.sfc.changeover = .due then [warning .softenerExhausted false true] else []) ++
        (if img.2 = .defaults ∨ cnt.2 = .defaults then [warning .settingsLost true false] else [])) ∧
      t.flu.history = [] ∧ t.pending = s.pending

/-- O6. Of two copies that pass their check, the one whose number follows the other by 1 (modulo 65536) is taken, else
the first, with result NEWEST. If only the copy not taken first passes, its values are taken with result OLDER. With
no copy that passes, the defaults are taken with result DEFAULTS. A counters write goes to the copy other than the one
that holds the newest good image, with the next sequence number modulo 65536, takes the counters as they stand and
does not pass its check until STORE_WRITE_END, which makes the write state IDLE and the copy good. A store without a
good copy is written at its first copy with number 0 (model choice, log entry 6). With no write in progress
STORE_WRITE_END changes nothing. The settings write that starts serves a SAVE that waits for one, and its end makes
the last save result DONE, whatever counters write is marked then (log entry 49). That a copy bears its number from
the start of its write on is log entry 91. A store with one copy present, or with only one that passes its check, is
loaded from that copy and written at the other; the settings image is loaded and written by the same choice of copy.
That a write lasts exactly 8 ms is log entry 95: the rule says within 8 ms. Model choices this rests on: log entries
6, 9, 22, 49, 91, 95. (12_start_up_standby_and_the_settings_store.md, 12.3 Start-up and resets;
12_start_up_standby_and_the_settings_store.md, 12.2 Writing the store) -/
def Obligations.StoreCopiesAlternateAndTheLaterIsLoaded : Prop :=
  ((∀ a b : StoreCopy CountersImage, ∀ d : CountersImage, b.seq = (a.seq + 1) % 65536 →
      (b.good = true → loadImage (some a) (some b) d = (b.image, .newest)) ∧
      (b.good = false → a.good = true → loadImage (some a) (some b) d = (a.image, .older))) ∧
    (∀ a b : StoreCopy CountersImage, ∀ d : CountersImage, b.seq ≠ (a.seq + 1) % 65536 →
      (a.good = true → loadImage (some a) (some b) d = (a.image, .newest)) ∧
      (a.good = false → b.good = true → loadImage (some a) (some b) d = (b.image, .older))) ∧
    (∀ a b : StoreCopy CountersImage, ∀ d : CountersImage, a.good = false → b.good = false →
      loadImage (some a) (some b) d = (d, .defaults)) ∧
    ∀ d : CountersImage, loadImage none none d = (d, .defaults)) ∧
  ((∀ (s : State) (a b : StoreCopy CountersImage), s.sto.nvm.cnt1 = some a → s.sto.nvm.cnt2 = some b → a.good = true →
      b.good = true → b.seq = (a.seq + 1) % 65536 →
      s.startWrite .counters =
        { s with
          sto := { s.sto with
            nvm := { s.sto.nvm with
              cnt1 := some { seq := (b.seq + 1) % 65536, good := false, image := s.countersImage } }
            write := .writing .counters false 8, countersMark := false } }) ∧
    (∀ (s : State) (a b : StoreCopy CountersImage), s.sto.nvm.cnt1 = some a → s.sto.nvm.cnt2 = some b → a.good =
        true →
      (b.good = false ∨ b.seq ≠ (a.seq + 1) % 65536) →
      s.startWrite .counters =
        { s with
          sto := { s.sto with
            nvm := { s.sto.nvm with
              cnt2 := some { seq := (a.seq + 1) % 65536, good := false, image := s.countersImage } }
            write := .writing .counters true 8, countersMark := false } }) ∧
    (∀ s : State, s.sto.nvm.cnt1 = none → s.sto.nvm.cnt2 = none →
      s.startWrite .counters =
        { s with
          sto := { s.sto with
            nvm := { s.sto.nvm with cnt1 := some { seq := 0, good := false, image := s.countersImage } }
            write := .writing .counters false 8, countersMark := false } }) ∧
    (∀ (s : State) (second : Bool) (left : Nat), s.on = true → s.sto.write = .writing .counters second left →
      exec .storeWriteEnd s = .next
        ((s.advance left).onSto fun x =>
          { x with
            nvm := if second then { x.nvm with cnt2 := x.nvm.cnt2.map fun c => { c with good := true } }
              else { x.nvm with cnt1 := x.nvm.cnt1.map fun c => { c with good := true } }
            write := .idle }).kickStore.finish) ∧
    (∀ (s : State) (second : Bool) (left : Nat), s.on = true → s.sto.write = .writing .settings second left →
      exec .storeWriteEnd s = .next
        ((s.advance left).onSto fun x =>
          { x with
            nvm := if second then { x.nvm with set2 := x.nvm.set2.map fun c => { c with good := true } }
              else { x.nvm with set1 := x.nvm.set1.map fun c => { c with good := true } }
            write := .idle, saveRuns := false
            lastSave := if x.saveRuns then .done else x.lastSave }).kickStore.finish) ∧
    (∀ s : State, s.sto.write = .idle → exec .storeWriteEnd s = .next s)) ∧
    (∀ (b : StoreCopy CountersImage) (d : CountersImage),
      loadImage (some b) none d = (if b.good then (b.image, .newest) else (d, .defaults)) ∧
        loadImage none (some b) d = (if b.good then (b.image, .older) else (d, .defaults))) ∧
    (∀ (a b : StoreCopy SettingsImage) (d : SettingsImage),
      loadImage (some a) (some b) d =
        (if b.seq = (a.seq + 1) % 65536 then
          (if b.good then (b.image, .newest) else if a.good then (a.image, .older) else (d, .defaults))
        else if a.good then (a.image, .newest) else if b.good then (b.image, .older) else (d, .defaults))) ∧
    (∀ s : State, s.startWrite .counters =
      (let t := writeTarget s.sto.nvm.cnt1 s.sto.nvm.cnt2;
        let c := some ({ seq := t.2, good := false, image := s.countersImage } : StoreCopy CountersImage);
        { s with
          sto := { s.sto with
            nvm := if t.1 then { s.sto.nvm with cnt2 := c } else { s.sto.nvm with cnt1 := c }
            write := .writing .counters t.1 8, countersMark := false } })) ∧
    (∀ s : State, s.startWrite .settings =
      (let t := writeTarget s.sto.nvm.set1 s.sto.nvm.set2;
        let c := some ({ seq := t.2, good := false, image := s.settingsImage } : StoreCopy SettingsImage);
        { s with
          sto := { s.sto with
            nvm := if t.1 then { s.sto.nvm with set2 := c } else { s.sto.nvm with set1 := c }
            write := .writing .settings t.1 8, settingsMark := false
            saveRuns := s.sto.saveWaits, saveWaits := false } })) ∧
    (∀ a b : StoreCopy SettingsImage,
      writeTarget (some a) (some b) =
          (if a.good && b.good then
            (if b.seq = (a.seq + 1) % 65536 then (false, (b.seq + 1) % 65536) else (true, (a.seq + 1) % 65536))
          else if a.good then (true, (a.seq + 1) % 65536) else if b.good then (false, (b.seq + 1) % 65536)
          else (false, 0)) ∧
        writeTarget (some a) none = (if a.good then (true, (a.seq + 1) % 65536) else (false, 0)) ∧
        writeTarget none (some b) = (if b.good then (false, (b.seq + 1) % 65536) else (false, 0))) ∧
    ∀ a b : StoreCopy CountersImage,
      writeTarget (some a) (some b) =
          (if a.good && b.good then
            (if b.seq = (a.seq + 1) % 65536 then (false, (b.seq + 1) % 65536) else (true, (a.seq + 1) % 65536))
          else if a.good then (true, (a.seq + 1) % 65536) else if b.good then (false, (b.seq + 1) % 65536)
          else (false, 0)) ∧
        writeTarget (some a) none = (if a.good then (true, (a.seq + 1) % 65536) else (false, 0)) ∧
        writeTarget none (some b) = (if b.good then (false, (b.seq + 1) % 65536) else (false, 0))

/-- O7. FULL_RESET_TAKEN while the FULL reset is due, with no write in progress and PFW released, keeps the cycle
counter, the service column, both columns' condition and regeneration counts, and the rinse-aid accumulator; the
settings and recipes are those that the store holds. If the FULL reset is not due, the event leaves the state but
for what every event settles. A write in progress ends first, its time passing; with PFW asserted nothing is written
and the store as it is is loaded. That the counters write takes no time is log entry 15. That what it changes of the
cycle, the door and the links has no notice is log entry 71. (12_start_up_standby_and_the_settings_store.md, 12.3
Start-up and resets; 02_the_wash_cycle.md, 2.12 Resets) -/
def Obligations.FullResetKeepsTheCounters : Prop :=
  (∀ s : State, s.on = true → s.sto.resetReq = .due .full → s.sto.write = .idle → s.sto.pfw = false →
      ∃ t : State, exec .fullResetTaken s = .next t ∧ t.csq.counter = s.csq.counter ∧ t.sfc.serviceCol =
          s.sfc.serviceCol ∧
        t.sfc.colA.condition = s.sfc.colA.condition ∧ t.sfc.colB.condition = s.sfc.colB.condition ∧
        t.sfc.colA.regens = s.sfc.colA.regens ∧ t.sfc.colB.regens = s.sfc.colB.regens ∧ t.dsc.acc = s.dsc.acc ∧
        t.settings = (loadImage s.sto.nvm.set1 s.sto.nvm.set2 defaultImage).1.settings ∧
        t.csq.recipes = (loadImage s.sto.nvm.set1 s.sto.nvm.set2 defaultImage).1.recipes ∧ t.sto.power = .running) ∧
    (∀ s : State, s.on = true → s.sto.resetReq ≠ .due .full → exec .fullResetTaken s = .next s.finish) ∧
    (∀ s : State, s.on = true → s.sto.resetReq = .due .full → s.sto.write = .idle → s.sto.pfw = true →
      exec .fullResetTaken s = .next (s.startUp .full).finish) ∧
    ∀ (s : State) (i : ImageId) (second : Bool) (left : Nat), s.on = true → s.sto.resetReq = .due .full →
      s.sto.write = .writing i second left → s.sto.pfw = false →
      exec .fullResetTaken s = .next ((((s.advance left).endWrite.startWrite .counters).endWrite.startUp .full).finish)

/-- O8. SOFT_RESET_TAKEN while the SOFT reset is due keeps the settings, the recipe table, the cycle counter, both
columns' condition and regeneration counts, the service column, the accumulators, the stocks and the carries; it
empties the cycle queue in IDLE, the order lists and the downstream queue, makes every claim IDLE, and clears owed.
If the SOFT reset is not due, the event leaves the state but for what every event settles.
(12_start_up_standby_and_the_settings_store.md, 12.3 Start-up and resets; 02_the_wash_cycle.md, 2.12 Resets;
04_water_softening.md, 4.11 Resets; 06_chemical_dosing.md, 6.11 Resets) -/
def Obligations.SoftResetKeepsWorkingValues : Prop :=
  (∀ s : State, s.on = true → s.sto.resetReq = .due .soft →
      ∃ t : State, exec .softResetTaken s = .next t ∧ t.settings = s.settings ∧ t.csq.recipes = s.csq.recipes ∧
        t.csq.counter = s.csq.counter ∧ t.csq.active = none ∧ t.csq.waiting = none ∧ t.csq.phase = .idle ∧
        t.sfc.serviceCol = s.sfc.serviceCol ∧ t.sfc.colA.condition = s.sfc.colA.condition ∧
        t.sfc.colB.condition = s.sfc.colB.condition ∧ t.sfc.colA.regens = s.sfc.colA.regens ∧
        t.sfc.colB.regens = s.sfc.colB.regens ∧ t.sfc.acc = s.sfc.acc ∧
        t.dsc.acc = s.dsc.acc ∧ t.dsc.owed = 0 ∧ t.dsc.det.stock = s.dsc.det.stock ∧ t.dsc.det.carry =
            s.dsc.det.carry ∧
        t.dsc.ra.stock = s.dsc.ra.stock ∧ t.dsc.ra.carry = s.dsc.ra.carry ∧ t.dsc.det.orders = [] ∧
            t.dsc.ra.orders = [] ∧
        t.mbi.queue = [] ∧ (∀ l : Load, (t.claimOf l).state = .idle)) ∧
    ∀ s : State, s.on = true → s.sto.resetReq ≠ .due .soft → exec .softResetTaken s = .next s.finish

/-- O9. PFW_ASSERT of a running part without PFW sets PFW and starts a counters write; a settings write in progress is
abandoned with its mark set again, and a SAVE that it served is ABANDONED. With PFW asserted already it changes
nothing. PFW_RELEASE clears PFW and, with no write in progress and no FULL reset due, writes the marked image, the
counters first; with a write in progress, a FULL reset due or none marked it writes nothing. A SAVE whose settings
write had not begun stays outstanding at PFW_ASSERT: log entry 49. (12_start_up_standby_and_the_settings_store.md,
12.2 Writing the store) -/
def Obligations.PfwWritesTheCountersAtOnce : Prop :=
  (∀ s : State, s.on = true → s.sto.pfw = false → (∀ (c : Bool) (n : Nat), s.sto.write ≠ .writing .settings c n) →
      exec .pfwAssert s = .next (({ s with sto := { s.sto with pfw := true } }).startWrite .counters).finish) ∧
    (∀ (s : State) (c : Bool) (n : Nat), s.on = true → s.sto.pfw = false → s.sto.write = .writing .settings c n →
      exec .pfwAssert s = .next
        (({ s with
          sto := { s.sto with
            pfw := true, settingsMark := true, saveRuns := false,
            lastSave := if s.sto.saveRuns then .abandoned else s.sto.lastSave } }).startWrite .counters).finish) ∧
    (∀ s : State, s.on = true → s.sto.pfw = true → exec .pfwAssert s = .next s.finish) ∧
    (∀ s : State, s.on = true → s.sto.write = .idle → s.sto.resetReq ≠ .due .full →
      exec .pfwRelease s = .next
        (if s.sto.countersMark then (({ s with sto := { s.sto with pfw := false } }).startWrite .counters).finish
        else if s.sto.settingsMark then (({ s with sto := { s.sto with pfw := false } }).startWrite .settings).finish
        else ({ s with sto := { s.sto with pfw := false } }).finish)) ∧
    (∀ s : State, s.on = true → s.sto.write = .idle → s.sto.resetReq = .due .full →
      exec .pfwRelease s = .next ({ s with sto := { s.sto with pfw := false } }).finish) ∧
    ∀ (s : State) (i : ImageId) (c : Bool) (n : Nat), s.on = true → s.sto.write = .writing i c n →
      exec .pfwRelease s = .next ({ s with sto := { s.sto with pfw := false } }).finish

/-- O10. At the end of the settle the part is RUNNING, a STANDBY notice names the cause, and the requests completed
during the settle are taken in the order of their arrival; the thermostats claim again with what the event settles.
WAKE_PULSE_END ends the pulse and changes nothing else but the time. Neither event exists while its timer does not
run. Model choices this rests on: log entries 9, 24. (12_start_up_standby_and_the_settings_store.md, 12.4 Standby) -/
def Obligations.WakeSettlesThenServesTheHeldRequests : Prop :=
  (∀ (s : State) (cause : StandbyCause) (left : Nat), s.on = true → s.sto.settle = some (cause, left) →
      exec .settleEnd s = .next
        ((s.sto.held.foldl State.answerFrame
          (({ s.advance left with
            sto := { (s.advance left).sto with settle := none, held := [], power := .running } }).place
              (.standby .running cause))).finish)) ∧
    (∀ (s : State) (left : Nat), s.on = true → s.sto.wakePulseLeft = some left →
      exec .wakePulseEnd s = .next
        ({ s.advance left with sto := { (s.advance left).sto with wakePulseLeft := none } }).finish) ∧
    (∀ s : State, s.sto.settle = none → exec .settleEnd s = .next s) ∧
    ∀ s : State, s.sto.wakePulseLeft = none → exec .wakePulseEnd s = .next s

/-- O11. For every request whose frame is f, at an awake part: with the reply slot full the BUSY slot takes its KIND and
TAG, or with that full too the link error count rises; with the slot empty an unknown KIND is answered UNKNOWN_KIND
and a PIN of a wrong length BAD_FORM, in a LOCKOUT too; any other request outside the exempt KINDs is answered
LOCKED_OUT while a LOCKOUT record is present. Nothing else changes but what every event settles. (11_panel_link.md,
11.2 Requests and replies) -/
def Obligations.RequestsAreTurnedAway : Prop :=
  (∀ (i : Instr) (f : ReqFrame) (s : State), encodeRequest i = some f → s.awake = true → s.plk.reply.isSome = true →
      exec i s = .next
        (if s.plk.busy.isSome then ({ s with plk := { s.plk with linkErrors := min 65535 (s.plk.linkErrors + 1) } }).finish
        else ({ s with plk := { s.plk with busy := some (f.kind, f.tag) } }).finish)) ∧
    (∀ (tag kind : Octet) (s : State), s.takes = true →
      exec (.unknownKind tag kind) s = .next ((s.reply kind tag .unknownKind []).finish)) ∧
    (∀ (tag address : Octet) (fields : List Octet) (s : State), s.takes = true → fields.length ≠ s.pinLength address →
      exec (.modulePin tag address fields) s = .next ((s.reply 0x11#8 tag .badForm []).finish)) ∧
    ∀ (i : Instr) (f : ReqFrame) (s : State), encodeRequest i = some f → s.takes = true → s.locked = true →
      State.exempt f.kind = false → (∀ tag kind, i ≠ .unknownKind tag kind) →
      (∀ tag address fields, i = .modulePin tag address fields → fields.length = s.pinLength address) →
      exec i s = .next ((s.reply f.kind f.tag .lockedOut []).finish)

/-- O12. For every request whose frame is f: in STANDBY with no settle in progress it starts the 2 ms settle with cause
octet, pulses WAKE for 10 ms if bit 0 of the wake mask is set, and is held; during a settle it is held behind those
held before. Nothing else changes but what every event settles. Model choices this rests on: log entry 24.
(12_start_up_standby_and_the_settings_store.md, 12.4 Standby; 11_panel_link.md, 11.2 Requests and replies) -/
def Obligations.RequestsInStandbyAreHeld : Prop :=
  (∀ (i : Instr) (f : ReqFrame) (s : State), encodeRequest i = some f → s.sto.power = .standby → s.sto.settle = none →
      exec i s = .next
        ({ s with
          sto := { s.sto with
            settle := some (.octet, 2), held := s.sto.held ++ [f],
            wakePulseLeft := if s.sto.wakeMask.getLsbD 0 then some 10 else s.sto.wakePulseLeft } }).finish) ∧
    ∀ (i : Instr) (f : ReqFrame) (s : State), encodeRequest i = some f → s.on = true → s.sto.settle.isSome = true →
      exec i s = .next ({ s with sto := { s.sto with held := s.sto.held ++ [f] } }).finish

/-- O13. For every well-formed request i with frame f and every running part, exec i answers the state that taking the
good frame f gives, with the wake of its octets before it: the command and its frame are the same event. Model
choices this rests on: log entry 24. (11_panel_link.md, 11.2 Requests and replies; 11_panel_link.md, 11.4 Request
catalogue) -/
def Obligations.GoodFrameTakesTheCommandsMeaning : Prop :=
  ∀ (i : Instr) (f : ReqFrame) (s : State), WellFormed i = true → encodeRequest i = some f → s.on = true →
    exec i s = .next ((s.wake .octet).takeFrame f).finish

/-- O14. For every state and every well-formed request of the catalogue, with a PIN record of the length of the expected
kind, reading the KIND, TAG and body that the catalogue gives the request yields exactly that request.
(11_panel_link.md, 11.4 Request catalogue) -/
def Obligations.ParseInvertsEncode : Prop :=
  ∀ (i : Instr) (f : ReqFrame) (s : State), WellFormed i = true → encodeRequest i = some f →
    (∀ tag kind, i ≠ .unknownKind tag kind) →
    (∀ tag address fields, i = .modulePin tag address fields → fields.length = s.pinLength address) →
    s.parse f = .good i

/-- O15. For every awake part in HUNT and every request frame with a body of at most 120 octets, receiving START, LEN,
KIND, TAG, the body and the CRC-16, each with its stop bit and no overrun, gives the state in HUNT that taking that
frame gives. With one CRC octet changed the frame is discarded and the link error count rises. (11_panel_link.md,
11.1 Line and frame) -/
def Obligations.OctetsOfAFrameAreTaken : Prop :=
  (∀ (s : State) (f : ReqFrame), s.awake = true → s.plk.rx = .hunt → f.body.length ≤ 120 →
      (panelFrame f.kind f.tag f.body).foldl (fun t o => t.receive o true false) s = s.takeFrame f) ∧
    ∀ (s : State) (f : ReqFrame) (x : Octet), s.awake = true → s.plk.rx = .hunt → f.body.length ≤ 120 →
      (panelFrame f.kind f.tag f.body).getLast? ≠ some x →
      ((panelFrame f.kind f.tag f.body).dropLast ++ [x]).foldl (fun t o => t.receive o true false) s =
        { s with plk := { s.plk with linkErrors := min 65535 (s.plk.linkErrors + 1) } }

/-- O16. In HUNT 0xC3 starts a frame and any other octet, or a faulty one (model choice, log entry 17), changes nothing.
In a frame a LEN outside 2 to 122, a missing stop bit, an overrun or a gap of more than 5 ms discards it, sets HUNT
and counts a link error. In STANDBY the octet first starts the settle. Model choices this rests on: log entries 9,
10. (11_panel_link.md, 11.1 Line and frame; 12_start_up_standby_and_the_settings_store.md, 12.4 Standby) -/
def Obligations.OctetsStartAndDiscardFrames : Prop :=
  (∀ s : State, s.awake = true → s.plk.rx = .hunt →
      exec (.panelOctetReceived 0xC3#8 true false) s = .next
        ({ s with plk := { s.plk with rx := .assemble [] 5 } }).finish) ∧
    (∀ (o : Octet) (stop ovr : Bool) (s : State), s.awake = true → s.plk.rx = .hunt →
      (o ≠ 0xC3#8 ∨ stop = false ∨ ovr = true) → exec (.panelOctetReceived o stop ovr) s = .next s.finish) ∧
    (∀ (o : Octet) (left : Nat) (s : State), s.awake = true → s.plk.rx = .assemble [] left → 2 ≤ o.toNat →
      o.toNat ≤ 122 →
      exec (.panelOctetReceived o true false) s =
          .next ({ s with plk := { s.plk with rx := .assemble [o] 5 } }).finish) ∧
    (∀ (o : Octet) (left : Nat) (s : State), s.awake = true → s.plk.rx = .assemble [] left →
      (o.toNat < 2 ∨ 122 < o.toNat) →
      exec (.panelOctetReceived o true false) s = .next
        ({ s with plk := { s.plk with rx := .hunt, linkErrors := min 65535 (s.plk.linkErrors + 1) } }).finish) ∧
    (∀ (o : Octet) (stop ovr : Bool) (os : List Octet) (left : Nat) (s : State), s.awake = true →
      s.plk.rx = .assemble os left → (stop = false ∨ ovr = true) →
      exec (.panelOctetReceived o stop ovr) s = .next
        ({ s with plk := { s.plk with rx := .hunt, linkErrors := min 65535 (s.plk.linkErrors + 1) } }).finish) ∧
    (∀ (os : List Octet) (left : Nat) (s : State), s.on = true → s.plk.rx = .assemble os left →
      exec .octetGapTimeout s = .next
        ({ s.advance left with
          plk := { (s.advance left).plk with
            rx := .hunt, linkErrors := min 65535 (s.plk.linkErrors + 1) } }).finish) ∧
    (∀ s : State, s.plk.rx = .hunt → exec .octetGapTimeout s = .next s) ∧
    ∀ s : State, s.sto.power = .standby → s.sto.settle = none → s.plk.rx = .hunt →
      exec (.panelOctetReceived 0xC3#8 true false) s = .next
        ({ s with
          plk := { s.plk with rx := .assemble [] 5 },
          sto := { s.sto with
            settle := some (.octet, 2),
            wakePulseLeft := if s.sto.wakeMask.getLsbD 0 then some 10 else s.sto.wakePulseLeft } }).finish

/-- O17. At the end of a frame the transmitter is idle and the reply slot, the BUSY slot or the front of the notice
queue, whichever the frame came from, is emptied; after a reply a RESET that was answered is due. With no frame being
sent nothing changes. The transmitter then chooses again. At the end of an event the idle transmitter takes the reply
if there is one, else the BUSY reply, else the oldest notice, which carries the gap mark and clears it; with a frame
being sent, or a reset due, it takes nothing. That the choice is made once, at the end of the event, is log entry 16,
that none is made while a reset is due log entry 114, and the frame that a SOFT reset leaves in the transmitter log
entry 47. (11_panel_link.md, 11.3 Sending; 12_start_up_standby_and_the_settings_store.md, 12.3 Start-up and resets) -/
def Obligations.TransmitterEmptiesItsSlotAndChooses : Prop :=
  ((∀ (os : List Octet) (s : State), s.on = true → s.plk.tx = some { source := .reply, octets := os } →
      exec .transmitDone s = .next
        ({ s with
          plk := { s.plk with tx := none, reply := none },
          sto := { s.sto with
            resetReq := match s.sto.resetReq with
              | .asked m => .due m
              | .none => .none
              | .due m => .due m } }).finish) ∧
    (∀ (os : List Octet) (s : State), s.on = true → s.plk.tx = some { source := .busy, octets := os } →
      exec .transmitDone s = .next ({ s with plk := { s.plk with tx := none, busy := none } }).finish) ∧
    (∀ (os : List Octet) (s : State), s.on = true → s.plk.tx = some { source := .notice, octets := os } →
      exec .transmitDone s = .next ({ s with plk := { s.plk with tx := none, notices := s.plk.notices.drop 1 } }).finish) ∧
    (∀ (os : List Octet) (s : State), s.on = true → s.plk.tx = some { source := .orphan, octets := os } →
      exec .transmitDone s = .next ({ s with plk := { s.plk with tx := none } }).finish) ∧
    ∀ s : State, s.on = true → s.plk.tx = none → exec .transmitDone s = .next s.finish) ∧
  ((∀ (s : State) (r : Reply), s.resetDue = false → s.plk.tx = none → s.plk.reply = some r →
      s.kickTx = { s with plk := { s.plk with tx := some { source := .reply, octets := r.frame } } }) ∧
    (∀ (s : State) (kind tag : Octet), s.resetDue = false → s.plk.tx = none → s.plk.reply = none →
      s.plk.busy = some (kind, tag) →
      s.kickTx = { s with plk := { s.plk with tx := some { source := .busy, octets := busyFrame kind tag } } }) ∧
    (∀ (s : State) (n : Notice) (rest : List Notice), s.resetDue = false → s.plk.tx = none → s.plk.reply = none →
      s.plk.busy = none → s.plk.notices = n :: rest →
      s.kickTx =
        { s with
          plk := { s.plk with tx := some { source := .notice, octets := n.frame s.plk.gap }, gap := false } }) ∧
    (∀ (s : State) (t : TxFrame), s.plk.tx = some t → s.kickTx = s) ∧
    ∀ s : State, s.resetDue = true → s.kickTx = s)

/-- O18. With 16 notices queued a further one is not taken: the gap mark is set and the dropped count rises to at most
255; with fewer it joins the tail. With 8 messages queued a further downstream message is refused and nothing
changes; with fewer it joins the tail. An IDLE channel then marks the oldest message that is for a LINKED address or
is a CAPS_QUERY as being sent and enters PREPARE; with none it stays IDLE. (11_panel_link.md, 11.3 Sending;
08_module_bus.md, 8.9 The downstream queue) -/
def Obligations.FullQueuesRefuse : Prop :=
  (∀ (s : State) (n : Notice), 16 ≤ s.plk.notices.length →
      s.place n = { s with plk := { s.plk with gap := true, dropped := min 255 (s.plk.dropped + 1) } }) ∧
    (∀ (s : State) (n : Notice), s.plk.notices.length < 16 →
      s.place n = { s with plk := { s.plk with notices := s.plk.notices ++ [n] } }) ∧
    (∀ (s : State) (a : Addr) (b : DownBody) (e : Enqueuer), 8 ≤ s.mbi.queue.length → s.enqueue a b e = (s, false)) ∧
    (∀ (s : State) (a : Addr) (b : DownBody) (e : Enqueuer), s.mbi.queue.length < 8 → s.mbi.down.phase ≠ .idle →
      s.enqueue a b e =
        ({ s with
          mbi := { s.mbi with queue := s.mbi.queue ++ [{ dest := a, body := b, source := e, sending := false }] } }, true)) ∧
    (∀ (s : State) (a : Addr) (b : DownBody) (e : Enqueuer), s.mbi.queue.length < 8 →
      s.enqueue a b e =
        (({ s with
          mbi := { s.mbi with
            queue := s.mbi.queue ++ [{ dest := a, body := b, source := e, sending := false }] } } : State).choose, true)) ∧
    (∀ s : State, (s.mbi.down.phase ≠ .idle ∨
        ∀ m ∈ s.mbi.queue, (s.entry m.dest).link ≠ .linked ∧ m.body ≠ .capsQuery) → s.choose = s) ∧
    (∀ (s : State) (xs ys : List DownMsg) (m : DownMsg), s.mbi.down.phase = .idle → s.mbi.queue = xs ++ m :: ys →
      (∀ x ∈ xs, (s.entry x.dest).link ≠ .linked ∧ x.body ≠ .capsQuery) →
      ((s.entry m.dest).link = .linked ∨ m.body = .capsQuery) →
      s.choose =
        { s with
          mbi := { s.mbi with
            queue := xs ++ { m with sending := true } :: ys
            down := { phase := .prepare, stopSeen := 0, noProgress := 0, closingFrames := 0, shown := false } } }) ∧
    ∀ (s : State) (a : Addr) (b : DownBody) (e : Enqueuer), s.mbi.queue.length < 8 → s.mbi.down.phase = .idle →
      (∀ m ∈ s.mbi.queue, (s.entry m.dest).link ≠ .linked ∧ m.body ≠ .capsQuery) →
      ((s.entry a).link = .linked ∨ b = .capsQuery) →
      s.enqueue a b e =
        ({ s with
          mbi := { s.mbi with
            queue := s.mbi.queue ++ [{ dest := a, body := b, source := e, sending := true }]
            down := { phase := .prepare, stopSeen := 0, noProgress := 0, closingFrames := 0, shown := false } } }, true)

/-- O19. IDENT answers OK with part code 0x0082, the revision (a free value, log entry 2) and 40; GET of 1 to 40
answers OK with the working value as four signed octets, any other number OUT_OF_RANGE; RECIPE_GET of 0 to 7 answers
OK with the nine fields, any other number OUT_OF_RANGE. Only the reply slot changes, and what every event settles.
STATUS of section 0 to 10 answers OK with that section's items, any other section OUT_OF_RANGE; the budget section
holds mains_budget_w, the budget in force, G, S, the halt flag and the eleven records. FAULTS from 0 to 39 answers OK
with the list length, the overflow count, the level and up to ten records, from 40 on OUT_OF_RANGE. MODULE READ of 0
to 7 answers OK, above 7 OUT_OF_RANGE. Only the reply slot changes, and what every event settles. The order and widths
of the items are log entry 19, the widths of a recipe's seconds log entry 70, which marks form a flag set log entry
83, the widths of IDENT's fields log entry 84, times sent as time left log entry 94, the octets of the softener's and
the channels' items log entries 88, 101 and 102, a MODULE READ of kind NONE log entry 90, and the codes and flags of
the MBI and STO sections and of items with alternatives log entries 109, 110 and 111; the counted wattage of a claim
not GRANTED is absent, all ones (R46, R186). (11_panel_link.md, 11.4 Request catalogue;
12_start_up_standby_and_the_settings_store.md, 12.1 Settings; 02_the_wash_cycle.md, 2.1 Recipes;
10_faults_and_protective_actions.md, 10.2 Records and the list; 09_module_supervision.md, 9.8 The MODULE request;
03_mains_load_budget.md, 3.1 Loads and claims) -/
def Obligations.ReportingRequestsChangeNothing : Prop :=
  ((∀ (tag : Octet) (s : State), s.takes = true →
      exec (.ident tag) s = .next
        ((s.reply 0x01#8 tag .ok ([0x00#8, 0x82#8] ++ e4 Config.partRevision.toNat ++ [0x28#8])).finish)) ∧
    (∀ (tag : Octet) (i : Fin 40) (s : State), s.takes = true →
      exec (.get tag (BitVec.ofNat 8 (i.val + 1))) s = .next
        ((s.reply 0x03#8 tag .ok (e4 (BitVec.ofInt 32 (s.settings.get i)).toNat)).finish)) ∧
    (∀ (tag n : Octet) (s : State), s.takes = true → (n.toNat = 0 ∨ 40 < n.toNat) →
      exec (.get tag n) s = .next ((s.reply 0x03#8 tag .outOfRange []).finish)) ∧
    (∀ (tag : Octet) (i : Fin 8) (s : State), s.serves = true →
      exec (.recipeGet tag (BitVec.ofNat 8 i.val)) s = .next
        ((s.reply 0x05#8 tag .ok (recipeOctets (s.csq.recipes.get i))).finish)) ∧
    ∀ (tag n : Octet) (s : State), s.serves = true → 7 < n.toNat →
      exec (.recipeGet tag n) s = .next ((s.reply 0x05#8 tag .outOfRange []).finish)) ∧
  ((∀ (tag sect : Octet) (os : List Octet) (s : State), s.takes = true → s.statusSection sect.toNat = some os →
      exec (.status tag sect) s = .next ((s.reply 0x02#8 tag .ok os).finish)) ∧
    (∀ (s : State) (n : Nat), n ≤ 10 → (s.statusSection n).isSome = true) ∧
    (∀ (tag sect : Octet) (s : State), s.takes = true → 10 < sect.toNat →
      exec (.status tag sect) s = .next ((s.reply 0x02#8 tag .outOfRange []).finish)) ∧
    (∀ (tag : Octet) (s : State), s.takes = true →
      exec (.status tag 3#8) s = .next
        ((s.reply 0x02#8 tag .ok
          (e2 (s.settings.get SettingIx.mainsBudget).toNat ++ e2 s.lba.inForce ++ e4 s.sumGranted ++ e4 s.sumSettling ++
            [if s.lba.halt then 1#8 else 0#8] ++
            (allLoads.map fun l =>
              e1 (s.claimOf l).state.code ++ (if s.granted l then e2 (s.claimOf l).counted else [0xFF#8,
                  0xFF#8]) ++ e1 (s.claimOf l).promoted.toNat).flatten)).finish)) ∧
    (∀ (tag first : Octet) (s : State), s.takes = true → first.toNat ≤ 39 →
      exec (.faults tag first) s = .next
        ((s.reply 0x0F#8 tag .ok
          (e1 s.flu.list.length ++ e1 s.flu.overflow ++ e1 s.level.code ++
            e1 ((s.flu.list.drop first.toNat).take 10).length ++
            (((s.flu.list.drop first.toNat).take 10).map State.faultOctets).flatten)).finish)) ∧
    (∀ (tag first : Octet) (s : State), s.takes = true → 39 < first.toNat →
      exec (.faults tag first) s = .next ((s.reply 0x0F#8 tag .outOfRange []).finish)) ∧
    (∀ (tag : Octet) (a : Addr) (s : State), s.serves = true →
      exec (.moduleRead tag (BitVec.ofNat 8 a.val)) s = .next ((s.reply 0x11#8 tag .ok (s.moduleOctets a)).finish)) ∧
    ∀ (tag a : Octet) (s : State), s.serves = true → 7 < a.toNat →
      exec (.moduleRead tag a) s = .next ((s.reply 0x11#8 tag .outOfRange []).finish))

/-- O20. For each setting that is only read at its next use, with its range as the settings table gives it, SET of any
signed 32-bit value takes the clamped value into working memory and answers OK, or CLAMPED if it was clamped, with
the value taken; a value that leaves the setting unchanged changes nothing, and for settings 23 to 27 is answered OK
though it was clamped. Numbers 0 and above 40 answer OUT_OF_RANGE. That OK is the reading of log entry 43: for the
others here a value that was clamped is answered CLAMPED. (12_start_up_standby_and_the_settings_store.md, 12.1
Settings) -/
def Obligations.SetClampsIntoTheRange : Prop :=
  (∀ p ∈ ([(0, 500, 10000), (1, 60, 1800), (2, 500, 700), (3, 750, 900), (4, 60, 1800), (5, 10, 600), (6, 0, 1),
        (15, 0, 1000), (18, 60, 3600), (19, 60, 3600), (20, 30, 900), (21, 10, 100), (22, 0, 5000), (23, 0, 50),
        (24, 1000, 60000), (25, 0, 1000), (26, 50, 1000), (30, 300, 800), (39, 0,
            65535)] : List (Fin 40 × Int × Int)),
      ∀ (tag : Octet) (v : BitVec 32) (s : State), s.serves = true →
      exec (.set tag (BitVec.ofNat 8 (p.1.val + 1)) v) s = .next
        ((({ s with settings := s.settings.set p.1.val (max p.2.1 (min p.2.2 v.toInt)) p.1.isLt }).reply 0x04#8 tag
          (if max p.2.1 (min p.2.2 v.toInt) = v.toInt ∨
              22 ≤ p.1.val ∧ p.1.val ≤ 26 ∧ max p.2.1 (min p.2.2 v.toInt) = s.settings.get p.1 then .ok else .clamped)
          (e4 (BitVec.ofInt 32 (max p.2.1 (min p.2.2 v.toInt))).toNat)).finish)) ∧
    ∀ (tag n : Octet) (v : BitVec 32) (s : State), s.serves = true → (n.toNat = 0 ∨ 40 < n.toNat) →
      exec (.set tag n v) s = .next ((s.reply 0x04#8 tag .outOfRange []).finish)

/-- O21. A budget setting whose value puts the class sum above mains_budget_w, and an expected kind outside 0 to 4,
are OUT_OF_RANGE; an expected kind with a cycle, and k_factor with an inlet owner or a run-on window, are NOT_NOW;
none of these changes a setting. A taken k_factor outside RINSE zeroes the hardness and rinse-aid accumulators; a
lowered column_capacity clamps both columns. RECIPE_SET of 0 to 7 with every field in its range stores the record in
working memory and answers OK; a number above 7 or a field out of range answers OUT_OF_RANGE with the table unchanged.
A mains_budget_w raised, or lowered to no less than G + S, is in force at once; one lowered below the granted wattage
revokes the tank heater if it is the heater granted, which settles, and waits to take force. Once a value not below
the class sum has been taken, in force or not yet, no class 0 or class 1 load stands told unfit. A wattage setting is
taken by its row: a claim not granted changes nothing, a fall lowers the counted wattage, a heater's rise counts if it
fits and else revokes it, a pump's rise has heaters revoked until it fits (the fitting one is left to the walk, log
entry 61), stage B set to 0 ends its claim. An expected kind is taken with its entry afresh, unpinned, with the
default record of the kind. A container clamps the stock and re-evaluates the low flag, stock_low_pct both low flags,
and a lowered starve_s that the wait has reached promotes the tank heater. k_factor is refused NOT_NOW before it is
clamped or compared (log entry 43). In RINSE before the valve has opened a k_factor also has the pulse target computed
again from the recipe; with the valve open, or the target reached, the target stands. (03_mains_load_budget.md, 3.6
Settings of the budget; 04_water_softening.md, 4.2 Service accounting; 09_module_supervision.md, 9.1 The module table;
12_start_up_standby_and_the_settings_store.md, 12.1 Settings; 02_the_wash_cycle.md, 2.1 Recipes;
03_mains_load_budget.md, 3.7 Changes of the budget; 03_mains_load_budget.md, 3.5 Unfit loads; 06_chemical_dosing.md,
6.6 Empty, stock and low; 03_mains_load_budget.md, 3.4 Aging of the tank heater;
05_volume_hardness_and_dose_arithmetic.md, 5.2 Water volume) -/
def Obligations.SetAndRecipeSetRefuseOrTake : Prop :=
  ((∀ (tag : Octet) (i : Fin 40) (v : BitVec 32) (s : State), s.serves = true → 7 ≤ i.val → i.val ≤ 10 →
      clampSetting i v.toInt ≠ s.val i → (s.putSetting i (clampSetting i v.toInt)).mains <
        (s.putSetting i (clampSetting i v.toInt)).classSum →
      exec (.set tag (BitVec.ofNat 8 (i.val + 1)) v) s = .next ((s.reply 0x04#8 tag .outOfRange []).finish)) ∧
    (∀ (tag : Octet) (a : Addr) (v : BitVec 32) (s : State), s.serves = true → (v.toInt < 0 ∨ 4 < v.toInt) →
      exec (.set tag (BitVec.ofNat 8 (a.val + 32)) v) s = .next ((s.reply 0x04#8 tag .outOfRange []).finish)) ∧
    (∀ (tag : Octet) (a : Addr) (v : BitVec 32) (s : State), s.serves = true → 0 ≤ v.toInt → v.toInt ≤ 4 →
      s.csq.phase ≠ .idle →
      exec (.set tag (BitVec.ofNat 8 (a.val + 32)) v) s = .next ((s.reply 0x04#8 tag .notNow []).finish)) ∧
    (∀ (tag : Octet) (v : BitVec 32) (s : State), s.serves = true → (s.whu.owner.isSome ∨ s.whu.runOn.isSome) →
      exec (.set tag 17#8 v) s = .next ((s.reply 0x04#8 tag .notNow []).finish)) ∧
    (∀ (tag : Octet) (v : BitVec 32) (s : State), s.serves = true → s.whu.owner = none → s.whu.runOn = none →
      s.csq.phase ≠ .rinse → 100 ≤ v.toInt → v.toInt ≤ 2000 → v.toInt ≠ s.settings.get 16 →
      exec (.set tag 17#8 v) s = .next
        ((({ s with
          settings := s.settings.set 16 v.toInt, sfc := { s.sfc with acc := 0 }, dsc :=
              { s.dsc with acc := 0 } }).reply
            0x04#8 tag .ok (e4 (BitVec.ofInt 32 v.toInt).toNat)).finish)) ∧
    ∀ (tag : Octet) (v : BitVec 32) (s : State), s.serves = true → 200 ≤ v.toInt → v.toInt ≤ 20000 →
      v.toInt ≠ s.settings.get 17 →
      exec (.set tag 18#8 v) s = .next
        ((({ s with
          settings := s.settings.set 17 v.toInt,
          sfc := { s.sfc with
            colA := { s.sfc.colA with capacity := min s.sfc.colA.capacity (v.toInt.toNat * 100) },
            colB := { s.sfc.colB with capacity := min s.sfc.colB.capacity (v.toInt.toNat * 100) } } }).reply
            0x04#8 tag .ok (e4 (BitVec.ofInt 32 v.toInt).toNat)).finish)) ∧
  ((∀ (tag : Octet) (i : Fin 8) (r : Recipe) (s : State), s.serves = true → 20 ≤ r.washS → r.washS ≤ 600 →
      500 ≤ r.tankC → r.tankC ≤ 700 → 750 ≤ r.rinseC → r.rinseC ≤ 900 → 1000 ≤ r.rinseMl → r.rinseMl ≤ 5000 →
      r.purgeMl ≤ 5000 → r.dwellS ≤ 30 → r.ventPct ≤ 100 → r.ventS ≤ 900 → 50 ≤ r.soilPct → r.soilPct ≤ 200 →
      exec (.recipeSet tag (BitVec.ofNat 8 i.val) r) s = .next
        ((({ s with csq := { s.csq with recipes := s.csq.recipes.set i.val r i.isLt } }).reply 0x06#8 tag .ok []).finish)) ∧
    (∀ (tag n : Octet) (r : Recipe) (s : State), s.serves = true → 7 < n.toNat →
      exec (.recipeSet tag n r) s = .next ((s.reply 0x06#8 tag .outOfRange []).finish)) ∧
    (∀ (tag n : Octet) (r : Recipe) (s : State), s.serves = true →
      (r.washS < 20 ∨ 600 < r.washS ∨ r.tankC < 500 ∨ 700 < r.tankC ∨ r.rinseC < 750 ∨ 900 < r.rinseC ∨
        r.rinseMl < 1000 ∨ 5000 < r.rinseMl ∨ 5000 < r.purgeMl ∨ 30 < r.dwellS ∨ 100 < r.ventPct ∨ 900 < r.ventS ∨
        r.soilPct < 50 ∨ 200 < r.soilPct) →
      exec (.recipeSet tag n r) s = .next ((s.reply 0x06#8 tag .outOfRange []).finish))) ∧
    (∀ (tag : Octet) (v : BitVec 32) (s : State), s.serves = true → 2000 ≤ v.toInt → v.toInt ≤ 11000 →
      v.toInt ≠ s.settings.get 7 → s.classSum ≤ v.toInt.toNat →
      (s.lba.inForce ≤ v.toInt.toNat ∨ s.sumGranted + s.sumSettling ≤ v.toInt.toNat) →
      ∃ t : State, exec (.set tag 8#8 v) s = .next t ∧ t.settings = s.settings.set 7 v.toInt ∧
        t.lba.inForce = v.toInt.toNat ∧
        t.plk.reply = some
          { kind := 0x04#8, tag := tag, status := .ok, fields := e4 (BitVec.ofInt 32 v.toInt).toNat }) ∧
    (∀ (tag : Octet) (v : BitVec 32) (s : State), s.serves = true → 2000 ≤ v.toInt → v.toInt ≤ 11000 →
      v.toInt ≠ s.settings.get 7 → s.classSum ≤ v.toInt.toNat → v.toInt.toNat < s.lba.inForce →
      v.toInt.toNat < s.sumGranted → s.granted .tankHeater = true → s.granted .boosterA = false →
      s.granted .boosterB = false →
      ∃ t : State, exec (.set tag 8#8 v) s = .next t ∧ t.settings = s.settings.set 7 v.toInt ∧
        t.lba.inForce = s.lba.inForce ∧ t.granted .tankHeater = false ∧
        ∃ e ∈ t.lba.settling, e.load = .tankHeater ∧ e.watts = (s.claimOf .tankHeater).counted) ∧
    (∀ (s : State) (l : Load), l.heater = false → s.classSum ≤ s.mains →
      (s.budgetSet.1).toldUnfit l = false) ∧
    (∀ (tag : Octet) (i : Fin 40) (v : BitVec 32) (s : State), s.serves = true → 8 ≤ i.val → i.val ≤ 13 →
      clampSetting i v.toInt ≠ s.settings.get i →
      (i.val ≤ 10 → (s.putSetting i (clampSetting i v.toInt)).classSum ≤
        (s.putSetting i (clampSetting i v.toInt)).mains) →
      exec (.set tag (BitVec.ofNat 8 (i.val + 1)) v) s = .next
        (((State.rewatt s { s with settings := s.settings.set i.val (clampSetting i v.toInt) i.isLt }).reply 0x04#8 tag
          (if clampSetting i v.toInt = v.toInt then .ok else .clamped)
          (e4 (BitVec.ofInt 32 (clampSetting i v.toInt)).toNat)).finish)) ∧
    (∀ b s : State, (∀ l : Load, (s.claimOf l).state = .idle ∧ s.toldUnfit l = false) →
      s.lba.breaker = Vector.replicate 11 false → s.classSum ≤ s.mains →
      (s.watts .boosterB ≠ 0 ∨ b.watts .boosterB = 0) → s.whu.tankHeat = b.whu.tankHeat →
      s.whu.boosterA = b.whu.boosterA → s.whu.boosterB = b.whu.boosterB → b.whu.tankHeat.unfit = false →
      b.whu.boosterA.unfit = false → b.whu.boosterB.unfit = false → State.rewatt b s = s) ∧
    (∀ (b s : State) (l : Load), b.watts l ≠ s.watts l → (l ≠ .boosterB ∨ s.watts l ≠ 0) →
      (s.granted l = false → State.wattsOne b s l = s) ∧
        (s.granted l = true → s.watts l ≤ (s.claimOf l).counted →
          State.wattsOne b s l = s.onClaim l fun c => { c with counted := s.watts l }) ∧
        (s.granted l = true → (s.claimOf l).counted < s.watts l → s.loadUnfit l = false →
          (l.heater = true →
            s.sumGranted + s.sumSettling + (s.watts l - (s.claimOf l).counted) ≤ s.lba.inForce →
            s.sumGranted + (s.watts l - (s.claimOf l).counted) ≤ s.mains →
            State.wattsOne b s l = s.onClaim l fun c => { c with counted := s.watts l }) ∧
          (l.heater = true →
            (s.lba.inForce < s.sumGranted + s.sumSettling + (s.watts l - (s.claimOf l).counted) ∨
              s.mains < s.sumGranted + (s.watts l - (s.claimOf l).counted)) →
            State.wattsOne b s l = s.revoke l) ∧
          (l.heater = false →
            State.wattsOne b s l = State.revokeUntil (s.watts l - (s.claimOf l).counted) s.mains s.candidates s))) ∧
    (∀ b s : State, b.watts .boosterB ≠ 0 → s.watts .boosterB = 0 →
      State.wattsOne b s .boosterB = s.endClaim .boosterB) ∧
    (∀ (tag : Octet) (a : Addr) (v : BitVec 32) (s : State), s.serves = true → 0 ≤ v.toInt → v.toInt ≤ 4 →
      s.csq.phase = .idle → v.toInt ≠ s.settings.get (kindIx a) →
      ∃ t : State, exec (.set tag (BitVec.ofNat 8 (a.val + 32)) v) s = .next t ∧
        t.settings = s.settings.set (kindIx a).val v.toInt (kindIx a).isLt ∧
        (t.entry a).link = (if v.toInt = 0 then .notExpected else .seeking) ∧ (t.entry a).bringUp = .count 0 ∧
        (t.entry a).pinned = false ∧ (t.entry a).caps = defaultCaps (Kind.ofCode v.toInt.toNat) ∧
        t.plk.reply = some
          { kind := 0x04#8, tag := tag, status := .ok, fields := e4 (BitVec.ofInt 32 v.toInt).toNat }) ∧
    (∀ (tag : Octet) (c : Channel) (i : Fin 40) (v : BitVec 32) (s : State), s.serves = true →
      (c = .det ∧ i = 27 ∨ c = .ra ∧ i = 28) → 500 ≤ v.toInt → v.toInt ≤ 25000 → v.toInt ≠ s.settings.get i →
      ∃ t : State, exec (.set tag (BitVec.ofNat 8 (i.val + 1)) v) s = .next t ∧
        t.settings = s.settings.set i.val v.toInt i.isLt ∧
        (t.channel c).stock = min (s.channel c).stock (v.toInt.toNat * 1000) ∧
        (t.channel c).empty = (s.channel c).empty ∧
        ((t.channel c).low = true ↔
          (t.channel c).stock < v.toInt.toNat * 1000 * s.num SettingIx.stockLow / 100 ∨
            ((s.channel c).low = true ∧
              (t.channel c).stock < v.toInt.toNat * 1000 * (s.num SettingIx.stockLow + 5) / 100))) ∧
    (∀ (tag : Octet) (v : BitVec 32) (s : State), s.serves = true → 5 ≤ v.toInt → v.toInt ≤ 50 →
      v.toInt ≠ s.settings.get 29 →
      ∃ t : State, exec (.set tag 30#8 v) s = .next t ∧ t.settings = s.settings.set 29 v.toInt ∧
        ∀ c : Channel, (t.channel c).stock = (s.channel c).stock ∧ (t.channel c).empty = (s.channel c).empty ∧
          ((t.channel c).low = true ↔
            (s.channel c).stock < s.containerUl c * v.toInt.toNat / 100 ∨
              ((s.channel c).low = true ∧ (s.channel c).stock < s.containerUl c * (v.toInt.toNat + 5) / 100))) ∧
    (∀ (tag : Octet) (v : BitVec 32) (s : State), s.serves = true → 30 ≤ v.toInt → v.toInt ≤ 1800 →
      v.toInt ≠ s.settings.get 14 →
      exec (.set tag 15#8 v) s = .next
        (((let t := { s with settings := s.settings.set 14 v.toInt };
          if s.waits .tankHeater ∧ (s.claimOf .tankHeater).promoted = false ∧
              v.toInt.toNat * 1000 ≤ (s.claimOf .tankHeater).waitMs then
            (t.onClaim .tankHeater fun c => { c with promoted := true }).walk
          else t).reply 0x04#8 tag .ok (e4 (BitVec.ofInt 32 v.toInt).toNat)).finish)) ∧
    ∀ (tag : Octet) (v : BitVec 32) (s : State), s.serves = true → s.whu.owner = none → s.whu.runOn = none →
      s.csq.phase = .rinse → 100 ≤ v.toInt → v.toInt ≤ 2000 → v.toInt ≠ s.settings.get 16 →
      exec (.set tag 17#8 v) s = .next
        ((({ s with
          settings := s.settings.set 16 v.toInt
          sfc := { s.sfc with acc := 0 }
          dsc := { s.dsc with acc := 0 }
          csq := { s.csq with
            rinse := { s.csq.rinse with
              target :=
                if s.csq.rinse.closing = false ∧
                    s.whu.phase ≠ InletPhase.opened then (s.recipe.rinseMl * v.toInt.toNat + 999) / 1000
                else s.csq.rinse.target } } }).reply 0x04#8 tag .ok (e4 (BitVec.ofInt 32 v.toInt).toNat)).finish)

/-- O22. RUN with a STOP record is NOT_NOW, of a number above 7 OUT_OF_RANGE, with ACTIVE and PENDING entries
QUEUE_FULL. With an ACTIVE entry alone it makes the PENDING entry. With an empty queue it makes an ACTIVE entry with
a copy of the recipe and cycle number 0 in ARMED, with a CYCLE_PHASE notice; with the tank EMPTY a fill of kind FILL
starts (with FULL accepted it ends at once). An accepted RUN ends STANDBY_PENDING with its STANDBY notice. Every
clause concludes the next state that RUN answers. (02_the_wash_cycle.md, 2.2 The cycle queue and RUN;
12_start_up_standby_and_the_settings_store.md, 12.4 Standby; 01_water_path_and_heat.md, Tank states) -/
def Obligations.RunQueuesACycle : Prop :=
  (∀ (tag n : Octet) (s : State), s.serves = true → s.hasClass .stop = true →
      exec (.run tag n) s = .next ((s.reply 0x07#8 tag .notNow []).finish)) ∧
    (∀ (tag n : Octet) (s : State), s.serves = true → s.hasClass .stop = false → 7 < n.toNat →
      exec (.run tag n) s = .next ((s.reply 0x07#8 tag .outOfRange []).finish)) ∧
    (∀ (tag n : Octet) (s : State), s.serves = true → s.hasClass .stop = false → n.toNat ≤ 7 →
      s.csq.active.isSome = true → s.csq.waiting.isSome = true →
      exec (.run tag n) s = .next ((s.reply 0x07#8 tag .queueFull []).finish)) ∧
    (∀ (tag n : Octet) (s : State), s.serves = true → s.hasClass .stop = false → n.toNat ≤ 7 →
      s.csq.active.isSome = true → s.csq.waiting = none → s.sto.power = .running →
      exec (.run tag n) s = .next
        ((({ s with csq := { s.csq with waiting := some { recipe := n.toNat, queuedAt := s.now } } }).reply 0x07#8 tag .ok
          []).finish)) ∧
    (∀ (tag : Octet) (i : Fin 8) (s : State), s.serves = true → s.hasClass .stop = false → s.csq.active = none →
      s.whu.tank ≠ .empty → s.sto.power = .running →
      exec (.run tag (BitVec.ofNat 8 i.val)) s = .next
        (((({ s with
          csq := { s.csq with
            active := some
              { recipe := i.val, queuedAt := s.now, copy := s.csq.recipes.get i, number := 0, dosing := Dosing.zero },
            phase := .armed, record := none, hold := Hold.reset, washMs := 0, rinseWait := RinseWait.reset,
            rinse := RinseRec.reset, dwellMs :=
                0 } }).place (.cyclePhase 0 (some i.val) .armed false false)).reply 0x07#8 tag
              .ok []).finish)) ∧
    (∀ (tag : Octet) (i : Fin 8) (s : State), s.serves = true → s.hasClass .stop = false → s.csq.active = none →
      s.whu.tank ≠ .empty → s.sto.power = .standbyPending →
      exec (.run tag (BitVec.ofNat 8 i.val)) s = .next
        ((((({ s with
          csq := { s.csq with
            active := some
              { recipe := i.val, queuedAt := s.now, copy := s.csq.recipes.get i, number := 0, dosing := Dosing.zero },
            phase := .armed, record := none, hold := Hold.reset, washMs := 0, rinseWait := RinseWait.reset,
            rinse := RinseRec.reset, dwellMs := 0 }
          sto := { s.sto with power := .running } }).place (.cyclePhase 0 (some i.val) .armed false false)).place
            (.standby .running .request)).reply 0x07#8 tag .ok []).finish)) ∧
    (∀ (tag : Octet) (i : Fin 8) (s : State), s.serves = true → s.hasClass .stop = false → s.csq.active = none →
      s.whu.tank = .empty →
      exec (.run tag (BitVec.ofNat 8 i.val)) s = .next
        ((((((({ s with
          csq := { s.csq with
            active := some
              { recipe := i.val, queuedAt := s.now, copy := s.csq.recipes.get i, number := 0, dosing := Dosing.zero },
            phase := .armed, record := none, hold := Hold.reset, washMs := 0, rinseWait := RinseWait.reset,
            rinse := RinseRec.reset, dwellMs :=
                0 } }).place (.cyclePhase 0 (some i.val) .armed false false)).startFill
              .fill).endPendingStandby).reply 0x07#8 tag .ok []).finish))) ∧
    (∀ (s : State) (kind : FillKind),
      (s.whu.accepted ≠ some .full →
        s.startFill kind =
          { s with
            whu := { s.whu with
              tank := .filling, fill := some { kind := kind, timeMs := 0 }
              tankWaiting := s.whu.tankWaiting || !decide (s.whu.owner = some InletUser.tankFill) } }) ∧
      (s.whu.accepted = some .full →
        s.startFill kind =
          ({ s with
            whu := { s.whu with
              tank := .filling, fill := some { kind := kind, timeMs := 0 }
              tankWaiting := s.whu.tankWaiting || !decide (s.whu.owner = some InletUser.tankFill) } }).endFill)) ∧
    ∀ s : State,
      (s.sto.power = .standbyPending →
        s.endPendingStandby = ({ s with sto := { s.sto with power := .running } }).place (.standby .running .request)) ∧
      (s.sto.power = .running → s.endPendingStandby = s)

/-- O23. CANCEL is LOCKED_OUT while a LOCKOUT record is present. Else PENDING with a PENDING entry is OK and removes it
with no other effect, without one NOT_FOUND; ACTIVE with no ACTIVE entry is NOT_FOUND, in ARMED, WASH, HELD, PURGE
or RINSE_WAIT OK and the cycle ends CANCELLED at once, PENDING being promoted, in RINSE, DWELL or VENT TOO_LATE with
no effect; ALL is answered alike, but removes PENDING first, so that the queue is then empty, and in RINSE, DWELL or
VENT removes PENDING while the cycle runs on. A cancelled cycle has its pumps, the inlet for RINSE, purge and level
keeping stopped, their claims released, the latch released and no vent. What any cycle end, CANCELLED included,
places and saves is O24. (02_the_wash_cycle.md, 2.11 CANCEL; 02_the_wash_cycle.md, 2.10 Cycle end) -/
def Obligations.CancelEndsWhatItNames : Prop :=
  (∀ (tag : Octet) (s : State), s.takes = true → s.locked = true →
      exec (.cancelPending tag) s = .next ((s.reply 0x08#8 tag .lockedOut []).finish) ∧
        exec (.cancelActive tag) s = .next ((s.reply 0x08#8 tag .lockedOut []).finish) ∧
        exec (.cancelAll tag) s = .next ((s.reply 0x08#8 tag .lockedOut []).finish)) ∧
    (∀ (tag : Octet) (s : State), s.serves = true →
      exec (.cancelPending tag) s = .next
        (if s.csq.waiting.isSome then (({ s with csq := { s.csq with waiting := none } }).reply 0x08#8 tag .ok []).finish
        else (s.reply 0x08#8 tag .notFound []).finish)) ∧
    (∀ (tag : Octet) (s : State), s.serves = true → s.csq.active = none →
      exec (.cancelActive tag) s = .next ((s.reply 0x08#8 tag .notFound []).finish) ∧
        exec (.cancelAll tag) s = .next ((s.reply 0x08#8 tag .notFound []).finish)) ∧
    (∀ (tag : Octet) (s : State), s.serves = true → s.csq.active.isSome = true →
      (s.csq.phase = .armed ∨ s.csq.phase = .wash ∨ s.csq.phase = .held ∨ s.csq.phase = .purge ∨
        s.csq.phase = .rinseWait) →
      exec (.cancelActive tag) s = .next (((s.endCycle .cancelled).reply 0x08#8 tag .ok []).finish) ∧
        exec (.cancelAll tag) s = .next
          (((({ s with csq := { s.csq with waiting := none } }).endCycle .cancelled).reply 0x08#8 tag .ok []).finish)) ∧
    (∀ (tag : Octet) (s : State), s.serves = true → s.csq.active.isSome = true →
      (s.csq.phase = .rinse ∨ s.csq.phase = .dwell ∨ s.csq.phase = .vent) →
      exec (.cancelActive tag) s = .next ((s.reply 0x08#8 tag .tooLate []).finish) ∧
        exec (.cancelAll tag) s = .next
          (({ s with csq := { s.csq with waiting := none } }).reply 0x08#8 tag .tooLate []).finish) ∧
    (∀ (s : State) (p : PendingEntry), s.csq.active.isSome = true → s.csq.waiting = some p →
      (s.endCycle .cancelled).csq.waiting = none ∧
        ∃ e : ActiveEntry, (s.endCycle .cancelled).csq.active = some e ∧ e.recipe = p.recipe) ∧
    (∀ s : State, s.csq.active.isSome = true →
      (({ s with csq := { s.csq with waiting := none } }).endCycle .cancelled).csq.active = none ∧
        (({ s with csq := { s.csq with waiting := none } }).endCycle .cancelled).csq.waiting = none) ∧
    ∀ s : State, s.csq.active.isSome = true →
      ((s.endCycle .cancelled).claimOf .washPump).state = .idle ∧ (s.endCycle .cancelled).washPumpOn = false ∧
        ((s.endCycle .cancelled).claimOf .rinsePump).state = .idle ∧ (s.endCycle .cancelled).rinsePumpOn = false ∧
        (s.endCycle .cancelled).whu.rinseWaiting = false ∧ (s.endCycle .cancelled).whu.owner ≠ some .rinse ∧
        (s.endCycle .cancelled).whu.drainUser ≠ some .purge ∧ (s.endCycle .cancelled).whu.drainUser ≠ some .level ∧
        ((s.whu.drainUser = some .purge ∨ s.whu.drainUser = some .level) →
          ((s.endCycle .cancelled).claimOf .drainPump).state = .idle) ∧
        (s.endCycle .cancelled).dvc.latch = false ∧ (s.endCycle .cancelled).dvc.vent.step = .none

/-- O24. Whatever its state and outcome, the end of a cycle with no PENDING entry leaves CSQ with an empty queue in
IDLE, every timer and record cleared, cycle_open 0, the recipe table and the cycle counter kept; with a PENDING
entry that entry is ACTIVE in ARMED with a copy of its recipe and number 0, and none is PENDING. In every case the
ending closes the record with the outcome, the wash seconds and, for a rinse ended by a LOCKOUT or a reset, the
volume of its pulse count; a cycle without an open record gets one with number 0. After the outputs and the door's
part it places CYCLE_END with that record, sets cycle_open to 0, saves the counters and shifts the queue, with the
CYCLE_PHASE notice of IDLE, or of ARMED with an EMPTY tank filled. The opened flag is cleared for a cycle with a
number. The door's part without a vent clears a set LATCH, starting the release timer unless the latch shows clear,
and tests the owed retract. The door's part comes before the notice and the save, as 2.10 orders the steps.
(02_the_wash_cycle.md, 2.10 Cycle end; 07_door_drive_and_drying.md, 7.8 Cycle end and resets) -/
def Obligations.CycleEndEmptiesTheQueue : Prop :=
  (∀ (s : State) (o : CycleOutcome), s.csq.active.isSome = true → s.csq.waiting = none →
      (s.endCycle o).csq = Csq.cleared s.csq.recipes s.csq.counter 0) ∧
    (∀ (s : State) (o : CycleOutcome) (i : Fin 8) (at' : BitVec 32), s.csq.active.isSome = true →
      s.csq.waiting = some { recipe := i.val, queuedAt := at' } →
      (s.endCycle o).csq.phase = .armed ∧ (s.endCycle o).csq.waiting = none ∧ (s.endCycle o).csq.counter =
          s.csq.counter ∧
        ∃ e : ActiveEntry, (s.endCycle o).csq.active = some e ∧ e.recipe = i.val ∧ e.queuedAt = at' ∧ e.number = 0 ∧
          e.copy = s.csq.recipes.get i) ∧
    (∀ (n : Nat) (e : ActiveEntry), State.openRecord n e =
      { number := n, recipe := some e.recipe, outcome := none, washS := 0, lowTemp := none, rinseMl := 0, minTemp := none,
        maxTemp := none, dosing := e.dosing, lowRinse := false, ventCut := false, doorBlocked := false }) ∧
    (∀ (s : State) (o : CycleOutcome) (e : ActiveEntry), s.csq.active = some e →
      (let r : CycleRecord := s.csq.record.getD (State.openRecord 0 e);
        let u := s.stopOutputs.doorCycleEnd (decide (e.number ≠ 0));
        let v := ({ u with csq := { u.csq with record := none, cycleOpen := 0 } } : State).place
          (.cycleEnd { r with
            outcome := some o, washS := s.csq.washMs / 1000
            rinseMl :=
              if s.csq.phase = CycleState.rinse ∧ (o = .abortedFault ∨ o = .reset) then s.csq.rinse.count * 1000 / s.k
              else r.rinseMl });
        s.endCycle o = v.saveCounters.shiftQueue)) ∧
    (∀ (s : State) (o : CycleOutcome) (e : ActiveEntry), s.csq.active = some e →
      (s.endCycle o).csq.cycleOpen = 0 ∧
        (e.number ≠ 0 → (s.endCycle o).dvc.openedFlag = false) ∧
        (e.number = 0 → (s.endCycle o).dvc.openedFlag = s.dvc.openedFlag)) ∧
    (∀ s : State, s.csq.waiting = none →
      s.shiftQueue =
        ({ s with csq := Csq.cleared s.csq.recipes s.csq.counter s.csq.cycleOpen }).place
          (.cyclePhase 0 none .idle false false)) ∧
    (∀ (s : State) (i : Fin 8) (at' : BitVec 32), s.csq.waiting = some { recipe := i.val, queuedAt := at' } →
      (let t := ({ s with
          csq := { Csq.cleared s.csq.recipes s.csq.counter s.csq.cycleOpen with
            phase := .armed,
            active := some
              { recipe := i.val, queuedAt := at', copy := s.csq.recipes.get i, number := 0, dosing := Dosing.zero } } }).place (.cyclePhase 0 (some i.val) .armed false false);
        (s.whu.tank ≠ .empty → s.shiftQueue = t) ∧ (s.whu.tank = .empty → s.shiftQueue = t.startFill .fill))) ∧
    ∀ (s : State) (numbered : Bool), s.dvc.vent.step = .none →
      s.doorCycleEnd numbered =
        ({ s with
          dvc := { s.dvc with
            latch := false
            releaseLeft :=
              if s.dvc.latch then (if s.latchEngaged = some false then none else some 2000) else s.dvc.releaseLeft
            openedFlag := s.dvc.openedFlag && !numbered } }).startRetract

/-- O25. PREPARE, whatever the cycle state, is NOT_NOW with a STOP record in any tank state or in DRAINING, with no
effect; in EMPTY OK and a fill of kind FILL starts: tank FILLING, fill time 0, the inlet asked for (with FULL
accepted the fill ends at once); in FILLING, HEATING or READY OK with no effect. It places no notice of its own. The
tank state is reported in the STATUS reply. An accepted PREPARE ends STANDBY_PENDING, which the first clauses leave
out by their power state. That an accepted PREPARE ends STANDBY_PENDING is R193, and the place and code of the tank
state in the WHU section is R186 read as log entry 19 says. (01_water_path_and_heat.md, Tank states;
12_start_up_standby_and_the_settings_store.md, 12.4 Standby; 11_panel_link.md, 11.4 Request catalogue) -/
def Obligations.PrepareIsAnsweredByItsRows : Prop :=
  (∀ (tag : Octet) (s : State), s.serves = true → (s.hasClass .stop = true ∨ s.whu.tank = .draining) →
      exec (.prepare tag) s = .next ((s.reply 0x09#8 tag .notNow []).finish)) ∧
    (∀ (tag : Octet) (s : State), s.serves = true → s.hasClass .stop = false → s.sto.power = .running →
      (s.whu.tank = .filling ∨ s.whu.tank = .heating ∨ s.whu.tank = .ready) →
      exec (.prepare tag) s = .next ((s.reply 0x09#8 tag .ok []).finish)) ∧
    (∀ (tag : Octet) (s : State), s.serves = true → s.hasClass .stop = false → s.sto.power = .running →
      s.whu.tank = .empty → s.whu.owner ≠ some .tankFill → s.whu.accepted ≠ some .full →
      exec (.prepare tag) s = .next
        ((({ s with
          whu := { s.whu with
            tank := .filling, fill := some { kind := .fill, timeMs := 0 }, tankWaiting :=
                true } }).reply 0x09#8 tag .ok
          []).finish)) ∧
    (∀ (tag : Octet) (s : State), s.serves = true → s.hasClass .stop = false → s.whu.tank = .empty →
      exec (.prepare tag) s = .next (((s.startFill .fill).endPendingStandby.reply 0x09#8 tag .ok []).finish)) ∧
    (∀ (tag : Octet) (s : State), s.serves = true → s.hasClass .stop = false → s.sto.power = .standbyPending →
      (s.whu.tank = .filling ∨ s.whu.tank = .heating ∨ s.whu.tank = .ready) →
      exec (.prepare tag) s = .next
        (((({ s with sto := { s.sto with power := .running } }).place (.standby .running .request)).reply 0x09#8 tag .ok
          []).finish)) ∧
    ∀ s : State, s.statusWhu[1]? = some (BitVec.ofNat 8 s.whu.tank.code)

/-- O26. DRAIN with a cycle is NOT_NOW, in DRAINING OK with no effect on the tank; else a fill in progress ends (its
request is withdrawn, or its open inlet RELEASED with a run-on window, or its opening inlet with a report of 0
pulses, or its report is left to the run-on window that stands), the tank is DRAINING, the tank heater released, the
drain pump claimed for DRAINING, and with DRY accepted the drain-out time runs from 0. An accepted DRAIN ends
STANDBY_PENDING. The volume of the ended fill is handed on with its report (log entry 32).
(01_water_path_and_heat.md, Tank states; 01_water_path_and_heat.md, Drain pump;
12_start_up_standby_and_the_settings_store.md, 12.4 Standby; 01_water_path_and_heat.md, Inlet valve) -/
def Obligations.DrainMovesTheTankToDraining : Prop :=
  (∀ (tag : Octet) (s : State), s.serves = true → s.csq.phase ≠ .idle →
      exec (.drain tag) s = .next ((s.reply 0x0A#8 tag .notNow []).finish)) ∧
    (∀ (tag : Octet) (s : State), s.serves = true → s.csq.phase = .idle → s.whu.tank = .draining →
      exec (.drain tag) s = .next ((s.endPendingStandby.reply 0x0A#8 tag .ok []).finish)) ∧
    (∀ (tag : Octet) (s : State), s.serves = true → s.csq.phase = .idle → s.whu.tank ≠ .draining →
      exec (.drain tag) s = .next
        ((let t := (({ s.closeFill with
            whu := { s.closeFill.whu with
              tank := .draining, tankHeat := { s.closeFill.whu.tankHeat with demand := false } } }).release
                .tankHeater).takeDrain .draining;
          let u := if t.whu.accepted = some LevelCode.dry then { t with whu := { t.whu with drainOutMs := some 0 } } else t;
          (u.endPendingStandby.reply 0x0A#8 tag .ok [])).finish)) ∧
    (∀ s : State,
      (s.sto.power = .standbyPending →
        s.endPendingStandby = ({ s with sto := { s.sto with power := .running } }).place (.standby .running .request)) ∧
      (s.sto.power = .running → s.endPendingStandby = s)) ∧
    ∀ s : State,
      (s.whu.fill = none → s.closeFill = s) ∧
      ∀ f : FillRec, s.whu.fill = some f →
        (s.whu.tankWaiting = true →
          s.closeFill = { s with whu := { s.whu with fill := none, tankWaiting := false } }) ∧
        (s.whu.tankWaiting = false → s.whu.owner = some .tankFill → s.whu.phase = .opened →
          s.closeFill =
            { s with
              sfc := { s.sfc with alignHeld := false }
              whu := { s.whu with
                fill := none, fillEnded := some f.kind, owner := none, phase := .closed, quietLeft := none
                runOn := some { user := .tankFill, outcome := .released, pulses := s.whu.draw, left := 500 } } }) ∧
        (s.whu.tankWaiting = false → s.whu.owner = some .tankFill → s.whu.phase = .opening →
          s.closeFill =
            ({ s with
              sfc := { s.sfc with alignHeld := false }
              whu := { s.whu with fill := none, owner := none, phase := .closed, quietLeft := none } }).dose
                (match f.kind with
                | .fill => .fill
                | .topUp => .topUp) 0 100) ∧
        (s.whu.tankWaiting = false → s.whu.owner ≠ some .tankFill →
          s.closeFill = { s with whu := { s.whu with fill := none, fillEnded := some f.kind } })

/-- O27. DOSE of a channel code above 1, of 0 to 99 or more than 60000 uL, or of 0 or more than 60 s is OUT_OF_RANGE; in
RINSE or with the channel module not LINKED NOT_NOW, MANUAL at an empty channel NOT_NOW, with four orders
QUEUE_FULL. Else MANUAL adds the carry, makes an order of floor(t / ul_per_step) steps, keeps the rest as carry and
answers the tag and the steps; with 0 steps no order is made and the tag is absent. PRIME makes an order of the
seconds. The head order then starts if it may. Steps that any dose places: 0 steps change nothing; at an empty
channel or under a LOCKOUT they are dropped, which sets DOSE_SHORT in the ACTIVE record; with fewer than four orders
they make an order at the tail, counted, and the head starts if it may; with four, a detergent count joins the last
order while that is QUEUED, of steps and of the step size in force, up to 65535, the rest dropped, and any other is
dropped. (06_chemical_dosing.md, 6.7 Panel dosing; 05_volume_hardness_and_dose_arithmetic.md, 5.5 Steps, carry and
the channel bounds; 06_chemical_dosing.md, 6.2 Orders; 06_chemical_dosing.md, 6.3 Detergent) -/
def Obligations.DoseRequestsMakeOrders : Prop :=
  (∀ (tag code : Octet) (v : BitVec 16) (s : State), s.serves = true →
      (1 < code.toNat ∨ v.toNat < 100 ∨ 60000 < v.toNat) →
      exec (.doseManual tag code v) s = .next ((s.reply 0x0B#8 tag .outOfRange []).finish)) ∧
    (∀ (tag code : Octet) (v : BitVec 16) (s : State), s.serves = true →
      (1 < code.toNat ∨ v.toNat < 1 ∨ 60 < v.toNat) →
      exec (.dosePrime tag code v) s = .next ((s.reply 0x0B#8 tag .outOfRange []).finish)) ∧
    (∀ (tag : Octet) (c : Channel) (v w : BitVec 16) (s : State), s.serves = true → 100 ≤ v.toNat → v.toNat ≤ 60000 →
      1 ≤ w.toNat → w.toNat ≤ 60 → (s.csq.phase = .rinse ∨ s.linked (channelKind c) = false) →
      exec (.doseManual tag (BitVec.ofNat 8 (channelCode c)) v) s = .next ((s.reply 0x0B#8 tag .notNow []).finish) ∧
        exec (.dosePrime tag (BitVec.ofNat 8 (channelCode c)) w) s = .next ((s.reply 0x0B#8 tag .notNow []).finish)) ∧
    (∀ (tag : Octet) (c : Channel) (v : BitVec 16) (s : State), s.serves = true → 100 ≤ v.toNat → v.toNat ≤ 60000 →
      s.csq.phase ≠ .rinse → s.linked (channelKind c) = true → (s.channel c).empty = true →
      exec (.doseManual tag (BitVec.ofNat 8 (channelCode c)) v) s = .next ((s.reply 0x0B#8 tag .notNow []).finish)) ∧
    (∀ (tag : Octet) (c : Channel) (v w : BitVec 16) (s : State), s.serves = true → 100 ≤ v.toNat → v.toNat ≤ 60000 →
      1 ≤ w.toNat → w.toNat ≤ 60 → s.csq.phase ≠ .rinse → s.linked (channelKind c) = true →
      (s.channel c).empty = false → 4 ≤ (s.channel c).orders.length →
      exec (.doseManual tag (BitVec.ofNat 8 (channelCode c)) v) s =
          .next ((s.reply 0x0B#8 tag .queueFull []).finish) ∧
        exec (.dosePrime tag (BitVec.ofNat 8 (channelCode c)) w) s =
            .next ((s.reply 0x0B#8 tag .queueFull []).finish)) ∧
    (∀ (tag : Octet) (c : Channel) (v : BitVec 16) (s : State), s.serves = true → 100 ≤ v.toNat → v.toNat ≤ 60000 →
      s.csq.phase ≠ .rinse → s.linked (channelKind c) = true → (s.channel c).empty = false →
      (s.channel c).orders.length < 4 → 0 < (v.toNat + (s.channel c).carry) / s.ulPerStep c →
      exec (.doseManual tag (BitVec.ofNat 8 (channelCode c)) v) s = .next
        (((((s.onChannel c fun r =>
          { r with
            carry := v.toNat + r.carry - (v.toNat + r.carry) / s.ulPerStep c * s.ulPerStep c
            nextTag := r.nextTag + 1#8
            orders := r.orders ++
              [{ tag := r.nextTag, origin := .manual, amount := .steps ((v.toNat + r.carry) / s.ulPerStep c),
                 ulPerStep := s.ulPerStep c, state := .queued, started := false }] }).countSteps c
          ((v.toNat + (s.channel c).carry) / s.ulPerStep c)).startOrder c).reply 0x0B#8 tag .ok
            ((s.channel c).nextTag :: e2 ((v.toNat + (s.channel c).carry) / s.ulPerStep c))).finish)) ∧
    (∀ (tag : Octet) (c : Channel) (v : BitVec 16) (s : State), s.serves = true → 100 ≤ v.toNat → v.toNat ≤ 60000 →
      s.csq.phase ≠ .rinse → s.linked (channelKind c) = true → (s.channel c).empty = false →
      (s.channel c).orders.length < 4 → (v.toNat + (s.channel c).carry) / s.ulPerStep c = 0 →
      exec (.doseManual tag (BitVec.ofNat 8 (channelCode c)) v) s = .next
        (((s.onChannel c fun r => { r with carry := v.toNat + r.carry }).reply 0x0B#8 tag .ok
          [0xFF#8, 0x00#8, 0x00#8]).finish)) ∧
    (∀ (tag : Octet) (c : Channel) (v : BitVec 16) (s : State), s.serves = true → 1 ≤ v.toNat → v.toNat ≤ 60 →
      s.csq.phase ≠ .rinse → s.linked (channelKind c) = true → (s.channel c).orders.length < 4 →
      exec (.dosePrime tag (BitVec.ofNat 8 (channelCode c)) v) s = .next
        ((((s.onChannel c fun r =>
          { r with
            nextTag := r.nextTag + 1#8
            orders := r.orders ++
              [{ tag := r.nextTag, origin := .prime, amount := .seconds v.toNat, ulPerStep := s.ulPerStep c,
                 state := .queued, started := false }] }).startOrder c).reply 0x0B#8 tag .ok
            [(s.channel c).nextTag, 0xFF#8, 0xFF#8]).finish)) ∧
    (∀ (s : State) (c : Channel) (origin : Origin), s.placeSteps c origin 0 = s) ∧
    (∀ (s : State) (c : Channel) (origin : Origin) (n : Nat), 0 < n →
      ((s.channel c).empty = true ∨ s.locked = true) → s.placeSteps c origin n = s.countDrop n) ∧
    (∀ (s : State) (c : Channel) (origin : Origin) (n : Nat), 0 < n → (s.channel c).empty = false →
      s.locked = false → (s.channel c).orders.length < 4 →
      s.placeSteps c origin n =
        (((s.onChannel c fun r =>
          { r with
            nextTag := r.nextTag + 1#8
            orders := r.orders ++
              [{ tag := r.nextTag, origin := origin, amount := .steps n, ulPerStep := s.ulPerStep c, state := .queued,
                 started := false }] }).countSteps c n).startOrder c)) ∧
    (∀ (s : State) (c : Channel) (origin : Origin) (n m : Nat) (os : List Order) (o : Order), 0 < n →
      (s.channel c).empty = false → s.locked = false → (s.channel c).orders = os ++ [o] →
      4 ≤ (s.channel c).orders.length → o.amount = .steps m →
      ((origin = .rinseEnd ∨ origin = .fill ∨ origin = .topUp) → o.state = .queued → o.ulPerStep = s.ulPerStep c →
        s.placeSteps c origin n =
          (((s.onChannel c fun r =>
            { r with orders := os ++ [{ o with amount := .steps (min 65535 (m + n)) }] }).countSteps c
              (n - (m + n - 65535))).countDrop (m + n - 65535))) ∧
      ((origin = .manual ∨ origin = .raStream ∨ origin = .prime ∨ o.state = .sent ∨ o.ulPerStep ≠ s.ulPerStep c) →
        s.placeSteps c origin n = s.countDrop n)) ∧
    (∀ (s : State) (c : Channel) (origin : Origin) (n m : Nat) (os : List Order) (o : Order), 0 < n →
      (s.channel c).empty = false → s.locked = false → (s.channel c).orders = os ++ [o] →
      4 ≤ (s.channel c).orders.length → o.amount = .seconds m → s.placeSteps c origin n = s.countDrop n) ∧
    (∀ (s : State) (n : Nat) (e : ActiveEntry) (r : CycleRecord), s.csq.active = some e → s.csq.record = some r →
      (s.countSteps .det n =
        { s with
          csq := { s.csq with record := some { r with dosing := { r.dosing with detSteps := r.dosing.detSteps + n } } } }) ∧
      (s.countSteps .ra n =
        { s with
          csq := { s.csq with record := some { r with dosing := { r.dosing with raSteps := r.dosing.raSteps + n } } } }) ∧
      (0 < n →
        s.countDrop n =
          { s with
            csq := { s.csq with record := some { r with dosing := { r.dosing with doseShort := true } } } })) ∧
    (∀ (s : State) (n : Nat) (e : ActiveEntry), s.csq.active = some e → s.csq.record = none →
      (s.countSteps .det n =
        { s with
          csq := { s.csq with
            active := some { e with dosing := { e.dosing with detSteps := e.dosing.detSteps + n } } } }) ∧
      (s.countSteps .ra n =
        { s with
          csq := { s.csq with
            active := some { e with dosing := { e.dosing with raSteps := e.dosing.raSteps + n } } } }) ∧
      (0 < n →
        s.countDrop n =
          { s with
            csq := { s.csq with active := some { e with dosing := { e.dosing with doseShort := true } } } })) ∧
    ∀ (s : State) (c : Channel) (n : Nat), s.csq.active = none → s.countSteps c n = s ∧ s.countDrop n = s

/-- O28. STOCK of a channel code above 1 is OUT_OF_RANGE. Else the stock becomes min(volume x 1000, container), the
answer is CLAMPED if the volume exceeds the container and OK otherwise, the empty flag stays only for volume 0, and
the low flag is set below L, cleared at or above U and kept between. A volume of 0 leaves the fault list as it was;
the other channel, the cycle, the water and the settings stay. (06_chemical_dosing.md, 6.6 Empty, stock and low) -/
def Obligations.StockSetsTheContainer : Prop :=
  (∀ (tag code : Octet) (v : BitVec 16) (s : State), s.serves = true → 1 < code.toNat →
      exec (.stock tag code v) s = .next ((s.reply 0x0C#8 tag .outOfRange []).finish)) ∧
    ∀ (tag : Octet) (c : Channel) (v : BitVec 16) (s : State), s.serves = true →
      ∃ t : State,
        exec (.stock tag (BitVec.ofNat 8 (channelCode c)) v) s = .next
          ((t.reply 0x0C#8 tag (if s.containerUl c < v.toNat * 1000 then .clamped else .ok) []).finish) ∧
        (t.channel c).stock = min (v.toNat * 1000) (s.containerUl c) ∧
        ((t.channel c).empty = true ↔ (s.channel c).empty = true ∧ v.toNat = 0) ∧
        ((t.channel c).low = true ↔
          (t.channel c).stock < s.containerUl c * s.num SettingIx.stockLow / 100 ∨
            ((s.channel c).low = true ∧
              (t.channel c).stock < s.containerUl c * (s.num SettingIx.stockLow + 5) / 100)) ∧
        (v.toNat = 0 → t.flu = s.flu) ∧ (∀ d : Channel, d ≠ c → t.channel d = s.channel d) ∧ t.csq = s.csq ∧
        t.whu = s.whu ∧ t.settings = s.settings ∧ t.lba = s.lba

/-- O29. REGEN of a code above 1 is OUT_OF_RANGE; with the softener module not LINKED, or of a column already
regenerating, NOT_NOW. A READY or EXHAUSTED column begins BRINE: capacity 0, brine_weak as SALT_LOW shows, the phase
time brine_s, brine not seen, and a PHASE_START notice; a changeover in hand, of which that READY column may be the
target, is left as it is, which is the model's choice (log entry 63). The column in SERVICE with a changeover
PENDING, CLAIMED or MOVING is ACCEPTED with no effect. With no changeover, the other column READY and no VALVE_STUCK
record the other column becomes the target: with the inlet owned the changeover is PENDING; with the inlet free it is
CLAIMED in the same event, the claim of VALVE_MOTOR WAITING and walked, or DUE with SOFTENER_EXHAUSTED if the claim
is refused as unfit. In any other case NOT_NOW. (04_water_softening.md, 4.7 The REGEN request;
04_water_softening.md, 4.6 Regeneration; 04_water_softening.md, 4.5 Changeover) -/
def Obligations.RegenStartsOrChangesOver : Prop :=
  (∀ (tag code : Octet) (s : State), s.serves = true → 1 < code.toNat →
      exec (.regen tag code) s = .next ((s.reply 0x0D#8 tag .outOfRange []).finish)) ∧
    (∀ (tag : Octet) (c : Column) (s : State), s.serves = true →
      (s.linked .softener = false ∨ (s.column c).state.regen = true) →
      exec (.regen tag (BitVec.ofNat 8 c.code)) s = .next ((s.reply 0x0D#8 tag .notNow []).finish)) ∧
    (∀ (tag : Octet) (c : Column) (s : State), s.serves = true → s.linked .softener = true →
      ((s.column c).state = .ready ∨ (s.column c).state = .exhausted) →
      exec (.regen tag (BitVec.ofNat 8 c.code)) s = .next
        ((((((s.onColumn c fun r =>
          { r with
            state := .regenBrine, capacity := 0, brineWeak := s.showsSaltLow
            phaseLeft := s.num SettingIx.brineS * 1000 }).onSfc fun x => { x with brineSeen := false }).place
              (.softener .phaseStart c .regenBrine)).reply 0x0D#8 tag .accepted [])).finish)) ∧
    (∀ (tag : Octet) (c : Column) (s : State), s.serves = true → s.linked .softener = true →
      (s.column c).state = .service →
      (s.sfc.changeover = .pending ∨ s.sfc.changeover = .claimed ∨ s.sfc.changeover = .moving) →
      exec (.regen tag (BitVec.ofNat 8 c.code)) s = .next ((s.reply 0x0D#8 tag .accepted []).finish)) ∧
    (∀ (tag : Octet) (c : Column) (s : State), s.serves = true → s.linked .softener = true →
      (s.column c).state = .service → s.sfc.changeover = .none → (s.column c.other).state = .ready →
      s.hasFault .valveStuck 0 = false → s.whu.owner.isSome = true →
      exec (.regen tag (BitVec.ofNat 8 c.code)) s = .next
        ((({ s with sfc := { s.sfc with target := c.other, changeover := .pending } }).reply 0x0D#8 tag .accepted
          []).finish)) ∧
    (∀ (tag : Octet) (c : Column) (s : State), s.serves = true → s.linked .softener = true →
      (s.column c).state = .service → s.sfc.changeover = .none → (s.column c.other).state = .ready →
      s.hasFault .valveStuck 0 = false → s.whu.owner = none → (s.claimOf .valveMotor).state = .idle →
      exec (.regen tag (BitVec.ofNat 8 c.code)) s = .next
        ((let t : State := { s with sfc := { s.sfc with target := c.other, changeover := .claimed } };
          (if s.loadUnfit .valveMotor = true then (t.tellUnfit .valveMotor).becomeDue
          else
            (t.onClaim .valveMotor fun x =>
              { x with state := .waiting, claimTime := s.now, waitMs := 0, promoted := false }).walk).reply
            0x0D#8 tag .accepted []).finish)) ∧
    ∀ (tag : Octet) (c : Column) (s : State), s.serves = true → s.linked .softener = true →
      (s.column c).state = .service →
      (s.sfc.changeover = .due ∨ s.sfc.changeover = .returning ∨ s.sfc.changeover = .aligning ∨
        s.sfc.changeover = .none ∧ (s.column c.other).state ≠ .ready ∨
        s.sfc.changeover = .none ∧ s.hasFault .valveStuck 0 = true) →
      exec (.regen tag (BitVec.ofNat 8 c.code)) s = .next ((s.reply 0x0D#8 tag .notNow []).finish)

/-- O30. OPEN of 0 or more than 100 % is OUT_OF_RANGE. OPEN and RETRACT are NOT_NOW with the door module not LINKED, a
DOOR_OBSTRUCTED record or LATCH set; OPEN too with a cycle or a pusher task, RETRACT with a PUSH in progress. An
OPEN taken starts a PANEL push to min(percentage, max_pct) and answers ACCEPTED with it. A RETRACT with a RETRACT in
progress or the pusher home is OK with no effect; else the retract is owed, starts if it may, and the answer is
ACCEPTED. (07_door_drive_and_drying.md, 7.6 The DOOR request; 07_door_drive_and_drying.md, 7.3 The pusher) -/
def Obligations.DoorRequestsPushAndRetract : Prop :=
  (∀ (tag p : Octet) (s : State), s.serves = true → (p.toNat < 1 ∨ 100 < p.toNat) →
      exec (.doorOpen tag p) s = .next ((s.reply 0x0E#8 tag .outOfRange []).finish)) ∧
    (∀ (tag p : Octet) (s : State), s.serves = true → 1 ≤ p.toNat → p.toNat ≤ 100 →
      (s.linked .door = false ∨ s.hasFault .doorObstructed 0 = true ∨ s.dvc.latch = true ∨ s.csq.phase ≠ .idle ∨
        s.dvc.task ≠ .none) →
      exec (.doorOpen tag p) s = .next ((s.reply 0x0E#8 tag .notNow []).finish)) ∧
    (∀ (tag p : Octet) (s : State), s.serves = true → 1 ≤ p.toNat → p.toNat ≤ 100 → s.linked .door = true →
      s.hasFault .doorObstructed 0 = false → s.dvc.latch = false → s.csq.phase = .idle → s.dvc.task = .none →
      exec (.doorOpen tag p) s = .next
        ((((s.startPush .panel (min p.toNat (s.caps .door).maxPct)).1).reply 0x0E#8 tag .accepted
          (e1 (min p.toNat (s.caps .door).maxPct))).finish)) ∧
    (∀ (s : State) (target : Nat), s.locked = false → (s.claimOf .doorDrive).state = .idle →
      s.loadUnfit .doorDrive = false →
      s.retracting = false →
      s.startPush .panel target =
        ((({ s with dvc := { s.dvc with task := .push .panel target .claimed } }).onClaim .doorDrive
          fun c => { c with state := .waiting, claimTime := s.now, waitMs := 0, promoted := false }).walk, false)) ∧
    (∀ (tag : Octet) (s : State), s.serves = true →
      (s.linked .door = false ∨ s.hasFault .doorObstructed 0 = true ∨ s.dvc.latch = true ∨ s.pushing = true) →
      exec (.doorRetract tag) s = .next ((s.reply 0x0E#8 tag .notNow []).finish)) ∧
    (∀ (tag : Octet) (s : State), s.serves = true → s.linked .door = true → s.hasFault .doorObstructed 0 = false →
      s.dvc.latch = false → s.pushing = false → (s.retracting = true ∨ s.pusherHome = true) →
      exec (.doorRetract tag) s = .next ((s.reply 0x0E#8 tag .ok []).finish)) ∧
    ∀ (tag : Octet) (s : State), s.serves = true → s.linked .door = true → s.hasFault .doorObstructed 0 = false →
      s.dvc.latch = false → s.dvc.task = .none → s.pusherHome = false →
      exec (.doorRetract tag) s = .next
        (((({ s with dvc := { s.dvc with owed := true } }).startRetract).reply 0x0E#8 tag .accepted []).finish)

/-- O31. ACK_FAULT of an undefined code is OUT_OF_RANGE, of a key not in the list NOT_FOUND, of an AUTO record or one
whose condition is present NOT_NOW; else the record leaves the list with its REMOVED notice and the answer is OK
with 1 and the length left. ALL with nothing to remove is NOT_NOW if the list holds an ACK record and NOT_FOUND if
not; else every ACK record whose condition has ended is removed, with one REMOVED notice each in list order, and the
answer is OK with the number removed and the length left (of a list whose keys differ, as a list of raises has).
What a removal lets start is made with what the event settles (log entry 25). (10_faults_and_protective_actions.md,
10.4 Clearing) -/
def Obligations.AckFaultRemovesEndedRecords : Prop :=
  (∀ (tag code detail : Octet) (s : State), s.takes = true → FaultCode.ofCode code.toNat = none →
      exec (.ackFault tag code detail) s = .next ((s.reply 0x10#8 tag .outOfRange []).finish)) ∧
    (∀ (tag detail : Octet) (c : FaultCode) (s : State), s.takes = true → s.faultRec c detail.toNat = none →
      exec (.ackFault tag (BitVec.ofNat 8 c.code) detail) s = .next ((s.reply 0x10#8 tag .notFound []).finish)) ∧
    (∀ (tag detail : Octet) (c : FaultCode) (r : FaultRec) (s : State), s.takes = true →
      s.faultRec c detail.toNat = some r → (r.ack = false ∨ r.present = true) →
      exec (.ackFault tag (BitVec.ofNat 8 c.code) detail) s = .next ((s.reply 0x10#8 tag .notNow []).finish)) ∧
    (∀ (tag detail : Octet) (c : FaultCode) (r : FaultRec) (s : State), s.takes = true →
      s.faultRec c detail.toNat = some r → r.ack = true → r.present = false →
      exec (.ackFault tag (BitVec.ofNat 8 c.code) detail) s = .next
        ((((({ s with
          flu := { s.flu with
            list := s.flu.list.filter fun x : FaultRec => !(x.code = c ∧ x.detail = detail.toNat) } }).place
              (.fault .removed r.code r.detail r.cls r.count r.firstCycle))).reply 0x10#8 tag .ok
                (1#8 :: e1 (s.flu.list.filter fun x : FaultRec => !(x.code = c ∧ x.detail =
                    detail.toNat)).length)).finish)) ∧
    (∀ (tag : Octet) (s : State), s.takes = true → (∀ r ∈ s.flu.list, r.ack = false ∨ r.present = true) →
      exec (.ackFaultAll tag) s = .next
        ((s.reply 0x10#8 tag (if s.flu.list.any fun r => r.ack then .notNow else .notFound) []).finish)) ∧
    ∀ (tag : Octet) (s : State), s.takes = true →
      s.flu.list.Pairwise (fun x y : FaultRec => x.code ≠ y.code ∨ x.detail ≠ y.detail) →
      (∃ r ∈ s.flu.list, r.ack = true ∧ r.present = false) →
      exec (.ackFaultAll tag) s = .next
        (((((s.flu.list.filter fun x : FaultRec => x.ack && !x.present).foldl
            (fun (u : State) (r : FaultRec) => u.place (.fault .removed r.code r.detail r.cls r.count r.firstCycle))
            { s with flu := { s.flu with list := s.flu.list.filter fun x : FaultRec => !(x.ack && !x.present) } })).reply
              0x10#8 tag .ok
              (e1 (s.flu.list.filter fun x : FaultRec => x.ack && !x.present).length ++
                e1 (s.flu.list.filter fun x : FaultRec => !(x.ack && !x.present)).length)).finish)

/-- O32. PIN of an address above 7 or with a field out of range is OUT_OF_RANGE and of an address of expected kind NONE
NOT_NOW; else the record is taken with the revision held and pinned. UNPIN of an address above 7 is OUT_OF_RANGE, of
an entry not pinned OK with no effect; else the pin goes, a LINKED module is queried, another takes the default
record. CLEAR_COUNTERS of 0 to 7 or ALL sets the three counts to 0, of another address it is OUT_OF_RANGE. BUS_RESET
is ACCEPTED and breaks the line. (09_module_supervision.md, 9.4 Capability records; 09_module_supervision.md, 9.8
The MODULE request) -/
def Obligations.ModuleRequestsPinAndClear : Prop :=
  (∀ (tag a : Octet) (fields : List Octet) (s : State), s.serves = true → fields.length = s.pinLength a →
      7 < a.toNat →
      exec (.modulePin tag a fields) s = .next ((s.reply 0x11#8 tag .outOfRange []).finish)) ∧
    (∀ (tag : Octet) (a : Addr) (fields : List Octet) (s : State), s.serves = true → fields.length = 4 →
      s.kindAt a = .none →
      exec (.modulePin tag (BitVec.ofNat 8 a.val) fields) s = .next ((s.reply 0x11#8 tag .notNow []).finish)) ∧
    (∀ (tag : Octet) (a : Addr) (fields : List Octet) (s : State), s.serves = true →
      fields.length = (s.kindAt a).recordLength → s.kindAt a ≠ .none → CapFields.read (s.kindAt a) fields = none →
      exec (.modulePin tag (BitVec.ofNat 8 a.val) fields) s = .next ((s.reply 0x11#8 tag .outOfRange []).finish)) ∧
    (∀ (tag : Octet) (a : Addr) (fields : List Octet) (f : CapFields) (s : State), s.serves = true →
      fields.length = (s.kindAt a).recordLength → s.kindAt a ≠ .none → CapFields.read (s.kindAt a) fields = some f →
      exec (.modulePin tag (BitVec.ofNat 8 a.val) fields) s = .next
        ((((State.capsChange s
          (s.onEntry a fun e => { e with caps := { fields := f, revision := e.caps.revision } })).onEntry a
            fun e => { e with pinned := true }).reply 0x11#8 tag .ok []).finish)) ∧
    (∀ (tag a : Octet) (s : State), s.serves = true → 7 < a.toNat →
      exec (.moduleUnpin tag a) s = .next ((s.reply 0x11#8 tag .outOfRange []).finish)) ∧
    (∀ (tag : Octet) (a : Addr) (s : State), s.serves = true → (s.entry a).pinned = false →
      exec (.moduleUnpin tag (BitVec.ofNat 8 a.val)) s = .next ((s.reply 0x11#8 tag .ok []).finish)) ∧
    (∀ (tag : Octet) (a : Addr) (s : State), s.serves = true → (s.entry a).pinned = true →
      exec (.moduleUnpin tag (BitVec.ofNat 8 a.val)) s = .next
        (((let t := s.onEntry a fun e => { e with pinned := false };
          if s.linkedAt a then t.askQuery a else t.setCaps a (defaultCaps (s.kindAt a))).reply 0x11#8 tag .ok []).finish)) ∧
    (∀ (tag : Octet) (a : Addr) (s : State), s.serves = true →
      exec (.moduleClearCounters tag (BitVec.ofNat 8 a.val)) s = .next
        (((s.onEntry a fun e => { e with bayErrors := 0, msgAborts := 0, grantLapses := 0 }).reply 0x11#8 tag .ok
          []).finish)) ∧
    (∀ (tag : Octet) (s : State), s.serves = true →
      exec (.moduleClearCounters tag 0xFF#8) s = .next
        ((({ s with
          msu := { s.msu with
            entries := s.msu.entries.map fun e : Entry =>
              { e with bayErrors := 0, msgAborts := 0, grantLapses := 0 } } }).reply 0x11#8 tag .ok []).finish)) ∧
    (∀ (tag a : Octet) (s : State), s.serves = true → 7 < a.toNat → a ≠ 0xFF#8 →
      exec (.moduleClearCounters tag a) s = .next ((s.reply 0x11#8 tag .outOfRange []).finish)) ∧
    ∀ (tag : Octet) (s : State), s.serves = true →
      exec (.moduleBusReset tag) s = .next ((s.busReset.reply 0x11#8 tag .accepted []).finish)

/-- O33. Whatever the state, after the line break that BUS_RESET orders the line is broken for four frames with every
slot 0, the downstream queue is empty, both message channels and the grant are at rest, no candidate or accepted
indication is left, and every entry whose kind is expected is SEEKING while one not expected stays so.
(08_module_bus.md, 8.12 The line break; 09_module_supervision.md, 9.5 Loss and relink) -/
def Obligations.LineBreakEmptiesTheBus : Prop :=
  ∀ s : State, s.busReset.mbi.line = .brk 8 ∧ s.busReset.mbi.dn = Vector.replicate 24 0#8 ∧
    s.busReset.mbi.queue = [] ∧ s.busReset.mbi.down = DownChan.reset ∧
    s.busReset.mbi.grant = none ∧ s.busReset.mbi.up = UpChan.reset ∧
    (∀ a : Addr, (s.busReset.bay a).accepted = none ∧ (s.busReset.bay a).candidate = none) ∧
    (∀ a : Addr, (s.busReset.entry a).link =
      if (s.entry a).link = .notExpected then LinkState.notExpected else LinkState.seeking)

/-- O34. SAVE with PFW asserted is NOT_NOW; else both write marks are set, a write starts if none runs, and the answer
is ACCEPTED. RESET is answered OK and remembered until its reply is sent, in a LOCKOUT too. SLEEP with an ACTIVE
entry or a tank FILLING or DRAINING is NOT_NOW; else bits 2..0 of the mask are taken, and with the softener not busy
the part enters STANDBY with its notice, answered OK, the demands going OFF with what the event settles; with it
busy a RUNNING part enters STANDBY_PENDING with its notice and one in STANDBY_PENDING stays there, answered
ACCEPTED. Model choices this rests on: log entry 44. (12_start_up_standby_and_the_settings_store.md, 12.2 Writing
the store; 12_start_up_standby_and_the_settings_store.md, 12.3 Start-up and resets;
12_start_up_standby_and_the_settings_store.md, 12.4 Standby) -/
def Obligations.SaveResetAndSleepAreAnswered : Prop :=
  (∀ (tag : Octet) (s : State), s.serves = true → s.sto.pfw = true →
      exec (.save tag) s = .next ((s.reply 0x12#8 tag .notNow []).finish)) ∧
    (∀ (tag : Octet) (s : State), s.serves = true → s.sto.pfw = false →
      exec (.save tag) s = .next
        ((({ s with sto := { s.sto with settingsMark := true, countersMark := true, saveWaits := true } }).kickStore.reply
          0x12#8 tag .accepted []).finish)) ∧
    (∀ (tag : Octet) (s : State), s.takes = true →
      exec (.resetSoft tag) s = .next
          ((({ s with sto := { s.sto with resetReq := .asked .soft } }).reply 0x13#8 tag .ok []).finish) ∧
        exec (.resetFull tag) s = .next
          ((({ s with sto := { s.sto with resetReq := .asked .full } }).reply 0x13#8 tag .ok []).finish)) ∧
    (∀ (tag m : Octet) (s : State), s.serves = true →
      (s.csq.active.isSome = true ∨ s.whu.tank = .filling ∨ s.whu.tank = .draining) →
      exec (.sleep tag m) s = .next ((s.reply 0x14#8 tag .notNow []).finish)) ∧
    (∀ (tag m : Octet) (s : State), s.serves = true → s.csq.active = none → s.whu.tank ≠ .filling →
      s.whu.tank ≠ .draining → s.softenerBusy = false →
      exec (.sleep tag m) s = .next
        ((((({ s with sto := { s.sto with wakeMask := m &&& 7#8, power := .standby } }).place
          (.standby .standby .sleep))).reply 0x14#8 tag .ok []).finish)) ∧
    (∀ (tag m : Octet) (s : State), s.serves = true → s.csq.active = none → s.whu.tank ≠ .filling →
      s.whu.tank ≠ .draining → s.softenerBusy = true → s.sto.power = .running →
      exec (.sleep tag m) s = .next
        ((((({ s with sto := { s.sto with wakeMask := m &&& 7#8, power := .standbyPending } }).place
          (.standby .standbyPending .sleep))).reply 0x14#8 tag .accepted []).finish)) ∧
    ∀ (tag m : Octet) (s : State), s.serves = true → s.csq.active = none → s.whu.tank ≠ .filling →
      s.whu.tank ≠ .draining → s.softenerBusy = true → s.sto.power = .standbyPending →
      exec (.sleep tag m) s = .next
        ((({ s with sto := { s.sto with wakeMask := m &&& 7#8 } }).reply 0x14#8 tag .accepted []).finish)

/-- O35. With the inlet open for TANK_FILL a pulse raises the draw by 1 (to at most 65535) and starts the quiet window
again; with a run-on window of TANK_FILL and the inlet not open it raises that window's count; else it is stray. In
each case acc + h gives q = floor(t / K) to take from the service column, and the rest stays in the accumulator. A
pulse of RINSE, drawn or in its run-on window, raises the rinse count too while the cycle is in RINSE, and accrues
rinse aid: acc + ra_rate gives steps by the threshold K x ul_per_step, the rest stays, and the owed steps, at most
65535, go out as one order of RA_STREAM once they reach 8, or flush is set, with no order in the list. (For a column
whose capacity does not reach 0 here; O48 has the pulse that takes the last of it.) In hard service, the service
column's capacity 0 already, each of these pulses steps the accumulator the same way, the capacity stays 0, and
nothing else of the softener changes: it is no trigger. That a pulse with ra_rate 0 and the accumulator at T or more
pays the excess out is log entry 64. (01_water_path_and_heat.md, Inlet valve; 01_water_path_and_heat.md, Flow stall;
04_water_softening.md, 4.2 Service accounting; 05_volume_hardness_and_dose_arithmetic.md, 5.3 Hardness and capacity;
05_volume_hardness_and_dose_arithmetic.md, 5.6 Rinse aid; 06_chemical_dosing.md, 6.4 Rinse aid) -/
def Obligations.FlowPulseIsCreditedAndCharged : Prop :=
  (∀ s : State, s.on = true → s.whu.phase = .opened → s.whu.owner = some .tankFill →
      (s.sfc.acc + s.num SettingIx.inletHardness) / s.k < (s.column s.sfc.serviceCol).capacity →
      exec .flowPulse s = .next
        (((({ s with
          whu := { s.whu with
            draw := min 65535 (s.whu.draw + 1), quietLeft := some (s.num SettingIx.flowQuiet) },
          sfc := { s.sfc with
            acc := s.sfc.acc + s.num SettingIx.inletHardness -
              (s.sfc.acc + s.num SettingIx.inletHardness) / s.k * s.k } }).onColumn s.sfc.serviceCol fun r =>
          { r with capacity := r.capacity - (s.sfc.acc + s.num SettingIx.inletHardness) / s.k })).finish)) ∧
    (∀ (s : State) (w : RunOn), s.on = true → s.whu.phase ≠ .opened → s.whu.runOn = some w → w.user = .tankFill →
      (s.sfc.acc + s.num SettingIx.inletHardness) / s.k < (s.column s.sfc.serviceCol).capacity →
      exec .flowPulse s = .next
        (((({ s with
          whu := { s.whu with runOn := some { w with pulses := min 65535 (w.pulses + 1) } },
          sfc := { s.sfc with
            acc := s.sfc.acc + s.num SettingIx.inletHardness -
              (s.sfc.acc + s.num SettingIx.inletHardness) / s.k * s.k } }).onColumn s.sfc.serviceCol fun r =>
          { r with capacity := r.capacity - (s.sfc.acc + s.num SettingIx.inletHardness) / s.k })).finish)) ∧
    (∀ s : State, s.on = true → s.whu.phase ≠ .opened → s.whu.runOn = none →
      (s.sfc.acc + s.num SettingIx.inletHardness) / s.k < (s.column s.sfc.serviceCol).capacity →
      exec .flowPulse s = .next
        (((({ s with
          sfc := { s.sfc with
            acc := s.sfc.acc + s.num SettingIx.inletHardness -
              (s.sfc.acc + s.num SettingIx.inletHardness) / s.k * s.k } }).onColumn s.sfc.serviceCol fun r =>
          { r with capacity := r.capacity - (s.sfc.acc + s.num SettingIx.inletHardness) / s.k })).finish)) ∧
    (∀ s : State, s.on = true → s.whu.phase = .opened → s.whu.owner = some .rinse → s.csq.phase = .rinse →
      (s.sfc.acc + s.num SettingIx.inletHardness) / s.k < (s.column s.sfc.serviceCol).capacity →
      (rinseAidStep s.dsc.acc (s.num SettingIx.raRate) (s.k * s.ulPerStep .ra)).2 = 0 → s.dsc.owed < 8 →
      s.dsc.flush = false →
      exec .flowPulse s = .next
        (((({ s with
          whu := { s.whu with
            draw := min 65535 (s.whu.draw + 1), quietLeft := some (s.num SettingIx.flowQuiet) },
          csq := { s.csq with rinse := { s.csq.rinse with count := s.csq.rinse.count + 1 } },
          dsc := { s.dsc with
            acc := (rinseAidStep s.dsc.acc (s.num SettingIx.raRate) (s.k * s.ulPerStep .ra)).1 },
          sfc := { s.sfc with
            acc := s.sfc.acc + s.num SettingIx.inletHardness -
              (s.sfc.acc + s.num SettingIx.inletHardness) / s.k * s.k } }).onColumn s.sfc.serviceCol fun r =>
          { r with capacity := r.capacity - (s.sfc.acc + s.num SettingIx.inletHardness) / s.k })).finish)) ∧
    (∀ s : State, s.on = true → s.whu.phase = .opened → s.whu.owner = some .rinse →
      (s.sfc.acc + s.num SettingIx.inletHardness) / s.k < (s.column s.sfc.serviceCol).capacity →
      exec .flowPulse s = .next
        ((((({ s with
          whu := { s.whu with
            draw := min 65535 (s.whu.draw + 1), quietLeft := some (s.num SettingIx.flowQuiet) },
          csq := if s.csq.phase = CycleState.rinse then
              { s.csq with rinse := { s.csq.rinse with count := s.csq.rinse.count + 1 } } else s.csq,
          sfc := { s.sfc with
            acc := s.sfc.acc + s.num SettingIx.inletHardness -
              (s.sfc.acc + s.num SettingIx.inletHardness) / s.k * s.k } }).onColumn s.sfc.serviceCol fun r =>
          { r with capacity := r.capacity - (s.sfc.acc + s.num SettingIx.inletHardness) / s.k }).accruePulse).finish))) ∧
    (∀ (s : State) (w : RunOn), s.on = true → s.whu.phase ≠ .opened → s.whu.runOn = some w → w.user = .rinse →
      (s.sfc.acc + s.num SettingIx.inletHardness) / s.k < (s.column s.sfc.serviceCol).capacity →
      exec .flowPulse s = .next
        ((((({ s with
          whu := { s.whu with runOn := some { w with pulses := min 65535 (w.pulses + 1) } },
          csq := if s.csq.phase = CycleState.rinse then
              { s.csq with rinse := { s.csq.rinse with count := s.csq.rinse.count + 1 } } else s.csq,
          sfc := { s.sfc with
            acc := s.sfc.acc + s.num SettingIx.inletHardness -
              (s.sfc.acc + s.num SettingIx.inletHardness) / s.k * s.k } }).onColumn s.sfc.serviceCol fun r =>
          { r with capacity := r.capacity - (s.sfc.acc + s.num SettingIx.inletHardness) / s.k }).accruePulse).finish))) ∧
    (∀ s : State, s.on = true → (s.column s.sfc.serviceCol).capacity = 0 →
      (let charged := fun t : State =>
        ({ t with
          sfc := { t.sfc with
            acc := s.sfc.acc + s.num SettingIx.inletHardness -
              (s.sfc.acc + s.num SettingIx.inletHardness) / s.k * s.k } } : State).onColumn s.sfc.serviceCol fun r =>
          { r with capacity := 0 };
        let drawn := ({ s with
          whu := { s.whu with
            draw := min 65535 (s.whu.draw + 1), quietLeft := some (s.num SettingIx.flowQuiet) } } : State);
        let counted := fun t : State =>
          if s.csq.phase = CycleState.rinse then
            t.onCsq fun c => { c with rinse := { c.rinse with count := c.rinse.count + 1 } } else t;
        (s.whu.phase = .opened → s.whu.owner = some .tankFill → exec .flowPulse s = .next (charged drawn).finish) ∧
        (s.whu.phase = .opened → s.whu.owner = some .rinse →
          exec .flowPulse s = .next ((charged (counted drawn)).accruePulse).finish) ∧
        (∀ w : RunOn, s.whu.phase ≠ .opened → s.whu.runOn = some w →
          (let ran := ({ s with
            whu := { s.whu with runOn := some { w with pulses := min 65535 (w.pulses + 1) } } } : State);
            (w.user = .tankFill → exec .flowPulse s = .next (charged ran).finish) ∧
            (w.user = .rinse → exec .flowPulse s = .next ((charged (counted ran)).accruePulse).finish))) ∧
        (s.whu.phase ≠ .opened → s.whu.runOn = none → exec .flowPulse s = .next (charged s).finish))) ∧
    (∀ s : State,
      (let t := s.k * s.ulPerStep .ra;
        let n := min 65535 (s.dsc.owed + (s.dsc.acc + s.num SettingIx.raRate) / t);
        let u := ({ s with
          dsc := { s.dsc with
            acc := s.dsc.acc + s.num SettingIx.raRate - (s.dsc.acc + s.num SettingIx.raRate) / t * t, owed :=
                n } } : State);
        (s.dsc.ra.orders = [] → (8 ≤ n ∨ s.dsc.flush = true) →
          s.accruePulse = ({ u with dsc := { u.dsc with owed := 0, flush := false } }).placeSteps .ra .raStream n) ∧
        ((s.dsc.ra.orders ≠ [] ∨ (n < 8 ∧ s.dsc.flush = false)) → s.accruePulse = u))) ∧
    ∀ s : State,
      s.placeOwed = ({ s with dsc := { s.dsc with owed := 0, flush := false } }).placeSteps .ra .raStream s.dsc.owed

/-- O36. However many pulses are charged one after the other, with a hardness and K that stay, the sum of the q taken
times K plus the accumulator left equals the accumulator at the start plus the pulses times the hardness, and the
accumulator ends below K whenever at least one pulse was charged. For any list of volumes dosed one after the other
with a step size that stays, the volume ordered plus the carry left equals the carry at the start plus the volumes,
and the carry stays below one step, so what is ordered never falls behind by a full step. For K above 0 the target
ceil(rinse_ml x K / 1000) is the least pulse count p with p x 1000 at least rinse_ml x K; the purge time is likewise
the least number of ms at the drain rate that covers the volume; and a metered volume never exceeds the pulses
divided by K. The purge time of R98 is ceil(purge_ml x 1000 / drain_rate_mlps), 1 to 100000 ms for 1 to 5000 mL at
50 to 1000 mL/s; the end of WASH asks for it with the copy's purge_ml, which is computed then from the setting in
force and stored; a hold in PURGE and its resume keep it and the time done, and a SET of drain_rate changes the
setting alone. With purge_ml 0 the cycle goes from WASH to RINSE_WAIT and asks for none. (The other figures are
those of R87 to R90 and R94, from chapter 5.) (R98) -/
def Obligations.ArithmeticLosesNothing : Prop :=
  (∀ (n h k acc : Nat), 0 < k →
    let run := fun (m : Nat) =>
      (List.range m).foldl (fun (p : Nat × Nat) _ =>
        (p.1 + (accumulatorStep p.2 h k).1, (accumulatorStep p.2 h k).2)) (0, acc)
    (run n).1 * k + (run n).2 = acc + n * h ∧ (0 < n → (run n).2 < k)) ∧
  (∀ (vs : List Nat) (carry ul : Nat), carry < ul →
    let r := vs.foldl (fun (p : Nat × Nat) v => (p.1 + (stepsAndCarry v p.2 ul).1,
        (stepsAndCarry v p.2 ul).2)) (0, carry)
    r.1 * ul + r.2 = carry + vs.sum ∧ r.2 < ul) ∧
  ((∀ ml k p : Nat, ml * k ≤ p * 1000 ↔ pulseTarget ml k ≤ p) ∧
    (∀ ml rate t : Nat, 0 < rate → (ml * 1000 ≤ t * rate ↔ purgeMsOf ml rate ≤ t)) ∧
    (∀ pulses k v : Nat, 0 < k → (v * k ≤ pulses * 1000 ↔ v ≤ meteredMl pulses k)) ∧
    (∀ ml k : Nat, 0 < k → ml ≤ meteredMl (pulseTarget ml k) k)) ∧
    (∀ ml rate : Nat, 1 ≤ ml → ml ≤ 5000 → 50 ≤ rate → rate ≤ 1000 →
      purgeMsOf ml rate = (ml * 1000 + rate - 1) / rate ∧ ml * 1000 ≤ 5000000 ∧ 1 ≤ purgeMsOf ml rate ∧
        purgeMsOf ml rate ≤ 100000 ∧ purgeMsOf 1 1000 = 1 ∧ purgeMsOf 5000 50 = 100000 ∧
        ml * 1000 ≤ purgeMsOf ml rate * rate) ∧
    (∀ (s : State) (e : ActiveEntry), s.csq.active = some e →
      (let t := (({ s with
          csq := { s.csq with
            record := s.csq.record.map fun r : CycleRecord =>
                { r with washS := s.csq.washMs / 1000 } } }).release .washPump);
        (e.copy.purgeMl = 0 → s.endWash = t.enterRinseWait) ∧
        (0 < e.copy.purgeMl →
          (let u := ({ t with csq := { t.csq with phase := .purge } }).notePhase;
            s.endWash =
              ({ u with
                whu := { u.whu with
                  purgeTime := (e.copy.purgeMl * 1000 + s.num SettingIx.drainRate - 1) / s.num SettingIx.drainRate
                  purgeMs := 0 } }).takeDrain .purge)))) ∧
    (∀ (s : State) (r : State.HoldReason), s.csq.phase = .purge →
      (s.addHold r).whu.purgeTime = s.whu.purgeTime ∧ (s.addHold r).whu.purgeMs = s.whu.purgeMs) ∧
    (∀ s : State, s.csq.hold.left = some .purge →
      s.resume.whu.purgeTime = s.whu.purgeTime ∧ s.resume.whu.purgeMs = s.whu.purgeMs) ∧
    ∀ (tag : Octet) (v : BitVec 32) (s : State), s.serves = true → 50 ≤ v.toInt → v.toInt ≤ 1000 →
      exec (.set tag 27#8 v) s = .next
        ((({ s with settings := s.settings.set 26 v.toInt }).reply 0x04#8 tag .ok
          (e4 (BitVec.ofInt 32 v.toInt).toNat)).finish)

/-- O37. INLET_HANDOVER with no owner, no changeover pending or moving and no LOCKOUT gives the inlet to RINSE if it
waits, else to TANK_FILL if it waits: phase OPENING, draw 0, the request no longer waiting. Not obtainable, or with
nobody waiting, nothing changes. QUIET_WINDOW_EXPIRY of an open draw of TANK_FILL closes the inlet: owner none,
phase CLOSED, no quiet window, a run-on window of 500 ms with outcome NO_FLOW and the pulses drawn so far;
INLET_NO_FLOW is raised as STOP and its condition ends in the same event. With a draw of RINSE in RINSE the cut mark
is set and RINSE_PUMP released before the raise. With no quiet window there is no event. A changeover PENDING at the
close is started with what the event settles, and no event exists while the window does not run. Model choices this
rests on: log entries 9, 25. (01_water_path_and_heat.md, Inlet valve; 01_water_path_and_heat.md, Flow stall;
02_the_wash_cycle.md, 2.7 RINSE) -/
def Obligations.InletIsHandedOverAndStalls : Prop :=
  ((∀ s : State, s.on = true → s.whu.owner = none → (s.sfc.changeover = .none ∨ s.sfc.changeover = .due) →
      s.locked = false → s.whu.rinseWaiting = true →
      exec .inletHandover s = .next
        ({ s with
          whu := { s.whu with rinseWaiting := false, owner := some .rinse, phase := .opening, draw := 0 } }).finish) ∧
    (∀ s : State, s.on = true → s.whu.owner = none → (s.sfc.changeover = .none ∨ s.sfc.changeover = .due) →
      s.locked = false → s.whu.rinseWaiting = false → s.whu.tankWaiting = true →
      exec .inletHandover s = .next
        ({ s with
          whu := { s.whu with tankWaiting := false, owner := some .tankFill, phase := .opening, draw := 0 } }).finish) ∧
    (∀ s : State, s.on = true →
      (s.whu.owner.isSome = true ∨ s.locked = true ∨ s.sfc.changeover = .pending ∨ s.sfc.changeover = .claimed ∨
        s.sfc.changeover = .moving ∨ s.sfc.changeover = .returning ∨ s.sfc.changeover = .aligning) →
      exec .inletHandover s = .next s.finish) ∧
    ∀ s : State, s.on = true → s.whu.rinseWaiting = false → s.whu.tankWaiting = false →
      exec .inletHandover s = .next s.finish) ∧
  ((∀ (s : State) (left : Nat), s.on = true → s.whu.quietLeft = some left → s.whu.owner = some .tankFill →
      s.whu.phase = .opened →
      exec .quietWindowExpiry s = .next
        ((({ s.advance left with
          sfc := { (s.advance left).sfc with alignHeld := false }
          whu := { (s.advance left).whu with
            owner := none, phase := .closed, quietLeft := none
            runOn := some { user := .tankFill, outcome := .noFlow, pulses := s.whu.draw, left := 500 } } }).raise
              .inletNoFlow 0 .stop).endCondition .inletNoFlow 0).finish) ∧
    (∀ (s : State) (left : Nat), s.on = true → s.whu.quietLeft = some left → s.whu.owner = some .rinse →
      s.whu.phase = .opened → s.csq.phase = .rinse → s.csq.rinse.cut = false →
      exec .quietWindowExpiry s = .next
        (((({ s.advance left with
          sfc := { (s.advance left).sfc with alignHeld := false }
          whu := { (s.advance left).whu with
            owner := none, phase := .closed, quietLeft := none
            runOn := some { user := .rinse, outcome := .noFlow, pulses := s.whu.draw, left := 500 } },
          csq := { (s.advance left).csq with
            rinse := { (s.advance left).csq.rinse with cut := true, closing := true } } }).release .rinsePump).raise
              .inletNoFlow 0 .stop).endCondition .inletNoFlow 0).finish) ∧
    ∀ s : State, s.whu.quietLeft = none → exec .quietWindowExpiry s = .next s)

/-- O38. RUN_ON_END ends the window and reports its user, pulses and outcome: a fill that the report ends is
recomputed and its metered volume dosed with origin FILL or TOP_UP; a fill ended before is dosed alone. A report that
finds no fill changes nothing more. With no window there is no event. The report of a rinse in RINSE sets rinse_ml to
the metered volume; not cut it also computes the rinse-end dose, and DWELL follows; cut it ends the cycle
RINSE_INCOMPLETE; in both the rinse-end step places the rinse aid owed, or sets flush while orders stand. A fill that
ended before its report is dosed with that report (log entry 32), no event exists while no window runs (log entry 9),
and the dose comes before the rinse-end step (log entry 103). A detergent dose takes min(dose_max, ml x det_rate /
1000 x hf x soil / 10000) with hf = min(400, 100 + residual x gain / 100), adds the carry, places floor(t /
ul_per_step) steps with its origin, keeps the rest as carry, and counts the volume, with HARD_WATER while the residual
hardness is above 0. The residual hardness is the inlet's with the service column spent, without an accepted octet or
with HARD, half of it with MARGINAL, 0 with SOFT. (01_water_path_and_heat.md, Inlet valve; 01_water_path_and_heat.md,
Tank states; 02_the_wash_cycle.md, 2.7 RINSE; 06_chemical_dosing.md, 6.4 Rinse aid;
05_volume_hardness_and_dose_arithmetic.md, 5.4 Detergent; 05_volume_hardness_and_dose_arithmetic.md, 5.5 Steps, carry
and the channel bounds; 04_water_softening.md, 4.3 Residual hardness; 06_chemical_dosing.md, 6.3 Detergent) -/
def Obligations.RunOnEndReportsTheDraw : Prop :=
  (∀ (s : State) (w : RunOn) (kind : FillKind), s.on = true → s.whu.runOn = some w → w.user = .tankFill →
      s.whu.fillEnded = some kind →
      exec .runOnEnd s = .next
        ((({ s.advance w.left with
          whu := { (s.advance w.left).whu with runOn := none, fillEnded := none } }).dose
            (match kind with
            | .fill => .fill
            | .topUp => .topUp) (w.pulses * 1000 / s.k) 100).afterFill).finish) ∧
    (∀ (s : State) (w : RunOn) (f : FillRec), s.on = true → s.whu.runOn = some w → w.user = .tankFill →
      s.whu.fillEnded = none → s.whu.fill = some f →
      exec .runOnEnd s = .next
        ((({ s.advance w.left with
          whu := { (s.advance w.left).whu with runOn := none, fill := none } }).recomputeTank.dose
            (match f.kind with
            | .fill => .fill
            | .topUp => .topUp) (w.pulses * 1000 / s.k) 100).afterFill).finish) ∧
    (∀ (s : State) (w : RunOn), s.on = true → s.whu.runOn = some w → w.user = .rinse →
      (s.csq.phase ≠ .rinse ∨ s.csq.rinse.closing = false) →
      exec .runOnEnd s = .next
        ({ s.advance w.left with whu := { (s.advance w.left).whu with runOn := none } }).finish) ∧
    (∀ s : State, s.whu.runOn = none → exec .runOnEnd s = .next s) ∧
    (∀ (s : State) (w : RunOn), s.on = true → s.whu.runOn = some w → w.user = .rinse → s.csq.phase = .rinse →
      s.csq.rinse.closing = true → s.csq.rinse.cut = false →
      exec .runOnEnd s = .next
        (let b := s.advance w.left;
          let t := ({ b with
            whu := { b.whu with runOn := none }
            csq := { b.csq with
              record := b.csq.record.map fun x : CycleRecord =>
                  { x with rinseMl := w.pulses * 1000 / s.k } } } : State);
          let u := (t.dose .rinseEnd (w.pulses * 1000 / s.k) t.recipe.soilPct).rinseEndStep;
          (({ u with csq := { u.csq with dwellMs := 0, phase := .dwell } }).notePhase).finish)) ∧
    (∀ (s : State) (w : RunOn), s.on = true → s.whu.runOn = some w → w.user = .rinse → s.csq.phase = .rinse →
      s.csq.rinse.closing = true → s.csq.rinse.cut = true →
      exec .runOnEnd s = .next
        (let b := s.advance w.left;
          let t := ({ b with
            whu := { b.whu with runOn := none }
            csq := { b.csq with
              record := b.csq.record.map fun x : CycleRecord =>
                  { x with rinseMl := w.pulses * 1000 / s.k } } } : State);
          ((t.rinseEndStep).endCycle .rinseIncomplete).finish)) ∧
    (∀ s : State,
      (s.dsc.owed = 0 → s.rinseEndStep = s) ∧
      (0 < s.dsc.owed → s.dsc.ra.orders ≠ [] → s.rinseEndStep = { s with dsc := { s.dsc with flush := true } }) ∧
      (0 < s.dsc.owed → s.dsc.ra.orders = [] →
        s.rinseEndStep = ({ s with dsc := { s.dsc with flush := true } }).placeOwed)) ∧
    (∀ (s : State) (origin : Origin) (ml soil : Nat),
      (let ul := min (s.num SettingIx.doseMax) (ml * s.num SettingIx.detRate / 1000 *
          min 400 (100 + s.residual * s.num SettingIx.hardnessGain / 100) * soil / 10000);
        let n := (ul + s.dsc.det.carry) / s.ulPerStep .det;
        s.dose origin ml soil =
          (({ s with
            dsc := { s.dsc with
              det := { s.dsc.det with
                carry := ul + s.dsc.det.carry - n * s.ulPerStep .det } } }).placeSteps .det origin n).countDose ul
                  (decide (0 < s.residual)))) ∧
    (∀ (s : State) (ul : Nat) (hard : Bool),
      (s.csq.active = none → s.countDose ul hard = s) ∧
      (∀ (e : ActiveEntry) (r : CycleRecord), s.csq.active = some e → s.csq.record = some r →
        s.countDose ul hard =
          { s with
            csq := { s.csq with
              record := some { r with
                dosing := { r.dosing with
                  doseUl := r.dosing.doseUl + ul, hardWater := r.dosing.hardWater || hard } } } }) ∧
      (∀ e : ActiveEntry, s.csq.active = some e → s.csq.record = none →
        s.countDose ul hard =
          { s with
            csq := { s.csq with
              active := some { e with
                dosing := { e.dosing with
                  doseUl := e.dosing.doseUl + ul, hardWater := e.dosing.hardWater || hard } } } })) ∧
    ∀ s : State,
      (((s.column s.sfc.serviceCol).capacity = 0 ∨ s.indication .softener = none) →
        s.residual = s.num SettingIx.inletHardness) ∧
      (∀ o : Octet, (s.column s.sfc.serviceCol).capacity ≠ 0 → s.indication .softener = some o →
        (2 ≤ o.toNat % 4 → s.residual = s.num SettingIx.inletHardness) ∧
        (o.toNat % 4 = 1 → s.residual = s.num SettingIx.inletHardness / 2) ∧ (o.toNat % 4 = 0 → s.residual = 0))

/-- O39. A sample whose code differs from the previous sample's, or is accepted already, is only remembered; the second
of a like pair has its code accepted. LOW and HIGH open read DRY, LOW alone closed PARTIAL, both closed FULL, HIGH
alone closed IMPLAUSIBLE. IMPLAUSIBLE accepted starts the implausible timer at 2000 ms, every other code stops it;
every code but DRY stops the drain-out time. FULL ends a fill (the tank recomputed, an EMPTY one of an ARMED cycle
filled again, the reason LEVEL ended with the tank HEATING or READY) and in RINSE or DWELL starts level keeping,
which PARTIAL and DRY end. DRY restarts the drain-out time in DRAINING, starts a fill with the reason LEVEL in WASH
and HELD, empties the tank and ends the purge in PURGE, and else leaves the tank EMPTY, filled again in ARMED. The
first code ever accepted has the tank recomputed (log entry 31). The FULL switch of the booster is then taken with
what was energised before the sample. That the code acts before the FULL switch is log entry 68. Closed it ends
BOOSTER_DRY's condition; open it ends the demand of both stages and releases them, and raises BOOSTER_DRY as STOP if
one was energised. (01_water_path_and_heat.md, Tank level; 01_water_path_and_heat.md, Heaters; 02_the_wash_cycle.md,
2.4 WASH and holds; 02_the_wash_cycle.md, 2.5 PURGE; 01_water_path_and_heat.md, Tank states;
01_water_path_and_heat.md, Drain pump) -/
def Obligations.LevelSamplesNeedTwoAlike : Prop :=
  (State.levelCodeOf false false = LevelCode.dry ∧ State.levelCodeOf true false = LevelCode.partly ∧
      State.levelCodeOf true true = LevelCode.full ∧ State.levelCodeOf false true = LevelCode.implausible) ∧
    (∀ (low high full : Bool) (s : State), s.on = true →
      (s.whu.prevSample ≠ some (State.levelCodeOf low high) ∨ s.whu.accepted = some (State.levelCodeOf low high)) →
      exec (.levelSample low high full) s = .next
        ((({ s with whu := { s.whu with prevSample := some (State.levelCodeOf low high) } }).sampleBooster
          s.boosterOn full)).finish) ∧
    (∀ (low high full : Bool) (s : State), s.on = true → s.whu.prevSample = some (State.levelCodeOf low high) →
      s.whu.accepted ≠ some (State.levelCodeOf low high) →
      exec (.levelSample low high full) s = .next
        ((((({ s with
          whu := { s.whu with prevSample := some (State.levelCodeOf low high) } }).acceptLevel
            (State.levelCodeOf low high)).sampleBooster s.boosterOn full)).finish)) ∧
    (∀ s : State, (s.whu.accepted ≠ none ∨ s.whu.tank ≠ .empty) →
      (s.csq.phase ≠ .rinse → s.csq.phase ≠ .dwell →
        s.acceptLevel .partly =
          { s with whu := { s.whu with accepted := some .partly, implausibleLeft := none, drainOutMs := none } }) ∧
      ((s.csq.phase = .rinse ∨ s.csq.phase = .dwell) → s.whu.drainUser = some .level →
        s.acceptLevel .partly =
          ({ s with
            whu := { s.whu with
              accepted := some .partly, implausibleLeft := none, drainOutMs := none, drainUser := none } }).release
                .drainPump) ∧
      (s.acceptLevel .implausible =
        { s with
          whu := { s.whu with accepted := some .implausible, implausibleLeft := some 2000, drainOutMs := none } }) ∧
      (s.whu.fill.isSome = true → s.csq.phase ≠ .rinse → s.csq.phase ≠ .dwell →
        s.acceptLevel .full =
          (let t := ({ s with
              whu := { s.whu with accepted := some .full, implausibleLeft := none, drainOutMs := none } } : State);
            if t.endFill.afterFill.csq.phase = .rinse ∨ t.endFill.afterFill.csq.phase = .dwell then
              t.endFill.afterFill.levelKeep .full
            else t.endFill.afterFill)) ∧
      (s.whu.fill = none → s.csq.phase ≠ .rinse → s.csq.phase ≠ .dwell →
        s.acceptLevel .full =
          { s with whu := { s.whu with accepted := some .full, implausibleLeft := none, drainOutMs := none } }) ∧
      (s.whu.fill = none → (s.csq.phase = .rinse ∨ s.csq.phase = .dwell) → s.whu.drainUser = none →
        s.acceptLevel .full =
          ((({ s with
            whu := { s.whu with
              accepted := some .full, implausibleLeft := none, drainOutMs := none, drainUser := some .level } }).claim
                .drainPump).1)) ∧
      (s.whu.tank = .draining → s.csq.phase ≠ .rinse → s.csq.phase ≠ .dwell →
        s.acceptLevel .dry =
          { s with whu := { s.whu with accepted := some .dry, implausibleLeft := none, drainOutMs := some 0 } }) ∧
      ((s.csq.phase = .wash ∨ s.csq.phase = .held) → (s.whu.tank = .heating ∨ s.whu.tank = .ready) →
        s.acceptLevel .dry =
          ((({ s with whu := { s.whu with accepted := some .dry, implausibleLeft := none } }).startFill .topUp).addHold
            .level)) ∧
      ((s.csq.phase = .wash ∨ s.csq.phase = .held) → s.whu.tank = .empty →
        s.acceptLevel .dry =
          ((({ s with whu := { s.whu with accepted := some .dry, implausibleLeft := none } }).startFill .fill).addHold
            .level)) ∧
      (s.csq.phase = .purge → (s.whu.tank = .empty ∨ s.whu.tank = .heating ∨ s.whu.tank = .ready) →
        s.acceptLevel .dry =
          ((({ s with
            whu := { s.whu with
              accepted := some .dry, implausibleLeft := none, tank := .empty, purgeTime := 0, purgeMs := 0,
              drainUser := none, drainOutMs := none } }).release .drainPump).enterRinseWait)) ∧
      ((s.csq.phase = .idle ∨ s.csq.phase = .rinseWait ∨ s.csq.phase = .vent) →
        (s.whu.tank = .heating ∨ s.whu.tank = .ready) →
        s.acceptLevel .dry =
          { s with whu := { s.whu with accepted := some .dry, implausibleLeft := none, tank := .empty } }) ∧
      (s.csq.phase = .armed → (s.whu.tank = .heating ∨ s.whu.tank = .ready) →
        s.acceptLevel .dry =
          ({ s with whu := { s.whu with accepted := some .dry, implausibleLeft := none, tank := .empty } }).startFill
            .fill) ∧
      ((s.csq.phase = .rinse ∨ s.csq.phase = .dwell) → (s.whu.tank = .heating ∨ s.whu.tank = .ready) →
        (s.whu.drainUser = some .level →
          s.acceptLevel .dry =
            ({ s with
              whu := { s.whu with
                accepted := some .dry, implausibleLeft := none, tank := .empty, drainUser := none,
                drainOutMs := none } }).release .drainPump) ∧
        (s.whu.drainUser = none →
          s.acceptLevel .dry =
            { s with whu := { s.whu with accepted := some .dry, implausibleLeft := none, tank := .empty } }))) ∧
    (∀ s : State,
      (s.whu.fill = none → s.closeFill = s) ∧ s.endFill = s.closeFill.recomputeTank ∧
      ((s.whu.tank = .heating ∨ s.whu.tank = .ready) → s.afterFill = s.dropHold .level) ∧
      (s.whu.tank = .empty → s.csq.phase = .armed → s.whu.accepted ≠ some .full →
        s.afterFill =
          { s with
            whu := { s.whu with
              tank := .filling, fill := some { kind := .fill, timeMs := 0 }
              tankWaiting := s.whu.tankWaiting || !decide (s.whu.owner = some InletUser.tankFill) } }) ∧
      s.recomputeTank =
        { s with
          whu := { s.whu with
            tank :=
              if s.whu.accepted = some .partly ∨ s.whu.accepted = some .full then
                (match s.tankReading with
                | some t => if s.tankTarget - 50 ≤ t then TankState.ready else TankState.heating
                | none => TankState.heating)
              else TankState.empty } }) ∧
    (∀ s : State, s.whu.accepted = none → s.whu.tank = .empty → s.whu.fill = none → s.csq.phase = .idle →
      (∀ c : LevelCode, (c = .partly ∨ c = .full) →
        s.acceptLevel c =
          { s with
            whu := { s.whu with
              accepted := some c, implausibleLeft := none, drainOutMs := none
              tank := (match s.tankReading with
                | some t => if s.tankTarget - 50 ≤ t then TankState.ready else TankState.heating
                | none => TankState.heating) } }) ∧
      s.acceptLevel .dry = { s with whu := { s.whu with accepted := some .dry, implausibleLeft := none } }) ∧
    ∀ (s : State) (wasOn : Bool),
      s.sampleBooster wasOn true =
        ({ s with whu := { s.whu with boosterFull := some true } }).endCondition .boosterDry 0 ∧
      s.sampleBooster wasOn false =
        (let a := ({ s with
            whu := { s.whu with
              boosterFull := some false, boosterA :=
                  { s.whu.boosterA with demand := false } } } : State).release .boosterA;
          let b := ({ a with
            whu := { a.whu with boosterB := { a.whu.boosterB with demand := false } } } : State).release .boosterB;
          if wasOn then b.raise .boosterDry 0 .stop else b)

/-- O40. IMPLAUSIBLE_TIMER_EXPIRY raises TANK_LEVEL_IMPLAUSIBLE as STOP and ends a fill in progress. FILL_TIME_LIMIT
with the fill open raises TANK_FILL_TIMEOUT as STOP, its condition ending in the same event, and ends the fill.
DRAIN_OUT_TIMER in DRAINING releases the drain pump and leaves the tank EMPTY. PURGE_DONE ends the purge and enters
RINSE_WAIT. None exists while its time does not run. Model choices this rests on: log entries 9, 32.
(01_water_path_and_heat.md, Tank level; 01_water_path_and_heat.md, Tank states; 01_water_path_and_heat.md, Drain
pump; 02_the_wash_cycle.md, 2.5 PURGE) -/
def Obligations.TankTimersEndFillsAndDrains : Prop :=
  (∀ (s : State) (left : Nat), s.on = true → s.whu.implausibleLeft = some left →
      exec .implausibleTimerExpiry s = .next
        (((({ s.advance left with whu := { (s.advance left).whu with implausibleLeft := none } }).raise
          .tankLevelImplausible 0 .stop).fillEnds).finish)) ∧
    (∀ s : State, s.whu.implausibleLeft = none → exec .implausibleTimerExpiry s = .next s) ∧
    (∀ (s : State) (f : FillRec), s.on = true → s.whu.owner = some .tankFill → s.whu.phase = .opened →
      s.whu.fill = some f →
      exec .fillTimeLimit s = .next
        (((((s.advance (s.num SettingIx.fillLimit * 1000 - f.timeMs)).raise .tankFillTimeout 0 .stop).endCondition
          .tankFillTimeout 0).fillEnds).finish)) ∧
    (∀ s : State, (s.whu.phase ≠ .opened ∨ s.whu.fill = none) → exec .fillTimeLimit s = .next s) ∧
    (∀ (s : State) (ms : Nat), s.on = true → s.whu.drainUser = some .draining → s.granted .drainPump = true →
      s.whu.drainOutMs = some ms →
      exec .drainOutTimer s = .next
        (({ (s.advance (10000 - ms)).dropDrain with
          whu := { (s.advance (10000 - ms)).dropDrain.whu with tank := .empty } }).armFill.finish)) ∧
    (∀ s : State, s.whu.drainOutMs = none → exec .drainOutTimer s = .next s) ∧
    (∀ s : State, s.on = true → s.whu.drainUser = some .purge → s.granted .drainPump = true →
      exec .purgeDone s = .next
        (({ s.advance (s.whu.purgeTime - s.whu.purgeMs) with
          whu := { (s.advance (s.whu.purgeTime - s.whu.purgeMs)).whu with
            purgeTime := 0, purgeMs := 0 } }).dropDrain.enterRinseWait).finish) ∧
    ∀ s : State, (s.whu.drainUser ≠ some .purge ∨ s.granted .drainPump = false) → exec .purgeDone s = .next s

/-- O41. A reading from -10.0 to 125.0 C becomes the last valid one and clears count and mark; a bad one keeps it, and
the fifth in a row marks the sensor failed and is the only one to be reported. A booster reading that reaches 98.0 C
from below, or as the first valid one, raises BOOSTER_OVERTEMP, and a tank reading that so reaches 85.0 C raises
TANK_OVERTEMP, as LOCKOUT; one that stays at or above the limit raises nothing, and one below it ends the condition.
Every valid reading ends the sensor's own fault. In WASH a valid tank reading lowers the lowest wash temperature or is
the first, and with the valve open for RINSE in RINSE a valid booster reading widens the extremes. A valid reading
brings the setpoint, the ACTIVE entry's or the hold setting's, into force (log entry 57), and one that raises an over-
temperature in a cycle ends it before the record takes the reading (log entry 59). SENSOR_READING takes tank, booster
and vapour in that order (log entry 72). The fifth bad one raises SENSOR_TANK, a READY tank returning to HEATING
first, or SENSOR_BOOSTER, as STOP, or SENSOR_VAPOUR as WARNING, the cooling window stopped. A valid tank reading makes
a HEATING tank READY from 5.0 C below its target, and a READY one HEATING below 8.0 C under it. A valid booster
reading from 1.0 C below rinse_c meets the heat condition of RINSE_WAIT and stops a rinse-hold timer that has not
expired. A valid vapour reading in the step FAN starts a cooling window of 10 s at vent_end_c or below, or leaves the
running one, and stops it above. (01_water_path_and_heat.md, Temperature supervision; 01_water_path_and_heat.md,
Heaters; 01_water_path_and_heat.md, Tank states; 02_the_wash_cycle.md, 2.6 RINSE_WAIT; 02_the_wash_cycle.md, 2.4 WASH
and holds; 02_the_wash_cycle.md, 2.7 RINSE; 07_door_drive_and_drying.md, 7.4 The VENT phase) -/
def Obligations.SensorReadingsAreSupervised : Prop :=
  (∀ (tank booster vapour : Int) (s : State), s.on = true →
      exec (.sensorReading tank booster vapour) s = .next
        ((((s.readTank tank).readBooster booster).readVapour vapour).finish)) ∧
    (∀ (x : Sensor) (t : Int), -100 ≤ t → t ≤ 1250 →
      State.readSensor x t = ({ last := some t, bad := 0, failed := false }, false)) ∧
    (∀ (x : Sensor) (t : Int), (t < -100 ∨ 1250 < t) → x.bad < 4 →
      State.readSensor x t = ({ x with bad := x.bad + 1 }, false)) ∧
    (∀ (x : Sensor) (t : Int), (t < -100 ∨ 1250 < t) → x.bad = 4 →
      State.readSensor x t = ({ x with bad := 5, failed := true }, true)) ∧
    (∀ (s : State) (t p : Int), 850 ≤ t → t ≤ 1250 → p < 850 → s.whu.tankSensor.last = some p →
      s.hasFault .sensorTank 0 = false →
      s.readTank t =
        (let u := (({ s with
            whu := { s.whu with
              tankSensor := { last := some t, bad := 0, failed := false }, tankSet := some s.tankSetpoint } }).raise
            .tankOvertemp 0 .lockout).tankReady t;
          if u.csq.phase = .wash then u.onRecord fun x => { x with lowTemp := lowerOf x.lowTemp t } else u)) ∧
    (∀ (s : State) (t p : Int), 980 ≤ t → t ≤ 1250 → p < 980 → s.whu.boosterSensor.last = some p →
      s.hasFault .sensorBooster 0 = false →
      s.readBooster t =
        (let u := (({ s with
            whu := { s.whu with
              boosterSensor := { last := some t, bad := 0, failed := false }, boosterSet :=
                  some s.boosterSetpoint } }).raise
              .boosterOvertemp 0 .lockout).rinseHeat t;
          if u.csq.phase = .rinse ∧ u.whu.phase = .opened ∧ u.whu.owner = some .rinse then
            u.onRecord fun x => { x with minTemp := lowerOf x.minTemp t, maxTemp := higherOf x.maxTemp t }
          else u)) ∧
    (∀ (s : State) (t : Int), -100 ≤ t → t ≤ 1250 →
      (let r := ({ s with
          whu := { s.whu with
            tankSensor := { last := some t, bad := 0, failed := false }
            tankSet := some s.tankSetpoint } } : State).endCondition .sensorTank 0;
        let after := fun v : State =>
          (let u := v.tankReady t;
            if u.csq.phase = CycleState.wash then u.onRecord fun x => { x with lowTemp := lowerOf x.lowTemp t } else u);
        (t < 850 → s.readTank t = after (r.endCondition .tankOvertemp 0)) ∧
        (850 ≤ t → (∀ p : Int, s.whu.tankSensor.last = some p → p < 850) →
          s.readTank t = after (r.raise .tankOvertemp 0 .lockout)) ∧
        (∀ p : Int, 850 ≤ t → s.whu.tankSensor.last = some p → 850 ≤ p → s.readTank t = after r))) ∧
    (∀ (s : State) (t : Int), -100 ≤ t → t ≤ 1250 →
      (let r := ({ s with
          whu := { s.whu with
            boosterSensor := { last := some t, bad := 0, failed := false }
            boosterSet := some s.boosterSetpoint } } : State).endCondition .sensorBooster 0;
        let after := fun v : State =>
          (let u := v.rinseHeat t;
            if u.csq.phase = CycleState.rinse ∧ u.whu.phase = .opened ∧ u.whu.owner = some .rinse then
              u.onRecord fun x => { x with minTemp := lowerOf x.minTemp t, maxTemp := higherOf x.maxTemp t }
            else u);
        (t < 980 → s.readBooster t = after (r.endCondition .boosterOvertemp 0)) ∧
        (980 ≤ t → (∀ p : Int, s.whu.boosterSensor.last = some p → p < 980) →
          s.readBooster t = after (r.raise .boosterOvertemp 0 .lockout)) ∧
        (∀ p : Int, 980 ≤ t → s.whu.boosterSensor.last = some p → 980 ≤ p → s.readBooster t = after r))) ∧
    (∀ (s : State) (f : CycleRecord → CycleRecord),
      s.onRecord f = { s with csq := { s.csq with record := s.csq.record.map f } }) ∧
    (∀ s : State,
      (∀ e : ActiveEntry, s.csq.active = some e →
        s.tankSetpoint = e.copy.tankC ∧ s.boosterSetpoint = e.copy.rinseC) ∧
      (s.csq.active = none →
        s.tankSetpoint = s.val SettingIx.tankHold ∧ s.boosterSetpoint = s.val SettingIx.boosterHold)) ∧
    (∀ o t : Int,
      lowerOf none t = some t ∧ lowerOf (some o) t = some (min o t) ∧ higherOf none t = some t ∧
        higherOf (some o) t = some (max o t)) ∧
    (∀ (s : State) (t p : Int), -100 ≤ t → t < 980 → s.whu.boosterSensor.last = some p → s.csq.phase = .idle →
      s.hasFault .sensorBooster 0 = false → s.hasFault .boosterOvertemp 0 = false →
      s.readBooster t =
        { s with
          whu := { s.whu with
            boosterSensor := { last := some t, bad := 0, failed := false }, boosterSet :=
                some s.boosterSetpoint } }) ∧
    (∀ (s : State) (t : Int),
      (s.whu.tank = .heating → s.tankTarget - 50 ≤ t →
        s.tankReady t = { s with whu := { s.whu with tank := .ready } }) ∧
      (s.whu.tank = .heating → t < s.tankTarget - 50 → s.tankReady t = s) ∧
      (s.whu.tank = .ready → t < s.tankTarget - 80 →
        s.tankReady t = { s with whu := { s.whu with tank := .heating } }) ∧
      (s.whu.tank = .ready → s.tankTarget - 80 ≤ t → s.tankReady t = s) ∧
      ((s.whu.tank = .empty ∨ s.whu.tank = .filling ∨ s.whu.tank = .draining) → s.tankReady t = s)) ∧
    (∀ (s : State) (t : Int), (t < -100 ∨ 1250 < t) →
      (s.whu.tankSensor.bad = 4 →
        s.readTank t =
          ({ s with
            whu := { s.whu with
              tankSensor := { s.whu.tankSensor with bad := 5, failed := true }
              tank := if s.whu.tank = TankState.ready then .heating else s.whu.tank } }).raise .sensorTank 0 .stop) ∧
      (s.whu.boosterSensor.bad = 4 →
        s.readBooster t =
          ({ s with
            whu := { s.whu with
              boosterSensor := { s.whu.boosterSensor with bad := 5, failed := true } } }).raise .sensorBooster 0
                .stop) ∧
      (s.whu.vapourSensor.bad = 4 →
        s.readVapour t =
          ({ s with
            whu := { s.whu with vapourSensor := { s.whu.vapourSensor with bad := 5, failed := true } }
            dvc := { s.dvc with vent := { s.dvc.vent with coolingLeft := none } } }).warn .sensorVapour 0) ∧
      (s.whu.tankSensor.bad ≠ 4 →
        s.readTank t =
          { s with
            whu := { s.whu with
              tankSensor := { s.whu.tankSensor with bad := min 5 (s.whu.tankSensor.bad + 1) } } }) ∧
      (s.whu.boosterSensor.bad ≠ 4 →
        s.readBooster t =
          { s with
            whu := { s.whu with
              boosterSensor := { s.whu.boosterSensor with bad := min 5 (s.whu.boosterSensor.bad + 1) } } }) ∧
      (s.whu.vapourSensor.bad ≠ 4 →
        s.readVapour t =
          { s with
            whu := { s.whu with
              vapourSensor := { s.whu.vapourSensor with bad := min 5 (s.whu.vapourSensor.bad + 1) } } })) ∧
    (∀ (s : State) (t : Int),
      (s.csq.phase = .rinseWait → s.recipe.rinseC - 10 ≤ t →
        s.rinseHeat t =
          { s with
            csq := { s.csq with
              rinseWait := { s.csq.rinseWait with
                tempMet := true
                holdLeft := if s.csq.rinseWait.holdExpired then s.csq.rinseWait.holdLeft else none } } }) ∧
      ((s.csq.phase ≠ .rinseWait ∨ t < s.recipe.rinseC - 10) → s.rinseHeat t = s)) ∧
    ∀ (s : State) (t : Int), -100 ≤ t → t ≤ 1250 →
      (let u := ({ s with
          whu := { s.whu with
            vapourSensor := { last := some t, bad := 0, failed := false } } } : State).endCondition .sensorVapour 0;
        (s.dvc.vent.step ≠ .fan → s.readVapour t = u) ∧
        (s.dvc.vent.step = .fan → t ≤ s.settings.get 30 →
          s.readVapour t =
            { u with
              dvc := { u.dvc with
                vent := { u.dvc.vent with coolingLeft := some (s.dvc.vent.coolingLeft.getD 10000) } } }) ∧
        (s.dvc.vent.step = .fan → s.settings.get 30 < t →
          s.readVapour t =
            { u with dvc := { u.dvc with vent := { u.dvc.vent with coolingLeft := none } } }))

/-- O42. The tank thermostat with PARTIAL or FULL accepted, the tank not DRAINING, no LOCKOUT and no STANDBY sets its
demand below setpoint - 2.0 C and claims; from there up to the setpoint its demand stays what it was, so that one that
is ON claims again and one that is OFF changes nothing; at or above the setpoint, without a usable reading or without
its conditions its demand is OFF and the load released. The booster stage A does the same 2.0 C below its setpoint,
stage B from 6.0 C below to 3.0 C below; their conditions are the FULL switch closed, no LOCKOUT, no STANDBY and, for
stage B, a wattage above 0. With the unfit mark set the demand is kept and nothing is claimed. A claim held already
changes nothing; one taken clears the mark and walks; one refused as unfit is told so and sets the mark. The setpoint
is the one in force, which a valid reading changes (log entry 57). (01_water_path_and_heat.md, Heaters) -/
def Obligations.ThermostatsClaimBelowAndReleaseAtTheSetpoint : Prop :=
  (∀ s : State, s.heatAllowed .tankHeater = true ↔ s.locked = false ∧ s.sto.power ≠ .standby ∧ s.tankWet = true ∧
        s.whu.tank ≠ .draining) ∧
    (∀ (s : State) (t : Int), s.tankReading = some t → s.heatAllowed .tankHeater = true → t < s.tankTarget - 20 →
      (s.whu.tankHeat.unfit = false → s.evalHeat .tankHeater =
        ({ s with whu := { s.whu with tankHeat := { s.whu.tankHeat with demand := true } } }).heatClaim .tankHeater) ∧
      (s.whu.tankHeat.unfit = true → s.evalHeat .tankHeater =
        ({ s with whu := { s.whu with tankHeat := { s.whu.tankHeat with demand := true } } }))) ∧
    (∀ (s : State) (t : Int), s.tankReading = some t → s.heatAllowed .tankHeater = true → s.tankTarget - 20 ≤ t → t < s.tankTarget →
      (s.whu.tankHeat.demand = true → s.whu.tankHeat.unfit = false → s.evalHeat .tankHeater = s.heatClaim .tankHeater) ∧
      ((s.whu.tankHeat.demand = false ∨ s.whu.tankHeat.unfit = true) → s.evalHeat .tankHeater = s)) ∧
    (∀ (s : State) (t : Int), s.tankReading = some t → s.tankTarget ≤ t →
      s.evalHeat .tankHeater =
        ({ s with whu := { s.whu with tankHeat := { s.whu.tankHeat with demand := false } } }).release .tankHeater) ∧
    (∀ s : State, (s.tankReading = none ∨ s.locked = true ∨ s.sto.power = .standby ∨ s.tankWet = false ∨
        s.whu.tank = .draining) →
      s.evalHeat .tankHeater =
        ({ s with whu := { s.whu with tankHeat := { s.whu.tankHeat with demand := false } } }).release .tankHeater) ∧
    (∀ s : State, s.heatAllowed .boosterA = true ↔ s.locked = false ∧ s.sto.power ≠ .standby ∧
        s.boosterClosed = true) ∧
    (∀ (s : State) (t : Int), s.boosterReading = some t → s.heatAllowed .boosterA = true → t < s.boosterTarget - 20 →
      (s.whu.boosterA.unfit = false → s.evalHeat .boosterA =
        ({ s with whu := { s.whu with boosterA := { s.whu.boosterA with demand := true } } }).heatClaim .boosterA) ∧
      (s.whu.boosterA.unfit = true → s.evalHeat .boosterA =
        ({ s with whu := { s.whu with boosterA := { s.whu.boosterA with demand := true } } }))) ∧
    (∀ (s : State) (t : Int), s.boosterReading = some t → s.heatAllowed .boosterA = true → s.boosterTarget - 20 ≤ t → t < s.boosterTarget →
      (s.whu.boosterA.demand = true → s.whu.boosterA.unfit = false → s.evalHeat .boosterA = s.heatClaim .boosterA) ∧
      ((s.whu.boosterA.demand = false ∨ s.whu.boosterA.unfit = true) → s.evalHeat .boosterA = s)) ∧
    (∀ (s : State) (t : Int), s.boosterReading = some t → s.boosterTarget ≤ t →
      s.evalHeat .boosterA =
        ({ s with whu := { s.whu with boosterA := { s.whu.boosterA with demand := false } } }).release .boosterA) ∧
    (∀ s : State, (s.boosterReading = none ∨ s.locked = true ∨ s.sto.power = .standby ∨ s.boosterClosed = false) →
      s.evalHeat .boosterA =
        ({ s with whu := { s.whu with boosterA := { s.whu.boosterA with demand := false } } }).release .boosterA) ∧
    (∀ s : State, s.heatAllowed .boosterB = true ↔ s.locked = false ∧ s.sto.power ≠ .standby ∧
        s.boosterClosed = true ∧ s.watts .boosterB ≠ 0) ∧
    (∀ (s : State) (t : Int), s.boosterReading = some t → s.heatAllowed .boosterB = true → t < s.boosterTarget - 60 →
      (s.whu.boosterB.unfit = false → s.evalHeat .boosterB =
        ({ s with whu := { s.whu with boosterB := { s.whu.boosterB with demand := true } } }).heatClaim .boosterB) ∧
      (s.whu.boosterB.unfit = true → s.evalHeat .boosterB =
        ({ s with whu := { s.whu with boosterB := { s.whu.boosterB with demand := true } } }))) ∧
    (∀ (s : State) (t : Int), s.boosterReading = some t → s.heatAllowed .boosterB = true → s.boosterTarget - 60 ≤ t → t < s.boosterTarget - 30 →
      (s.whu.boosterB.demand = true → s.whu.boosterB.unfit = false → s.evalHeat .boosterB = s.heatClaim .boosterB) ∧
      ((s.whu.boosterB.demand = false ∨ s.whu.boosterB.unfit = true) → s.evalHeat .boosterB = s)) ∧
    (∀ (s : State) (t : Int), s.boosterReading = some t → s.boosterTarget - 30 ≤ t →
      s.evalHeat .boosterB =
        ({ s with whu := { s.whu with boosterB := { s.whu.boosterB with demand := false } } }).release .boosterB) ∧
    (∀ s : State, (s.boosterReading = none ∨ s.locked = true ∨ s.sto.power = .standby ∨ s.boosterClosed = false ∨
        s.watts .boosterB = 0) →
      s.evalHeat .boosterB =
        ({ s with whu := { s.whu with boosterB := { s.whu.boosterB with demand := false } } }).release .boosterB) ∧
    ∀ (s : State) (l : Load),
      ((s.claimOf l).state ≠ .idle → s.heatClaim l = s) ∧
      ((s.claimOf l).state = .idle → s.locked = false → (l ≠ .boosterB ∨ s.watts .boosterB ≠ 0) →
        (s.loadUnfit l = false → s.heatClaim l =
          ((s.onClaim l fun c => { c with state := .waiting, claimTime := s.now, waitMs := 0, promoted := false }).walk).onThermostat
            l fun x => { x with unfit := false }) ∧
        (s.loadUnfit l = true → s.heatClaim l =
          (s.tellUnfit l).onThermostat l fun x => { x with unfit := true }))

/-- O43. WASH_START in ARMED with the tank READY, the door module LINKED, the door CLOSED or CLOSED_LATCHED, the opened
flag set or not required, and no STOP record: the counter advances by 1 (after 4294967295 to 1) and numbers the
entry, cycle_open takes it, the counters are saved, the record opens, RINSE_LOW_TEMP's condition ends, the state is
WASH with its notice, and WASH_PUMP is claimed. If a condition fails nothing changes. Model choices this rests on:
log entry 25. WASH_START is an event of its own, by command or when due; no other event makes its test.
(02_the_wash_cycle.md, 2.3 Cycle states; 02_the_wash_cycle.md, 2.4 WASH and holds) -/
def Obligations.WashStartsWithANumber : Prop :=
  (∀ (s : State) (e : ActiveEntry), s.on = true → s.csq.phase = .armed → s.whu.tank = .ready → s.linked .door = true →
      (s.dvc.door = .closed ∨ s.dvc.door = .closedLatched) → (s.dvc.openedFlag = true ∨ s.settings.get 6 = 0) →
      s.hasClass .stop = false → s.csq.active = some e →
      exec .washStart s = .next
        (let n := if 4294967295 ≤ s.csq.counter then 1 else s.csq.counter + 1;
          let t := (({ s with
            csq := { s.csq with
              counter := n, cycleOpen := n, active := some { e with number := n }, record :=
                  some (State.openRecord n e),
              washMs := 0, hold := Hold.reset } }).saveCounters).endCondition .rinseLowTemp 0;
          ((((({ t with csq := { t.csq with phase := .wash } }).notePhase).claim .washPump).1).finish))) ∧
    (∀ s : State, s.notePhase = s.place
      (.cyclePhase (match s.csq.active with
          | some e => e.number
          | none => 0) (s.csq.active.map ActiveEntry.recipe) s.csq.phase s.csq.hold.door s.csq.hold.level)) ∧
    ∀ s : State, s.on = true →
      (s.csq.phase ≠ .armed ∨ s.whu.tank ≠ .ready ∨ s.linked .door = false ∨
        (s.dvc.door ≠ .closed ∧ s.dvc.door ≠ .closedLatched) ∨ (s.dvc.openedFlag = false ∧ s.settings.get 6 ≠ 0) ∨
        s.hasClass .stop = true) →
      exec .washStart s = .next s.finish

/-- O44. WASH_END with the wash pump running fixes the wash seconds, releases WASH_PUMP and goes to PURGE, or to
RINSE_WAIT with purge_ml 0. HOLD_LIMIT in HELD ends the cycle ABORTED_HOLD. LATCH_CONFIRM_TIMEOUT in RINSE_WAIT
raises DOOR_LATCH_FAIL 0 as STOP. RINSE_HOLD_EXPIRY in RINSE_WAIT marks the hold expired and the record LOW_RINSE
and raises RINSE_LOW_TEMP. DWELL_END ends level keeping and goes to VENT, or ends the cycle COMPLETE with vent_pct
0. None exists while its timer does not run. A hold reason in WASH or PURGE releases the pump and enters HELD with
its notice; a further one joins the set with a notice; when one goes and another stays the set is noticed, and when
the last goes the state left is resumed with its notice and its pump claimed (the one notice is log entry 60). An
accepted door neither CLOSED nor CLOSED_LATCHED brings the reason DOOR and a shut one ends it. OPEN in RINSE cuts
the rinse with DOOR_FORCED, and in DWELL ends the cycle COMPLETE, with VENT_CUT if a vent was to come. No timer
event exists while its timer does not run (log entry 9). (02_the_wash_cycle.md, 2.4 WASH and holds;
02_the_wash_cycle.md, 2.5 PURGE; 02_the_wash_cycle.md, 2.6 RINSE_WAIT; 02_the_wash_cycle.md, 2.8 DWELL and VENT;
02_the_wash_cycle.md, 2.7 RINSE) -/
def Obligations.CycleTimersEndTheirPhase : Prop :=
  (∀ s : State, s.on = true → s.csq.phase = .wash → s.granted .washPump = true →
      exec .washEnd s = .next
        (let t := s.advance (s.recipe.washS * 1000 - s.csq.washMs);
          let u := (t.onCsq fun c =>
            { c with record := c.record.map fun r : CycleRecord => { r with washS := t.csq.washMs / 1000 } }).release .washPump;
          (if 0 < u.recipe.purgeMl then
            (({ u with csq := { u.csq with phase := .purge } }).notePhase).startPurge u.recipe.purgeMl
          else u.enterRinseWait).finish)) ∧
    (∀ s : State, (s.csq.phase ≠ .wash ∨ s.granted .washPump = false) → exec .washEnd s = .next s) ∧
    (∀ s : State, s.on = true → s.csq.phase = .held →
      exec .holdLimit s = .next
        ((s.advance (s.num SettingIx.holdLimit * 1000 - s.csq.hold.heldMs)).endCycle .abortedHold).finish) ∧
    (∀ s : State, s.csq.phase ≠ .held → exec .holdLimit s = .next s) ∧
    (∀ (s : State) (left : Nat), s.on = true → s.csq.phase = .rinseWait → s.csq.rinseWait.confirmLeft = some left →
      exec .latchConfirmTimeout s = .next
        ((({ s.advance left with
          csq := { (s.advance left).csq with
            rinseWait := { (s.advance left).csq.rinseWait with confirmLeft := none } } }).raise
              .doorLatchFail 0 .stop).finish)) ∧
    (∀ (s : State) (left : Nat), s.on = true → s.csq.phase = .rinseWait → s.csq.rinseWait.holdLeft = some left →
      exec .rinseHoldExpiry s = .next
        ((({ s.advance left with
          csq := { (s.advance left).csq with
            rinseWait := { (s.advance left).csq.rinseWait with holdLeft := none, holdExpired := true },
            record := (s.advance left).csq.record.map fun r : CycleRecord => { r with lowRinse := true } } }).warn
              .rinseLowTemp 0).finish)) ∧
    (∀ s : State, s.csq.phase ≠ .rinseWait →
      exec .latchConfirmTimeout s = .next s ∧ exec .rinseHoldExpiry s = .next s) ∧
    (∀ s : State, s.on = true → s.csq.phase = .dwell →
      exec .dwellEnd s = .next
        (let t := (s.advance (s.recipe.dwellS * 1000 - s.csq.dwellMs)).endCycleDrain;
          (if 0 < t.recipe.ventPct then t.enterVent else t.endCycle .complete).finish)) ∧
    (∀ s : State, s.csq.phase ≠ .dwell → exec .dwellEnd s = .next s) ∧
    (∀ (h : Hold) (b : Bool),
      State.Hold.put h .door b = { h with door := b } ∧ State.Hold.put h .level b = { h with level := b }) ∧
    (∀ (s : State) (r : State.HoldReason),
      (s.csq.phase = .wash →
        s.addHold r =
          (let t := ({ s with
              csq := { s.csq with hold := { State.Hold.put s.csq.hold r true with left := some .wash } } }).release
                .washPump;
            ({ t with csq := { t.csq with phase := .held } }).notePhase)) ∧
      (s.csq.phase = .purge →
        s.addHold r =
          (let t := ({ s with
              csq := { s.csq with hold := { State.Hold.put s.csq.hold r true with left := some .purge } }
              whu := { s.whu with drainUser := none } }).release .drainPump;
            ({ t with csq := { t.csq with phase := .held } }).notePhase)) ∧
      (s.csq.phase = .held → State.Hold.has s.csq.hold r = false →
        s.addHold r = ({ s with csq := { s.csq with hold := State.Hold.put s.csq.hold r true } }).notePhase) ∧
      (s.csq.phase = .held → State.Hold.has s.csq.hold r = true → s.addHold r = s)) ∧
    (∀ (s : State) (r q : State.HoldReason), s.csq.phase = .held → r ≠ q → State.Hold.has s.csq.hold r = true →
      (State.Hold.has s.csq.hold q = true →
        s.dropHold r = ({ s with csq := { s.csq with hold := State.Hold.put s.csq.hold r false } }).notePhase) ∧
      (State.Hold.has s.csq.hold q = false → s.csq.hold.left = some .wash →
        s.dropHold r =
          ((({ s with
            csq := { s.csq with
              hold := { State.Hold.put s.csq.hold r false with left := none }, phase := .wash } }).notePhase).claim
                .washPump).1) ∧
      (State.Hold.has s.csq.hold q = false → s.csq.hold.left = some .purge →
        s.dropHold r =
          (let t := ({ s with
              csq := { s.csq with
                hold := { State.Hold.put s.csq.hold r false with left := none }, phase := .purge } }).notePhase;
            (({ t with whu := { t.whu with drainUser := some .purge } }).claim .drainPump).1))) ∧
    (∀ (s : State) (r : State.HoldReason), (s.csq.phase ≠ .held ∨ State.Hold.has s.csq.hold r = false) →
      s.dropHold r = s) ∧
    (∀ s : State, (s.dvc.door = .closed ∨ s.dvc.door = .closedLatched) →
      (s.csq.phase = .held → s.cycleDoor = s.dropHold .door) ∧ (s.csq.phase ≠ .held → s.cycleDoor = s)) ∧
    (∀ s : State, s.dvc.door ≠ .closed → s.dvc.door ≠ .closedLatched →
      ((s.csq.phase = .wash ∨ s.csq.phase = .purge ∨ s.csq.phase = .held) → s.cycleDoor = s.addHold .door) ∧
      ((s.csq.phase = .idle ∨ s.csq.phase = .armed ∨ s.csq.phase = .rinseWait ∨ s.csq.phase = .vent) →
        s.cycleDoor = s)) ∧
    ∀ s : State, s.dvc.door = .opened →
      (s.csq.phase = .dwell → s.cycleDoor =
        (((s.warn .doorForced 0).endCondition .doorForced 0).onCsq fun c : Csq =>
          { c with
            record := c.record.map fun r : CycleRecord =>
                { r with ventCut := decide (0 < s.recipe.ventPct) } }).endCycle
              .complete) ∧
      (s.csq.phase = .rinse → s.csq.rinse.cut = true → s.cycleDoor = s) ∧
      (s.csq.phase = .rinse → s.csq.rinse.cut = false →
        (let t := (((({ s with
            csq := { s.csq with rinse := { s.csq.rinse with cut := true, closing := true } } }).release
              .rinsePump).warn .doorForced 0).endCondition .doorForced 0);
          (t.whu.rinseWaiting = true → s.cycleDoor =
            ({ t with whu := { t.whu with rinseWaiting := false } }).rinseReport
              { user := .rinse, pulses := 0, outcome := .released }) ∧
          (t.whu.rinseWaiting = false → t.whu.owner = some .rinse → t.whu.phase = .opened →
            s.cycleDoor = t.closeInlet .released) ∧
          (t.whu.rinseWaiting = false → t.whu.owner = some .rinse → t.whu.phase ≠ .opened →
            s.cycleDoor =
              (t.closeInlet .released).rinseReport { user := .rinse, pulses := 0, outcome := .released }) ∧
          (t.whu.rinseWaiting = false → t.whu.owner ≠ some .rinse → s.cycleDoor = t)))

/-- O45. RINSE_START in RINSE_WAIT with the heat condition met, the inlet obtainable, RINSE_PUMP granted and the latch
confirmed computes the target ceil(rinse_ml x K / 1000), sets the count to 0, enters RINSE with its notice and asks
for the inlet; with FULL accepted level keeping takes the drain pump. RINSE_TARGET_REACHED with the target met on
the open inlet closes it RELEASED with a 500 ms run-on window and releases RINSE_PUMP. If a condition fails nothing
changes. A PENDING changeover that the released inlet lets start does so at the end of the event (log entry 25).
(02_the_wash_cycle.md, 2.6 RINSE_WAIT; 02_the_wash_cycle.md, 2.7 RINSE; 01_water_path_and_heat.md, Inlet valve) -/
def Obligations.RinseStartsAndReachesItsTarget : Prop :=
  (∀ s : State, s.on = true → s.csq.phase = .rinseWait →
      (s.csq.rinseWait.tempMet = true ∨ s.csq.rinseWait.holdExpired = true) → s.obtainable = true →
      s.granted .rinsePump = true → s.csq.rinseWait.confirmed = true → s.whu.accepted ≠ some .full →
      exec .rinseStart s = .next
        (let t := ({ s with
            csq := { s.csq with
              rinse := { target := (s.recipe.rinseMl * s.k + 1000 - 1) / 1000, count := 0, cut := false, closing := false },
              phase := .rinse } }).notePhase;
          ({ t with whu := { t.whu with rinseWaiting := true } }).finish)) ∧
    (∀ s : State, s.on = true → s.csq.phase = .rinseWait →
      (s.csq.rinseWait.tempMet = true ∨ s.csq.rinseWait.holdExpired = true) → s.obtainable = true →
      s.granted .rinsePump = true → s.csq.rinseWait.confirmed = true → s.whu.accepted = some .full →
      s.whu.drainUser = none →
      exec .rinseStart s = .next
        (let t := ({ s with
            csq := { s.csq with
              rinse := { target := (s.recipe.rinseMl * s.k + 1000 - 1) / 1000, count := 0, cut := false, closing := false },
              phase := .rinse } }).notePhase;
          ((({ t with whu := { t.whu with rinseWaiting := true, drainUser := some .level } }).claim .drainPump).1).finish)) ∧
    (∀ s : State, s.on = true →
      (s.csq.phase ≠ .rinseWait ∨ (s.csq.rinseWait.tempMet = false ∧ s.csq.rinseWait.holdExpired = false) ∨
        s.obtainable = false ∨ s.granted .rinsePump = false ∨ s.csq.rinseWait.confirmed = false) →
      exec .rinseStart s = .next s.finish) ∧
    (∀ s : State, s.on = true → s.csq.phase = .rinse → s.csq.rinse.closing = false → s.whu.owner = some .rinse →
      s.whu.phase = .opened → s.csq.rinse.target ≤ s.csq.rinse.count →
      exec .rinseTargetReached s = .next
        ((({ s with
          csq := { s.csq with rinse := { s.csq.rinse with closing := true } }
          sfc := { s.sfc with alignHeld := false }
          whu := { s.whu with
            owner := none, phase := .closed, quietLeft := none,
            runOn := some { user := .rinse, outcome := .released, pulses := s.whu.draw, left := 500 } } }).release
              .rinsePump).finish)) ∧
    ∀ s : State, s.on = true →
      (s.csq.phase ≠ .rinse ∨ s.csq.rinse.closing = true ∨ s.whu.owner ≠ some .rinse ∨ s.whu.phase ≠ .opened ∨
        s.csq.rinse.count < s.csq.rinse.target) →
      exec .rinseTargetReached s = .next s.finish

/-- O46. A claim of a load not IDLE changes nothing; of an IDLE one it is withheld in a LOCKOUT, ignored for an absent
stage B, told unfit above the budget in force, and else WAITING with the present time before a walk. A release of a
WAITING claim makes it IDLE, of a GRANTED one also puts its counted wattage into the settling list for 40 ms.
SETTLING_END removes the oldest entry and walks; a decrease whose G + S then fits takes force. A re-test ends the
claim of an unfit load, a GRANTED one settling, tells it unfit and has its claimant act: a PUSH ends as at a loss, a
RETRACT with its mark kept (log entry 89), a fan step is cut, a CLAIMED changeover is DUE, an alignment ends (log
entry 26), a channel sets its mark and stops a SENT order or unstarts the head, a heater sets its mark. A load fit
again ends BUDGET_UNFIT and has its fit event. AGING_PROMOTION promotes the waiting tank heater and walks;
HALT_CLEAR_TIMER clears the halt flag and ends DOOR_OBSTRUCTED. The absent stage B is log entry 45, the breaker marks
log entry 46, the timer commands log entry 9, and the order of the loads in a re-test log entry 55. A LOCKOUT stops
the walk. Else it takes the WAITING claims, and the increases of GRANTED loads of class 0 and 1, by class (a promoted
tank heater as 2), then the older claim, then the load number, grants what fits and stops at the first that does not,
for which it makes room; a walk that revoked is followed by another. A class 0 or 1 claim revokes GRANTED heaters,
class 3 first, then the one granted last, until the granted wattage with it is within mains_budget_w; a class 2 claim
revokes an unpromoted tank heater if that is needed and enough; class 3 none. A revoked load settles and waits again
with its claim time; a grant counts its wattage and acts at its claimant. (03_mains_load_budget.md, 3.1 Loads and
claims; 03_mains_load_budget.md, 3.2 Settling and the budget law; 03_mains_load_budget.md, 3.3 The grant walk;
03_mains_load_budget.md, 3.4 Aging of the tank heater; 03_mains_load_budget.md, 3.5 Unfit loads;
03_mains_load_budget.md, 3.7 Changes of the budget; 03_mains_load_budget.md, 3.8 Halt, GO and the fan) -/
def Obligations.ClaimsAndBudgetTimers : Prop :=
  (∀ (s : State) (l : Load), (s.claimOf l).state ≠ .idle → s.claim l = (s, .held)) ∧
    (∀ (s : State) (l : Load), (s.claimOf l).state = .idle → s.locked = true → s.claim l = (s, .withheld)) ∧
    (∀ s : State, (s.claimOf .boosterB).state = .idle → s.locked = false → s.settings.get 12 = 0 →
      s.claim .boosterB = (s, .ignored)) ∧
    (∀ (s : State) (l : Load), (s.claimOf l).state = .idle → s.locked = false → (l ≠ .boosterB ∨ s.watts l ≠ 0) →
      s.lba.inForce < s.watts l → s.claim l = (s.tellUnfit l, .unfit)) ∧
    (∀ (s : State) (l : Load), (s.claimOf l).state = .idle → s.locked = false → (l ≠ .boosterB ∨ s.watts l ≠ 0) →
        s.watts l ≤ s.lba.inForce →
      s.lba.breaker.get l.ix = false →
      s.claim l =
        ((s.onClaim l fun c => { c with state := .waiting, claimTime := s.now, waitMs := 0, promoted := false }).walk,
          .taken)) ∧
    (∀ (s : State) (l : Load), (s.claimOf l).state = .idle → s.release l = s) ∧
    (∀ (s : State) (l : Load), (s.claimOf l).state = .waiting →
      s.release l =
        (s.onClaim l fun c => { c with state := .idle, waitMs := 0, promoted := false, counted := 0 }).walk) ∧
    (∀ (s : State) (l : Load), (s.claimOf l).state = .granted →
      s.release l =
        (({ s with
          lba := { s.lba with
            settling := s.lba.settling ++ [({ load := l, watts := (s.claimOf l).counted, left := 40 } : Settling)] } }).onClaim l
              fun c => { c with state := .idle, waitMs := 0, promoted := false, counted := 0 }).walk) ∧
    (∀ (s : State) (e : Settling) (rest : List Settling), s.on = true → s.lba.settling = e :: rest →
      s.lba.inForce ≤ s.mains →
      exec .settlingEnd s = .next
        (({ s.advance e.left with
          lba := { (s.advance e.left).lba with
            settling := rest.map fun x : Settling => { x with left := x.left - e.left } } }).walk.finish)) ∧
    (∀ (s : State) (e : Settling) (rest : List Settling), s.on = true → s.lba.settling = e :: rest →
      s.mains < s.lba.inForce → s.sumGranted + rest.foldl (fun n x => n + x.watts) 0 ≤ s.mains →
      ∃ t : State, exec .settlingEnd s = .next t ∧ t.lba.inForce = s.mains) ∧
    (∀ s : State, s.lba.settling = [] → exec .settlingEnd s = .next s) ∧
    (∀ (s : State) (l : Load),
      (s.loadUnfit l = true ↔ s.lba.inForce < s.watts l ∨ (s.lba.breaker.get l.ix = true ∧ s.mains < s.classSum)) ∧
      s.tellUnfit l =
        ({ s with lba := { s.lba with told := s.lba.told.set l.ix.val true l.ix.isLt } }).warn .budgetUnfit l.number) ∧
    (∀ (s : State) (ended : List Load) (l : Load),
      (s.loadUnfit l = true → (s.claimOf l).state = .idle → State.retestOne (s, ended) l = (s, ended)) ∧
      (s.loadUnfit l = true → (s.claimOf l).state = .waiting →
        State.retestOne (s, ended) l =
          ((s.onClaim l fun c => { c with state := .idle, waitMs := 0, promoted := false, counted := 0 }).tellUnfit l,
            ended ++ [l])) ∧
      (s.loadUnfit l = true → (s.claimOf l).state = .granted →
        State.retestOne (s, ended) l =
          ((({ s with
            lba := { s.lba with
              settling := s.lba.settling ++
                [({ load := l, watts := (s.claimOf l).counted, left := 40 } : Settling)] } }).onClaim l fun c =>
                  { c with state := .idle, waitMs := 0, promoted := false, counted := 0 }).tellUnfit l,
            ended ++ [l])) ∧
      (s.loadUnfit l = false → s.toldUnfit l = true →
        State.retestOne (s, ended) l =
          (((({ s with lba := { s.lba with told := s.lba.told.set l.ix.val false l.ix.isLt } }).endCondition .budgetUnfit
            l.number).fitEvent l), ended)) ∧
      (s.loadUnfit l = false → s.toldUnfit l = false → State.retestOne (s, ended) l = (s, ended))) ∧
    (∀ s : State,
      s.retest =
        ([.drainPump, .washPump, .rinsePump, .doorDrive, .ventFan, .valveMotor, .doserDet, .doserRa, .boosterA, .boosterB,
          .tankHeater] : List Load).foldl State.retestOne (s, [])) ∧
    (∀ (s : State) (ls : List Load) (l : Load),
      s.tellEnded [] = s ∧ s.tellEnded (l :: ls) = (s.toldEnded l).tellEnded ls) ∧
    (∀ s : State,
      (s.dvc.task = .none → s.toldEnded .doorDrive = s) ∧
      (∀ (o : PushOrigin) (target : Nat) (m : MoveState), s.dvc.task = .push o target m →
        s.toldEnded .doorDrive =
          ((({ s with dvc := { s.dvc with task := .none, owed := true } }).release .doorDrive).withdrawMove).ventGoesOn) ∧
      (∀ left : Nat, s.dvc.task = .retract left →
        s.toldEnded .doorDrive =
          (((({ s with dvc := { s.dvc with task := .none, retract := false } }).release .doorDrive).noteDoor none).onDvc
            fun d => { d with retractHeld := true }).ventGoesOn) ∧
      ((s.dvc.vent.step = .fanWait ∨ s.dvc.vent.step = .fan) → s.toldEnded .ventFan = s.cutVent) ∧
      (s.dvc.vent.step ≠ .fanWait → s.dvc.vent.step ≠ .fan → s.toldEnded .ventFan = s) ∧
      (s.sfc.changeover = .claimed →
        s.toldEnded .valveMotor =
          ({ s with sfc := { s.sfc with changeover := .due } }).warn .softenerExhausted 0) ∧
      (s.sfc.changeover = .aligning → s.sfc.keptTrigger = false →
        s.toldEnded .valveMotor =
          { s with sfc := { s.sfc with changeover := .none, moveLeft := none, alignHeld := true } }) ∧
      (s.sfc.changeover = .aligning → s.sfc.keptTrigger = true →
        (let t := s.endAlignment; s.toldEnded .valveMotor = { t with sfc := { t.sfc with alignHeld := true } })) ∧
      (s.sfc.changeover ≠ .claimed → s.sfc.changeover ≠ .aligning → s.toldEnded .valveMotor = s)) ∧
    (∀ (s : State) (c : Channel),
      ((s.channel c).orders = [] →
        s.toldEnded (channelLoad c) = s.onChannel c fun r => { r with unfit := true }) ∧
      ∀ (o : Order) (rest : List Order), (s.channel c).orders = o :: rest →
        (o.state = .sent →
          s.toldEnded (channelLoad c) = s.onChannel c fun r => { r with unfit := true, stop := true }) ∧
        (o.state ≠ .sent →
          s.toldEnded (channelLoad c) =
            s.onChannel c fun r => { r with unfit := true, orders := { o with started := false } :: rest })) ∧
    (∀ s : State,
      s.toldEnded .boosterA = { s with whu := { s.whu with boosterA := { s.whu.boosterA with unfit := true } } } ∧
      s.toldEnded .boosterB = { s with whu := { s.whu with boosterB := { s.whu.boosterB with unfit := true } } } ∧
      s.toldEnded .tankHeater = { s with whu := { s.whu with tankHeat := { s.whu.tankHeat with unfit := true } } } ∧
      s.toldEnded .drainPump = s ∧ s.toldEnded .washPump = s ∧ s.toldEnded .rinsePump = s) ∧
    (∀ s : State,
      (∀ c : Channel, s.fitEvent (channelLoad c) = s.onChannel c fun r => { r with unfit := false }) ∧
      s.fitEvent .drainPump = (if s.whu.drainUser = none then s else (s.claim .drainPump).1) ∧
      s.fitEvent .washPump = (if s.csq.phase = .wash then (s.claim .washPump).1 else s) ∧
      s.fitEvent .rinsePump =
        (if s.csq.phase = .rinseWait ∨ (s.csq.phase = .rinse ∧ s.csq.rinse.closing = false) then (s.claim .rinsePump).1
        else s) ∧
      s.fitEvent .doorDrive = { s with dvc := { s.dvc with retractHeld := false } } ∧
      s.fitEvent .ventFan = s ∧ s.fitEvent .valveMotor = s ∧ s.fitEvent .boosterA = s ∧ s.fitEvent .boosterB = s ∧
      s.fitEvent .tankHeater = s) ∧
    (∀ s : State, s.on = true → s.waits .tankHeater = true → (s.claimOf .tankHeater).promoted = false →
      exec .agingPromotion s = .next
        (((s.advance (s.num SettingIx.starve * 1000 - (s.claimOf .tankHeater).waitMs)).onClaim .tankHeater
          fun c => { c with promoted := true }).walk.finish)) ∧
    (∀ s : State, (s.waits .tankHeater = false ∨ (s.claimOf .tankHeater).promoted = true) →
      exec .agingPromotion s = .next s) ∧
    (∀ (s : State) (left : Nat), s.on = true → s.lba.haltClearLeft = some left →
      exec .haltClearTimer s = .next
        ((({ s.advance left with
          lba := { (s.advance left).lba with halt := false, haltClearLeft := none, released := 0 } }).endCondition
            .doorObstructed 0).finish)) ∧
    (∀ s : State, s.lba.haltClearLeft = none → exec .haltClearTimer s = .next s) ∧
    (∀ s : State, s.walk = if s.locked then s else State.walkAgain 4 s) ∧
    (∀ (s : State) (n : Nat),
      State.walkAgain 0 s = s ∧
      State.walkAgain (n + 1) s =
        (let r := State.walkThrough s.walkOrder s;
          if r.2 = true then State.walkAgain n r.1 else r.1)) ∧
    (∀ (s : State) (l : Load) (rest : List Load),
      State.walkThrough [] s = (s, false) ∧
      State.walkThrough (l :: rest) s =
        if s.fits l then State.walkThrough rest (s.grant l)
        else (s.makeRoom l, decide (s.lba.settling.length < (s.makeRoom l).lba.settling.length))) ∧
    (∀ (s : State) (l : Load),
      (s.fits l = true ↔ s.sumGranted + s.sumSettling + s.wanted l ≤ s.lba.inForce ∧
        s.sumGranted + s.wanted l ≤ s.mains ∧
        (s.granted l = true ∨ ∀ e ∈ s.lba.settling, e.load ≠ l)) ∧
      s.wanted l = (if s.granted l then s.watts l - (s.claimOf l).counted else s.watts l)) ∧
    (∀ s : State,
      (∀ l : Load, l ∈ s.walkOrder ↔ (s.claimOf l).state = .waiting ∨
        ((s.claimOf l).state = .granted ∧ l.heater = false ∧ (s.claimOf l).counted < s.watts l)) ∧
      s.walkOrder.Nodup ∧
      ∀ (before after : List Load) (a b : Load), s.walkOrder = before ++ a :: b :: after → s.walkLe a b = true) ∧
    (∀ (s : State) (a b : Load),
      (s.walkLe a b = true ↔ s.walkClass a < s.walkClass b ∨ (s.walkClass a = s.walkClass b ∧
        (olderClaim (s.claimOf a).claimTime (s.claimOf b).claimTime = true ∨
          (olderClaim (s.claimOf b).claimTime (s.claimOf a).claimTime = false ∧ a.number ≤ b.number)))) ∧
      s.walkClass a = (if (s.claimOf a).promoted then min 2 a.cls else a.cls)) ∧
    (∀ t u : BitVec 32, olderClaim t u = true ↔ t ≠ u ∧ (u - t).toNat < 2147483648) ∧
    (∀ s : State,
      (∀ l : Load, l ∈ s.candidates ↔ l.heater = true ∧ (s.claimOf l).state = .granted) ∧ s.candidates.Nodup ∧
      s.candidates.Pairwise fun a b =>
        s.walkClass b < s.walkClass a ∨
          (s.walkClass a = s.walkClass b ∧ (s.claimOf b).grantOrder ≤ (s.claimOf a).grantOrder)) ∧
    (∀ (s : State) (l : Load),
      s.makeRoom l =
        if s.walkClass l ≤ 1 then State.revokeUntil (s.wanted l) s.mains s.candidates s
        else if s.walkClass l = 2 ∧ (s.claimOf .tankHeater).state = ClaimState.granted ∧
            (s.claimOf .tankHeater).promoted = false ∧ s.mains < s.sumGranted + s.wanted l ∧
            s.sumGranted - (s.claimOf .tankHeater).counted + s.wanted l ≤ s.mains then s.revoke .tankHeater
        else s) ∧
    (∀ (w limit : Nat) (l : Load) (rest : List Load) (s : State),
      State.revokeUntil w limit [] s = s ∧
      State.revokeUntil w limit (l :: rest) s =
        if s.sumGranted + w ≤ limit then s else State.revokeUntil w limit rest (s.revoke l)) ∧
    (∀ (s : State) (l : Load),
      s.revoke l =
        ({ s with
          lba := { s.lba with
            settling := s.lba.settling ++
              [({ load := l, watts := (s.claimOf l).counted, left := 40 } : Settling)] } }).onClaim l fun c =>
          { c with state := .waiting, counted := 0 }) ∧
    ∀ (s : State) (l : Load),
      s.grant l =
        if (s.claimOf l).state = ClaimState.granted then s.onClaim l fun c => { c with counted := s.watts l }
        else
          (let t := ({ s with lba := { s.lba with grants := s.lba.grants + 1 } } : State).onClaim l fun c =>
              { c with state := .granted, counted := s.watts l, grantOrder := s.lba.grants + 1 };
            if l = Load.doorDrive then t.askMove
            else if l = Load.ventFan then t.fanGranted
            else if l = Load.valveMotor then t.valveGranted
            else t)

/-- O47. CHANGEOVER_START of a PENDING changeover with no inlet owner and no LOCKOUT is CLAIMED and claims
VALVE_MOTOR, a motor unfit making it DUE; ALIGNMENT_START with its conditions is ALIGNING and claims it too. At the
grant of a CLAIMED changeover SERVE names the target, the move is MOVING for 2 x travel + 2 s, with a notice.
MOVE_TIMER_EXPIRY in MOVING sets SERVE back, goes to RETURNING for the same time and raises VALVE_STUCK; in RETURNING
it releases the motor, reports failure and is DUE; in ALIGNING it raises VALVE_STUCK, releases and ends. In RETURNING
the accepted service column ends it like the timer, any other field leaves it. In ALIGNING the SERVE column releases
the motor and ends with NONE, or with DUE for a trigger kept, VALVE_FAULT raises VALVE_STUCK and ends it, another
field leaves it. VALVE_FAULT raises VALVE_STUCK in NONE, DUE and PENDING too, and in CLAIMED makes the changeover DUE.
The SERVE column accepted ends VALVE_STUCK's condition. A DUE changeover with the target READY, the module LINKED, no
VALVE_STUCK record and the motor not told unfit is PENDING and starts if it may, else stays; this is tested at a link
and at the end of every event (a motor made unfit in MOVING or RETURNING counts, log entry 107). CHANGEOVER_START and
ALIGNMENT_START repeat tests that every event makes at its end (log entry 25), the timer is log entry 9, the column
that the notices name, the raise at every DUE and the re-test of a trigger kept are log entry 42, and a link's test of
an alignment held as unfit is log entry 26. (04_water_softening.md, 4.5 Changeover; 04_water_softening.md, 4.4
Exhaustion, breakthrough and hard service) -/
def Obligations.ChangeoverStartsMovesAndFails : Prop :=
  (∀ s : State, s.on = true → s.sfc.changeover = .pending → s.whu.owner = none → s.locked = false →
      (s.claimOf .valveMotor).state = .idle → s.loadUnfit .valveMotor = false →
      exec .changeoverStart s = .next
        (((({ s with sfc := { s.sfc with changeover := .claimed } }).onClaim .valveMotor
          fun c => { c with state := .waiting, claimTime := s.now, waitMs := 0, promoted := false }).walk).finish)) ∧
    (∀ s : State, s.on = true → s.sfc.changeover = .pending → s.whu.owner = none → s.locked = false →
      (s.claimOf .valveMotor).state = .idle → s.loadUnfit .valveMotor = true →
      exec .changeoverStart s = .next
        (((({ s with sfc := { s.sfc with changeover := .claimed } }).tellUnfit .valveMotor).becomeDue).finish)) ∧
    (∀ s : State, s.on = true → (s.sfc.changeover ≠ .pending ∨ s.whu.owner.isSome = true ∨ s.locked = true) →
      exec .changeoverStart s = .next s.finish) ∧
    (∀ s : State, s.on = true → s.alignmentReady = true → (s.claimOf .valveMotor).state = .idle →
      s.loadUnfit .valveMotor = false →
      exec .alignmentStart s = .next
        (((({ s with sfc := { s.sfc with changeover := .aligning } }).onClaim .valveMotor
          fun c => { c with state := .waiting, claimTime := s.now, waitMs := 0, promoted := false }).walk).finish)) ∧
    (∀ s : State, s.on = true → s.alignmentReady = false → exec .alignmentStart s = .next s.finish) ∧
    (∀ s : State, s.sfc.changeover = .claimed →
      s.valveGranted =
        ({ s with
          sfc := { s.sfc with
            serve := s.sfc.target, changeover := .moving,
            moveLeft := some (2 * (s.caps .softener).moveDs * 100 + 2000),
            moveLimit := 2 * (s.caps .softener).moveDs * 100 + 2000 } }).place
          (.softener .changeoverStart s.sfc.target (s.column s.sfc.target).state)) ∧
    (∀ (s : State) (left : Nat), s.on = true → s.sfc.moveLeft = some left → s.sfc.changeover = .moving →
      exec .moveTimerExpiry s = .next
        ((({ s.advance left with
          sfc := { (s.advance left).sfc with
            serve := s.sfc.serviceCol, changeover := .returning, moveLeft := some s.sfc.moveLimit } }).warn
              .valveStuck 0).finish)) ∧
    (∀ (s : State) (left : Nat), s.on = true → s.sfc.moveLeft = some left → s.sfc.changeover = .returning →
      exec .moveTimerExpiry s = .next
        (((({ s.advance left with sfc := { (s.advance left).sfc with moveLeft := none } }).release
          .valveMotor).noteSoftener .changeoverFailed s.sfc.target).becomeDue.finish)) ∧
    (∀ (s : State) (left : Nat), s.on = true → s.sfc.moveLeft = some left → s.sfc.changeover = .aligning →
      exec .moveTimerExpiry s = .next ((((s.advance left).warn .valveStuck 0).release .valveMotor).endAlignment.finish)) ∧
    (∀ s : State, s.sfc.moveLeft = none → exec .moveTimerExpiry s = .next s) ∧
    (∀ s : State, s.becomeDue = ({ s with sfc := { s.sfc with changeover := .due } }).warn .softenerExhausted 0) ∧
    (∀ s : State, s.sfc.changeover = .returning →
      s.followValve (.serves s.sfc.serviceCol) =
        (((({ s with sfc := { s.sfc with moveLeft := none } }).release .valveMotor).noteSoftener .changeoverFailed
          s.sfc.target).becomeDue) ∧
      ∀ v : Valve, v ≠ .serves s.sfc.serviceCol → s.followValve v = s) ∧
    (∀ s : State, s.sfc.changeover = .aligning →
      s.followValve (.serves s.sfc.serve) = (s.release .valveMotor).endAlignment ∧
      s.followValve .fault = ((s.warn .valveStuck 0).release .valveMotor).endAlignment ∧
      ∀ v : Valve, v ≠ .serves s.sfc.serve → v ≠ .fault → s.followValve v = s) ∧
    (∀ s : State,
      (s.sfc.keptTrigger = false →
        s.endAlignment = { s with sfc := { s.sfc with changeover := .none, moveLeft := none } }) ∧
      (s.sfc.keptTrigger = true →
        s.endAlignment =
          ((({ s with
            sfc := { s.sfc with
              keptTrigger := false, moveLeft := none, target := s.sfc.serviceCol.other, changeover := .due } }).warn
                .softenerExhausted 0).retestDue))) ∧
    (∀ s : State,
      (s.sfc.changeover = .claimed →
        s.followValve .fault = ((s.release .valveMotor).warn .valveStuck 0).becomeDue) ∧
      ((s.sfc.changeover = .none ∨ s.sfc.changeover = .due ∨ s.sfc.changeover = .pending) →
        s.followValve .fault = s.warn .valveStuck 0) ∧
      ((s.sfc.changeover = .none ∨ s.sfc.changeover = .due ∨ s.sfc.changeover = .pending ∨
          s.sfc.changeover = .claimed) →
        ∀ v : Valve, v ≠ .fault → s.followValve v = s)) ∧
    (∀ (s : State) (v : Valve),
      (v = .serves s.sfc.serve → s.followServe v = s.endCondition .valveStuck 0) ∧
      (v ≠ .serves s.sfc.serve → s.followServe v = s)) ∧
    (∀ s : State,
      (s.sfc.changeover = .due → (s.column s.sfc.target).state = .ready → s.linked .softener = true →
        s.hasFault .valveStuck 0 = false → s.toldUnfit .valveMotor = false →
        s.retestDue = ({ s with sfc := { s.sfc with changeover := .pending } }).startChangeover) ∧
      ((s.sfc.changeover ≠ .due ∨ (s.column s.sfc.target).state ≠ .ready ∨ s.linked .softener = false ∨
          s.hasFault .valveStuck 0 = true ∨ s.toldUnfit .valveMotor = true) → s.retestDue = s)) ∧
    (∀ s : State,
      (s.sfc.changeover = .pending → s.whu.owner = none → s.locked = false → (s.claimOf .valveMotor).state = .idle →
        (s.loadUnfit .valveMotor = false →
          s.startChangeover =
            (({ s with sfc := { s.sfc with changeover := .claimed } }).onClaim .valveMotor fun c =>
              { c with state := .waiting, claimTime := s.now, waitMs := 0, promoted := false }).walk) ∧
        (s.loadUnfit .valveMotor = true →
          s.startChangeover =
            (({ s with sfc := { s.sfc with changeover := .claimed } }).tellUnfit .valveMotor).becomeDue)) ∧
      ((s.sfc.changeover ≠ .pending ∨ s.whu.owner.isSome = true ∨ s.locked = true) → s.startChangeover = s)) ∧
    ∀ s : State,
      s.softenerLinked =
        (let t := s.retestDue.startRegen; { t with sfc := { t.sfc with alignHeld := false } }) ∧
      s.finish =
        ((((((s.reportConditions.retestDue.startChangeover.testAlignment.startRegen).startOrder .det).startOrder
          .ra).testRetract).reportEnds.testStandby.evalHeats).askWaiting.kickTx)

/-- O48. REGEN_START of an EXHAUSTED standby column with the module LINKED and no column regenerating begins BRINE
with capacity 0. REGEN_PHASE_END, not paused, goes from BRINE with brine seen to SLOW for slow_rinse_s, from SLOW to
FAST for fast_rinse_s, each with a notice. A stray pulse that takes the last capacity of the service column with the
softener module not LINKED makes the changeover DUE with the other column as target and raises SOFTENER_EXHAUSTED. If
a condition fails nothing changes. A regeneration is paused exactly while the inlet has an owner, the module is not
LINKED, a LOCKOUT record is present, or the changeover is MOVING, RETURNING or ALIGNING; its phase time runs only
while it is not. BRINE_FLOW accepted in BRINE, not paused, is brine seen, and SALT_LOW accepted in BRINE sets
brine_weak. BRINE ended without brine seen sets brine_weak and raises REGEN_NO_BRINE with the column as detail.
REGEN_START repeats a test that every event makes at its end (log entry 25), the phase timer is log entry 9, and the
raise at a DUE is log entry 42. With the module LINKED and SOFT accepted the pulse that takes the last capacity, of an
open draw, of a run-on window or stray, raises the condition by 5, to at most 100; HARD accepted after an octet that
was not HARD, with capacity left, sets it to 0 and lowers the condition by 5, to at least 50. At either the target is
the other column, and the changeover is PENDING, starting if it may, with the target READY, the module LINKED and no
VALVE_STUCK record, else DUE with SOFTENER_EXHAUSTED; in ALIGNING the trigger is kept, in any other state nothing more
happens. That a HARD accepted first after a link is no breakthrough is log entry 28. (04_water_softening.md, 4.6
Regeneration; 04_water_softening.md, 4.4 Exhaustion, breakthrough and hard service; 04_water_softening.md, 4.2 Service
accounting; 04_water_softening.md, 4.5 Changeover) -/
def Obligations.RegenerationRunsItsPhases : Prop :=
  (∀ s : State, s.on = true → (s.column s.sfc.serviceCol.other).state = .exhausted → s.linked .softener = true →
      s.regenColumn = none →
      exec .regenStart s = .next
        (((s.onColumn s.sfc.serviceCol.other fun r =>
          { r with
            state := .regenBrine, capacity := 0, brineWeak := s.showsSaltLow
            phaseLeft := s.num SettingIx.brineS * 1000 }).onSfc fun x => { x with brineSeen := false }).place
              (.softener .phaseStart s.sfc.serviceCol.other .regenBrine)).finish) ∧
    (∀ s : State, s.on = true →
      ((s.column s.sfc.serviceCol.other).state ≠ .exhausted ∨ s.linked .softener = false ∨ s.regenColumn.isSome =
          true) →
      exec .regenStart s = .next s.finish) ∧
    (∀ (s : State) (c : Column), s.on = true → s.regenPaused = false → s.regenColumn = some c →
      (s.column c).state = .regenBrine → s.sfc.brineSeen = true →
      exec .regenPhaseEnd s = .next
        ((((s.advance (s.column c).phaseLeft).onColumn c fun r =>
          { r with state := .regenSlow, phaseLeft := s.num SettingIx.slowRinseS * 1000 }).place
            (.softener .phaseStart c .regenSlow)).finish)) ∧
    (∀ (s : State) (c : Column), s.on = true → s.regenPaused = false → s.regenColumn = some c →
      (s.column c).state = .regenSlow →
      exec .regenPhaseEnd s = .next
        ((((s.advance (s.column c).phaseLeft).onColumn c fun r =>
          { r with state := .regenFast, phaseLeft := s.num SettingIx.fastRinseS * 1000 }).place
            (.softener .phaseStart c .regenFast)).finish)) ∧
    (∀ (s : State) (c : Column), s.on = true → s.regenPaused = false → s.regenColumn = some c →
      (s.column c).state = .regenFast →
      exec .regenPhaseEnd s = .next
        ((((((s.advance (s.column c).phaseLeft).onColumn c fun r =>
          { r with
            state := .ready, phaseLeft := 0, regens := min 65535 (r.regens + 1),
            capacity := s.num SettingIx.columnCapacity * r.condition *
              (if r.brineWeak then s.num SettingIx.saltLowCredit else 100) / 100 }).saveCounters).place
                (.softener .regenEnd c .ready)).retestDue).startRegen.finish)) ∧
    (∀ s : State, (s.regenPaused = true ∨ s.regenColumn = none) → exec .regenPhaseEnd s = .next s) ∧
    (∀ s : State, s.on = true → s.whu.phase ≠ .opened → s.whu.runOn = none → s.sfc.changeover = .none →
      s.linked .softener = false → 0 < (s.column s.sfc.serviceCol).capacity →
      (s.column s.sfc.serviceCol).capacity ≤ (s.sfc.acc + s.num SettingIx.inletHardness) / s.k →
      exec .flowPulse s = .next
        ((((((s.onSfc fun x =>
          { x with
            acc := s.sfc.acc + s.num SettingIx.inletHardness -
              (s.sfc.acc + s.num SettingIx.inletHardness) / s.k * s.k }).onColumn s.sfc.serviceCol fun r =>
                { r with capacity := 0 }).onSfc fun x =>
                  { x with target := x.serviceCol.other, changeover := .due }).warn .softenerExhausted 0)).finish)) ∧
    (∀ (s : State) (c : Column), s.on = true → s.regenPaused = false → s.regenColumn = some c →
      (s.column c).state = .regenBrine → s.sfc.brineSeen = false →
      exec .regenPhaseEnd s = .next
        (((((((s.advance (s.column c).phaseLeft).onColumn c fun r => { r with brineWeak := true }).warn .regenNoBrine
          (match c with
          | .a => 1
          | .b => 2))).onColumn c fun r =>
            { r with state := .regenSlow, phaseLeft := s.num SettingIx.slowRinseS * 1000 }).place
              (.softener .phaseStart c .regenSlow)).finish)) ∧
    (∀ s : State, s.on = true → s.whu.phase ≠ .opened → s.whu.runOn = none →
      0 < (s.column s.sfc.serviceCol).capacity →
      (s.column s.sfc.serviceCol).capacity ≤ (s.sfc.acc + s.num SettingIx.inletHardness) / s.k →
      (let t := s.onSfc fun x =>
          { x with
            acc := s.sfc.acc + s.num SettingIx.inletHardness -
              (s.sfc.acc + s.num SettingIx.inletHardness) / s.k * s.k };
        (∀ o : Octet, s.indication .softener = some o → o.toNat % 4 = 0 →
          exec .flowPulse s = .next
            (((t.onColumn s.sfc.serviceCol fun r =>
              { r with capacity := 0, condition := min 100 (r.condition + 5) }).changeoverTrigger).finish)) ∧
        ((∀ o : Octet, s.indication .softener = some o → o.toNat % 4 ≠ 0) →
          exec .flowPulse s = .next
            (((t.onColumn s.sfc.serviceCol fun r => { r with capacity := 0 }).changeoverTrigger).finish)))) ∧
    (∀ s : State, s.on = true → 0 < (s.column s.sfc.serviceCol).capacity →
      (s.column s.sfc.serviceCol).capacity ≤ (s.sfc.acc + s.num SettingIx.inletHardness) / s.k →
      (let spent := fun t : State =>
        ((({ t with
          sfc := { t.sfc with
            acc := s.sfc.acc + s.num SettingIx.inletHardness -
              (s.sfc.acc + s.num SettingIx.inletHardness) / s.k * s.k } } : State).onColumn s.sfc.serviceCol fun r =>
          { r with
            capacity := 0
            condition := match s.indication .softener with
              | some o => if o.toNat % 4 = 0 then min 100 (r.condition + 5) else r.condition
              | none => r.condition }).changeoverTrigger);
        let drawn := ({ s with
          whu := { s.whu with
            draw := min 65535 (s.whu.draw + 1), quietLeft := some (s.num SettingIx.flowQuiet) } } : State);
        let counted := fun t : State =>
          if t.csq.phase = CycleState.rinse then
            t.onCsq fun c => { c with rinse := { c.rinse with count := c.rinse.count + 1 } } else t;
        (s.whu.phase = .opened → s.whu.owner = some .tankFill → exec .flowPulse s = .next (spent drawn).finish) ∧
        (s.whu.phase = .opened → s.whu.owner = some .rinse →
          exec .flowPulse s = .next ((counted (spent drawn)).accruePulse).finish) ∧
        ∀ w : RunOn, s.whu.phase ≠ .opened → s.whu.runOn = some w →
          (let ran := ({ s with
            whu := { s.whu with runOn := some { w with pulses := min 65535 (w.pulses + 1) } } } : State);
            (w.user = .tankFill → exec .flowPulse s = .next (spent ran).finish) ∧
            (w.user = .rinse → exec .flowPulse s = .next ((counted (spent ran)).accruePulse).finish)))) ∧
    (∀ s : State,
      s.regenPaused = true ↔ s.whu.owner ≠ none ∨ s.linked .softener = false ∨ s.locked = true ∨
        s.sfc.changeover = .moving ∨ s.sfc.changeover = .returning ∨ s.sfc.changeover = .aligning) ∧
    (∀ (s : State) (n : Nat) (c : Column), s.on = true →
      ((s.advance n).column c).phaseLeft =
        (if (s.column c).state.regen = true ∧ s.regenPaused = false then (s.column c).phaseLeft - n
        else (s.column c).phaseLeft)) ∧
    (∀ (s : State) (c : Column) (o : Octet), s.regenColumn = some c →
      (isBrineFlow o = true → (s.column c).state = .regenBrine → s.regenPaused = false →
        s.followBrine o = { s with sfc := { s.sfc with brineSeen := true } }) ∧
      ((isBrineFlow o = false ∨ (s.column c).state ≠ .regenBrine ∨ s.regenPaused = true) → s.followBrine o = s)) ∧
    (∀ (s : State) (c : Column) (p o : Octet), s.regenColumn = some c → isSaltLow p = true → isSaltLow o = true →
      ((s.column c).state = .regenBrine →
        s.followSalt (some p) o = s.onColumn c fun r => { r with brineWeak := true }) ∧
      ((s.column c).state ≠ .regenBrine → s.followSalt (some p) o = s)) ∧
    (∀ (s : State) (p o : Octet),
      (2 ≤ o.toNat % 4 → p.toNat % 4 < 2 → 0 < (s.column s.sfc.serviceCol).capacity →
        s.breakthrough (some p) o =
          (s.onColumn s.sfc.serviceCol fun r =>
            { r with capacity := 0, condition := max 50 (r.condition - 5) }).changeoverTrigger) ∧
      ((o.toNat % 4 < 2 ∨ 2 ≤ p.toNat % 4 ∨ (s.column s.sfc.serviceCol).capacity = 0) →
        s.breakthrough (some p) o = s) ∧
      s.breakthrough none o = s) ∧
    ∀ s : State,
      (s.sfc.changeover = .none →
        (let t := ({ s with sfc := { s.sfc with target := s.sfc.serviceCol.other } } : State);
          ((s.column s.sfc.serviceCol.other).state = .ready → s.linked .softener = true →
            s.hasFault .valveStuck 0 = false →
            s.changeoverTrigger = ({ t with sfc := { t.sfc with changeover := .pending } }).startChangeover) ∧
          (((s.column s.sfc.serviceCol.other).state ≠ .ready ∨ s.linked .softener = false ∨
              s.hasFault .valveStuck 0 = true) →
            s.changeoverTrigger =
              ({ t with sfc := { t.sfc with changeover := .due } }).warn .softenerExhausted 0))) ∧
      (s.sfc.changeover = .aligning →
        s.changeoverTrigger = { s with sfc := { s.sfc with keptTrigger := true } }) ∧
      ((s.sfc.changeover = .due ∨ s.sfc.changeover = .pending ∨ s.sfc.changeover = .claimed ∨
          s.sfc.changeover = .moving ∨ s.sfc.changeover = .returning) → s.changeoverTrigger = s)

/-- O49. ORDER_START of a QUEUED head not started, with its module LINKED, no LOCKOUT, no unfit mark and STOP clear,
claims its load, marks the head and asks for the queue. A queue with room takes a DOSE of the steps, the order is
SENT and the watchdog is ceil(steps / max_steps_per_s) + 5 s. ORDER_WATCHDOG_EXPIRY sets STOP and raises
DOSER_STALL. A DONE of either channel with the tag of its SENT order takes the steps delivered (of a PRIME order all
of them) x ul_per_step from the stock and reports what is missing; reason AIR makes the channel empty and drops its
QUEUED orders, STALLED and every code above 4 raises DOSER_STALL, and FULL, STOPPED and HALTED do no more; then the
head leaves the list, the load is released, the low flag is evaluated, the next head is tested, and on RA the flush
mark. Any other tag or sender changes nothing. ORDER_START repeats a test that every event makes at its end (log
entry 25); the watchdog command is log entry 9. A PRIME order goes as PRIME of its seconds, with a watchdog of those
and 5 s; a full queue, or a module not LINKED, leaves the head waiting. (06_chemical_dosing.md, 6.2 Orders;
06_chemical_dosing.md, 6.5 The life of an order; 06_chemical_dosing.md, 6.6 Empty, stock and low;
06_chemical_dosing.md, 6.4 Rinse aid; 08_module_bus.md, 8.7 Messages) -/
def Obligations.OrdersStartAreWatchedAndEnd : Prop :=
  (∀ (c : Channel) (s : State), s.on = true → s.orderReady c = true → (s.claimOf (channelLoad c)).state = .idle →
      s.loadUnfit (channelLoad c) = false →
      exec (.orderStart c) s = .next
        (((((s.onClaim (channelLoad c) fun x =>
          { x with state := .waiting, claimTime := s.now, waitMs := 0, promoted := false }).walk).markHead c
            true).askOrder c).finish)) ∧
    (∀ (c : Channel) (o : Order) (rest : List Order) (s : State), (s.channel c).orders = o :: rest →
      (s.orderReady c = true ↔ o.state = .queued ∧ o.started = false ∧ s.linked (channelKind c) = true ∧
          s.locked = false ∧
        (s.channel c).unfit = false ∧ (s.channel c).stop = false)) ∧
    (∀ (c : Channel) (s : State), s.on = true → s.orderReady c = false → exec (.orderStart c) s = .next s.finish) ∧
    (∀ (c : Channel) (a : Addr) (o : Order) (rest : List Order) (n : Nat) (s : State), (s.channel c).orders =
        o :: rest →
      o.amount = .steps n → o.started = true → o.state = .queued → s.moduleOf (channelKind c) = some a →
      s.linkedAt a = true → s.mbi.queue.length < 8 → s.mbi.down.phase ≠ .idle →
      s.askOrder c =
        ({ s with
          mbi := { s.mbi with
            queue := s.mbi.queue ++
              [({ dest := a, body := .dose o.tag n, source := .dsc c, sending := false } : DownMsg)] } }).onChannel c fun r =>
          { r with
            orders := { o with state := .sent } :: rest,
            watchdogLeft := some
              (((n + (s.caps (channelKind c)).maxSteps - 1) / (s.caps (channelKind c)).maxSteps + 5) * 1000) }) ∧
    (∀ (c : Channel) (left : Nat) (s : State), s.on = true → s.watchdogLeft c = some left →
      exec (.orderWatchdogExpiry c) s = .next
        ((((s.advance left).onChannel c fun r => { r with stop := true, watchdogLeft := none }).warn .doserStall
          (channelDetail c)).finish)) ∧
    (∀ (c : Channel) (s : State), s.watchdogLeft c = none → exec (.orderWatchdogExpiry c) s = .next s) ∧
    (∀ (a : Addr) (tag : Octet) (d : BitVec 16) (o : Order) (n : Nat) (s : State), s.on = true →
      s.moduleOf .doseDet = some a → s.sentOrder .det = some o → o.tag = tag → o.amount = .steps n →
      exec (.done a tag d 0#8) s = .next
        (((State.lowEvent s ((((s.onChannel .det fun r =>
          { r with stock := r.stock - min n d.toNat * o.ulPerStep }).countDrop (n - min n d.toNat)).removeHead .det))
            .det).startOrder .det).finish)) ∧
    (∀ (a : Addr) (tag : Octet) (d : BitVec 16) (reason : Octet) (s : State), s.on = true →
      s.moduleOf .doseDet = some a → (∀ o, s.sentOrder .det = some o → o.tag ≠ tag) →
      exec (.done a tag d reason) s = .next s.finish) ∧
    (∀ (a : Addr) (tag : Octet) (d : BitVec 16) (reason : Octet) (s : State), s.on = true →
      s.moduleOf .doseDet ≠ some a → s.moduleOf .doseRa ≠ some a →
      exec (.done a tag d reason) s = .next s.finish) ∧
    (∀ (c : Channel) (a : Addr) (tag : Octet) (d : BitVec 16) (reason : Octet) (o : Order) (s : State), s.on = true →
      s.moduleOf (channelKind c) = some a → s.sentOrder c = some o → o.tag = tag →
      exec (.done a tag d reason) s = .next
        (let n := (match o.amount with
            | .steps m => min m d.toNat
            | .seconds _ => d.toNat);
          let short := (match o.amount with
            | .steps m => m - n
            | .seconds _ => 0);
          let t := (s.onChannel c fun r => { r with stock := r.stock - n * o.ulPerStep }).countDrop short;
          let u := (if reason = 0#8 ∨ reason = 3#8 ∨ reason = 4#8 then t
            else if reason = 2#8 then
              ((t.onChannel c fun r => { r with empty := true, stock := 0 }).dropQueued c).warn
                (match c with
                | .det => .detEmpty
                | .ra => .raEmpty) 0
            else t.warn .doserStall
              (match c with
              | .det => 1
              | .ra => 2));
          let v := State.lowEvent s
            ((u.onChannel c fun r =>
              { r with orders := r.orders.drop 1, watchdogLeft := none, stop := false }).release (channelLoad c)) c;
          (match c with
          | .det => v.startOrder .det
          | .ra => (v.startOrder .ra).flushTest).finish)) ∧
    (∀ (c : Channel) (s : State),
      s.dropQueued c =
        (s.onChannel c fun r => { r with orders := r.orders.filter fun o : Order => o.state ≠ .queued }).countDrop
          (listSteps ((s.channel c).orders.filter fun o : Order => o.state = .queued))) ∧
    (∀ s : State,
      (s.dsc.flush = true → s.dsc.ra.orders = [] → s.flushTest = s.placeOwed) ∧
      ((s.dsc.flush = false ∨ s.dsc.ra.orders ≠ []) → s.flushTest = s)) ∧
    ∀ (c : Channel) (a : Addr) (o : Order) (rest : List Order) (s : State), (s.channel c).orders = o :: rest →
      o.started = true → o.state = .queued → s.moduleOf (channelKind c) = some a →
      s.askOrder c =
        if s.linkedAt a = true ∧ s.mbi.queue.length < 8 then
          (({ s with
            mbi := { s.mbi with
              queue := s.mbi.queue ++
                [({ dest := a
                    body := (match o.amount with
                      | .steps n => .dose o.tag n
                      | .seconds n => .prime o.tag n)
                    source := .dsc c, sending := false } : DownMsg)] } } : State).choose).onChannel c fun r =>
            { r with
              orders := { o with state := .sent } :: rest
              watchdogLeft := some
                ((match o.amount with
                  | .steps n => (n + (s.caps (channelKind c)).maxSteps - 1) / (s.caps (channelKind c)).maxSteps + 5
                  | .seconds n => n + 5) * 1000) }
        else s

/-- O50. LATCH_RELEASE_TIMEOUT raises DOOR_LATCH_FAIL 1 and, in UNLATCH, cuts the vent. RETRACT_START, when ready,
claims DOOR_DRIVE and runs RETRACT for travel + 2 s; refused as unfit it is noticed and left owed; the test at an
event's end starts a ready one, but not one held since it was refused or ended as unfit (log entry 89);
RETRACT_TIME_LIMIT ends it with no mark owed and raises DOOR_BLOCKED. A MOVED for a PUSH QUEUED or DELIVERED sets the
reached position (at most 100, log entry 54) and the owed mark, raises DOOR_BLOCKED for BLOCKED and every reason above
3, starts the retract under the PUSH's claim or releases it, and is noticed; in the vent's PUSH it goes on to RETRACT,
FAN_ONLY set below 5 %. VENT entry clears LATCH, takes the recipe's figures and waits in UNLATCH, pushes at once with
the latch shown clear, or is cut without the module. PUSH goes to FAN_ONLY with DOOR_OBSTRUCTED or a refused claim, to
RETRACT with the door OPEN; RETRACT waits for a retract that runs, then a vent closed by the user is cut, one of 0 s
reports, and any other claims VENT_FAN in FAN_WAIT; the grant sets FAN and the vent timer, a refusal cuts the vent.
CLOSED accepted without FAN_ONLY marks or cuts the vent. The vent timer and the cooling window end it; its report in
VENT ends the cycle COMPLETE with its marks. RETRACT_START repeats a test that every event makes at its end (log entry
25); the timers are log entry 9; one notice per event is log entry 35; a claim withheld under a LOCKOUT read as a
refusal, so that the vent is cut, is log entry 36; CLOSED as the plain CLOSED is log entry 34. An accepted door octet
wakes, is recorded, ends a RETRACT and DOOR_BLOCKED by the home bit, raises again what a SOFT reset removed, is
noticed, raises DOOR_LATCH_FAIL 0 as STOP where LATCH, set in RINSE or DWELL, is shown clear with the door not OPEN,
and acts on the vent and the cycle. A PUSH whose claim is granted enqueues its MOVE. (07_door_drive_and_drying.md, 7.2
The latch; 07_door_drive_and_drying.md, 7.3 The pusher; 07_door_drive_and_drying.md, 7.4 The VENT phase;
02_the_wash_cycle.md, 2.8 DWELL and VENT; 07_door_drive_and_drying.md, 7.1 The door record) -/
def Obligations.DoorTimersAndPusherEnd : Prop :=
  (∀ (s : State) (left : Nat), s.on = true → s.dvc.releaseLeft = some left → s.dvc.vent.step ≠ .unlatch →
      exec .latchReleaseTimeout s = .next
        ((({ s.advance left with dvc := { (s.advance left).dvc with releaseLeft := none } }).warn
          .doorLatchFail 1).finish)) ∧
    (∀ (s : State) (left : Nat), s.on = true → s.dvc.releaseLeft = some left → s.dvc.vent.step = .unlatch →
      exec .latchReleaseTimeout s = .next
        ((({ s.advance left with dvc := { (s.advance left).dvc with releaseLeft := none } }).warn
          .doorLatchFail 1).cutVent.finish)) ∧
    (∀ s : State, s.dvc.releaseLeft = none → exec .latchReleaseTimeout s = .next s) ∧
    (∀ (s : State) (left : Nat), s.on = true → s.dvc.vent.step = .fan →
      (s.dvc.vent.timerLeft = some left → exec .ventTimerExpiry s = .next (s.advance left).reportVent.finish) ∧
        (s.dvc.vent.coolingLeft = some left → exec .coolingWindowEnd s = .next (s.advance left).reportVent.finish)) ∧
    (∀ s : State, s.dvc.vent.step ≠ .fan →
      exec .ventTimerExpiry s = .next s ∧ exec .coolingWindowEnd s = .next s) ∧
    (∀ s : State, (s.claimOf .ventFan).state = .idle → s.csq.phase ≠ .vent →
      s.reportVent =
        { s with
          dvc := { s.dvc with
            fan := false, vent := { s.dvc.vent with step := .none, timerLeft := none, coolingLeft := none } } }) ∧
    (∀ s : State, s.on = true → s.dvc.task = .none → s.dvc.owed = true → s.dvc.latch = false → s.linked .door = true →
      s.hasFault .doorObstructed 0 = false → s.locked = false → (s.claimOf .doorDrive).state = .idle →
      s.loadUnfit .doorDrive = false →
      exec .retractStart s = .next
        (let t := (s.onClaim .doorDrive fun c =>
            { c with state := .waiting, claimTime := s.now, waitMs := 0, promoted := false }).walk;
          ({ t with
            dvc := { t.dvc with
              task := .retract ((t.caps .door).travelDs * 100 + 2000), retract := true } }).finish)) ∧
    (∀ s : State, s.on = true → (s.dvc.task ≠ .none ∨ s.dvc.owed = false ∨ s.dvc.latch = true ∨ s.linked .door =
        false ∨
        s.hasFault .doorObstructed 0 = true ∨ s.locked = true) → exec .retractStart s = .next s.finish) ∧
    (∀ s : State, s.retractReady = true → (s.claimOf .doorDrive).state = .idle → s.loadUnfit .doorDrive = true →
      s.startRetract =
        ({ (s.tellUnfit .doorDrive) with dvc := { s.dvc with retractHeld := true } }).noteDoor none) ∧
    (∀ s : State,
      (s.retractReady = true → s.dvc.retractHeld = false → s.testRetract = s.startRetract) ∧
      (s.retractReady = true → s.dvc.retractHeld = true → s.testRetract = s) ∧
      (s.retractReady = false → s.testRetract = { s with dvc := { s.dvc with retractHeld := false } }) ∧
      s.fitEvent .doorDrive = { s with dvc := { s.dvc with retractHeld := false } }) ∧
    (∀ (s : State) (left : Nat), s.on = true → s.dvc.task = .retract left → s.dvc.vent.step ≠ .retract →
      exec .retractTimeLimit s = .next
        (((({ s.advance left with
          dvc := { (s.advance left).dvc with task := .none, retract := false, owed := false } }).release
            .doorDrive).doorBlocked).noteDoor none).finish) ∧
    (∀ s : State, s.dvc.task = .none → exec .retractTimeLimit s = .next s) ∧
    (∀ (a : Addr) (reached reason : Octet) (o : PushOrigin) (target : Nat) (s : State), s.on = true →
      s.moduleOf .door = some a → (s.dvc.task = .push o target .queued ∨ s.dvc.task = .push o target .delivered) →
      s.dvc.vent.step ≠ .push → reason ≠ 1#8 → reason.toNat ≤ 3 → s.dvc.latch = true →
      exec (.moved a reached reason) s = .next
        (((({ s with
          dvc := { s.dvc with lastReached := min 100 reached.toNat, owed := true, task := .none } }).release
            .doorDrive).noteDoor (some (reason, min 100 reached.toNat))).finish)) ∧
    (∀ (a : Addr) (reached reason : Octet) (s : State), s.on = true → s.moduleOf .door = some a → s.movedTaken =
        false →
      exec (.moved a reached reason) s = .next s.finish) ∧
    (∀ (a : Addr) (reached reason : Octet) (s : State), s.on = true → s.moduleOf .door ≠ some a →
      exec (.moved a reached reason) s = .next s.finish) ∧
    (∀ (s : State), (let t := ({ (({ s with csq := { s.csq with phase := .vent } }).notePhase) with
          dvc := { s.dvc with
            latch := false
            releaseLeft := if s.latchEngaged = some false then none else some 2000
            vent :=
              { step := .unlatch, pct := s.recipe.ventPct, secs := s.recipe.ventS, ventCut := false, doorBlocked := false,
                fanOnly := false, closedByUser := false, timerLeft := none, coolingLeft := none } } } : State);
        (s.linked .door = false → s.enterVent = t.cutVent) ∧
        (s.linked .door = true → s.latchEngaged = some false → s.enterVent = t.ventPush) ∧
        (s.linked .door = true → s.latchEngaged ≠ some false → s.enterVent = t))) ∧
    (∀ s : State, (let t := s.onVent fun v : Vent => { v with step := .push };
        (t.hasFault .doorObstructed 0 = true → s.ventPush = t.fanOnly) ∧
        (t.hasFault .doorObstructed 0 = false → t.dvc.door = .opened → s.ventPush = t.ventRetract) ∧
        (t.hasFault .doorObstructed 0 = false → t.dvc.door ≠ .opened →
          ∀ u : State,
            (t.startPush .vent (min t.dvc.vent.pct (t.caps .door).maxPct) = (u, true) → s.ventPush = u.fanOnly) ∧
            (t.startPush .vent (min t.dvc.vent.pct (t.caps .door).maxPct) = (u, false) → s.ventPush = u)))) ∧
    (∀ s : State, s.fanOnly = (s.onVent fun v : Vent => { v with fanOnly := true }).ventRetract) ∧
    (∀ s : State, (let t := (s.onVent fun v : Vent => { v with step := .retract }).startRetract;
        (t.retracting = true → s.ventRetract = t) ∧
        (t.retracting = false → s.ventRetract = t.afterRetract))) ∧
    (∀ s : State,
      (s.dvc.vent.closedByUser = true → s.afterRetract = s.cutVent) ∧
      (s.dvc.vent.closedByUser = false → s.dvc.vent.secs = 0 → s.afterRetract = s.reportVent) ∧
      (s.dvc.vent.closedByUser = false → s.dvc.vent.secs ≠ 0 → s.afterRetract = s.waitFan)) ∧
    (∀ s : State, (s.claimOf .ventFan).state = .idle →
      (s.locked = true → s.waitFan = (s.onVent fun v : Vent => { v with step := .fanWait }).cutVent) ∧
      (s.locked = false → s.loadUnfit .ventFan = false →
        s.waitFan = (((s.onVent fun v : Vent => { v with step := .fanWait }).onClaim .ventFan fun c =>
          { c with state := .waiting, claimTime := s.now, waitMs := 0, promoted := false }).walk)) ∧
      (s.locked = false → s.loadUnfit .ventFan = true →
        s.waitFan = ((s.onVent fun v : Vent => { v with step := .fanWait }).tellUnfit .ventFan).cutVent)) ∧
    (∀ s : State,
      (s.dvc.vent.step = .fanWait →
        s.fanGranted =
          { s with
            dvc := { s.dvc with
              fan := true, vent := { s.dvc.vent with step := .fan, timerLeft := some (s.dvc.vent.secs * 1000) } } }) ∧
      (s.dvc.vent.step ≠ .fanWait → s.fanGranted = s)) ∧
    (∀ s : State, s.cutVent =
      ((s.abandonTask.withdrawMove).onVent fun v : Vent => { v with ventCut := true }).reportVent) ∧
    (∀ s : State, s.csq.phase = .vent →
      s.reportVent =
        (((({ s with dvc := { s.dvc with fan := false } }).release .ventFan).onVent fun v : Vent =>
          { v with step := .none, timerLeft := none, coolingLeft := none }).onCsq fun c : Csq =>
            { c with
              record := c.record.map fun r : CycleRecord =>
                { r with
                  ventCut := r.ventCut || s.dvc.vent.ventCut
                  doorBlocked := r.doorBlocked || s.dvc.vent.doorBlocked } }).endCycle .complete) ∧
    (∀ (a : Addr) (reached reason : Octet) (o : PushOrigin) (target : Nat) (s : State), s.on = true →
      s.moduleOf .door = some a → (s.dvc.task = .push o target .queued ∨ s.dvc.task = .push o target .delivered) →
      (s.claimOf .doorDrive).state ≠ .idle →
      exec (.moved a reached reason) s = .next
        (let q := if 3 < reason.toNat then 1#8 else reason;
          let p := min 100 reached.toNat;
          let t := ({ s with dvc := { s.dvc with lastReached := p, owed := true, task := .none } } : State);
          let u := (if q = 1#8 then
              (if s.dvc.vent.step = .none then t else t.onVent fun v : Vent => { v with doorBlocked := true }).warn
                .doorBlocked 0
            else t);
          let w := ((if u.dvc.latch = false ∧ u.linked .door = true ∧ u.hasFault .doorObstructed 0 = false ∧
                u.locked = false then
              ({ u with
                dvc := { u.dvc with task := .retract ((u.caps .door).travelDs * 100 + 2000), retract := true } } : State)
            else u.release .doorDrive).noteDoor (some (q, p)));
          (if s.dvc.vent.step = .push then
            (if p < 5 then w.onVent fun v : Vent => { v with fanOnly := true } else w).ventRetract
          else w).finish)) ∧
    (∀ (s : State) (step : VentStep) (confirmed retracted : Bool),
      (s.dvc.vent.step ≠ step → s.ventDoor step confirmed retracted = s) ∧
      (s.dvc.vent.step = .unlatch →
        (confirmed = true → s.ventDoor .unlatch confirmed retracted = s.ventPush) ∧
        (confirmed = false → s.ventDoor .unlatch confirmed retracted = s)) ∧
      (s.dvc.vent.step = .push → s.dvc.door = .closed → s.dvc.vent.fanOnly = false →
        s.ventDoor .push confirmed retracted = s.onVent fun v : Vent => { v with closedByUser := true }) ∧
      (s.dvc.vent.step = .retract → retracted = true → (s.dvc.door ≠ .closed ∨ s.dvc.vent.fanOnly = true) →
        s.ventDoor .retract confirmed retracted = s.afterRetract) ∧
      (s.dvc.vent.step = .retract → retracted = true → s.dvc.door = .closed → s.dvc.vent.fanOnly = false →
        s.ventDoor .retract confirmed retracted =
          (s.onVent fun v : Vent => { v with closedByUser := true }).afterRetract) ∧
      ((s.dvc.vent.step = .fanWait ∨ s.dvc.vent.step = .fan) → s.dvc.door = .closed → s.dvc.vent.fanOnly = false →
        s.ventDoor s.dvc.vent.step confirmed retracted = s.cutVent) ∧
      ((s.dvc.vent.step = .fanWait ∨ s.dvc.vent.step = .fan) → (s.dvc.door ≠ .closed ∨ s.dvc.vent.fanOnly = true) →
        s.ventDoor s.dvc.vent.step confirmed retracted = s)) ∧
    (∀ (s : State) (previous : Option Octet) (o : Octet),
      s.doorAccepted previous o =
        (let home := (doorBitsOf o).home;
          let ended := s.retracting && home;
          let a := (s.wake .door).recordDoor previous o;
          let b := (if ended = true then
              ({ a with dvc := { a.dvc with task := .none, retract := false } } : State).release .doorDrive else a);
          let c := ((if home = true ∧ doorStateOf o ≠ .blocked then b.endCondition .doorBlocked 0
            else b).recallDoor home);
          let d := (if ended = true ∨ s.dvc.door ≠ doorStateOf o ∨ s.dvc.bits ≠ some (doorBitsOf o) then
              c.noteDoor none else c);
          let e := (if d.dvc.latch = true ∧ (d.csq.phase = CycleState.rinse ∨ d.csq.phase = CycleState.dwell) ∧
              d.latchEngaged = some false ∧ d.dvc.door ≠ DoorState.opened then d.raise .doorLatchFail 0 .stop else d);
          ((e.ventDoor s.dvc.vent.step (s.dvc.releaseLeft.isSome && !(doorBitsOf o).latch) ended).cycleDoor).latchDoor)) ∧
    (∀ (s : State) (home : Bool),
      s.recallDoor home =
        (let t := ({ s with dvc := { s.dvc with blockedGone := false, latchGone := false } } : State);
          let u := (if s.dvc.blockedGone = true ∧ (home = false ∨ s.dvc.door = .blocked) ∧
              s.hasFault .doorBlocked 0 = false then t.warn .doorBlocked 0 else t);
          if s.dvc.latchGone = true ∧ s.latchEngaged = some true ∧ s.dvc.latch = false ∧
              s.hasFault .doorLatchFail 1 = false then u.warn .doorLatchFail 1
          else u)) ∧
    ∀ (s : State) (a : Addr) (o : PushOrigin) (target : Nat), s.dvc.task = .push o target .claimed →
      s.moduleOf .door = some a → s.linkedAt a = true → s.granted .doorDrive = true →
      s.askMove =
        if s.mbi.queue.length < 8 then
          ({ ({ s with
            mbi := { s.mbi with
              queue := s.mbi.queue ++
                [({ dest := a, body := .move target, source := .dvc, sending := false } : DownMsg)] } } : State).choose with
            dvc := { s.dvc with task := .push o target .queued } } : State)
        else s

/-- O51. FRAME_END on a running line takes the frame end and the starts of its event; then, the line unbroken, it
builds the next frame. In a break it changes nothing. A frame built carries its number in slot 22 and, in every bay,
the command bits of its owner, GO set exactly while the motor load of the expected kind is granted and the halt flag
clear, PRESENT exactly while the address is LINKED, and a CRC-4 that matches. A good bay's octet equal to the accepted
one clears the candidate; equal to the candidate of the frame before it is accepted, and at a LINKED address goes to
the owner of its kind; else it becomes the candidate. A bad bay clears the candidate and raises bay_errors; at a
LINKED entry it counts as silent, the 16th being the loss, and in COUNT it sets the count to 0. An accepted door octet
writes the record, opened flag, release timer and owed mark, with one DOOR notice for a change and for a RETRACT ended
by the home bit (log entry 35), and wakes; in RINSE_WAIT it confirms the latch or raises DOOR_LATCH_FAIL 0. An
accepted softener octet acts in the order hardness, salt, brine, valve (log entry 62): the target reached completes a
MOVING changeover, VALVE_FAULT fails it; SALT_LOW is recorded, raised or ended, sets brine_weak in BRINE, and is
noticed at a change of the state last followed (log 41, 100), with the column of log entry 42. The frame end in order:
an inlet in OPENING opens if the frame sent had BRINE and RINSE_DRAIN clear, or no address expects a softener, HALT is
read, the bays, the channels, the stuck watch. HALT sets the flag and raises DOOR_OBSTRUCTED; a PUSH not DELIVERED and
a RETRACT end with the mark kept; two released frames start its timer of 1 s. The order of the frame end is log
entries 21 and 96, an acceptance before the status bits of its bay log entry 87, the opening by any such frame log
entry 27, the starts of a frame end log entry 25, and a downstream phase judged only when shown log entry 30.
(08_module_bus.md, 8.1 Frames; 08_module_bus.md, 8.2 Slots; 08_module_bus.md, 8.3 Checks; 08_module_bus.md, 8.5
Double-look; 03_mains_load_budget.md, 3.8 Halt, GO and the fan; 07_door_drive_and_drying.md, 7.1 The door record;
04_water_softening.md, 4.5 Changeover; 04_water_softening.md, 4.6 Regeneration; 09_module_supervision.md, 9.5 Loss and
relink; 02_the_wash_cycle.md, 2.6 RINSE_WAIT; 08_module_bus.md, 8.6 GO and HALT; 01_water_path_and_heat.md, Inlet
valve) -/
def Obligations.FrameEndTakesEveryBayAndBuildsTheNext : Prop :=
  (∀ (up : UpFrame) (s : State), s.on = true → s.mbi.line = .running →
      (let t := (s.endFrame up).finish;
        (t.mbi.line = .running →
          exec (.frameEnd up) s = .next
            ({ t with
              mbi := { t.mbi with
                frameNo := (t.mbi.frameNo + 1) % 256
                dn := State.frameOf (t.dnOctets ((t.mbi.frameNo + 1) % 256))
                down := { t.mbi.down with shown := true } } } : State)) ∧
        (t.mbi.line ≠ .running → exec (.frameEnd up) s = .next t))) ∧
    (∀ (up : UpFrame) (s : State) (left : Nat), s.on = true → s.mbi.line = .brk left →
      exec (.frameEnd up) s = .next s.finish) ∧
    (∀ (s : State) (n : Nat), n < 256 → ((s.buildFrame n).mbi.dn.get 22).toNat = n) ∧
    (∀ (s : State) (n : Nat) (a : Addr),
      ((s.buildFrame n).mbi.dn.get ⟨2 * a.val + 1, by omega⟩).getLsbD 7 =
        ((match s.kindAt a with
          | .door => s.granted .doorDrive
          | .softener => s.granted .valveMotor
          | .doseDet => s.granted .doserDet
          | .doseRa => s.granted .doserRa
          | .none => false) && !s.lba.halt)) ∧
    (∀ (s : State) (n : Nat) (a : Addr),
      ((s.buildFrame n).mbi.dn.get ⟨2 * a.val + 1, by omega⟩).getLsbD 6 = decide ((s.entry a).link = .linked)) ∧
    (∀ (s : State) (n : Nat) (a : Addr), State.bayGood (s.buildFrame n).mbi.dn a = true) ∧
    (∀ (s : State) (a : Addr) (o : Octet) (n : Nat), (s.entry a).link ≠ .linked → (s.bay a).accepted ≠ some o →
      (s.bay a).candidate = some (o, n) → (n + 1) % 256 = s.mbi.frameNo →
      s.lookBay a o = s.onBay a fun _ => { candidate := none, accepted := some o }) ∧
    (∀ (s : State) (a : Addr) (o : Octet), (s.bay a).accepted ≠ some o →
      (∀ n, (s.bay a).candidate = some (o, n) → (n + 1) % 256 ≠ s.mbi.frameNo) →
      s.lookBay a o = s.onBay a fun b => { b with candidate := some (o, s.mbi.frameNo) }) ∧
    (∀ (up : UpFrame) (s : State) (a : Addr), State.bayGood up a = false → (s.entry a).link = .notExpected →
      State.takeBay up s a =
        (s.onBay a fun b => { b with candidate := none }).onEntry a fun e =>
          { e with bayErrors := min 65535 (e.bayErrors + 1) }) ∧
    (∀ (s : State) (n : Nat) (a : Addr),
      (s.kindAt a = .door →
        ((s.buildFrame n).mbi.dn.get ⟨2 * a.val, by omega⟩).getLsbD 7 = s.dvc.latch ∧
        ((s.buildFrame n).mbi.dn.get ⟨2 * a.val, by omega⟩).getLsbD 6 = (s.dvc.fan && s.granted .ventFan) ∧
        ((s.buildFrame n).mbi.dn.get ⟨2 * a.val, by omega⟩).getLsbD 5 = s.dvc.retract) ∧
      (s.kindAt a = .softener →
        ((s.buildFrame n).mbi.dn.get ⟨2 * a.val, by omega⟩).getLsbD 4 = decide (s.sfc.serve = .b) ∧
        ((s.buildFrame n).mbi.dn.get ⟨2 * a.val, by omega⟩).getLsbD 6 = (!s.regenPaused && s.regenColumn.isSome) ∧
        (∀ c : Column, s.regenColumn = some c →
          ((s.buildFrame n).mbi.dn.get ⟨2 * a.val, by omega⟩).getLsbD 7 =
              (!s.regenPaused && decide ((s.column c).state = .regenBrine)) ∧
            ((s.buildFrame n).mbi.dn.get ⟨2 * a.val, by omega⟩).getLsbD 5 =
              (!s.regenPaused && decide ((s.column c).state = .regenFast))) ∧
        (s.regenColumn = none →
          ((s.buildFrame n).mbi.dn.get ⟨2 * a.val, by omega⟩).getLsbD 7 = false ∧
            ((s.buildFrame n).mbi.dn.get ⟨2 * a.val, by omega⟩).getLsbD 5 = false)) ∧
      (s.kindAt a = .doseDet →
        ((s.buildFrame n).mbi.dn.get ⟨2 * a.val, by omega⟩).getLsbD 7 = s.dsc.det.stop) ∧
      (s.kindAt a = .doseRa →
        ((s.buildFrame n).mbi.dn.get ⟨2 * a.val, by omega⟩).getLsbD 7 = s.dsc.ra.stop)) ∧
    (∀ (s : State) (a : Addr) (o : Octet), (s.bay a).accepted = some o →
      s.lookBay a o = s.onBay a fun b => { b with candidate := none }) ∧
    (∀ (s : State) (a : Addr) (o : Octet) (n : Nat), (s.entry a).link = .linked → (s.bay a).accepted ≠ some o →
      (s.bay a).candidate = some (o, n) → (n + 1) % 256 = s.mbi.frameNo → s.moduleOf (s.kindAt a) = some a →
      (s.kindAt a = .door →
        s.lookBay a o =
          (s.onBay a fun _ => { candidate := none, accepted := some o }).doorAccepted (s.bay a).accepted o) ∧
      (s.kindAt a = .softener →
        s.lookBay a o =
          (s.onBay a fun _ => { candidate := none, accepted := some o }).softenerAccepted (s.bay a).accepted o) ∧
      ((s.kindAt a = .doseDet ∨ s.kindAt a = .doseRa) →
        s.lookBay a o = s.onBay a fun _ => { candidate := none, accepted := some o })) ∧
    (∀ (up : UpFrame) (s : State) (a : Addr), State.bayGood up a = true →
      State.takeBay up s a = (s.lookBay a (State.bayOctets up a).1).goodBay a (State.bayStatus up a)) ∧
    (∀ (up : UpFrame) (s : State) (a : Addr), State.bayGood up a = false →
      (let t := (s.onBay a fun b => { b with candidate := none }).onEntry a fun e =>
          { e with bayErrors := min 65535 (e.bayErrors + 1) };
        ((s.entry a).link = .linked → 16 ≤ (s.entry a).silent + 1 →
          State.takeBay up s a = t.lose a .lost (.count 0) none) ∧
        ((s.entry a).link = .linked → (s.entry a).silent + 1 < 16 → (s.entry a).bringUp = .count 0 →
          (s.entry a).unpinLeft = none →
          State.takeBay up s a = t.onEntry a fun e => { e with silent := e.silent + 1 }) ∧
        (((s.entry a).link = .seeking ∨ (s.entry a).link = .lost) → (∃ n, (s.entry a).bringUp = .count n) →
          (s.entry a).unpinLeft = none →
          State.takeBay up s a = t.onEntry a fun e => { e with bringUp := .count 0 }))) ∧
    (∀ (s : State) (previous : Option Octet) (o : Octet),
      s.recordDoor previous o =
        { s with
          dvc := { s.dvc with
            door := doorStateOf o, bits := some (doorBitsOf o)
            openedFlag := decide (doorStateOf o = .ajar ∨ doorStateOf o = .opened ∨ doorStateOf o = .pushing ∨
              doorStateOf o = .blocked) || s.dvc.openedFlag
            releaseLeft := if (doorBitsOf o).latch then s.dvc.releaseLeft else none
            owed := if (doorBitsOf o).home then false else s.dvc.owed || previous.isNone } }) ∧
    (∀ (s : State) (previous : Option Octet) (o : Octet), s.dvc.vent.step = .none → s.csq.phase = .idle →
      s.retracting = false → s.dvc.blockedGone = false → s.dvc.latchGone = false →
      s.hasFault .doorBlocked 0 = false →
      s.doorAccepted previous o =
        ((if s.dvc.door = doorStateOf o ∧ s.dvc.bits = some (doorBitsOf o) then s.recordDoor previous o
        else (s.recordDoor previous o).noteDoor none).wake .door)) ∧
    (∀ (s : State) (previous : Option Octet) (o : Octet) (left : Nat), s.dvc.vent.step = .none →
      s.csq.phase = .idle → s.dvc.task = .retract left → (doorBitsOf o).home = true → s.dvc.blockedGone = false →
      s.dvc.latchGone = false → s.hasFault .doorBlocked 0 = false →
      s.doorAccepted previous o =
        ((({ s.recordDoor previous o with
          dvc := { (s.recordDoor previous o).dvc with task := .none, retract := false } }).release
            .doorDrive).noteDoor none).wake .door) ∧
    (∀ s : State, s.csq.phase = .rinseWait →
      (s.latchEngaged = some true →
        s.latchDoor =
          { s with
            csq := { s.csq with rinseWait := { s.csq.rinseWait with confirmLeft := none, confirmed := true } } }) ∧
      (s.latchEngaged = some false → s.csq.rinseWait.confirmed = true →
        s.latchDoor = s.raise .doorLatchFail 0 .stop) ∧
      (s.latchEngaged = some false → s.csq.rinseWait.confirmed = false → s.latchDoor = s)) ∧
    (∀ (s : State) (previous : Option Octet) (o : Octet),
      s.softenerAccepted previous o =
        (let t := (((((((s.breakthrough previous o).followSalt previous o).followBrine o).followValve
            (valveOf o)).recallStuck (valveOf o)).followServe (valveOf o)).retestDue);
          { t with sfc := { t.sfc with alignHeld := false } })) ∧
    (∀ (s : State), s.sfc.changeover = .moving → s.sfc.target ≠ s.sfc.serviceCol →
      s.followValve (.serves s.sfc.target) =
        (((((s.onColumn s.sfc.serviceCol fun r => { r with state := .exhausted, capacity := 0 }).onColumn s.sfc.target
          fun r => { r with state := .service }).onSfc fun x : Sfc =>
            { x with serviceCol := s.sfc.target, changeover := .none, moveLeft := none }).release
              .valveMotor).noteSoftener .changeoverComplete s.sfc.target).startRegen) ∧
    (∀ (s : State), s.sfc.changeover = .moving →
      (s.followValve .fault = (({ s with
        sfc := { s.sfc with
          serve := s.sfc.serviceCol, changeover := .returning, moveLeft := some s.sfc.moveLimit } }).warn
            .valveStuck 0)) ∧
      s.followValve .moving = s) ∧
    (∀ (s : State) (previous : Option Octet) (o : Octet),
      (let u := (match s.regenColumn with
          | some c =>
            if (s.column c).state = ColumnState.regenBrine then s.onColumn c fun r => { r with brineWeak := true } else s
          | none => s);
        (isSaltLow o = true → (∀ p, previous = some p → isSaltLow p = false) →
          s.followSalt previous o =
            (({ u with sfc := { u.sfc with saltLow := true } }).warn .saltLow 0).noteSoftener .saltLowSet
              s.sfc.serviceCol) ∧
        (isSaltLow o = true → (∃ p, previous = some p ∧ isSaltLow p = true) → s.followSalt previous o = u)) ∧
      (isSaltLow o = false → s.sfc.saltLow = true →
        s.followSalt previous o =
          (({ s with sfc := { s.sfc with saltLow := false } }).endCondition .saltLow 0).noteSoftener .saltLowCleared
            s.sfc.serviceCol) ∧
      (isSaltLow o = false → s.sfc.saltLow = false → s.followSalt previous o = s.endCondition .saltLow 0)) ∧
    (∀ (up : UpFrame) (s : State),
      (let t := (s.inletFrame.readHalt (!(up.get 22).getLsbD 7)).takeBays up;
        let u := if s.mbi.down.shown = true ∧ t.mbi.down.shown = true then t.downFrame up else t;
        let v := (match u.mbi.grant with
          | some g => u.upFrame up g
          | none => u);
        s.endFrame up = (v.readRequest (up.get 16)).watchFrame (decide (∀ i : Fin 24, up.get i = 0#8)))) ∧
    (∀ (up : UpFrame) (s : State),
      s.takeBays up =
        ([0, 1, 2, 3, 4, 5, 6, 7] : List Addr).foldl (fun x a => State.takeBay up x a) s) ∧
    (∀ s : State,
      (s.whu.phase ≠ .opening → s.inletFrame = s) ∧
      (s.whu.phase = .opening →
        (let t := ({ s with
            whu := { s.whu with phase := .opened, quietLeft := some (s.num SettingIx.flowQuiet), runOn := none } } : State);
          (∀ a : Addr, s.moduleOf .softener = some a →
            ((s.mbi.dn.get ⟨2 * a.val, by omega⟩).getLsbD 7 = true ∨
              (s.mbi.dn.get ⟨2 * a.val, by omega⟩).getLsbD 6 = true) → s.inletFrame = s) ∧
          ((∀ a : Addr, s.moduleOf .softener = some a →
              (s.mbi.dn.get ⟨2 * a.val, by omega⟩).getLsbD 7 = false ∧
                (s.mbi.dn.get ⟨2 * a.val, by omega⟩).getLsbD 6 = false) →
            (s.whu.runOn = none → s.inletFrame = t) ∧
            (∀ w : RunOn, s.whu.runOn = some w →
              s.inletFrame =
                t.deliverReport (some { user := w.user, pulses := w.pulses, outcome := w.outcome })))))) ∧
    (∀ s : State,
      (s.lba.halt = false →
        s.readHalt true =
          ({ s with lba := { s.lba with halt := true, haltClearLeft := none, released := 0 } }).haltDoor) ∧
      (s.lba.halt = true →
        s.readHalt true = { s with lba := { s.lba with haltClearLeft := none, released := 0 } }) ∧
      (s.lba.halt = true → s.lba.haltClearLeft = none → s.lba.released = 0 →
        s.readHalt false = { s with lba := { s.lba with released := 1 } }) ∧
      (s.lba.halt = true → s.lba.haltClearLeft = none → s.lba.released ≠ 0 →
        s.readHalt false = { s with lba := { s.lba with released := 0, haltClearLeft := some 1000 } }) ∧
      ((s.lba.halt = false ∨ s.lba.haltClearLeft ≠ none) → s.readHalt false = s)) ∧
    (∀ s : State,
      (let t := s.raise .doorObstructed 0 .stop;
        (t.dvc.task = .none → s.haltDoor = t) ∧
        (∀ (o : PushOrigin) (target : Nat), t.dvc.task = .push o target .delivered → s.haltDoor = t) ∧
        (∀ (o : PushOrigin) (target : Nat),
          (t.dvc.task = .push o target .claimed ∨ t.dvc.task = .push o target .queued) →
          s.haltDoor =
            ((({ t with dvc := { t.dvc with task := .none, owed := true } }).release .doorDrive).withdrawMove).ventGoesOn) ∧
        (∀ left : Nat, t.dvc.task = .retract left →
          s.haltDoor =
            ((({ t with dvc := { t.dvc with task := .none, retract := false } }).release .doorDrive).noteDoor
              none).ventGoesOn))) ∧
    ∀ s : State,
      (s.dvc.vent.step = .push → s.ventGoesOn = s.fanOnly) ∧
      (s.dvc.vent.step = .retract → s.ventGoesOn = s.afterRetract) ∧
      (s.dvc.vent.step ≠ .push → s.dvc.vent.step ≠ .retract → s.ventGoesOn = s)

/-- O52. Downstream, a good frame with ECHO and STOP at 0 moves PREPARE to the header, one whose ECHO is the octet's
TGL with STOP 0 moves to the next octet or CLOSING, and the second good frame in a row of CLOSING, or its 50th frame,
delivers; a frame that brings no move counts, and STOP in two good frames running or 50 frames abandon. Delivered, a
message leaves the queue, a MOVE is DELIVERED at its PUSH, a query starts the answer timer, and the blocks that wait
for room ask again. Abandoned, it raises msg_aborts, a dose is taken as DONE 0 STOPPED, a MOVE as MOVED of GO_LOST at
the last position, a query brings a return to COUNT. Upstream, the second like look of MSG 1 with a new TGL takes an
octet: a header of the three kinds with its length, another with STOP and an abort counted, a body octet. A second
good frame of MSG 0 delivers the whole message to its receiver or counts an abort, and ends the grant; so does the
50th frame without progress, good or not; a bad frame drops the look and its count of MSG 0, and an octet beyond the
length sets STOP; ten frames without a message withdraw the grant with a lapse. A request in slot 16 is granted when
no grant stands. The commands that name a count act at once in the states where that count runs, and do nothing in any
other (log entry 18); a frame that moves or takes at its 50th is log entries 65 and 66, and that a bad frame breaks a
run of STOP is log entry 30. A query abandoned for an entry that has left QUERY changes nothing at it (log entry 76).
A refused header that counts an abort at once, and its message another when discarded, is log entry 29; the order in
which the blocks ask again is log entry 86, and that they ask at the end of the event, as does the choice of the next
message, log entry 106. (08_module_bus.md, 8.8 The handshake; 08_module_bus.md, 8.9 The downstream queue;
08_module_bus.md, 8.10 Upstream grant; 09_module_supervision.md, 9.6 Status bits and counts; 09_module_supervision.md,
9.2 Bring-up; 08_module_bus.md, 8.7 Messages; 06_chemical_dosing.md, 6.5 The life of an order) -/
def Obligations.MessageChannelsEndTheirMessages : Prop :=
  (∀ (s : State) (m : DownMsg) (c : Channel) (n : Nat), s.on = true → s.mbi.down.phase = .closing n →
      s.sendingMsg = some m → m.source = .dsc c →
      exec .messageDelivered s = .next
          (({ s with
            mbi := { s.mbi with
              queue := s.mbi.queue.filter fun x => !x.sending, down := DownChan.reset } }).dequeued.finish) ∧
        exec .closingLimit s = .next
          (({ s with
            mbi := { s.mbi with
              queue := s.mbi.queue.filter fun x => !x.sending, down := DownChan.reset } }).dequeued.finish)) ∧
    (∀ s : State, s.on = true → s.downCloses = false →
      exec .messageDelivered s = .next s.finish ∧ exec .closingLimit s = .next s.finish) ∧
    (∀ (s : State) (m : DownMsg), s.on = true → s.downStands = true → s.sendingMsg = some m → m.source = .dvc →
      exec .downstreamNoProgress s = .next
        ((((({ s with
          mbi := { s.mbi with
            queue := s.mbi.queue.filter fun x => !x.sending, down := DownChan.reset } }).onEntry m.dest fun e =>
              { e with msgAborts := min 65535 (e.msgAborts + 1) }).moved s.dvc.lastReached 2#8).dequeued).finish)) ∧
    (∀ s : State, s.on = true → s.downStands = false → exec .downstreamNoProgress s = .next s.finish) ∧
    (∀ (s : State) (g : Grant), s.on = true → s.mbi.grant = some g → g.msgSeen = true →
      exec .upstreamNoProgress s = .next
          ((({ s with mbi := { s.mbi with grant := none, up := UpChan.reset } }).onEntry g.owner fun e =>
            { e with msgAborts := min 65535 (e.msgAborts + 1) }).finish) ∧
        exec .grantWithdrawal s = .next s.finish) ∧
    (∀ (s : State) (g : Grant), s.on = true → s.mbi.grant = some g → g.msgSeen = false →
      exec .grantWithdrawal s = .next
          ((({ s with mbi := { s.mbi with grant := none, up := UpChan.reset } }).onEntry g.owner fun e =>
            { e with grantLapses := min 255 (e.grantLapses + 1) }).finish) ∧
        exec .upstreamNoProgress s = .next s.finish) ∧
    (∀ s : State, s.on = true → s.mbi.grant = none →
      exec .upstreamNoProgress s = .next s.finish ∧ exec .grantWithdrawal s = .next s.finish) ∧
    (∀ (s : State) (m : DownMsg) (n : Nat), s.on = true → s.mbi.down.phase = .closing n → s.sendingMsg = some m →
      (let t := ({ s with
          mbi := { s.mbi with
            queue := s.mbi.queue.filter fun x => !x.sending, down := DownChan.reset } } : State);
        (∀ (o : PushOrigin) (target : Nat), m.source = .dvc → s.dvc.task = .push o target .queued →
          exec .messageDelivered s = .next
            (({ t with dvc := { t.dvc with task := .push o target .delivered } }).dequeued.finish)) ∧
        (m.source = .msu → ((s.entry m.dest).link = .seeking ∨ (s.entry m.dest).link = .lost) →
          (s.entry m.dest).bringUp = .query →
          exec .messageDelivered s = .next
            ((t.onEntry m.dest fun e => { e with bringUp := .answer 250 }).dequeued.finish)) ∧
        (m.source = .msu → (s.entry m.dest).link = .linked →
          exec .messageDelivered s = .next
            ((t.onEntry m.dest fun e => { e with unpinLeft := some 250 }).dequeued.finish)))) ∧
    (∀ (s : State) (m : DownMsg), s.on = true → s.downStands = true → s.sendingMsg = some m →
      (let t := ({ s with
          mbi := { s.mbi with
            queue := s.mbi.queue.filter fun x => !x.sending, down := DownChan.reset } }).onEntry m.dest fun e =>
              { e with msgAborts := min 65535 (e.msgAborts + 1) };
        (∀ (c : Channel) (tag : Octet) (n : Nat), m.source = .dsc c → (m.body = .dose tag n ∨ m.body = .prime tag n) →
          exec .downstreamNoProgress s = .next ((t.takeDone c tag 0 3#8).dequeued.finish)) ∧
        (m.source = .msu →
          exec .downstreamNoProgress s = .next
            ((if (s.entry m.dest).bringUp = .query then t.returnToCount m.dest else t).dequeued.finish)))) ∧
    (∀ (up : UpFrame) (s : State) (m : DownMsg), s.sendingMsg = some m →
      (s.mbi.down.phase = .prepare → State.bayGood up m.dest = true → (up.get 21).getLsbD 6 = false →
        (up.get 21).getLsbD 7 = false →
        s.downFrame up = { s with mbi := { s.mbi with down := { DownChan.reset with phase := .present 0 } } }) ∧
      (∀ i : Nat, s.mbi.down.phase = .present i → State.bayGood up m.dest = true → (up.get 21).getLsbD 6 = false →
        (up.get 21).getLsbD 7 = decide (i % 2 = 0) →
        s.downFrame up =
          { s with
            mbi := { s.mbi with
              down := { DownChan.reset with
                phase := if i + 1 < m.body.octets.length then .present (i + 1) else .closing 0 } } }) ∧
      (∀ n : Nat, s.mbi.down.phase = .closing n →
        (State.bayGood up m.dest = true → 1 ≤ n → s.downFrame up = s.deliverDown) ∧
        (49 ≤ s.mbi.down.closingFrames → s.downFrame up = s.deliverDown) ∧
        ((State.bayGood up m.dest = false ∨ n = 0) → s.mbi.down.closingFrames < 49 →
          s.downFrame up =
            { s with
              mbi := { s.mbi with
                down := { s.mbi.down with
                  phase := .closing (if State.bayGood up m.dest then n + 1 else 0),
                  closingFrames := s.mbi.down.closingFrames + 1 } } })) ∧
      ((s.mbi.down.phase = .prepare ∧
            (State.bayGood up m.dest = false ∨ (up.get 21).getLsbD 6 = true ∨ (up.get 21).getLsbD 7 = true) ∨
          (∃ i : Nat, s.mbi.down.phase = .present i ∧
            (State.bayGood up m.dest = false ∨ (up.get 21).getLsbD 6 = true ∨
              (up.get 21).getLsbD 7 ≠ decide (i % 2 = 0)))) →
        s.downFrame up =
          (let seen := if State.bayGood up m.dest = true ∧ (up.get 21).getLsbD 6 = true then s.mbi.down.stopSeen + 1
              else 0;
            if 2 ≤ seen ∨ 50 ≤ s.mbi.down.noProgress + 1 then s.abandonDown
            else { s with
              mbi := { s.mbi with
                down := { s.mbi.down with stopSeen := seen, noProgress := s.mbi.down.noProgress + 1 } } }))) ∧
    (∀ (up : UpFrame) (s : State) (g : Grant), State.upGood up g.owner = true →
      (State.lookOf up).msg = true → s.mbi.up.look = some (State.lookOf up) →
      (State.lookOf up).tgl ≠ s.mbi.up.echo → s.mbi.up.stop = false →
      (let u := { s.mbi.up with look := some (State.lookOf up), msgZero := 0 };
        let t := ({ s with mbi := { s.mbi with grant := some { g with frames := g.frames + 1, msgSeen := true } } } : State);
        (s.mbi.up.taken = [] → State.headerTaken (State.lookOf up).data = true →
          s.upFrame up g =
            { t with
              mbi := { t.mbi with
                up := { u with taken := [(State.lookOf up).data], echo := (State.lookOf up).tgl, noProgress := 0 } } }) ∧
        (s.mbi.up.taken = [] → State.headerTaken (State.lookOf up).data = false →
          s.upFrame up g =
            ({ t with
              mbi := { t.mbi with
                up := { u with
                  taken := [(State.lookOf up).data], echo := (State.lookOf up).tgl, noProgress := 0, stop :=
                      true } } }).onEntry
                    g.owner fun e => { e with msgAborts := min 65535 (e.msgAborts + 1) }) ∧
        (∀ (h : Octet) (rest : List Octet), s.mbi.up.taken = h :: rest → rest.length < h.toNat % 16 →
          s.upFrame up g =
            { t with
              mbi := { t.mbi with
                up := { u with
                  taken := h :: rest ++ [(State.lookOf up).data], echo := (State.lookOf up).tgl, noProgress :=
                      0 } } }))) ∧
    (∀ (up : UpFrame) (s : State) (g : Grant), State.upGood up g.owner = true →
      (State.lookOf up).msg = true →
      (s.mbi.up.look ≠ some (State.lookOf up) ∨ (State.lookOf up).tgl = s.mbi.up.echo ∨ s.mbi.up.stop = true) →
      s.mbi.up.noProgress + 1 < 50 →
      s.upFrame up g =
        { s with
          mbi := { s.mbi with
            grant := some { g with frames := g.frames + 1, msgSeen := true }
            up := { s.mbi.up with
              look := some (State.lookOf up), msgZero := 0, noProgress := s.mbi.up.noProgress + 1 } } }) ∧
    (∀ (up : UpFrame) (s : State) (g : Grant), State.upGood up g.owner = true →
      (State.lookOf up).msg = false → 1 ≤ s.mbi.up.msgZero → s.mbi.up.taken ≠ [] →
      (let t := ({ s with mbi := { s.mbi with grant := none, up := UpChan.reset } } : State);
        (s.mbi.up.taken.length = 1 + (s.mbi.up.taken.headD 0#8).toNat % 16 → s.mbi.up.stop = false →
          s.upFrame up g = t.deliverUp g.owner s.mbi.up.taken) ∧
        ((s.mbi.up.taken.length ≠ 1 + (s.mbi.up.taken.headD 0#8).toNat % 16 ∨ s.mbi.up.stop = true) →
          s.upFrame up g = t.onEntry g.owner fun e => { e with msgAborts := min 65535 (e.msgAborts + 1) }))) ∧
    (∀ (up : UpFrame) (s : State) (g : Grant), State.upGood up g.owner = false → g.msgSeen = false →
      s.mbi.up.noProgress < 50 →
      (9 ≤ g.frames →
        s.upFrame up g =
          ({ s with mbi := { s.mbi with grant := none, up := UpChan.reset } }).onEntry g.owner fun e =>
            { e with grantLapses := min 255 (e.grantLapses + 1) }) ∧
      (g.frames < 9 →
        s.upFrame up g =
          { s with
            mbi := { s.mbi with
              grant := some { g with frames := g.frames + 1 }
              up := { s.mbi.up with look := none, msgZero := 0 } } })) ∧
    (∀ (s : State) (a : Addr) (o : Octet),
      (s.mbi.grant = none → o.toNat = a.val * 32 + 1 →
        s.readRequest o =
          { s with mbi := { s.mbi with grant := some { owner := a, frames := 0, msgSeen := false }, up := UpChan.reset } }) ∧
      ((s.mbi.grant.isSome = true ∨ o.toNat % 32 ≠ 1) → s.readRequest o = s)) ∧
    (∀ (s : State) (a : Addr),
      (∀ o0 o1 o2 o3 o4 o5 : Octet,
        s.deliverUp a [0x86#8, o0, o1, o2, o3, o4, o5] = s.capsMessage a #v[o0, o1, o2, o3, o4, o5]) ∧
      (∀ tag hi lo reason : Octet, s.moduleOf .doseDet = some a →
        s.deliverUp a [0x94#8, tag, hi, lo, reason] = s.takeDone .det tag (hi.toNat * 256 + lo.toNat) reason) ∧
      (∀ reached reason : Octet, s.moduleOf .door = some a →
        s.deliverUp a [0xA2#8, reached, reason] = s.moved reached.toNat reason)) ∧
    (∀ (up : UpFrame) (s : State) (g : Grant),
      (let good := State.upGood up g.owner;
        let l := State.lookOf up;
        let t := ({ s with mbi := { s.mbi with grant := some { g with frames := g.frames + 1, msgSeen := true } } } : State);
        let ended := ({ s with mbi := { s.mbi with grant := none, up := UpChan.reset } }).onEntry g.owner fun e =>
          { e with msgAborts := min 65535 (e.msgAborts + 1) };
        (good = true → l.msg = true →
          (s.mbi.up.look ≠ some l ∨ l.tgl = s.mbi.up.echo ∨ s.mbi.up.stop = true) → 50 ≤ s.mbi.up.noProgress + 1 →
          s.upFrame up g = ended) ∧
        (good = false → g.msgSeen = true →
          s.upFrame up g =
            if 50 ≤ s.mbi.up.noProgress + 1 then ended
            else { t with
              mbi := { t.mbi with
                up := { s.mbi.up with look := none, msgZero := 0, noProgress := s.mbi.up.noProgress + 1 } } }) ∧
        (good = true → l.msg = false → (s.mbi.up.msgZero = 0 ∨ s.mbi.up.taken = []) → g.msgSeen = true →
          s.upFrame up g =
            if 50 ≤ s.mbi.up.noProgress + 1 then ended
            else { t with
              mbi := { t.mbi with
                up := { s.mbi.up with
                  look := some l, msgZero := s.mbi.up.msgZero + 1, noProgress := s.mbi.up.noProgress + 1 } } }) ∧
        (good = true → l.msg = false → (s.mbi.up.msgZero = 0 ∨ s.mbi.up.taken = []) → g.msgSeen = false →
          s.mbi.up.noProgress < 50 →
          s.upFrame up g =
            if 9 ≤ g.frames then
              ({ s with mbi := { s.mbi with grant := none, up := UpChan.reset } }).onEntry g.owner fun e =>
                { e with grantLapses := min 255 (e.grantLapses + 1) }
            else { s with
              mbi := { s.mbi with
                grant := some { g with frames := g.frames + 1 }
                up := { s.mbi.up with look := some l, msgZero := s.mbi.up.msgZero + 1 } } }) ∧
        (∀ (h : Octet) (rest : List Octet), good = true → l.msg = true → s.mbi.up.look = some l →
          l.tgl ≠ s.mbi.up.echo → s.mbi.up.stop = false → s.mbi.up.taken = h :: rest → h.toNat % 16 ≤ rest.length →
          s.upFrame up g =
            if 50 ≤ s.mbi.up.noProgress + 1 then ended
            else { t with
              mbi := { t.mbi with
                up := { s.mbi.up with
                  look := some l, msgZero := 0, stop := true, noProgress := s.mbi.up.noProgress + 1 } } }))) ∧
    ∀ s : State,
      s.dequeued = { s with mbi := { s.mbi with departed := true } } ∧
      (s.mbi.departed = true →
        s.askWaiting =
          ((((({ s with mbi := { s.mbi with departed := false } } : State).choose.askOrder .det).askOrder
            .ra).askMove).askQueries)) ∧
      (s.mbi.departed = false → s.askWaiting = s)

/-- O53. BRING_UP_QUERY of a SEEKING or LOST entry in COUNT enters QUERY and enqueues its CAPS_QUERY. ANSWER_TIMEOUT
in ANSWER returns to COUNT; of a LINKED entry it ends the wait of an UNPIN. CAPS of an entry in QUERY or ANSWER that
is valid for its kind takes the record, unless pinned, and links it; one that is not valid raises MODULE_MISMATCH and
leaves it SEEKING in MISMATCH with the reported kind in its notice; at other entries it is ignored. SILENT_COUNT_LIMIT
of a LINKED entry is its loss, in QUERY, ANSWER or MISMATCH a return to COUNT. CAPS at a LINKED entry takes a valid
record unless pinned, and one not valid is MODULE_MISMATCH and a loss to SEEKING in MISMATCH. These commands stand for
the frames that bring it there (log entry 18); the silent count, 0 after a return or a loss to COUNT and left by a
CAPS, is log 40, and COUNT 0 as the phase of a LINKED entry log 67. A good bay with READY counts in COUNT and asks at
the eighth; without READY it sets the count to 0, and brings QUERY, ANSWER and MISMATCH back to COUNT. At a LINKED
entry READY 0 is a loss, and MFAULT raises MODULE_FAULT once, or ends it. A loss sets the mark, clears the bay and the
counts and is noticed; then the owner takes it: MODULE_LOST is STOP for the door module, whose record becomes UNKNOWN
before and whose vent and pusher end after it, else WARNING; the softener's PENDING and CLAIMED become DUE and an
alignment ends; a channel's SENT order is removed with its message and its steps reported, a started one waits again.
That UNKNOWN comes before the raise and the rest after it is log entry 37; a query withdrawn at a mismatch is log
entry 38, at a loss 75, dropped at a link 112; removal of a message being sent, or not, is log entry 97, the flush
test at a loss 99, one DOOR notice for a loss 35. In QUERY, ANSWER and MISMATCH a good bay with READY sets the silent
count to 0, and a bad one raises it, the 16th returning to COUNT; in ANSWER either counts the answer timer. A link
ends MODULE_LOST. (09_module_supervision.md, 9.2 Bring-up; 09_module_supervision.md, 9.3 The CAPS message;
09_module_supervision.md, 9.5 Loss and relink; 09_module_supervision.md, 9.6 Status bits and counts;
07_door_drive_and_drying.md, 7.7 Door module loss; 04_water_softening.md, 4.8 Softener module lost, and BUS reset;
06_chemical_dosing.md, 6.9 Module loss and the bus) -/
def Obligations.BringUpLinksAndLoses : Prop :=
  (∀ (a : Addr) (n : Nat) (s : State), s.on = true → ((s.entry a).link = .seeking ∨ (s.entry a).link = .lost) →
      (s.entry a).bringUp = .count n →
      exec (.bringUpQuery a) s = .next
        (((s.onEntry a fun e => { e with bringUp := .query, silent := 0 }).askQuery a).finish)) ∧
    (∀ (a : Addr) (s : State), s.on = true → s.countsGood a = false → exec (.bringUpQuery a) s = .next s.finish) ∧
    (∀ (a : Addr) (n : Nat) (s : State), s.on = true → ((s.entry a).link = .seeking ∨ (s.entry a).link = .lost) →
      (s.entry a).bringUp = .answer n → exec (.answerTimeout a) s = .next ((s.returnToCount a).finish)) ∧
    (∀ (a : Addr) (s : State), s.on = true → (s.entry a).link = .linked →
      exec (.answerTimeout a) s = .next ((s.onEntry a fun e => { e with unpinLeft := none }).finish) ∧
        exec (.silentCountLimit a) s = .next ((s.lose a .lost (.count 0) none).finish)) ∧
    (∀ (a : Addr) (s : State), s.on = true → (s.entry a).link = .notExpected →
      exec (.answerTimeout a) s = .next s.finish ∧ exec (.silentCountLimit a) s = .next s.finish) ∧
    (∀ (a : Addr) (body : Vector Octet 6) (c : CapRecord) (s : State), s.on = true →
      ((s.entry a).link = .seeking ∨ (s.entry a).link = .lost) →
      ((s.entry a).bringUp = .query ∨ ∃ n, (s.entry a).bringUp = .answer n) →
      State.readCaps (s.kindAt a) body = some c → (s.entry a).pinned = true →
      exec (.caps a body) s = .next ((s.link a).finish)) ∧
    (∀ (a : Addr) (body : Vector Octet 6) (c : CapRecord) (s : State), s.on = true →
      ((s.entry a).link = .seeking ∨ (s.entry a).link = .lost) → ((s.entry a).bringUp = .query ∨ ∃ n,
          (s.entry a).bringUp = .answer n) →
      State.readCaps (s.kindAt a) body = some c → (s.entry a).pinned = false →
      (s.setCaps a c).linkedAt a = false →
      exec (.caps a body) s = .next (((s.setCaps a c).link a).finish)) ∧
    (∀ (a : Addr) (body : Vector Octet 6) (s : State), s.on = true →
      ((s.entry a).link = .seeking ∨ (s.entry a).link = .lost) → ((s.entry a).bringUp = .query ∨ ∃ n,
          (s.entry a).bringUp = .answer n) →
      State.readCaps (s.kindAt a) body = none →
      exec (.caps a body) s = .next
        (((((s.warn .moduleMismatch a.val).withdrawQuery a).onEntry a fun e =>
            { e with bringUp := .mismatch }).setLink a
          .seeking (some (body.get 0))).finish)) ∧
    (∀ (a : Addr) (body : Vector Octet 6) (s : State), s.on = true → s.takesCaps a = false →
      exec (.caps a body) s = .next s.finish) ∧
    (∀ (a : Addr) (s : State), s.on = true → ((s.entry a).link = .seeking ∨ (s.entry a).link = .lost) →
      (∀ n, (s.entry a).bringUp ≠ .count n) → exec (.silentCountLimit a) s = .next ((s.returnToCount a).finish)) ∧
    (∀ (a : Addr) (body : Vector Octet 6) (s : State), s.on = true → (s.entry a).link = .linked →
      State.readCaps (s.kindAt a) body = none →
      exec (.caps a body) s = .next
        (((s.warn .moduleMismatch a.val).lose a .seeking .mismatch (some (body.get 0))).finish)) ∧
    (∀ (a : Addr) (body : Vector Octet 6) (c : CapRecord) (s : State), s.on = true → (s.entry a).link = .linked →
      State.readCaps (s.kindAt a) body = some c →
      ((s.entry a).pinned = true →
        exec (.caps a body) s = .next ((s.onEntry a fun e => { e with unpinLeft := none }).finish)) ∧
      ((s.entry a).pinned = false → (s.setCaps a c).linkedAt a = true →
        exec (.caps a body) s = .next (((s.setCaps a c).onEntry a fun e => { e with unpinLeft := none }).finish))) ∧
    (∀ (s : State) (a : Addr) (b : StatusBits), (s.entry a).unpinLeft = none →
      (let t := s.onEntry a fun e => { e with status := some b };
        ((s.entry a).link = .notExpected → s.goodBay a b = t) ∧
        ((s.entry a).link = .linked → b.ready = false → s.goodBay a b = t.lose a .lost (.count 0) none) ∧
        ((s.entry a).link = .linked → b.ready = true → (s.entry a).bringUp = .count 0 →
          (let u := t.onEntry a fun e => { e with silent := 0, linkMfault := some b.mfault };
            (b.mfault = false → s.goodBay a b = u.endCondition .moduleFault a.val) ∧
            (b.mfault = true → (s.entry a).linkMfault ≠ some true → s.goodBay a b = u.warn .moduleFault a.val) ∧
            (b.mfault = true → (s.entry a).linkMfault = some true → s.goodBay a b = u))) ∧
        (((s.entry a).link = .seeking ∨ (s.entry a).link = .lost) →
          (∀ n : Nat, (s.entry a).bringUp = .count n →
            (b.ready = false → s.goodBay a b = t.onEntry a fun e => { e with bringUp := .count 0 }) ∧
            (b.ready = true → n + 1 < 8 →
              s.goodBay a b = t.onEntry a fun e => { e with bringUp := .count (n + 1) }) ∧
            (b.ready = true → 8 ≤ n + 1 →
              s.goodBay a b = (t.onEntry a fun e => { e with bringUp := .query, silent := 0 }).askQuery a)) ∧
          (b.ready = true → ((s.entry a).bringUp = .query ∨ (s.entry a).bringUp = .mismatch) →
            s.goodBay a b = t.onEntry a fun e => { e with silent := 0 }) ∧
          (b.ready = false →
            ((s.entry a).bringUp = .query ∨ (s.entry a).bringUp = .mismatch ∨
              ∃ n, (s.entry a).bringUp = .answer n) →
            s.goodBay a b = t.returnToCount a)))) ∧
    (∀ (s : State) (a : Addr) (l : LinkState) (p : BringUp) (reported : Option Octet), (s.entry a).link = .linked →
      l ≠ .linked →
      s.lose a l p reported =
        ((((((s.onEntry a fun e =>
          { e with bringUp := .count 0, silent := 0, unpinLeft := none, wantQuery := false }).removeMsgs
            fun m => decide (m.dest = a) && decide (m.source = .msu) && !m.sending).onEntry a fun e =>
              { e with
                bringUp := p, silent := if p = BringUp.mismatch then (s.entry a).silent else 0, lossMark := true
                linkMfault := none, link := l }).onBay a fun _ =>
                { candidate := none, accepted := none }).place (.module a (s.kindAt a) l reported)).takeLoss a)) ∧
    (∀ (s : State) (a : Addr),
      (let t := s.endCondition .moduleFault a.val;
        ((s.kindAt a = .none ∨ s.moduleOf (s.kindAt a) ≠ some a) → s.takeLoss a =
            t.raise .moduleLost a.val .warning) ∧
        (s.moduleOf .door = some a →
          s.takeLoss a = (t.doorUnknown.raise .moduleLost a.val .stop).doorGone) ∧
        (s.moduleOf .softener = some a → s.takeLoss a = (t.raise .moduleLost a.val .warning).softenerLost) ∧
        (s.moduleOf .doseDet = some a → s.takeLoss a = (t.raise .moduleLost a.val .warning).channelLost .det) ∧
        (s.moduleOf .doseRa = some a → s.takeLoss a = (t.raise .moduleLost a.val .warning).channelLost .ra))) ∧
    (∀ s : State,
      (let t := ({ s with sfc := { s.sfc with alignHeld := false } } : State);
        (s.sfc.changeover = .pending →
          s.softenerLost =
            ({ t with sfc := { t.sfc with changeover := .due } }).warn .softenerExhausted 0) ∧
        (s.sfc.changeover = .claimed →
          s.softenerLost =
            ((t.release .valveMotor).onSfc fun x => { x with changeover := .due }).warn .softenerExhausted 0) ∧
        (s.sfc.changeover = .aligning → s.sfc.keptTrigger = false →
          s.softenerLost =
            (t.release .valveMotor).onSfc fun x => { x with changeover := .none, moveLeft := none }) ∧
        ((s.sfc.changeover = .none ∨ s.sfc.changeover = .due ∨ s.sfc.changeover = .moving ∨
          s.sfc.changeover = .returning) → s.softenerLost = t))) ∧
    (∀ (s : State) (c : Channel),
      ((s.channel c).orders = [] → s.channelLost c = s) ∧
      (∀ (o : Order) (rest : List Order), (s.channel c).orders = o :: rest →
        (o.state = .queued → o.started = false → s.channelLost c = s) ∧
        (o.state = .queued → o.started = true →
          s.channelLost c =
            (s.onChannel c fun r => { r with orders := { o with started := false } :: rest }).release
              (channelLoad c)) ∧
        (o.state = .sent →
          (let n := (match o.amount with
              | .steps k => k
              | .seconds _ => 0);
            let t := ((((s.countDrop n).onChannel c fun r =>
              { r with orders := rest, watchdogLeft := none, stop := false }).release (channelLoad c)).removeMsgs
                (State.orderMsg c o.tag));
            (c = .det → s.channelLost c = t.startOrder .det) ∧
            (c = .ra → s.channelLost c = (t.startOrder .ra).flushTest))))) ∧
    (∀ (c : Channel) (tag : Octet) (m : DownMsg),
      State.orderMsg c tag m =
        (decide (m.source = .dsc c) && (match m.body with
          | .dose t _ => decide (t = tag)
          | .prime t _ => decide (t = tag)
          | .move _ => false
          | .capsQuery => false))) ∧
    (∀ s : State,
      (let t := (if s.retracting = true then
          ({ s with dvc := { s.dvc with task := .none, retract := false } }).release .doorDrive else s);
        let u := ({ t with dvc := { t.dvc with door := .unknown, bits := none, releaseLeft := none } } : State);
        let v := (if s.dvc.door = .unknown ∧ s.dvc.bits = none ∧ s.retracting = false then u
          else u.noteDoor none).cycleDoor;
        s.doorUnknown =
          if v.csq.phase = CycleState.rinseWait ∧ v.csq.rinseWait.confirmed = false then
            v.raise .doorLatchFail 0 .stop
          else v) ∧
      (s.dvc.vent.step = .none →
        s.doorGone =
          (let w := s.abandonTask; ({ w with dvc := { w.dvc with fan := false } }).release .ventFan)) ∧
      (s.dvc.vent.step ≠ .none → s.doorGone = s.cutVent)) ∧
    (∀ (s : State) (a : Addr) (b : StatusBits) (n : Nat), ((s.entry a).link = .seeking ∨ (s.entry a).link = .lost) →
      (s.entry a).bringUp = .answer n → b.ready = true →
      s.goodBay a b =
        (let t := s.onEntry a fun e => { e with status := some b, silent := 0 };
          if n ≤ 1 then t.returnToCount a else t.onEntry a fun e => { e with bringUp := .answer (n - 1) })) ∧
    (∀ (up : UpFrame) (s : State) (a : Addr), State.bayGood up a = false →
      ((s.entry a).link = .seeking ∨ (s.entry a).link = .lost) →
      (let t := (s.onBay a fun b => { b with candidate := none }).onEntry a fun e =>
          { e with bayErrors := min 65535 (e.bayErrors + 1) };
        let u := t.onEntry a fun e => { e with silent := e.silent + 1 };
        (((s.entry a).bringUp = .query ∨ (s.entry a).bringUp = .mismatch) → (s.entry a).unpinLeft = none →
          State.takeBay up s a = if 16 ≤ (s.entry a).silent + 1 then t.returnToCount a else u) ∧
        (∀ n : Nat, (s.entry a).bringUp = .answer n →
          State.takeBay up s a =
            if 16 ≤ (s.entry a).silent + 1 then t.returnToCount a
            else if n ≤ 1 then u.returnToCount a
            else u.onEntry a fun e => { e with bringUp := .answer (n - 1) }))) ∧
    (∀ (s : State) (a : Addr),
      s.returnToCount a =
        (((s.onEntry a fun e =>
          { e with bringUp := .count 0, silent := 0, unpinLeft := none, wantQuery := false }).removeMsgs
            fun m => decide (m.dest = a) && decide (m.source =
                .msu) && !m.sending).endCondition .moduleMismatch a.val)) ∧
    ∀ (s : State) (a : Addr), (s.entry a).link ≠ .linked →
      (let t := ((((s.onEntry a fun e =>
          { e with
            bringUp := .count 0, lossMark := false, unpinLeft := none, wantQuery := false, linkMfault := none
            link := .linked }).onBay a fun _ => { candidate := none, accepted := none }).place
              (.module a (s.kindAt a) .linked none)).endCondition .moduleLost a.val).choose;
        s.link a =
          if s.kindAt a = Kind.softener ∧ s.moduleOf .softener = some a then t.softenerLinked else t)

/-- O54. STUCK_LINE_BREAK with the watch off breaks the line, the expected entries SEEKING, and starts WATCH with 0
frames seen. BUS_STUCK in WATCH raises BUS_STUCK as STOP, makes every expected entry LOST, and is STUCK with 2500
frames to the next break. STUCK_REPEAT_BREAK in STUCK breaks the line again, the entries LOST, and counts from 2500.
BUS_STUCK_CLEAR in STUCK turns the watch off and ends the condition. LINE_BREAK_END runs the line, and frame 0 is
built from the values that the event leaves. In any other state of the watch or line nothing changes. The four rows of
the watch act at once (log entry 18), LINE_BREAK_END lets its rest pass (log entry 9), and BUS_STUCK is raised before
the entries become LOST (log entry 37). At a frame end the watch counts: off, the 16th all-zero frame in a row breaks
the line and starts WATCH; in WATCH the 64th is BUS_STUCK, and a frame that is not all zero turns it off; in STUCK the
16th frame in a row not all zero clears it (before a countdown that ends in it: log entry 74), the countdown breaks
the line again at 0, and an all-zero frame starts the 16 again. (09_module_supervision.md, 9.7 Stuck line;
08_module_bus.md, 8.12 The line break) -/
def Obligations.StuckLineIsBrokenAndWatched : Prop :=
  (∀ s : State, s.on = true → s.msu.watch = .off →
      exec .stuckLineBreak s = .next
          (((s.breakLine .seeking).onMsu fun m => { m with stuckCount := 0, watch := .watch 0 }).finish) ∧
        exec .busStuck s = .next s.finish ∧ exec .stuckRepeatBreak s = .next s.finish ∧
        exec .busStuckClear s = .next s.finish) ∧
    (∀ (n : Nat) (s : State), s.on = true → s.msu.watch = .watch n →
      exec .busStuck s = .next
          ((((s.raise .busStuck 0 .stop).unlinkAll .lost).onMsu fun m => { m with watch := .stuck 2500 0 }).finish) ∧
        exec .stuckLineBreak s = .next s.finish ∧ exec .stuckRepeatBreak s = .next s.finish ∧
        exec .busStuckClear s = .next s.finish) ∧
    (∀ (n good : Nat) (s : State), s.on = true → s.msu.watch = .stuck n good →
      exec .stuckRepeatBreak s = .next
          (((s.breakLine .lost).onMsu fun m =>
            { m with
              watch := match m.watch with
                | .stuck _ g => .stuck 2500 g
                | .off => .off
                | .watch k => .watch k }).finish) ∧
        exec .busStuckClear s = .next
          ((({ s with msu := { s.msu with watch := .off, stuckCount := 0 } }).endCondition .busStuck 0).finish) ∧
        exec .stuckLineBreak s = .next s.finish ∧ exec .busStuck s = .next s.finish) ∧
    (∀ (left : Nat) (s : State), s.on = true → s.mbi.line = .brk left →
      exec .lineBreakEnd s = .next
        ((({ s.advance left with mbi := { (s.advance left).mbi with line := .running } }).finish).buildFrame 0)) ∧
    (∀ s : State, s.mbi.line = .running → exec .lineBreakEnd s = .next s) ∧
    (∀ s : State, s.msu.watch = .off →
      (s.msu.stuckCount + 1 < 16 →
        s.watchFrame true = { s with msu := { s.msu with stuckCount := s.msu.stuckCount + 1 } }) ∧
      (16 ≤ s.msu.stuckCount + 1 →
        s.watchFrame true = (s.breakLine .seeking).onMsu fun m => { m with stuckCount := 0, watch := .watch 0 }) ∧
      s.watchFrame false = { s with msu := { s.msu with stuckCount := 0 } }) ∧
    (∀ (s : State) (n : Nat), s.msu.watch = .watch n →
      (n + 1 < 64 → s.watchFrame true = { s with msu := { s.msu with watch := .watch (n + 1) } }) ∧
      (64 ≤ n + 1 →
        s.watchFrame true =
          ((s.raise .busStuck 0 .stop).unlinkAll .lost).onMsu fun m => { m with watch := .stuck 2500 0 }) ∧
      s.watchFrame false = { s with msu := { s.msu with watch := .off, stuckCount := 0 } }) ∧
    ∀ (s : State) (n good : Nat), s.msu.watch = .stuck n good →
      (16 ≤ good + 1 →
        s.watchFrame false =
          ({ s with msu := { s.msu with watch := .off, stuckCount := 0 } }).endCondition .busStuck 0) ∧
      (good + 1 < 16 → 1 < n →
        s.watchFrame false = { s with msu := { s.msu with watch := .stuck (n - 1) (good + 1) } }) ∧
      (1 < n → s.watchFrame true = { s with msu := { s.msu with watch := .stuck (n - 1) 0 } }) ∧
      (n ≤ 1 →
        s.watchFrame true =
          ((({ s with msu := { s.msu with watch := .stuck 0 0 } }).breakLine .lost).onMsu fun m =>
            { m with
              watch := match m.watch with
                | .stuck _ g => .stuck 2500 g
                | .off => .off
                | .watch k => .watch k })) ∧
      (good + 1 < 16 → n ≤ 1 →
        s.watchFrame false =
          ((({ s with msu := { s.msu with watch := .stuck 0 (good + 1) } }).breakLine .lost).onMsu fun m =>
            { m with
              watch := match m.watch with
                | .stuck _ g => .stuck 2500 g
                | .off => .off
                | .watch k => .watch k }))

/-- O55. A raise of a new key with room makes a record at the tail with count 1, the present flag and the cycle counter
as first cycle, with a CREATED notice, ACK by the fault table or for a LOCKOUT. A raise of a key in the list counts
it to at most 255 and sets its present flag; a class that rises is noticed as CLASS CHANGED. In a full list a new
key displaces the oldest WARNING whose condition has ended, or for a STOP or LOCKOUT the oldest WARNING, with
REMOVED and CREATED notices; else the overflow count rises to at most 255 and the raise goes no further. A STOP
raise, or a raise of a STOP record, puts the cycle counter into the history row of its key, which holds the last
three; three values spanning nine or less escalate: the record becomes LOCKOUT with the escalated flag and ACK, with
a CLASS CHANGED notice, and its row is emptied. The record is then handed on: the first LOCKOUT acts on every block,
a STOP ends the cycle in ARMED to RINSE_WAIT. The end of a condition removes an AUTO record with a REMOVED notice
and clears the present flag of an ACK record. That the emptied row stays and counts is log entry 77, and that a
WARNING raise of a STOP record is recorded is log entry 78. (10_faults_and_protective_actions.md, 10.2 Records and
the list; 10_faults_and_protective_actions.md, 10.3 Raising; 10_faults_and_protective_actions.md, 10.4 Clearing;
10_faults_and_protective_actions.md, 10.5 Escalation; 10_faults_and_protective_actions.md, 10.6 Fault level and its
restraints) -/
def Obligations.FaultListTakesARaise : Prop :=
  (∀ (s : State) (code : FaultCode) (d : Nat) (cls : FaultClass), s.faultRec code d = none → s.flu.list.length < 40 →
      s.enterFault code d cls =
        (({ s with
          flu := { s.flu with
            list := s.flu.list ++
              [({ code := code, detail := d, cls := cls, ack := code.tableAck || decide (cls = FaultClass.lockout), present := true,
                  count := 1, firstCycle := s.csq.counter, escalated := false } : FaultRec)] } }).place
          (.fault .created code d cls 1 s.csq.counter), true)) ∧
    (∀ (s : State) (code : FaultCode) (d : Nat) (cls : FaultClass) (r : FaultRec), s.faultRec code d = some r →
      r.cls.worse cls = r.cls →
      s.enterFault code d cls =
        (s.onFault code d fun x =>
          { x with
            count := min 255 (x.count + 1), present := true, cls := r.cls.worse cls,
            ack := x.ack || decide (r.cls.worse cls = FaultClass.lockout) }, true)) ∧
    (∀ (s : State) (code : FaultCode) (d : Nat) (r : FaultRec), s.faultRec code d = some r → r.ack = true →
      s.endCondition code d = s.onFault code d fun x => { x with present := false }) ∧
    (∀ (s : State) (code : FaultCode) (d : Nat) (r : FaultRec), s.faultRec code d = some r → r.ack = false →
      s.endCondition code d =
        ({ s with
          flu := { s.flu with
            list := s.flu.list.filter fun x : FaultRec => !(x.code = code ∧ x.detail = d) } }).place
          (.fault .removed r.code r.detail r.cls r.count r.firstCycle)) ∧
    (∀ (s : State) (code : FaultCode) (d : Nat), s.faultRec code d = none → s.endCondition code d = s) ∧
    (∀ (a b c : Nat) (code : FaultCode) (d : Nat), a ≤ c →
      (escalates [{ code := code, detail := d, cycles := [a, b, c] }] code d = true ↔ c - a ≤ 9)) ∧
    (∀ (s : State) (code : FaultCode) (d : Nat) (cls : FaultClass) (r : FaultRec), s.faultRec code d = some r →
      r.cls.worse cls ≠ r.cls →
      s.enterFault code d cls =
        ((s.onFault code d fun x =>
          { x with
            count := min 255 (x.count + 1), present := true, cls := r.cls.worse cls,
            ack := x.ack || decide (r.cls.worse cls = FaultClass.lockout) }).place
              (.fault .classChanged code d (r.cls.worse cls) (min 255 (r.count + 1)) r.firstCycle), true)) ∧
    (∀ (s : State) (code : FaultCode) (d : Nat) (cls : FaultClass), s.faultRec code d = none →
        40 ≤ s.flu.list.length →
      (let new := ({
            code := code, detail := d, cls := cls, ack := code.tableAck || decide (cls = FaultClass.lockout),
            present := true, count := 1, firstCycle := s.csq.counter, escalated := false } : FaultRec);
        let ended := s.flu.list.find? fun x : FaultRec => x.cls = .warning ∧ x.present = false;
        let oldest := s.flu.list.find? fun x : FaultRec => x.cls = .warning;
        (∀ r : FaultRec, (ended = some r ∨ (ended = none ∧ cls ≠ .warning ∧ oldest = some r)) →
          s.faultRec r.code r.detail = some r →
          s.enterFault code d cls =
            ((({ s with
              flu := { s.flu with
                list := (s.flu.list.filter fun x : FaultRec => !(x.code = r.code ∧ x.detail =
                    r.detail)) ++ [new] } }).place
                  (.fault .removed r.code r.detail r.cls r.count r.firstCycle)).place
                        (.fault .created code d cls 1 s.csq.counter), true)) ∧
        (ended = none → (cls = .warning ∨ oldest = none) →
          s.enterFault code d cls =
            ({ s with flu := { s.flu with overflow := min 255 (s.flu.overflow + 1) } }, false)))) ∧
    (∀ (s : State) (code : FaultCode) (d : Nat) (cls : FaultClass) (r : FaultRec), s.faultRec code d = some r →
      (let h := pushHistory s.flu.history code d s.csq.counter;
        ((cls = .stop ∨ r.cls = .stop) → escalates h code d = false →
          s.escalate code d cls = { s with flu := { s.flu with history := h } }) ∧
        ((cls = .stop ∨ r.cls = .stop) → escalates h code d = true → r.cls ≠ .lockout →
          s.escalate code d cls =
            (({ s with
              flu := { s.flu with
                history := h.map fun x : HistoryRow =>
                  if x.code = code ∧ x.detail = d then { x with cycles := [] } else x } }).onFault code d fun x =>
                    { x with cls := .lockout, ack := true, escalated := true }).place
                      (.fault .classChanged code d .lockout r.count r.firstCycle)) ∧
        (cls ≠ .stop → r.cls ≠ .stop → s.escalate code d cls = s))) ∧
    (∀ (s : State) (code : FaultCode) (d : Nat) (cls : FaultClass),
      (let t := (s.enterFault code d cls).1;
        ((s.enterFault code d cls).2 = false → s.raise code d cls = t) ∧
        ((s.enterFault code d cls).2 = true →
          (let u := (t.escalate code d cls).wake .fault;
            (u.locked = true → s.locked = false → s.raise code d cls = u.enterLockout) ∧
            ((u.locked = false ∨ s.locked = true) → s.raise code d cls = u.handOn code d))))) ∧
    (∀ (s : State) (code : FaultCode) (d : Nat) (r : FaultRec), s.faultRec code d = some r →
      (r.cls = .warning → s.handOn code d = s) ∧
      (r.cls = .stop →
        (s.csq.phase = .armed ∨ s.csq.phase = .wash ∨ s.csq.phase = .held ∨ s.csq.phase = .purge ∨
          s.csq.phase = .rinseWait) → s.handOn code d = s.endCycle .abortedFault) ∧
      (r.cls = .stop →
        (s.csq.phase = .idle ∨ s.csq.phase = .rinse ∨ s.csq.phase = .dwell ∨ s.csq.phase = .vent) →
        s.handOn code d = s) ∧
      (r.cls = .lockout → s.handOn code d = s.cycleLockout)) ∧
    ∀ (rows : List HistoryRow) (code : FaultCode) (d a b c n : Nat),
      pushHistory (rows.filter fun x : HistoryRow => !(x.code = code ∧ x.detail = d)) code d n =
          (if 16 ≤ (rows.filter fun x : HistoryRow => !(x.code = code ∧ x.detail = d)).length then
            (rows.filter fun x : HistoryRow => !(x.code = code ∧ x.detail = d)).drop 1
          else rows.filter fun x : HistoryRow => !(x.code = code ∧ x.detail = d)) ++
            [({ code := code, detail := d, cycles := [n] } : HistoryRow)] ∧
        pushHistory [({ code := code, detail := d, cycles := [a, b, c] } : HistoryRow)] code d n =
          [({ code := code, detail := d, cycles := [b, c, n] } : HistoryRow)]

/-- O56. A raise that leaves a LOCKOUT record in the list once the list and the escalation test are settled, no
LOCKOUT being present before it, leaves the level LOCKOUT, every claim IDLE, no inlet owner, no ACTIVE and no PENDING
entry, the settling wattage raised by exactly the wattage that was granted, and the budget in force and the settings
as they were; an inlet that had an owner or was closed is CLOSED, and then no heater, pump or valve output is
energised. A raise leaves such a record exactly if the list takes it (its key is there, or there is room, or a WARNING
gives way: any for a STOP or LOCKOUT, one whose condition has ended for a WARNING) and its class is LOCKOUT, or it is
a STOP raise or a raise of a STOP record whose history row then escalates (log entries 77, 78).
(03_mains_load_budget.md, 3.9 Lockout and resets; 10_faults_and_protective_actions.md, 10.2 Records and the list;
10_faults_and_protective_actions.md, 10.3 Raising; 10_faults_and_protective_actions.md, 10.5 Escalation;
10_faults_and_protective_actions.md, 10.6 Fault level and its restraints; 02_the_wash_cycle.md, 2.9 Faults and the
door module) -/
def Obligations.LockoutStopsTheMachine : Prop :=
  (∀ (s : State) (code : FaultCode) (d : Nat) (cls : FaultClass), s.locked = false →
      ((s.enterFault code d cls).1.escalate code d cls).locked = true →
      (let t := s.raise code d cls;
        (∀ l : Load, (t.claimOf l).state = .idle) ∧ t.whu.owner = none ∧
        (s.whu.owner.isSome = true ∨ s.whu.phase = .closed → t.whu.phase = .closed ∧ t.quiet = true) ∧
        t.csq.active = none ∧ t.csq.waiting = none ∧ t.sumSettling = s.sumSettling + s.sumGranted ∧
        t.lba.inForce = s.lba.inForce ∧ t.settings = s.settings ∧ t.level = .lockout)) ∧
    ∀ (s : State) (code : FaultCode) (d : Nat) (cls : FaultClass), s.locked = false →
      (((s.enterFault code d cls).1.escalate code d cls).locked = true ↔
        ((s.faultRec code d).isSome = true ∨ s.flu.list.length < 40 ∨
          ∃ r ∈ s.flu.list, r.cls = .warning ∧ (cls ≠ .warning ∨ r.present = false)) ∧
        (cls = .lockout ∨
          ((cls = .stop ∨ ∃ r : FaultRec, s.faultRec code d = some r ∧ r.cls = .stop) ∧
            escalates (pushHistory s.flu.history code d s.csq.counter) code d = true)))

/-- O57. From every state in which the notice queue, the downstream queue, both order lists, the fault list and the
history lie within their lengths, a step that answers a next state answers one in which they still do.
(11_panel_link.md, 11.3 Sending; 08_module_bus.md, 8.9 The downstream queue; 06_chemical_dosing.md, 6.2 Orders;
10_faults_and_protective_actions.md, 10.2 Records and the list; 10_faults_and_protective_actions.md, 10.5
Escalation) -/
def Obligations.EveryStepKeepsTheBounds : Prop :=
  ∀ s t : State, s.Bounded → step s = .next t → t.Bounded

/-- O58. From every state in which G + S lies within the budget in force, and mains_budget_w is not above it, a step
that answers a next state answers one in which both still hold, whatever command runs. Under the law a WAITING claim
of wattage w fits exactly when w is not greater than the headroom, G + w is not greater than mains_budget_w and its
load has no settling entry; where the budget in force equals mains_budget_w the second test follows from the first;
a claim that fits keeps new grants within mains_budget_w. (R50) -/
def Obligations.EveryStepKeepsTheBudgetLaw : Prop :=
  (∀ s t : State, s.sumGranted + s.sumSettling ≤ s.lba.inForce → s.mains ≤ s.lba.inForce → step s = .next t →
      t.sumGranted + t.sumSettling ≤ t.lba.inForce ∧ t.mains ≤ t.lba.inForce) ∧
    (∀ (s : State) (l : Load), s.sumGranted + s.sumSettling ≤ s.lba.inForce → (s.claimOf l).state = .waiting →
      (s.fits l = true ↔
        s.watts l ≤ s.lba.inForce - (s.sumGranted + s.sumSettling) ∧ s.sumGranted + s.watts l ≤ s.mains ∧
          ∀ e ∈ s.lba.settling, e.load ≠ l)) ∧
    (∀ (s : State) (l : Load), s.sumGranted + s.sumSettling ≤ s.lba.inForce → s.lba.inForce = s.mains →
      s.watts l ≤ s.lba.inForce - (s.sumGranted + s.sumSettling) → s.sumGranted + s.watts l ≤ s.mains) ∧
    ∀ (s : State) (l : Load), (s.claimOf l).state = .waiting → s.fits l = true →
      (s.grant l).sumGranted ≤ s.mains ∧ (s.grant l).sumGranted + (s.grant l).sumSettling ≤ s.lba.inForce

/-- O59. From every state in which an inlet without owner is closed, a key that is only ever raised as WARNING is held
as WARNING, and under a LOCKOUT no claim stands and the inlet is closed, a step that answers a next state answers
one in which all of that still holds. (03_mains_load_budget.md, 3.9 Lockout and resets;
10_faults_and_protective_actions.md, 10.6 Fault level and its restraints; 01_water_path_and_heat.md, Inlet valve) -/
def Obligations.EveryStepKeepsTheLockoutSafe : Prop :=
  ∀ s t : State, s.LockoutSafe → step s = .next t → t.LockoutSafe

/-- O60. The state after reset meets the three invariants: every queue and list within its length, the budget law, and
what a LOCKOUT rests on. mains_budget_w is not above the budget in force, the second law of O58.
(12_start_up_standby_and_the_settings_store.md, 12.3 Start-up and resets; 03_mains_load_budget.md, 3.2 Settling and
the budget law) -/
def Obligations.ResetMeetsTheInvariants : Prop :=
  State.reset.Bounded ∧ State.reset.BudgetLaw ∧ State.reset.LockoutSafe ∧
    State.reset.mains ≤ State.reset.lba.inForce
end

