-- ==== Sys2Proof/Laws/State.lean ====
section
/-! SUPPORT. One lemma per field and update of the state: what an update of one block leaves, true by unfolding. -/

namespace Sys2Proof.Machine

open Sys2Proof

/-! Updates of PLK. -/

@[simp] theorem State.onPlk_now (s : State) (f : Plk → Plk) : (s.onPlk f).now = s.now := rfl
@[simp] theorem State.onPlk_settings (s : State) (f : Plk → Plk) : (s.onPlk f).settings = s.settings := rfl
@[simp] theorem State.onPlk_plk (s : State) (f : Plk → Plk) : (s.onPlk f).plk = f s.plk := rfl
@[simp] theorem State.onPlk_whu (s : State) (f : Plk → Plk) : (s.onPlk f).whu = s.whu := rfl
@[simp] theorem State.onPlk_csq (s : State) (f : Plk → Plk) : (s.onPlk f).csq = s.csq := rfl
@[simp] theorem State.onPlk_lba (s : State) (f : Plk → Plk) : (s.onPlk f).lba = s.lba := rfl
@[simp] theorem State.onPlk_sfc (s : State) (f : Plk → Plk) : (s.onPlk f).sfc = s.sfc := rfl
@[simp] theorem State.onPlk_dsc (s : State) (f : Plk → Plk) : (s.onPlk f).dsc = s.dsc := rfl
@[simp] theorem State.onPlk_dvc (s : State) (f : Plk → Plk) : (s.onPlk f).dvc = s.dvc := rfl
@[simp] theorem State.onPlk_mbi (s : State) (f : Plk → Plk) : (s.onPlk f).mbi = s.mbi := rfl
@[simp] theorem State.onPlk_msu (s : State) (f : Plk → Plk) : (s.onPlk f).msu = s.msu := rfl
@[simp] theorem State.onPlk_flu (s : State) (f : Plk → Plk) : (s.onPlk f).flu = s.flu := rfl
@[simp] theorem State.onPlk_sto (s : State) (f : Plk → Plk) : (s.onPlk f).sto = s.sto := rfl
@[simp] theorem State.onPlk_pending (s : State) (f : Plk → Plk) : (s.onPlk f).pending = s.pending := rfl
@[simp] theorem State.onPlk_onPlk (s : State) (f g : Plk → Plk) : (s.onPlk f).onPlk g = s.onPlk (g ∘ f) := rfl

/-! Updates of WHU. -/

@[simp] theorem State.onWhu_now (s : State) (f : Whu → Whu) : (s.onWhu f).now = s.now := rfl
@[simp] theorem State.onWhu_settings (s : State) (f : Whu → Whu) : (s.onWhu f).settings = s.settings := rfl
@[simp] theorem State.onWhu_plk (s : State) (f : Whu → Whu) : (s.onWhu f).plk = s.plk := rfl
@[simp] theorem State.onWhu_whu (s : State) (f : Whu → Whu) : (s.onWhu f).whu = f s.whu := rfl
@[simp] theorem State.onWhu_csq (s : State) (f : Whu → Whu) : (s.onWhu f).csq = s.csq := rfl
@[simp] theorem State.onWhu_lba (s : State) (f : Whu → Whu) : (s.onWhu f).lba = s.lba := rfl
@[simp] theorem State.onWhu_sfc (s : State) (f : Whu → Whu) : (s.onWhu f).sfc = s.sfc := rfl
@[simp] theorem State.onWhu_dsc (s : State) (f : Whu → Whu) : (s.onWhu f).dsc = s.dsc := rfl
@[simp] theorem State.onWhu_dvc (s : State) (f : Whu → Whu) : (s.onWhu f).dvc = s.dvc := rfl
@[simp] theorem State.onWhu_mbi (s : State) (f : Whu → Whu) : (s.onWhu f).mbi = s.mbi := rfl
@[simp] theorem State.onWhu_msu (s : State) (f : Whu → Whu) : (s.onWhu f).msu = s.msu := rfl
@[simp] theorem State.onWhu_flu (s : State) (f : Whu → Whu) : (s.onWhu f).flu = s.flu := rfl
@[simp] theorem State.onWhu_sto (s : State) (f : Whu → Whu) : (s.onWhu f).sto = s.sto := rfl
@[simp] theorem State.onWhu_pending (s : State) (f : Whu → Whu) : (s.onWhu f).pending = s.pending := rfl
@[simp] theorem State.onWhu_onWhu (s : State) (f g : Whu → Whu) : (s.onWhu f).onWhu g = s.onWhu (g ∘ f) := rfl

/-! Updates of CSQ. -/

@[simp] theorem State.onCsq_now (s : State) (f : Csq → Csq) : (s.onCsq f).now = s.now := rfl
@[simp] theorem State.onCsq_settings (s : State) (f : Csq → Csq) : (s.onCsq f).settings = s.settings := rfl
@[simp] theorem State.onCsq_plk (s : State) (f : Csq → Csq) : (s.onCsq f).plk = s.plk := rfl
@[simp] theorem State.onCsq_whu (s : State) (f : Csq → Csq) : (s.onCsq f).whu = s.whu := rfl
@[simp] theorem State.onCsq_csq (s : State) (f : Csq → Csq) : (s.onCsq f).csq = f s.csq := rfl
@[simp] theorem State.onCsq_lba (s : State) (f : Csq → Csq) : (s.onCsq f).lba = s.lba := rfl
@[simp] theorem State.onCsq_sfc (s : State) (f : Csq → Csq) : (s.onCsq f).sfc = s.sfc := rfl
@[simp] theorem State.onCsq_dsc (s : State) (f : Csq → Csq) : (s.onCsq f).dsc = s.dsc := rfl
@[simp] theorem State.onCsq_dvc (s : State) (f : Csq → Csq) : (s.onCsq f).dvc = s.dvc := rfl
@[simp] theorem State.onCsq_mbi (s : State) (f : Csq → Csq) : (s.onCsq f).mbi = s.mbi := rfl
@[simp] theorem State.onCsq_msu (s : State) (f : Csq → Csq) : (s.onCsq f).msu = s.msu := rfl
@[simp] theorem State.onCsq_flu (s : State) (f : Csq → Csq) : (s.onCsq f).flu = s.flu := rfl
@[simp] theorem State.onCsq_sto (s : State) (f : Csq → Csq) : (s.onCsq f).sto = s.sto := rfl
@[simp] theorem State.onCsq_pending (s : State) (f : Csq → Csq) : (s.onCsq f).pending = s.pending := rfl
@[simp] theorem State.onCsq_onCsq (s : State) (f g : Csq → Csq) : (s.onCsq f).onCsq g = s.onCsq (g ∘ f) := rfl

/-! Updates of LBA. -/

@[simp] theorem State.onLba_now (s : State) (f : Lba → Lba) : (s.onLba f).now = s.now := rfl
@[simp] theorem State.onLba_settings (s : State) (f : Lba → Lba) : (s.onLba f).settings = s.settings := rfl
@[simp] theorem State.onLba_plk (s : State) (f : Lba → Lba) : (s.onLba f).plk = s.plk := rfl
@[simp] theorem State.onLba_whu (s : State) (f : Lba → Lba) : (s.onLba f).whu = s.whu := rfl
@[simp] theorem State.onLba_csq (s : State) (f : Lba → Lba) : (s.onLba f).csq = s.csq := rfl
@[simp] theorem State.onLba_lba (s : State) (f : Lba → Lba) : (s.onLba f).lba = f s.lba := rfl
@[simp] theorem State.onLba_sfc (s : State) (f : Lba → Lba) : (s.onLba f).sfc = s.sfc := rfl
@[simp] theorem State.onLba_dsc (s : State) (f : Lba → Lba) : (s.onLba f).dsc = s.dsc := rfl
@[simp] theorem State.onLba_dvc (s : State) (f : Lba → Lba) : (s.onLba f).dvc = s.dvc := rfl
@[simp] theorem State.onLba_mbi (s : State) (f : Lba → Lba) : (s.onLba f).mbi = s.mbi := rfl
@[simp] theorem State.onLba_msu (s : State) (f : Lba → Lba) : (s.onLba f).msu = s.msu := rfl
@[simp] theorem State.onLba_flu (s : State) (f : Lba → Lba) : (s.onLba f).flu = s.flu := rfl
@[simp] theorem State.onLba_sto (s : State) (f : Lba → Lba) : (s.onLba f).sto = s.sto := rfl
@[simp] theorem State.onLba_pending (s : State) (f : Lba → Lba) : (s.onLba f).pending = s.pending := rfl
@[simp] theorem State.onLba_onLba (s : State) (f g : Lba → Lba) : (s.onLba f).onLba g = s.onLba (g ∘ f) := rfl

/-! Updates of SFC. -/

@[simp] theorem State.onSfc_now (s : State) (f : Sfc → Sfc) : (s.onSfc f).now = s.now := rfl
@[simp] theorem State.onSfc_settings (s : State) (f : Sfc → Sfc) : (s.onSfc f).settings = s.settings := rfl
@[simp] theorem State.onSfc_plk (s : State) (f : Sfc → Sfc) : (s.onSfc f).plk = s.plk := rfl
@[simp] theorem State.onSfc_whu (s : State) (f : Sfc → Sfc) : (s.onSfc f).whu = s.whu := rfl
@[simp] theorem State.onSfc_csq (s : State) (f : Sfc → Sfc) : (s.onSfc f).csq = s.csq := rfl
@[simp] theorem State.onSfc_lba (s : State) (f : Sfc → Sfc) : (s.onSfc f).lba = s.lba := rfl
@[simp] theorem State.onSfc_sfc (s : State) (f : Sfc → Sfc) : (s.onSfc f).sfc = f s.sfc := rfl
@[simp] theorem State.onSfc_dsc (s : State) (f : Sfc → Sfc) : (s.onSfc f).dsc = s.dsc := rfl
@[simp] theorem State.onSfc_dvc (s : State) (f : Sfc → Sfc) : (s.onSfc f).dvc = s.dvc := rfl
@[simp] theorem State.onSfc_mbi (s : State) (f : Sfc → Sfc) : (s.onSfc f).mbi = s.mbi := rfl
@[simp] theorem State.onSfc_msu (s : State) (f : Sfc → Sfc) : (s.onSfc f).msu = s.msu := rfl
@[simp] theorem State.onSfc_flu (s : State) (f : Sfc → Sfc) : (s.onSfc f).flu = s.flu := rfl
@[simp] theorem State.onSfc_sto (s : State) (f : Sfc → Sfc) : (s.onSfc f).sto = s.sto := rfl
@[simp] theorem State.onSfc_pending (s : State) (f : Sfc → Sfc) : (s.onSfc f).pending = s.pending := rfl
@[simp] theorem State.onSfc_onSfc (s : State) (f g : Sfc → Sfc) : (s.onSfc f).onSfc g = s.onSfc (g ∘ f) := rfl

/-! Updates of DSC. -/

@[simp] theorem State.onDsc_now (s : State) (f : Dsc → Dsc) : (s.onDsc f).now = s.now := rfl
@[simp] theorem State.onDsc_settings (s : State) (f : Dsc → Dsc) : (s.onDsc f).settings = s.settings := rfl
@[simp] theorem State.onDsc_plk (s : State) (f : Dsc → Dsc) : (s.onDsc f).plk = s.plk := rfl
@[simp] theorem State.onDsc_whu (s : State) (f : Dsc → Dsc) : (s.onDsc f).whu = s.whu := rfl
@[simp] theorem State.onDsc_csq (s : State) (f : Dsc → Dsc) : (s.onDsc f).csq = s.csq := rfl
@[simp] theorem State.onDsc_lba (s : State) (f : Dsc → Dsc) : (s.onDsc f).lba = s.lba := rfl
@[simp] theorem State.onDsc_sfc (s : State) (f : Dsc → Dsc) : (s.onDsc f).sfc = s.sfc := rfl
@[simp] theorem State.onDsc_dsc (s : State) (f : Dsc → Dsc) : (s.onDsc f).dsc = f s.dsc := rfl
@[simp] theorem State.onDsc_dvc (s : State) (f : Dsc → Dsc) : (s.onDsc f).dvc = s.dvc := rfl
@[simp] theorem State.onDsc_mbi (s : State) (f : Dsc → Dsc) : (s.onDsc f).mbi = s.mbi := rfl
@[simp] theorem State.onDsc_msu (s : State) (f : Dsc → Dsc) : (s.onDsc f).msu = s.msu := rfl
@[simp] theorem State.onDsc_flu (s : State) (f : Dsc → Dsc) : (s.onDsc f).flu = s.flu := rfl
@[simp] theorem State.onDsc_sto (s : State) (f : Dsc → Dsc) : (s.onDsc f).sto = s.sto := rfl
@[simp] theorem State.onDsc_pending (s : State) (f : Dsc → Dsc) : (s.onDsc f).pending = s.pending := rfl
@[simp] theorem State.onDsc_onDsc (s : State) (f g : Dsc → Dsc) : (s.onDsc f).onDsc g = s.onDsc (g ∘ f) := rfl

/-! Updates of DVC. -/

@[simp] theorem State.onDvc_now (s : State) (f : Dvc → Dvc) : (s.onDvc f).now = s.now := rfl
@[simp] theorem State.onDvc_settings (s : State) (f : Dvc → Dvc) : (s.onDvc f).settings = s.settings := rfl
@[simp] theorem State.onDvc_plk (s : State) (f : Dvc → Dvc) : (s.onDvc f).plk = s.plk := rfl
@[simp] theorem State.onDvc_whu (s : State) (f : Dvc → Dvc) : (s.onDvc f).whu = s.whu := rfl
@[simp] theorem State.onDvc_csq (s : State) (f : Dvc → Dvc) : (s.onDvc f).csq = s.csq := rfl
@[simp] theorem State.onDvc_lba (s : State) (f : Dvc → Dvc) : (s.onDvc f).lba = s.lba := rfl
@[simp] theorem State.onDvc_sfc (s : State) (f : Dvc → Dvc) : (s.onDvc f).sfc = s.sfc := rfl
@[simp] theorem State.onDvc_dsc (s : State) (f : Dvc → Dvc) : (s.onDvc f).dsc = s.dsc := rfl
@[simp] theorem State.onDvc_dvc (s : State) (f : Dvc → Dvc) : (s.onDvc f).dvc = f s.dvc := rfl
@[simp] theorem State.onDvc_mbi (s : State) (f : Dvc → Dvc) : (s.onDvc f).mbi = s.mbi := rfl
@[simp] theorem State.onDvc_msu (s : State) (f : Dvc → Dvc) : (s.onDvc f).msu = s.msu := rfl
@[simp] theorem State.onDvc_flu (s : State) (f : Dvc → Dvc) : (s.onDvc f).flu = s.flu := rfl
@[simp] theorem State.onDvc_sto (s : State) (f : Dvc → Dvc) : (s.onDvc f).sto = s.sto := rfl
@[simp] theorem State.onDvc_pending (s : State) (f : Dvc → Dvc) : (s.onDvc f).pending = s.pending := rfl
@[simp] theorem State.onDvc_onDvc (s : State) (f g : Dvc → Dvc) : (s.onDvc f).onDvc g = s.onDvc (g ∘ f) := rfl

/-! Updates of MBI. -/

@[simp] theorem State.onMbi_now (s : State) (f : Mbi → Mbi) : (s.onMbi f).now = s.now := rfl
@[simp] theorem State.onMbi_settings (s : State) (f : Mbi → Mbi) : (s.onMbi f).settings = s.settings := rfl
@[simp] theorem State.onMbi_plk (s : State) (f : Mbi → Mbi) : (s.onMbi f).plk = s.plk := rfl
@[simp] theorem State.onMbi_whu (s : State) (f : Mbi → Mbi) : (s.onMbi f).whu = s.whu := rfl
@[simp] theorem State.onMbi_csq (s : State) (f : Mbi → Mbi) : (s.onMbi f).csq = s.csq := rfl
@[simp] theorem State.onMbi_lba (s : State) (f : Mbi → Mbi) : (s.onMbi f).lba = s.lba := rfl
@[simp] theorem State.onMbi_sfc (s : State) (f : Mbi → Mbi) : (s.onMbi f).sfc = s.sfc := rfl
@[simp] theorem State.onMbi_dsc (s : State) (f : Mbi → Mbi) : (s.onMbi f).dsc = s.dsc := rfl
@[simp] theorem State.onMbi_dvc (s : State) (f : Mbi → Mbi) : (s.onMbi f).dvc = s.dvc := rfl
@[simp] theorem State.onMbi_mbi (s : State) (f : Mbi → Mbi) : (s.onMbi f).mbi = f s.mbi := rfl
@[simp] theorem State.onMbi_msu (s : State) (f : Mbi → Mbi) : (s.onMbi f).msu = s.msu := rfl
@[simp] theorem State.onMbi_flu (s : State) (f : Mbi → Mbi) : (s.onMbi f).flu = s.flu := rfl
@[simp] theorem State.onMbi_sto (s : State) (f : Mbi → Mbi) : (s.onMbi f).sto = s.sto := rfl
@[simp] theorem State.onMbi_pending (s : State) (f : Mbi → Mbi) : (s.onMbi f).pending = s.pending := rfl
@[simp] theorem State.onMbi_onMbi (s : State) (f g : Mbi → Mbi) : (s.onMbi f).onMbi g = s.onMbi (g ∘ f) := rfl

/-! Updates of MSU. -/

@[simp] theorem State.onMsu_now (s : State) (f : Msu → Msu) : (s.onMsu f).now = s.now := rfl
@[simp] theorem State.onMsu_settings (s : State) (f : Msu → Msu) : (s.onMsu f).settings = s.settings := rfl
@[simp] theorem State.onMsu_plk (s : State) (f : Msu → Msu) : (s.onMsu f).plk = s.plk := rfl
@[simp] theorem State.onMsu_whu (s : State) (f : Msu → Msu) : (s.onMsu f).whu = s.whu := rfl
@[simp] theorem State.onMsu_csq (s : State) (f : Msu → Msu) : (s.onMsu f).csq = s.csq := rfl
@[simp] theorem State.onMsu_lba (s : State) (f : Msu → Msu) : (s.onMsu f).lba = s.lba := rfl
@[simp] theorem State.onMsu_sfc (s : State) (f : Msu → Msu) : (s.onMsu f).sfc = s.sfc := rfl
@[simp] theorem State.onMsu_dsc (s : State) (f : Msu → Msu) : (s.onMsu f).dsc = s.dsc := rfl
@[simp] theorem State.onMsu_dvc (s : State) (f : Msu → Msu) : (s.onMsu f).dvc = s.dvc := rfl
@[simp] theorem State.onMsu_mbi (s : State) (f : Msu → Msu) : (s.onMsu f).mbi = s.mbi := rfl
@[simp] theorem State.onMsu_msu (s : State) (f : Msu → Msu) : (s.onMsu f).msu = f s.msu := rfl
@[simp] theorem State.onMsu_flu (s : State) (f : Msu → Msu) : (s.onMsu f).flu = s.flu := rfl
@[simp] theorem State.onMsu_sto (s : State) (f : Msu → Msu) : (s.onMsu f).sto = s.sto := rfl
@[simp] theorem State.onMsu_pending (s : State) (f : Msu → Msu) : (s.onMsu f).pending = s.pending := rfl
@[simp] theorem State.onMsu_onMsu (s : State) (f g : Msu → Msu) : (s.onMsu f).onMsu g = s.onMsu (g ∘ f) := rfl

/-! Updates of FLU. -/

@[simp] theorem State.onFlu_now (s : State) (f : Flu → Flu) : (s.onFlu f).now = s.now := rfl
@[simp] theorem State.onFlu_settings (s : State) (f : Flu → Flu) : (s.onFlu f).settings = s.settings := rfl
@[simp] theorem State.onFlu_plk (s : State) (f : Flu → Flu) : (s.onFlu f).plk = s.plk := rfl
@[simp] theorem State.onFlu_whu (s : State) (f : Flu → Flu) : (s.onFlu f).whu = s.whu := rfl
@[simp] theorem State.onFlu_csq (s : State) (f : Flu → Flu) : (s.onFlu f).csq = s.csq := rfl
@[simp] theorem State.onFlu_lba (s : State) (f : Flu → Flu) : (s.onFlu f).lba = s.lba := rfl
@[simp] theorem State.onFlu_sfc (s : State) (f : Flu → Flu) : (s.onFlu f).sfc = s.sfc := rfl
@[simp] theorem State.onFlu_dsc (s : State) (f : Flu → Flu) : (s.onFlu f).dsc = s.dsc := rfl
@[simp] theorem State.onFlu_dvc (s : State) (f : Flu → Flu) : (s.onFlu f).dvc = s.dvc := rfl
@[simp] theorem State.onFlu_mbi (s : State) (f : Flu → Flu) : (s.onFlu f).mbi = s.mbi := rfl
@[simp] theorem State.onFlu_msu (s : State) (f : Flu → Flu) : (s.onFlu f).msu = s.msu := rfl
@[simp] theorem State.onFlu_flu (s : State) (f : Flu → Flu) : (s.onFlu f).flu = f s.flu := rfl
@[simp] theorem State.onFlu_sto (s : State) (f : Flu → Flu) : (s.onFlu f).sto = s.sto := rfl
@[simp] theorem State.onFlu_pending (s : State) (f : Flu → Flu) : (s.onFlu f).pending = s.pending := rfl
@[simp] theorem State.onFlu_onFlu (s : State) (f g : Flu → Flu) : (s.onFlu f).onFlu g = s.onFlu (g ∘ f) := rfl

/-! Updates of STO. -/

@[simp] theorem State.onSto_now (s : State) (f : Sto → Sto) : (s.onSto f).now = s.now := rfl
@[simp] theorem State.onSto_settings (s : State) (f : Sto → Sto) : (s.onSto f).settings = s.settings := rfl
@[simp] theorem State.onSto_plk (s : State) (f : Sto → Sto) : (s.onSto f).plk = s.plk := rfl
@[simp] theorem State.onSto_whu (s : State) (f : Sto → Sto) : (s.onSto f).whu = s.whu := rfl
@[simp] theorem State.onSto_csq (s : State) (f : Sto → Sto) : (s.onSto f).csq = s.csq := rfl
@[simp] theorem State.onSto_lba (s : State) (f : Sto → Sto) : (s.onSto f).lba = s.lba := rfl
@[simp] theorem State.onSto_sfc (s : State) (f : Sto → Sto) : (s.onSto f).sfc = s.sfc := rfl
@[simp] theorem State.onSto_dsc (s : State) (f : Sto → Sto) : (s.onSto f).dsc = s.dsc := rfl
@[simp] theorem State.onSto_dvc (s : State) (f : Sto → Sto) : (s.onSto f).dvc = s.dvc := rfl
@[simp] theorem State.onSto_mbi (s : State) (f : Sto → Sto) : (s.onSto f).mbi = s.mbi := rfl
@[simp] theorem State.onSto_msu (s : State) (f : Sto → Sto) : (s.onSto f).msu = s.msu := rfl
@[simp] theorem State.onSto_flu (s : State) (f : Sto → Sto) : (s.onSto f).flu = s.flu := rfl
@[simp] theorem State.onSto_sto (s : State) (f : Sto → Sto) : (s.onSto f).sto = f s.sto := rfl
@[simp] theorem State.onSto_pending (s : State) (f : Sto → Sto) : (s.onSto f).pending = s.pending := rfl
@[simp] theorem State.onSto_onSto (s : State) (f g : Sto → Sto) : (s.onSto f).onSto g = s.onSto (g ∘ f) := rfl

/-! The queue of commands. -/

@[simp] theorem State.push_now (s : State) (c : Instr) : (s.push c).now = s.now := rfl
@[simp] theorem State.push_settings (s : State) (c : Instr) : (s.push c).settings = s.settings := rfl
@[simp] theorem State.push_plk (s : State) (c : Instr) : (s.push c).plk = s.plk := rfl
@[simp] theorem State.push_whu (s : State) (c : Instr) : (s.push c).whu = s.whu := rfl
@[simp] theorem State.push_csq (s : State) (c : Instr) : (s.push c).csq = s.csq := rfl
@[simp] theorem State.push_lba (s : State) (c : Instr) : (s.push c).lba = s.lba := rfl
@[simp] theorem State.push_sfc (s : State) (c : Instr) : (s.push c).sfc = s.sfc := rfl
@[simp] theorem State.push_dsc (s : State) (c : Instr) : (s.push c).dsc = s.dsc := rfl
@[simp] theorem State.push_dvc (s : State) (c : Instr) : (s.push c).dvc = s.dvc := rfl
@[simp] theorem State.push_mbi (s : State) (c : Instr) : (s.push c).mbi = s.mbi := rfl
@[simp] theorem State.push_msu (s : State) (c : Instr) : (s.push c).msu = s.msu := rfl
@[simp] theorem State.push_flu (s : State) (c : Instr) : (s.push c).flu = s.flu := rfl
@[simp] theorem State.push_sto (s : State) (c : Instr) : (s.push c).sto = s.sto := rfl
@[simp] theorem State.push_pending (s : State) (c : Instr) : (s.push c).pending = c :: s.pending := rfl

/-! Replies and the settings. -/

@[simp] theorem State.reply_now (s : State) (k t : Octet) (st : Status) (fs : List Octet) :
    (s.reply k t st fs).now = s.now := rfl
@[simp] theorem State.reply_settings (s : State) (k t : Octet) (st : Status) (fs : List Octet) :
    (s.reply k t st fs).settings = s.settings := rfl
@[simp] theorem State.reply_plk (s : State) (k t : Octet) (st : Status) (fs : List Octet) :
    (s.reply k t st fs).plk = { s.plk with reply := some { kind := k, tag := t, status := st, fields := fs } } := rfl
@[simp] theorem State.reply_whu (s : State) (k t : Octet) (st : Status) (fs : List Octet) :
    (s.reply k t st fs).whu = s.whu := rfl
@[simp] theorem State.reply_csq (s : State) (k t : Octet) (st : Status) (fs : List Octet) :
    (s.reply k t st fs).csq = s.csq := rfl
@[simp] theorem State.reply_lba (s : State) (k t : Octet) (st : Status) (fs : List Octet) :
    (s.reply k t st fs).lba = s.lba := rfl
@[simp] theorem State.reply_sfc (s : State) (k t : Octet) (st : Status) (fs : List Octet) :
    (s.reply k t st fs).sfc = s.sfc := rfl
@[simp] theorem State.reply_dsc (s : State) (k t : Octet) (st : Status) (fs : List Octet) :
    (s.reply k t st fs).dsc = s.dsc := rfl
@[simp] theorem State.reply_dvc (s : State) (k t : Octet) (st : Status) (fs : List Octet) :
    (s.reply k t st fs).dvc = s.dvc := rfl
@[simp] theorem State.reply_mbi (s : State) (k t : Octet) (st : Status) (fs : List Octet) :
    (s.reply k t st fs).mbi = s.mbi := rfl
@[simp] theorem State.reply_msu (s : State) (k t : Octet) (st : Status) (fs : List Octet) :
    (s.reply k t st fs).msu = s.msu := rfl
@[simp] theorem State.reply_flu (s : State) (k t : Octet) (st : Status) (fs : List Octet) :
    (s.reply k t st fs).flu = s.flu := rfl
@[simp] theorem State.reply_sto (s : State) (k t : Octet) (st : Status) (fs : List Octet) :
    (s.reply k t st fs).sto = s.sto := rfl
@[simp] theorem State.reply_pending (s : State) (k t : Octet) (st : Status) (fs : List Octet) :
    (s.reply k t st fs).pending = s.pending := rfl
@[simp] theorem State.putSetting_now (s : State) (i : SettingIx) (v : Int) :
    (s.putSetting i v).now = s.now := rfl
@[simp] theorem State.putSetting_settings (s : State) (i : SettingIx) (v : Int) :
    (s.putSetting i v).settings = s.settings.set i.val v i.isLt := rfl
@[simp] theorem State.putSetting_plk (s : State) (i : SettingIx) (v : Int) :
    (s.putSetting i v).plk = s.plk := rfl
@[simp] theorem State.putSetting_whu (s : State) (i : SettingIx) (v : Int) :
    (s.putSetting i v).whu = s.whu := rfl
@[simp] theorem State.putSetting_csq (s : State) (i : SettingIx) (v : Int) :
    (s.putSetting i v).csq = s.csq := rfl
@[simp] theorem State.putSetting_lba (s : State) (i : SettingIx) (v : Int) :
    (s.putSetting i v).lba = s.lba := rfl
@[simp] theorem State.putSetting_sfc (s : State) (i : SettingIx) (v : Int) :
    (s.putSetting i v).sfc = s.sfc := rfl
@[simp] theorem State.putSetting_dsc (s : State) (i : SettingIx) (v : Int) :
    (s.putSetting i v).dsc = s.dsc := rfl
@[simp] theorem State.putSetting_dvc (s : State) (i : SettingIx) (v : Int) :
    (s.putSetting i v).dvc = s.dvc := rfl
@[simp] theorem State.putSetting_mbi (s : State) (i : SettingIx) (v : Int) :
    (s.putSetting i v).mbi = s.mbi := rfl
@[simp] theorem State.putSetting_msu (s : State) (i : SettingIx) (v : Int) :
    (s.putSetting i v).msu = s.msu := rfl
@[simp] theorem State.putSetting_flu (s : State) (i : SettingIx) (v : Int) :
    (s.putSetting i v).flu = s.flu := rfl
@[simp] theorem State.putSetting_sto (s : State) (i : SettingIx) (v : Int) :
    (s.putSetting i v).sto = s.sto := rfl
@[simp] theorem State.putSetting_pending (s : State) (i : SettingIx) (v : Int) :
    (s.putSetting i v).pending = s.pending := rfl

end Sys2Proof.Machine
end

