-- ==== Sys2Proof/Laws/Ops.lean ====
section
/-! SUPPORT. What each shared operation can do, said once: the fields it leaves alone, what the lookups read after an
update, and its result case by case, so that a proof cites these and does not unfold the operation. -/

namespace Sys2Proof.Machine

open Sys2Proof

/-! ### What each shared operation leaves alone -/

@[simp] theorem State.place_frame (s : State) (n : Notice) :
    (s.place n).now = s.now ∧ (s.place n).settings = s.settings ∧ (s.place n).whu = s.whu ∧ (s.place n).csq = s.csq ∧
    (s.place n).lba = s.lba ∧ (s.place n).sfc = s.sfc ∧ (s.place n).dsc = s.dsc ∧ (s.place n).dvc = s.dvc ∧
    (s.place n).mbi = s.mbi ∧ (s.place n).msu = s.msu ∧ (s.place n).flu = s.flu ∧ (s.place n).sto = s.sto ∧
    (s.place n).pending = s.pending := by
  unfold State.place; split <;> simp

@[simp] theorem State.reply_frame (s : State) (kind tag : Octet) (status : Status) (fields : List Octet) :
    (s.reply kind tag status fields).now = s.now ∧ (s.reply kind tag status fields).settings = s.settings ∧
    (s.reply kind tag status fields).whu = s.whu ∧ (s.reply kind tag status fields).csq = s.csq ∧
    (s.reply kind tag status fields).lba = s.lba ∧ (s.reply kind tag status fields).sfc = s.sfc ∧
    (s.reply kind tag status fields).dsc = s.dsc ∧ (s.reply kind tag status fields).dvc = s.dvc ∧
    (s.reply kind tag status fields).mbi = s.mbi ∧ (s.reply kind tag status fields).msu = s.msu ∧
    (s.reply kind tag status fields).flu = s.flu ∧ (s.reply kind tag status fields).sto = s.sto ∧
    (s.reply kind tag status fields).pending = s.pending := by
  simp [State.reply]

@[simp] theorem State.chooseTx_frame (s : State) :
    (s.chooseTx).now = s.now ∧ (s.chooseTx).settings = s.settings ∧ (s.chooseTx).whu = s.whu ∧ (s.chooseTx).csq = s.csq ∧
    (s.chooseTx).lba = s.lba ∧ (s.chooseTx).sfc = s.sfc ∧ (s.chooseTx).dsc = s.dsc ∧ (s.chooseTx).dvc = s.dvc ∧
    (s.chooseTx).mbi = s.mbi ∧ (s.chooseTx).msu = s.msu ∧ (s.chooseTx).flu = s.flu ∧ (s.chooseTx).sto = s.sto ∧
    (s.chooseTx).pending = s.pending := by
  unfold State.chooseTx; split <;> simp

@[simp] theorem State.kickTx_frame (s : State) :
    (s.kickTx).now = s.now ∧ (s.kickTx).settings = s.settings ∧ (s.kickTx).whu = s.whu ∧ (s.kickTx).csq = s.csq ∧
    (s.kickTx).lba = s.lba ∧ (s.kickTx).sfc = s.sfc ∧ (s.kickTx).dsc = s.dsc ∧ (s.kickTx).dvc = s.dvc ∧
    (s.kickTx).mbi = s.mbi ∧ (s.kickTx).msu = s.msu ∧ (s.kickTx).flu = s.flu ∧ (s.kickTx).sto = s.sto ∧
    (s.kickTx).pending = s.pending := by
  unfold State.kickTx; split <;> simp

@[simp] theorem State.linkError_frame (s : State) :
    (s.linkError).now = s.now ∧ (s.linkError).settings = s.settings ∧ (s.linkError).whu = s.whu ∧
    (s.linkError).csq = s.csq ∧ (s.linkError).lba = s.lba ∧ (s.linkError).sfc = s.sfc ∧ (s.linkError).dsc = s.dsc ∧
    (s.linkError).dvc = s.dvc ∧ (s.linkError).mbi = s.mbi ∧ (s.linkError).msu = s.msu ∧ (s.linkError).flu = s.flu ∧
    (s.linkError).sto = s.sto ∧ (s.linkError).pending = s.pending := by
  simp [State.linkError]

@[simp] theorem State.startWrite_frame (s : State) (image : ImageId) :
    (s.startWrite image).now = s.now ∧ (s.startWrite image).settings = s.settings ∧ (s.startWrite image).plk = s.plk ∧
    (s.startWrite image).whu = s.whu ∧ (s.startWrite image).csq = s.csq ∧ (s.startWrite image).lba = s.lba ∧
    (s.startWrite image).sfc = s.sfc ∧ (s.startWrite image).dsc = s.dsc ∧ (s.startWrite image).dvc = s.dvc ∧
    (s.startWrite image).mbi = s.mbi ∧ (s.startWrite image).msu = s.msu ∧ (s.startWrite image).flu = s.flu ∧
    (s.startWrite image).pending = s.pending := by
  cases image <;> simp [State.startWrite]

@[simp] theorem State.kickStore_frame (s : State) :
    (s.kickStore).now = s.now ∧ (s.kickStore).settings = s.settings ∧ (s.kickStore).plk = s.plk ∧
    (s.kickStore).whu = s.whu ∧ (s.kickStore).csq = s.csq ∧ (s.kickStore).lba = s.lba ∧ (s.kickStore).sfc = s.sfc ∧
    (s.kickStore).dsc = s.dsc ∧ (s.kickStore).dvc = s.dvc ∧ (s.kickStore).mbi = s.mbi ∧ (s.kickStore).msu = s.msu ∧
    (s.kickStore).flu = s.flu ∧ (s.kickStore).pending = s.pending := by
  unfold State.kickStore; repeat' split
  all_goals simp

@[simp] theorem State.saveCounters_frame (s : State) :
    (s.saveCounters).now = s.now ∧ (s.saveCounters).settings = s.settings ∧ (s.saveCounters).plk = s.plk ∧
    (s.saveCounters).whu = s.whu ∧ (s.saveCounters).csq = s.csq ∧ (s.saveCounters).lba = s.lba ∧
    (s.saveCounters).sfc = s.sfc ∧ (s.saveCounters).dsc = s.dsc ∧ (s.saveCounters).dvc = s.dvc ∧
    (s.saveCounters).mbi = s.mbi ∧ (s.saveCounters).msu = s.msu ∧ (s.saveCounters).flu = s.flu ∧
    (s.saveCounters).pending = s.pending := by
  simp [State.saveCounters]

@[simp] theorem State.endWrite_frame (s : State) :
    (s.endWrite).now = s.now ∧ (s.endWrite).settings = s.settings ∧ (s.endWrite).plk = s.plk ∧ (s.endWrite).whu = s.whu ∧
    (s.endWrite).csq = s.csq ∧ (s.endWrite).lba = s.lba ∧ (s.endWrite).sfc = s.sfc ∧ (s.endWrite).dsc = s.dsc ∧
    (s.endWrite).dvc = s.dvc ∧ (s.endWrite).mbi = s.mbi ∧ (s.endWrite).msu = s.msu ∧ (s.endWrite).flu = s.flu ∧
    (s.endWrite).pending = s.pending := by
  unfold State.endWrite; split <;> simp

@[simp] theorem State.wake_frame (s : State) (cause : StandbyCause) :
    (s.wake cause).now = s.now ∧ (s.wake cause).settings = s.settings ∧ (s.wake cause).plk = s.plk ∧
    (s.wake cause).whu = s.whu ∧ (s.wake cause).csq = s.csq ∧ (s.wake cause).lba = s.lba ∧ (s.wake cause).sfc = s.sfc ∧
    (s.wake cause).dsc = s.dsc ∧ (s.wake cause).dvc = s.dvc ∧ (s.wake cause).mbi = s.mbi ∧ (s.wake cause).msu = s.msu ∧
    (s.wake cause).flu = s.flu ∧ (s.wake cause).pending = s.pending := by
  unfold State.wake; split <;> simp

@[simp] theorem State.setPower_frame (s : State) (p : Power) (cause : StandbyCause) :
    (s.setPower p cause).now = s.now ∧ (s.setPower p cause).settings = s.settings ∧ (s.setPower p cause).whu = s.whu ∧
    (s.setPower p cause).csq = s.csq ∧ (s.setPower p cause).lba = s.lba ∧ (s.setPower p cause).sfc = s.sfc ∧
    (s.setPower p cause).dsc = s.dsc ∧ (s.setPower p cause).dvc = s.dvc ∧ (s.setPower p cause).mbi = s.mbi ∧
    (s.setPower p cause).msu = s.msu ∧ (s.setPower p cause).flu = s.flu ∧ (s.setPower p cause).pending = s.pending := by
  simp [State.setPower]

@[simp] theorem State.endPendingStandby_frame (s : State) :
    (s.endPendingStandby).now = s.now ∧ (s.endPendingStandby).settings = s.settings ∧ (s.endPendingStandby).whu = s.whu ∧
    (s.endPendingStandby).csq = s.csq ∧ (s.endPendingStandby).lba = s.lba ∧ (s.endPendingStandby).sfc = s.sfc ∧
    (s.endPendingStandby).dsc = s.dsc ∧ (s.endPendingStandby).dvc = s.dvc ∧ (s.endPendingStandby).mbi = s.mbi ∧
    (s.endPendingStandby).msu = s.msu ∧ (s.endPendingStandby).flu = s.flu ∧ (s.endPendingStandby).pending = s.pending := by
  unfold State.endPendingStandby; split <;> simp

@[simp] theorem State.onFault_frame (s : State) (code : FaultCode) (detail : Nat) (f : FaultRec → FaultRec) :
    (s.onFault code detail f).now = s.now ∧ (s.onFault code detail f).settings = s.settings ∧
    (s.onFault code detail f).plk = s.plk ∧ (s.onFault code detail f).whu = s.whu ∧ (s.onFault code detail f).csq = s.csq ∧
    (s.onFault code detail f).lba = s.lba ∧ (s.onFault code detail f).sfc = s.sfc ∧ (s.onFault code detail f).dsc = s.dsc ∧
    (s.onFault code detail f).dvc = s.dvc ∧ (s.onFault code detail f).mbi = s.mbi ∧ (s.onFault code detail f).msu = s.msu ∧
    (s.onFault code detail f).sto = s.sto ∧ (s.onFault code detail f).pending = s.pending := by
  simp [State.onFault]

@[simp] theorem State.faultNotice_frame (s : State) (event : FaultEvent) (r : FaultRec) :
    (s.faultNotice event r).now = s.now ∧ (s.faultNotice event r).settings = s.settings ∧
    (s.faultNotice event r).whu = s.whu ∧ (s.faultNotice event r).csq = s.csq ∧ (s.faultNotice event r).lba = s.lba ∧
    (s.faultNotice event r).sfc = s.sfc ∧ (s.faultNotice event r).dsc = s.dsc ∧ (s.faultNotice event r).dvc = s.dvc ∧
    (s.faultNotice event r).mbi = s.mbi ∧ (s.faultNotice event r).msu = s.msu ∧ (s.faultNotice event r).flu = s.flu ∧
    (s.faultNotice event r).sto = s.sto ∧ (s.faultNotice event r).pending = s.pending := by
  simp [State.faultNotice]

@[simp] theorem State.noteFault_frame (s : State) (event : FaultEvent) (code : FaultCode) (detail : Nat) :
    (s.noteFault event code detail).now = s.now ∧ (s.noteFault event code detail).settings = s.settings ∧
    (s.noteFault event code detail).whu = s.whu ∧ (s.noteFault event code detail).csq = s.csq ∧
    (s.noteFault event code detail).lba = s.lba ∧ (s.noteFault event code detail).sfc = s.sfc ∧
    (s.noteFault event code detail).dsc = s.dsc ∧ (s.noteFault event code detail).dvc = s.dvc ∧
    (s.noteFault event code detail).mbi = s.mbi ∧ (s.noteFault event code detail).msu = s.msu ∧
    (s.noteFault event code detail).flu = s.flu ∧ (s.noteFault event code detail).sto = s.sto ∧
    (s.noteFault event code detail).pending = s.pending := by
  unfold State.noteFault; split <;> simp

@[simp] theorem State.removeFault_frame (s : State) (code : FaultCode) (detail : Nat) :
    (s.removeFault code detail).now = s.now ∧ (s.removeFault code detail).settings = s.settings ∧
    (s.removeFault code detail).whu = s.whu ∧ (s.removeFault code detail).csq = s.csq ∧
    (s.removeFault code detail).lba = s.lba ∧ (s.removeFault code detail).sfc = s.sfc ∧
    (s.removeFault code detail).dsc = s.dsc ∧ (s.removeFault code detail).dvc = s.dvc ∧
    (s.removeFault code detail).mbi = s.mbi ∧ (s.removeFault code detail).msu = s.msu ∧
    (s.removeFault code detail).sto = s.sto ∧ (s.removeFault code detail).pending = s.pending := by
  unfold State.removeFault; split <;> simp

@[simp] theorem State.createFault_frame (s : State) (code : FaultCode) (detail : Nat) (cls : FaultClass) :
    (s.createFault code detail cls).now = s.now ∧ (s.createFault code detail cls).settings = s.settings ∧
    (s.createFault code detail cls).whu = s.whu ∧ (s.createFault code detail cls).csq = s.csq ∧
    (s.createFault code detail cls).lba = s.lba ∧ (s.createFault code detail cls).sfc = s.sfc ∧
    (s.createFault code detail cls).dsc = s.dsc ∧ (s.createFault code detail cls).dvc = s.dvc ∧
    (s.createFault code detail cls).mbi = s.mbi ∧ (s.createFault code detail cls).msu = s.msu ∧
    (s.createFault code detail cls).sto = s.sto ∧ (s.createFault code detail cls).pending = s.pending := by
  simp [State.createFault]

@[simp] theorem State.enterFault_frame (s : State) (code : FaultCode) (detail : Nat) (cls : FaultClass) :
    ((s.enterFault code detail cls).1).now = s.now ∧ ((s.enterFault code detail cls).1).settings = s.settings ∧
    ((s.enterFault code detail cls).1).whu = s.whu ∧ ((s.enterFault code detail cls).1).csq = s.csq ∧
    ((s.enterFault code detail cls).1).lba = s.lba ∧ ((s.enterFault code detail cls).1).sfc = s.sfc ∧
    ((s.enterFault code detail cls).1).dsc = s.dsc ∧ ((s.enterFault code detail cls).1).dvc = s.dvc ∧
    ((s.enterFault code detail cls).1).mbi = s.mbi ∧ ((s.enterFault code detail cls).1).msu = s.msu ∧
    ((s.enterFault code detail cls).1).sto = s.sto ∧ ((s.enterFault code detail cls).1).pending = s.pending := by
  unfold State.enterFault; split
  · dsimp only; split <;> simp
  · repeat' split
    all_goals simp

@[simp] theorem State.escalate_frame (s : State) (code : FaultCode) (detail : Nat) (cls : FaultClass) :
    (s.escalate code detail cls).now = s.now ∧ (s.escalate code detail cls).settings = s.settings ∧
    (s.escalate code detail cls).whu = s.whu ∧ (s.escalate code detail cls).csq = s.csq ∧
    (s.escalate code detail cls).lba = s.lba ∧ (s.escalate code detail cls).sfc = s.sfc ∧
    (s.escalate code detail cls).dsc = s.dsc ∧ (s.escalate code detail cls).dvc = s.dvc ∧
    (s.escalate code detail cls).mbi = s.mbi ∧ (s.escalate code detail cls).msu = s.msu ∧
    (s.escalate code detail cls).sto = s.sto ∧ (s.escalate code detail cls).pending = s.pending := by
  unfold State.escalate; dsimp only; repeat' split
  all_goals simp

@[simp] theorem State.raiseList_frame (s : State) (code : FaultCode) (detail : Nat) (cls : FaultClass) :
    ((s.raiseList code detail cls).1).now = s.now ∧ ((s.raiseList code detail cls).1).settings = s.settings ∧
    ((s.raiseList code detail cls).1).whu = s.whu ∧ ((s.raiseList code detail cls).1).csq = s.csq ∧
    ((s.raiseList code detail cls).1).lba = s.lba ∧ ((s.raiseList code detail cls).1).sfc = s.sfc ∧
    ((s.raiseList code detail cls).1).dsc = s.dsc ∧ ((s.raiseList code detail cls).1).dvc = s.dvc ∧
    ((s.raiseList code detail cls).1).mbi = s.mbi ∧ ((s.raiseList code detail cls).1).msu = s.msu ∧
    ((s.raiseList code detail cls).1).pending = s.pending := by
  have h := s.enterFault_frame code detail cls
  revert h; unfold State.raiseList; rcases s.enterFault code detail cls with ⟨t, b⟩; cases b <;> simp +contextual

@[simp] theorem State.warn_frame (s : State) (code : FaultCode) (detail : Nat) :
    (s.warn code detail).now = s.now ∧ (s.warn code detail).settings = s.settings ∧ (s.warn code detail).whu = s.whu ∧
    (s.warn code detail).csq = s.csq ∧ (s.warn code detail).lba = s.lba ∧ (s.warn code detail).sfc = s.sfc ∧
    (s.warn code detail).dsc = s.dsc ∧ (s.warn code detail).dvc = s.dvc ∧ (s.warn code detail).mbi = s.mbi ∧
    (s.warn code detail).msu = s.msu ∧ (s.warn code detail).pending = s.pending := by
  simp [State.warn]

@[simp] theorem State.endCondition_frame (s : State) (code : FaultCode) (detail : Nat) :
    (s.endCondition code detail).now = s.now ∧ (s.endCondition code detail).settings = s.settings ∧
    (s.endCondition code detail).whu = s.whu ∧ (s.endCondition code detail).csq = s.csq ∧
    (s.endCondition code detail).lba = s.lba ∧ (s.endCondition code detail).sfc = s.sfc ∧
    (s.endCondition code detail).dsc = s.dsc ∧ (s.endCondition code detail).dvc = s.dvc ∧
    (s.endCondition code detail).mbi = s.mbi ∧ (s.endCondition code detail).msu = s.msu ∧
    (s.endCondition code detail).sto = s.sto ∧ (s.endCondition code detail).pending = s.pending := by
  unfold State.endCondition; split
  · simp
  · split <;> simp

@[simp] theorem State.countDosing_frame (s : State) (f : Dosing → Dosing) :
    (s.countDosing f).now = s.now ∧ (s.countDosing f).settings = s.settings ∧ (s.countDosing f).plk = s.plk ∧
    (s.countDosing f).whu = s.whu ∧ (s.countDosing f).lba = s.lba ∧ (s.countDosing f).sfc = s.sfc ∧
    (s.countDosing f).dsc = s.dsc ∧ (s.countDosing f).dvc = s.dvc ∧ (s.countDosing f).mbi = s.mbi ∧
    (s.countDosing f).msu = s.msu ∧ (s.countDosing f).flu = s.flu ∧ (s.countDosing f).sto = s.sto ∧
    (s.countDosing f).pending = s.pending := by
  simp [State.countDosing]

@[simp] theorem State.onEntry_frame (s : State) (a : Addr) (f : Entry → Entry) :
    (s.onEntry a f).now = s.now ∧ (s.onEntry a f).settings = s.settings ∧ (s.onEntry a f).plk = s.plk ∧
    (s.onEntry a f).whu = s.whu ∧ (s.onEntry a f).csq = s.csq ∧ (s.onEntry a f).lba = s.lba ∧ (s.onEntry a f).sfc = s.sfc ∧
    (s.onEntry a f).dsc = s.dsc ∧ (s.onEntry a f).dvc = s.dvc ∧ (s.onEntry a f).mbi = s.mbi ∧ (s.onEntry a f).flu = s.flu ∧
    (s.onEntry a f).sto = s.sto ∧ (s.onEntry a f).pending = s.pending := by
  simp [State.onEntry]

@[simp] theorem State.onBay_frame (s : State) (a : Addr) (f : Bay → Bay) :
    (s.onBay a f).now = s.now ∧ (s.onBay a f).settings = s.settings ∧ (s.onBay a f).plk = s.plk ∧
    (s.onBay a f).whu = s.whu ∧ (s.onBay a f).csq = s.csq ∧ (s.onBay a f).lba = s.lba ∧ (s.onBay a f).sfc = s.sfc ∧
    (s.onBay a f).dsc = s.dsc ∧ (s.onBay a f).dvc = s.dvc ∧ (s.onBay a f).msu = s.msu ∧ (s.onBay a f).flu = s.flu ∧
    (s.onBay a f).sto = s.sto ∧ (s.onBay a f).pending = s.pending := by
  simp [State.onBay]

@[simp] theorem State.onColumn_frame (s : State) (c : Column) (f : ColumnRec → ColumnRec) :
    (s.onColumn c f).now = s.now ∧ (s.onColumn c f).settings = s.settings ∧ (s.onColumn c f).plk = s.plk ∧
    (s.onColumn c f).whu = s.whu ∧ (s.onColumn c f).csq = s.csq ∧ (s.onColumn c f).lba = s.lba ∧
    (s.onColumn c f).dsc = s.dsc ∧ (s.onColumn c f).dvc = s.dvc ∧ (s.onColumn c f).mbi = s.mbi ∧
    (s.onColumn c f).msu = s.msu ∧ (s.onColumn c f).flu = s.flu ∧ (s.onColumn c f).sto = s.sto ∧
    (s.onColumn c f).pending = s.pending := by
  cases c <;> simp [State.onColumn]

@[simp] theorem State.onChannel_frame (s : State) (c : Channel) (f : ChannelRec → ChannelRec) :
    (s.onChannel c f).now = s.now ∧ (s.onChannel c f).settings = s.settings ∧ (s.onChannel c f).plk = s.plk ∧
    (s.onChannel c f).whu = s.whu ∧ (s.onChannel c f).csq = s.csq ∧ (s.onChannel c f).lba = s.lba ∧
    (s.onChannel c f).sfc = s.sfc ∧ (s.onChannel c f).dvc = s.dvc ∧ (s.onChannel c f).mbi = s.mbi ∧
    (s.onChannel c f).msu = s.msu ∧ (s.onChannel c f).flu = s.flu ∧ (s.onChannel c f).sto = s.sto ∧
    (s.onChannel c f).pending = s.pending := by
  cases c <;> simp [State.onChannel]

@[simp] theorem State.onVent_frame (s : State) (f : Vent → Vent) :
    (s.onVent f).now = s.now ∧ (s.onVent f).settings = s.settings ∧ (s.onVent f).plk = s.plk ∧ (s.onVent f).whu = s.whu ∧
    (s.onVent f).csq = s.csq ∧ (s.onVent f).lba = s.lba ∧ (s.onVent f).sfc = s.sfc ∧ (s.onVent f).dsc = s.dsc ∧
    (s.onVent f).mbi = s.mbi ∧ (s.onVent f).msu = s.msu ∧ (s.onVent f).flu = s.flu ∧ (s.onVent f).sto = s.sto ∧
    (s.onVent f).pending = s.pending := by
  simp [State.onVent]

/-- Holding an owed retract changes DVC's mark alone. -/
@[simp] theorem State.holdRetract_eq (s : State) : s.holdRetract = s.onDvc fun d => { d with retractHeld := true } := rfl

/-- Freeing an owed retract changes DVC's mark alone. -/
@[simp] theorem State.freeRetract_eq (s : State) : s.freeRetract = s.onDvc fun d => { d with retractHeld := false } := rfl

@[simp] theorem State.onClaim_frame (s : State) (l : Load) (f : Claim → Claim) :
    (s.onClaim l f).now = s.now ∧ (s.onClaim l f).settings = s.settings ∧ (s.onClaim l f).plk = s.plk ∧
    (s.onClaim l f).whu = s.whu ∧ (s.onClaim l f).csq = s.csq ∧ (s.onClaim l f).sfc = s.sfc ∧ (s.onClaim l f).dsc = s.dsc ∧
    (s.onClaim l f).dvc = s.dvc ∧ (s.onClaim l f).mbi = s.mbi ∧ (s.onClaim l f).msu = s.msu ∧ (s.onClaim l f).flu = s.flu ∧
    (s.onClaim l f).sto = s.sto ∧ (s.onClaim l f).pending = s.pending := by
  simp [State.onClaim]

@[simp] theorem State.settle_frame (s : State) (l : Load) (w : Nat) :
    (s.settle l w).now = s.now ∧ (s.settle l w).settings = s.settings ∧ (s.settle l w).plk = s.plk ∧
    (s.settle l w).whu = s.whu ∧ (s.settle l w).csq = s.csq ∧ (s.settle l w).sfc = s.sfc ∧ (s.settle l w).dsc = s.dsc ∧
    (s.settle l w).dvc = s.dvc ∧ (s.settle l w).mbi = s.mbi ∧ (s.settle l w).msu = s.msu ∧ (s.settle l w).flu = s.flu ∧
    (s.settle l w).sto = s.sto ∧ (s.settle l w).pending = s.pending := by
  simp [State.settle]

@[simp] theorem State.endClaim_frame (s : State) (l : Load) :
    (s.endClaim l).now = s.now ∧ (s.endClaim l).settings = s.settings ∧ (s.endClaim l).plk = s.plk ∧
    (s.endClaim l).whu = s.whu ∧ (s.endClaim l).csq = s.csq ∧ (s.endClaim l).sfc = s.sfc ∧ (s.endClaim l).dsc = s.dsc ∧
    (s.endClaim l).dvc = s.dvc ∧ (s.endClaim l).mbi = s.mbi ∧ (s.endClaim l).msu = s.msu ∧ (s.endClaim l).flu = s.flu ∧
    (s.endClaim l).sto = s.sto ∧ (s.endClaim l).pending = s.pending := by
  unfold State.endClaim; split <;> simp

@[simp] theorem State.revoke_frame (s : State) (l : Load) :
    (s.revoke l).now = s.now ∧ (s.revoke l).settings = s.settings ∧ (s.revoke l).plk = s.plk ∧ (s.revoke l).whu = s.whu ∧
    (s.revoke l).csq = s.csq ∧ (s.revoke l).sfc = s.sfc ∧ (s.revoke l).dsc = s.dsc ∧ (s.revoke l).dvc = s.dvc ∧
    (s.revoke l).mbi = s.mbi ∧ (s.revoke l).msu = s.msu ∧ (s.revoke l).flu = s.flu ∧ (s.revoke l).sto = s.sto ∧
    (s.revoke l).pending = s.pending := by
  simp [State.revoke]

@[simp] theorem State.choose_frame (s : State) :
    (s.choose).now = s.now ∧ (s.choose).settings = s.settings ∧ (s.choose).plk = s.plk ∧ (s.choose).whu = s.whu ∧
    (s.choose).csq = s.csq ∧ (s.choose).lba = s.lba ∧ (s.choose).sfc = s.sfc ∧ (s.choose).dsc = s.dsc ∧
    (s.choose).dvc = s.dvc ∧ (s.choose).msu = s.msu ∧ (s.choose).flu = s.flu ∧ (s.choose).sto = s.sto ∧
    (s.choose).pending = s.pending := by
  unfold State.choose; repeat' split
  all_goals simp

@[simp] theorem State.enqueue_frame (s : State) (dest : Addr) (body : DownBody) (source : Enqueuer) :
    ((s.enqueue dest body source).1).now = s.now ∧ ((s.enqueue dest body source).1).settings = s.settings ∧
    ((s.enqueue dest body source).1).plk = s.plk ∧ ((s.enqueue dest body source).1).whu = s.whu ∧
    ((s.enqueue dest body source).1).csq = s.csq ∧ ((s.enqueue dest body source).1).lba = s.lba ∧
    ((s.enqueue dest body source).1).sfc = s.sfc ∧ ((s.enqueue dest body source).1).dsc = s.dsc ∧
    ((s.enqueue dest body source).1).dvc = s.dvc ∧ ((s.enqueue dest body source).1).msu = s.msu ∧
    ((s.enqueue dest body source).1).flu = s.flu ∧ ((s.enqueue dest body source).1).sto = s.sto ∧
    ((s.enqueue dest body source).1).pending = s.pending := by
  unfold State.enqueue; split <;> simp

@[simp] theorem State.dropSending_frame (s : State) :
    (s.dropSending).now = s.now ∧ (s.dropSending).settings = s.settings ∧ (s.dropSending).plk = s.plk ∧
    (s.dropSending).whu = s.whu ∧ (s.dropSending).csq = s.csq ∧ (s.dropSending).lba = s.lba ∧ (s.dropSending).sfc = s.sfc ∧
    (s.dropSending).dsc = s.dsc ∧ (s.dropSending).dvc = s.dvc ∧ (s.dropSending).msu = s.msu ∧ (s.dropSending).flu = s.flu ∧
    (s.dropSending).sto = s.sto ∧ (s.dropSending).pending = s.pending := by
  simp [State.dropSending]

@[simp] theorem State.freeAlignment_frame (s : State) :
    (s.freeAlignment).now = s.now ∧ (s.freeAlignment).settings = s.settings ∧ (s.freeAlignment).plk = s.plk ∧
    (s.freeAlignment).whu = s.whu ∧ (s.freeAlignment).csq = s.csq ∧ (s.freeAlignment).lba = s.lba ∧
    (s.freeAlignment).dsc = s.dsc ∧ (s.freeAlignment).dvc = s.dvc ∧ (s.freeAlignment).mbi = s.mbi ∧
    (s.freeAlignment).msu = s.msu ∧ (s.freeAlignment).flu = s.flu ∧ (s.freeAlignment).sto = s.sto ∧
    (s.freeAlignment).pending = s.pending := by
  simp [State.freeAlignment]

@[simp] theorem State.recallStuck_frame (s : State) (v : Valve) :
    (s.recallStuck v).now = s.now ∧ (s.recallStuck v).settings = s.settings ∧ (s.recallStuck v).whu = s.whu ∧
    (s.recallStuck v).csq = s.csq ∧ (s.recallStuck v).lba = s.lba ∧ (s.recallStuck v).dsc = s.dsc ∧
    (s.recallStuck v).dvc = s.dvc ∧ (s.recallStuck v).mbi = s.mbi ∧ (s.recallStuck v).msu = s.msu ∧
    (s.recallStuck v).pending = s.pending := by
  unfold State.recallStuck; split
  · dsimp only; split <;> simp
  · simp

@[simp] theorem State.recallDoor_frame (s : State) (home : Bool) :
    (s.recallDoor home).now = s.now ∧ (s.recallDoor home).settings = s.settings ∧ (s.recallDoor home).whu = s.whu ∧
    (s.recallDoor home).csq = s.csq ∧ (s.recallDoor home).lba = s.lba ∧ (s.recallDoor home).sfc = s.sfc ∧
    (s.recallDoor home).dsc = s.dsc ∧ (s.recallDoor home).mbi = s.mbi ∧ (s.recallDoor home).msu = s.msu ∧
    (s.recallDoor home).pending = s.pending := by
  unfold State.recallDoor; dsimp only; split <;> split <;> simp

/-- Adding loads to a class sum writes breaker marks alone (R62). -/
@[simp] theorem State.rederiveOne_foldl (ls : List Load) (p : State × Nat) :
    (ls.foldl State.rederiveOne p).1.now = p.1.now ∧ (ls.foldl State.rederiveOne p).1.settings = p.1.settings ∧
    (ls.foldl State.rederiveOne p).1.plk = p.1.plk ∧ (ls.foldl State.rederiveOne p).1.whu = p.1.whu ∧
    (ls.foldl State.rederiveOne p).1.csq = p.1.csq ∧ (ls.foldl State.rederiveOne p).1.sfc = p.1.sfc ∧
    (ls.foldl State.rederiveOne p).1.dsc = p.1.dsc ∧ (ls.foldl State.rederiveOne p).1.dvc = p.1.dvc ∧
    (ls.foldl State.rederiveOne p).1.mbi = p.1.mbi ∧ (ls.foldl State.rederiveOne p).1.msu = p.1.msu ∧
    (ls.foldl State.rederiveOne p).1.flu = p.1.flu ∧ (ls.foldl State.rederiveOne p).1.sto = p.1.sto ∧
    (ls.foldl State.rederiveOne p).1.pending = p.1.pending := by
  induction ls generalizing p with
  | nil => simp
  | cons l ls ih =>
    have h := ih (State.rederiveOne p l)
    simp only [List.foldl_cons, h]
    unfold State.rederiveOne; dsimp only; split <;> simp

@[simp] theorem State.rederiveBreakers_frame (s : State) :
    (s.rederiveBreakers).now = s.now ∧ (s.rederiveBreakers).settings = s.settings ∧ (s.rederiveBreakers).plk = s.plk ∧
    (s.rederiveBreakers).whu = s.whu ∧ (s.rederiveBreakers).csq = s.csq ∧ (s.rederiveBreakers).sfc = s.sfc ∧
    (s.rederiveBreakers).dsc = s.dsc ∧ (s.rederiveBreakers).dvc = s.dvc ∧ (s.rederiveBreakers).mbi = s.mbi ∧
    (s.rederiveBreakers).msu = s.msu ∧ (s.rederiveBreakers).flu = s.flu ∧ (s.rederiveBreakers).sto = s.sto ∧
    (s.rederiveBreakers).pending = s.pending := by
  unfold State.rederiveBreakers; simp

/-! ### The table lookups read back what an update wrote -/

@[simp] theorem State.entry_onEntry (s : State) (a b : Addr) (f : Entry → Entry) :
    (s.onEntry a f).entry b = if b = a then f (s.entry a) else s.entry b := by
  by_cases h : b = a
  · subst h; simp [State.onEntry, State.entry, State.onMsu, Vector.get_eq_getElem]
  · have h' : a.val ≠ b.val := fun e => h (Fin.ext e.symm)
    simp [State.onEntry, State.entry, State.onMsu, Vector.get_eq_getElem, h, Vector.getElem_set_ne _ _ h']

@[simp] theorem State.bay_onBay (s : State) (a b : Addr) (f : Bay → Bay) :
    (s.onBay a f).bay b = if b = a then f (s.bay a) else s.bay b := by
  by_cases h : b = a
  · subst h; simp [State.onBay, State.bay, State.onMbi, Vector.get_eq_getElem]
  · have h' : a.val ≠ b.val := fun e => h (Fin.ext e.symm)
    simp [State.onBay, State.bay, State.onMbi, Vector.get_eq_getElem, h, Vector.getElem_set_ne _ _ h']

@[simp] theorem State.claimOf_onClaim (s : State) (l k : Load) (f : Claim → Claim) :
    (s.onClaim l f).claimOf k = if k = l then f (s.claimOf l) else s.claimOf k := by
  by_cases h : k = l
  · subst h; simp [State.onClaim, State.claimOf, State.onLba, Vector.get_eq_getElem]
  · have h' : l.ix.val ≠ k.ix.val := fun e => h (by cases k <;> cases l <;> simp_all [Load.ix])
    simp [State.onClaim, State.claimOf, State.onLba, Vector.get_eq_getElem, h, Vector.getElem_set_ne _ _ h']

@[simp] theorem State.claimOf_settle (s : State) (l k : Load) (w : Nat) : (s.settle l w).claimOf k = s.claimOf k := rfl

@[simp] theorem State.channel_onChannel (s : State) (c d : Channel) (f : ChannelRec → ChannelRec) :
    (s.onChannel c f).channel d = if d = c then f (s.channel c) else s.channel d := by
  cases c <;> cases d <;> rfl

@[simp] theorem State.column_onColumn (s : State) (c d : Column) (f : ColumnRec → ColumnRec) :
    (s.onColumn c f).column d = if d = c then f (s.column c) else s.column d := by
  cases c <;> cases d <;> rfl

/-! ### Notices, replies, the queue: what they do -/

/-- A notice with room joins the queue (R185). -/
theorem State.place_kept {s : State} (h : s.plk.notices.length < Config.noticeLimit) (n : Notice) :
    s.place n = s.onPlk fun p => { p with notices := p.notices ++ [n] } := by simp [State.place, h]

/-- A notice without room is counted as dropped and sets the gap mark (R185). -/
theorem State.place_dropped {s : State} (h : ¬ s.plk.notices.length < Config.noticeLimit) (n : Notice) :
    s.place n = s.onPlk fun p => { p with gap := true, dropped := satAdd 255 p.dropped 1 } := by simp [State.place, h]

/-- The notice queue never passes its limit (R185). -/
theorem State.place_bound {s : State} (h : s.plk.notices.length ≤ Config.noticeLimit) (n : Notice) :
    (s.place n).plk.notices.length ≤ Config.noticeLimit := by
  unfold State.place; split
  · simp; omega
  · simpa using h

/-- A message with room is taken (R154). -/
theorem State.enqueue_taken {s : State} (h : s.mbi.queue.length < Config.queueLimit) (dest : Addr) (body : DownBody)
    (source : Enqueuer) :
    s.enqueue dest body source =
      ((s.onMbi fun m =>
        { m with queue := m.queue ++ [{ dest := dest, body := body, source := source, sending := false }] }).choose,
        true) := by
  simp [State.enqueue, h]

/-- A message without room is refused, and nothing changes (R154). -/
theorem State.enqueue_refused {s : State} (h : ¬ s.mbi.queue.length < Config.queueLimit) (dest : Addr) (body : DownBody)
    (source : Enqueuer) : s.enqueue dest body source = (s, false) := by simp [State.enqueue, h]

/-- The mark of the message being sent changes no length. -/
theorem markFirst_length {p : DownMsg → Bool} {ms q : List DownMsg} (h : markFirst p ms = some q) : q.length = ms.length := by
  induction ms generalizing q with
  | nil => cases h
  | cons m ms ih =>
    unfold markFirst at h
    split at h
    · cases h; rfl
    · cases hm : markFirst p ms with
      | none => simp [hm] at h
      | some r => simp [hm] at h; subst h; simp [ih hm]

/-- Choosing a message leaves the queue's length (R150). -/
@[simp] theorem State.choose_length (s : State) : s.choose.mbi.queue.length = s.mbi.queue.length := by
  unfold State.choose; repeat' split
  · rename_i h; simpa using markFirst_length h
  · rfl
  · rfl

/-- A dequeue marks the queue and changes nothing else (R154). -/
@[simp] theorem State.dequeued_mbi (s : State) : s.dequeued.mbi = { s.mbi with departed := true } := rfl

/-- Nobody asks again in an event without a dequeue (R154). -/
@[simp] theorem State.askWaiting_idle {s : State} (h : s.mbi.departed = false) : s.askWaiting = s := by
  simp [State.askWaiting, h]

/-- A removal that finds no message changes nothing (R154). -/
theorem State.removeMsgs_none {s : State} {p : DownMsg → Bool} (h : s.mbi.queue.any p = false) : s.removeMsgs p = s := by
  simp [State.removeMsgs, h]

/-- What a valid reading does to an over-temperature: raised at a crossing, ended below the limit, else left (R19). -/
theorem State.overTemp_cases (s : State) (code : FaultCode) (previous : Option Int) (t limit : Int) :
    (crosses previous t limit = true ∧ s.overTemp code previous t limit = s.raise code 0 .lockout) ∨
      (t < limit ∧ s.overTemp code previous t limit = s.endCondition code 0) ∨
      (limit ≤ t ∧ crosses previous t limit = false ∧ s.overTemp code previous t limit = s) := by
  unfold State.overTemp; split
  · exact .inl ⟨‹_›, rfl⟩
  · split
    · exact .inr (.inl ⟨‹_›, rfl⟩)
    · exact .inr (.inr ⟨by omega, by simp_all, rfl⟩)

/-- The downstream queue never passes its limit (R154). -/
theorem State.enqueue_bound {s : State} (h : s.mbi.queue.length ≤ Config.queueLimit) (dest : Addr) (body : DownBody)
    (source : Enqueuer) : (s.enqueue dest body source).1.mbi.queue.length ≤ Config.queueLimit := by
  unfold State.enqueue; split
  · simp; omega
  · exact h

/-! ### The fault list -/

/-- A change of one record keeps the list's length. -/
@[simp] theorem State.onFault_length (s : State) (code : FaultCode) (detail : Nat) (f : FaultRec → FaultRec) :
    (s.onFault code detail f).flu.list.length = s.flu.list.length := by simp [State.onFault]

/-- A removal never lengthens the list (R175). -/
theorem State.removeFault_length (s : State) (code : FaultCode) (detail : Nat) :
    (s.removeFault code detail).flu.list.length ≤ s.flu.list.length := by
  unfold State.removeFault; split
  · simpa using List.length_filter_le _ _
  · exact Nat.le_refl _

/-- A new record lengthens the list by one (R173). -/
@[simp] theorem State.createFault_length (s : State) (code : FaultCode) (detail : Nat) (cls : FaultClass) :
    (s.createFault code detail cls).flu.list.length = s.flu.list.length + 1 := by simp [State.createFault]

/-- The record that a full list gives up leaves it, so the list gets shorter (R174). -/
theorem State.removeFault_shorter {s : State} {code : FaultCode} {detail : Nat} {r : FaultRec}
    (h : s.faultRec code detail = some r) :
    (s.removeFault code detail).flu.list.length < s.flu.list.length := by
  have hm := List.mem_of_find?_eq_some h
  have hk := List.find?_some h
  simp only [State.removeFault, h, State.faultNotice_frame, State.onFlu_flu]
  refine List.length_filter_lt_length_iff_exists.2 ⟨r, hm, ?_⟩
  simpa [FaultRec.keyed] using hk

/-- A notice keeps a record's key where it was: the end of a condition only removes, or clears the present mark (R175). -/
theorem State.endCondition_length (s : State) (code : FaultCode) (detail : Nat) :
    (s.endCondition code detail).flu.list.length ≤ s.flu.list.length := by
  unfold State.endCondition; split
  · exact Nat.le_refl _
  · split
    · simp
    · exact s.removeFault_length code detail

/-! ### Codes a message carries -/

/-- A MOVED reason as DVC takes it is one of the four codes (R148). -/
theorem State.movedReason_le (r : Octet) : (State.movedReason r).toNat ≤ 3 := by
  unfold State.movedReason; split
  · decide
  · omega

/-- A MOVED reason that has a name is taken as it is (R148). -/
@[simp] theorem State.movedReason_named {r : Octet} (h : r.toNat ≤ 3) : State.movedReason r = r := by
  simp [State.movedReason, Nat.not_lt.2 h]

/-! ### Events, timers, requests -/

/-- An event of a part that runs acts, and is settled (R192). -/
theorem State.event_on {s : State} (h : s.on = true) (f : State → State) : s.event f = (f s).finish := by
  simp [State.event, h]

/-- An event of a part that does not run does nothing (R192). -/
theorem State.event_off {s : State} (h : s.on = false) (f : State → State) : s.event f = s := by simp [State.event, h]

/-- A timer with `n` ms to run: they pass, and its event acts. -/
theorem State.expire_some {s : State} (h : s.on = true) (n : Nat) (f : State → State) :
    s.expire (some n) f = (f (s.advance n)).finish := by simp [State.expire, State.event_on h]

/-- A timer that does not run has no event. -/
theorem State.expire_none (s : State) (f : State → State) : s.expire none f = s := rfl

/-- Time passing touches no setting, no module entry, no fault record and no waiting command. -/
@[simp] theorem State.advance_frame (s : State) (n : Nat) :
    (s.advance n).settings = s.settings ∧ (s.advance n).msu = s.msu ∧ (s.advance n).flu = s.flu ∧
      (s.advance n).pending = s.pending := by
  unfold State.advance; split <;>
    simp [State.passWhu, State.passCsq, State.passLba, State.passSfc, State.passDsc, State.passDvc, State.passMbi,
      State.passSto, State.passPlk]

/-- A part that is awake runs. -/
theorem State.on_of_awake {s : State} (h : s.awake = true) : s.on = true := by
  simp only [State.awake, Bool.and_eq_true] at h; exact h.1.1

/-- A part that is awake takes no wake cause (R194). -/
theorem State.wake_of_awake {s : State} (h : s.awake = true) (c : StandbyCause) : s.wake c = s := by
  simp only [State.awake, Bool.and_eq_true, decide_eq_true_eq] at h; simp [State.wake, h.1.2]

/-- Every request of the catalogue is taken with its frame, the refusal of its form and its owner's answer (R183, R186). -/
theorem exec_request {i : Instr} {f : ReqFrame} (h : encodeRequest i = some f) (s : State) :
    exec i s = .next (s.request f (s.formOf i) (serveOf i)) := by
  have ht : s.takeRequest i = s.request f (s.formOf i) (serveOf i) := by simp [State.takeRequest, h]
  cases i <;> first
    | exact congrArg Host.Outcome.next ht
    | simp [encodeRequest, requestBody] at h

/-- A request whose owner takes it: the owner's answer, placed as the reply (R183). -/
theorem State.request_serves {s : State} (h : s.serves = true) (f : ReqFrame) (serve : State → Answer) :
    s.request f none serve = ((serve s).1.reply f.kind f.tag (serve s).2.1 (serve s).2.2).finish := by
  simp only [State.serves, State.takes, Bool.and_eq_true, Bool.not_eq_true', Option.isNone_iff_eq_none] at h
  obtain ⟨⟨ha, hr⟩, hl⟩ := h
  have hs : s.sto.settle = none := by
    simp only [State.awake, Bool.and_eq_true, Option.isNone_iff_eq_none] at ha; exact ha.2
  simp [State.request, State.event_on (State.on_of_awake ha), State.wake_of_awake ha, hs, State.answer, hr, hl]

/-- A request turned away by a LOCKOUT is answered LOCKED_OUT (R183). -/
theorem State.request_locked {s : State} (h : s.takes = true) (hl : s.locked = true) {f : ReqFrame}
    (hx : State.exempt f.kind = false) (serve : State → Answer) :
    s.request f none serve = (s.reply f.kind f.tag .lockedOut []).finish := by
  simp only [State.takes, Bool.and_eq_true, Option.isNone_iff_eq_none] at h
  obtain ⟨ha, hr⟩ := h
  have hs : s.sto.settle = none := by
    simp only [State.awake, Bool.and_eq_true, Option.isNone_iff_eq_none] at ha; exact ha.2
  simp [State.request, State.event_on (State.on_of_awake ha), State.wake_of_awake ha, hs, State.answer, hr, hx, hl]

/-- A frame built changes nothing outside the bus interface, and neither the line, the queue nor the channels' contents. -/
@[simp] theorem State.buildFrame_frame (s : State) (n : Nat) :
    (s.buildFrame n).now = s.now ∧ (s.buildFrame n).settings = s.settings ∧ (s.buildFrame n).plk = s.plk ∧
    (s.buildFrame n).whu = s.whu ∧ (s.buildFrame n).csq = s.csq ∧ (s.buildFrame n).lba = s.lba ∧
    (s.buildFrame n).sfc = s.sfc ∧ (s.buildFrame n).dsc = s.dsc ∧ (s.buildFrame n).dvc = s.dvc ∧
    (s.buildFrame n).msu = s.msu ∧ (s.buildFrame n).flu = s.flu ∧ (s.buildFrame n).sto = s.sto ∧
    (s.buildFrame n).pending = s.pending ∧ (s.buildFrame n).mbi.line = s.mbi.line ∧
    (s.buildFrame n).mbi.queue = s.mbi.queue ∧ (s.buildFrame n).mbi.grant = s.mbi.grant ∧
    (s.buildFrame n).mbi.up = s.mbi.up ∧ (s.buildFrame n).mbi.down.phase = s.mbi.down.phase := by
  simp [State.buildFrame]

/-- On a running line the next frame has the next number (R140). -/
theorem State.nextFrame_running {s : State} (h : s.mbi.line = .running) :
    s.nextFrame = s.buildFrame ((s.mbi.frameNo + 1) % 256) := by simp [State.nextFrame, State.lineRuns, h]

/-- On a broken line no frame is built (R140). -/
theorem State.nextFrame_broken {s : State} (h : s.mbi.line ≠ .running) : s.nextFrame = s := by
  simp [State.nextFrame, State.lineRuns, h]

/-- A FRAME_END of a running line: the frame end, what it leaves settled, and the frame that follows (R140). -/
theorem exec_frameEnd {s : State} (ho : s.on = true) (hl : s.mbi.line = .running) (up : UpFrame) :
    exec (.frameEnd up) s = .next ((s.endFrame up).finish).nextFrame := by
  simp [exec, execFrameEnd, State.lineRuns, hl, ho, State.event_on ho]

/-- A LINE_BREAK_END: the rest of the break passes, the line runs, and frame 0 is built last (R140, R157). -/
theorem exec_lineBreakEnd {s : State} {left : Nat} (ho : s.on = true) (hl : s.mbi.line = .brk left) :
    exec .lineBreakEnd s = .next ((s.advance left).startLine.finish.buildFrame 0) := by
  simp [exec, execLineBreakEnd, State.lineRuns, State.breakLeft, hl, ho, State.expire_some ho]

/-- The end of a settings write that serves a SAVE makes it DONE; the end of one that serves none leaves the last save result
(R190). -/
theorem State.endWrite_lastSave {s : State} {second : Bool} {left : Nat} (h : s.sto.write = .writing .settings second left) :
    s.endWrite.sto.lastSave = if s.sto.saveRuns then .done else s.sto.lastSave := by
  simp [State.endWrite, h]

/-- A report of ended conditions over a list in which every condition holds changes nothing (R175). -/
theorem State.reportEnds_of_holds {s : State} (h : ∀ r ∈ s.flu.list, r.present = true → s.holds r.code r.detail = true) :
    s.reportEnds = s := by
  unfold State.reportEnds
  generalize s.flu.list = l at h
  induction l with
  | nil => rfl
  | cons r l ih =>
    have hr : s.reportEnd r = s := by
      by_cases hp : r.present = true <;> simp [State.reportEnd, hp, h r (List.mem_cons_self ..)]
    rw [List.foldl_cons, hr]
    exact ih fun x hx => h x (List.mem_cons_of_mem _ hx)

/-- An order's own message is its channel's (R117). -/
theorem State.orderMsg_source {c : Channel} {tag : Octet} {m : DownMsg} (h : State.orderMsg c tag m = true) :
    m.source = .dsc c := by
  unfold State.orderMsg at h
  split at h <;> simp_all

/-- What every revocation and every grant that fits keeps, a walk keeps (R51 to R53). -/
theorem State.walk_keeps {P : State → Prop} (hg : ∀ s l, s.fits l = true → P s → P (s.grant l))
    (hr : ∀ s l, P s → P (s.revoke l)) {s : State} (h : P s) : P s.walk := by
  have until_ : ∀ (w limit : Nat) (ls : List Load) (s : State), P s → P (State.revokeUntil w limit ls s) := by
    intro w limit ls
    induction ls with
    | nil => exact fun _ h => h
    | cons l ls ih =>
      intro s h
      unfold State.revokeUntil
      split
      · exact h
      · exact ih _ (hr s l h)
  have room : ∀ (s : State) (l : Load), P s → P (s.makeRoom l) := by
    intro s l h
    unfold State.makeRoom
    split
    · exact until_ _ _ _ _ h
    · split
      · exact hr _ _ h
      · exact h
  have through : ∀ (ls : List Load) (s : State), P s → P (State.walkThrough ls s).1 := by
    intro ls
    induction ls with
    | nil => exact fun _ h => h
    | cons l ls ih =>
      intro s h
      unfold State.walkThrough
      split
      · next hf => exact ih _ (hg s l hf h)
      · exact room s l h
  have again : ∀ (n : Nat) (s : State), P s → P (State.walkAgain n s) := by
    intro n
    induction n with
    | zero => exact fun _ h => h
    | succ n ih =>
      intro s h
      have ht := through s.walkOrder s h
      unfold State.walkAgain
      split
      · next t e => rw [e] at ht; exact ih t ht
      · next t e => rw [e] at ht; exact ht
  unfold State.walk
  split
  · exact h
  · exact again 4 s h

end Sys2Proof.Machine
end

