-- ==== Sys2Proof/Laws/PerInstr.lean ====
section
/-! SUPPORT. A law per command: the body of a well-formed request fits the LEN of one Panel Link frame (R181). Events of
the plant have no body. -/

namespace Sys2Proof.Laws.Form

open Sys2Proof Sys2Proof.Machine

/-- The body of a well-formed request has at most 120 octets (R181). -/
def Statement (i : Instr) : Prop :=
  WellFormed i = true → ∀ f, encodeRequest i = some f → f.body.length ≤ 120

/-- A command without a frame. -/
theorem noFrame {i : Instr} (h : requestBody i = none) : Statement i := by
  intro _ f hf
  simp [encodeRequest, h] at hf

/-- A command whose body has at most 120 octets. -/
theorem shortBody {i : Instr} {k t : Octet} {b : List Octet} (h : requestBody i = some (k, t, b))
    (hb : b.length ≤ 120) : Statement i := by
  intro _ f hf
  simp only [encodeRequest, h, Option.map_some, Option.some.injEq] at hf
  subst hf
  exact hb

/-- The fifteen octets of a recipe. -/
theorem recipeOctets_length (r : Recipe) : (recipeOctets r).length = 15 := rfl

theorem ident (tag : Octet) : Statement (.ident tag) := shortBody rfl (by simp)

theorem status (tag : Octet) (sect : Octet) : Statement (.status tag sect) := shortBody rfl (by simp)

theorem get (tag : Octet) (number : Octet) : Statement (.get tag number) := shortBody rfl (by simp)

theorem set (tag : Octet) (number : Octet) (value : BitVec 32) : Statement (.set tag number value) :=
  shortBody rfl (by simp [valueOctets, e4, e2])

theorem recipeGet (tag : Octet) (number : Octet) : Statement (.recipeGet tag number) := shortBody rfl (by simp)

theorem recipeSet (tag : Octet) (number : Octet) (fields : Recipe) : Statement (.recipeSet tag number fields) := by
  refine shortBody rfl ?_
  simp [recipeOctets_length]

theorem run (tag : Octet) (number : Octet) : Statement (.run tag number) := shortBody rfl (by simp)

theorem cancelPending (tag : Octet) : Statement (.cancelPending tag) := shortBody rfl (by simp)

theorem cancelActive (tag : Octet) : Statement (.cancelActive tag) := shortBody rfl (by simp)

theorem cancelAll (tag : Octet) : Statement (.cancelAll tag) := shortBody rfl (by simp)

theorem prepare (tag : Octet) : Statement (.prepare tag) := shortBody rfl (by simp)

theorem drain (tag : Octet) : Statement (.drain tag) := shortBody rfl (by simp)

theorem doseManual (tag : Octet) (channel : Octet) (volume : BitVec 16) : Statement (.doseManual tag channel volume) :=
  shortBody rfl (by simp [wordOctets, e2])

theorem dosePrime (tag : Octet) (channel : Octet) (seconds : BitVec 16) : Statement (.dosePrime tag channel seconds) :=
  shortBody rfl (by simp [wordOctets, e2])

theorem stock (tag : Octet) (channel : Octet) (volume : BitVec 16) : Statement (.stock tag channel volume) :=
  shortBody rfl (by simp [wordOctets, e2])

theorem regen (tag : Octet) (column : Octet) : Statement (.regen tag column) := shortBody rfl (by simp)

theorem doorOpen (tag : Octet) (percent : Octet) : Statement (.doorOpen tag percent) := shortBody rfl (by simp)

theorem doorRetract (tag : Octet) : Statement (.doorRetract tag) := shortBody rfl (by simp)

theorem faults (tag : Octet) (first : Octet) : Statement (.faults tag first) := shortBody rfl (by simp)

theorem ackFault (tag : Octet) (code : Octet) (detail : Octet) : Statement (.ackFault tag code detail) :=
  shortBody rfl (by simp)

theorem ackFaultAll (tag : Octet) : Statement (.ackFaultAll tag) := shortBody rfl (by simp)

theorem moduleRead (tag : Octet) (address : Octet) : Statement (.moduleRead tag address) := shortBody rfl (by simp)

theorem modulePin (tag : Octet) (address : Octet) (fields : List Octet) : Statement (.modulePin tag address fields) :=
  by
  intro h f hf
  simp only [encodeRequest, requestBody, Option.map_some, Option.some.injEq] at hf
  subst hf
  simp only [WellFormed, Bool.or_eq_true, decide_eq_true_eq] at h
  simp only [List.length_cons]
  omega

theorem moduleUnpin (tag : Octet) (address : Octet) : Statement (.moduleUnpin tag address) := shortBody rfl (by simp)

theorem moduleClearCounters (tag : Octet) (address : Octet) : Statement (.moduleClearCounters tag address) :=
  shortBody rfl (by simp)

theorem moduleBusReset (tag : Octet) : Statement (.moduleBusReset tag) := shortBody rfl (by simp)

theorem save (tag : Octet) : Statement (.save tag) := shortBody rfl (by simp)

theorem resetSoft (tag : Octet) : Statement (.resetSoft tag) := shortBody rfl (by simp)

theorem resetFull (tag : Octet) : Statement (.resetFull tag) := shortBody rfl (by simp)

theorem sleep (tag : Octet) (mask : Octet) : Statement (.sleep tag mask) := shortBody rfl (by simp)

theorem unknownKind (tag : Octet) (kind : Octet) : Statement (.unknownKind tag kind) := shortBody rfl (by simp)

theorem panelOctetReceived (octet : Octet) (stopBit : Bool) (overrun : Bool) :
    Statement (.panelOctetReceived octet stopBit overrun) :=
  noFrame rfl

theorem octetGapTimeout : Statement (.octetGapTimeout) := noFrame rfl

theorem transmitDone : Statement (.transmitDone) := noFrame rfl

theorem softResetTaken : Statement (.softResetTaken) := noFrame rfl

theorem fullResetTaken : Statement (.fullResetTaken) := noFrame rfl

theorem supplyRise : Statement (.supplyRise) := noFrame rfl

theorem oscillatorSettled : Statement (.oscillatorSettled) := noFrame rfl

theorem storeWriteEnd : Statement (.storeWriteEnd) := noFrame rfl

theorem pfwAssert : Statement (.pfwAssert) := noFrame rfl

theorem pfwRelease : Statement (.pfwRelease) := noFrame rfl

theorem settleEnd : Statement (.settleEnd) := noFrame rfl

theorem wakePulseEnd : Statement (.wakePulseEnd) := noFrame rfl

theorem flowPulse : Statement (.flowPulse) := noFrame rfl

theorem rinseTargetReached : Statement (.rinseTargetReached) := noFrame rfl

theorem inletHandover : Statement (.inletHandover) := noFrame rfl

theorem quietWindowExpiry : Statement (.quietWindowExpiry) := noFrame rfl

theorem runOnEnd : Statement (.runOnEnd) := noFrame rfl

theorem levelSample (low high full : Bool) : Statement (.levelSample low high full) := noFrame rfl

theorem implausibleTimerExpiry : Statement (.implausibleTimerExpiry) := noFrame rfl

theorem fillTimeLimit : Statement (.fillTimeLimit) := noFrame rfl

theorem drainOutTimer : Statement (.drainOutTimer) := noFrame rfl

theorem sensorReading (tank booster vapour : Int) : Statement (.sensorReading tank booster vapour) := noFrame rfl

theorem purgeDone : Statement (.purgeDone) := noFrame rfl

theorem washStart : Statement (.washStart) := noFrame rfl

theorem washEnd : Statement (.washEnd) := noFrame rfl

theorem holdLimit : Statement (.holdLimit) := noFrame rfl

theorem latchConfirmTimeout : Statement (.latchConfirmTimeout) := noFrame rfl

theorem rinseHoldExpiry : Statement (.rinseHoldExpiry) := noFrame rfl

theorem rinseStart : Statement (.rinseStart) := noFrame rfl

theorem dwellEnd : Statement (.dwellEnd) := noFrame rfl

theorem settlingEnd : Statement (.settlingEnd) := noFrame rfl

theorem agingPromotion : Statement (.agingPromotion) := noFrame rfl

theorem haltClearTimer : Statement (.haltClearTimer) := noFrame rfl

theorem changeoverStart : Statement (.changeoverStart) := noFrame rfl

theorem moveTimerExpiry : Statement (.moveTimerExpiry) := noFrame rfl

theorem alignmentStart : Statement (.alignmentStart) := noFrame rfl

theorem regenStart : Statement (.regenStart) := noFrame rfl

theorem regenPhaseEnd : Statement (.regenPhaseEnd) := noFrame rfl

theorem orderStart (channel : Channel) : Statement (.orderStart channel) := noFrame rfl

theorem orderWatchdogExpiry (channel : Channel) : Statement (.orderWatchdogExpiry channel) := noFrame rfl

theorem done (address : Addr) (orderTag : Octet) (delivered : BitVec 16) (reason : Octet) :
    Statement (.done address orderTag delivered reason) :=
  noFrame rfl

theorem latchReleaseTimeout : Statement (.latchReleaseTimeout) := noFrame rfl

theorem moved (address : Addr) (reached : Octet) (reason : Octet) : Statement (.moved address reached reason) :=
  noFrame rfl

theorem retractStart : Statement (.retractStart) := noFrame rfl

theorem retractTimeLimit : Statement (.retractTimeLimit) := noFrame rfl

theorem ventTimerExpiry : Statement (.ventTimerExpiry) := noFrame rfl

theorem coolingWindowEnd : Statement (.coolingWindowEnd) := noFrame rfl

theorem frameEnd (up : UpFrame) : Statement (.frameEnd up) := noFrame rfl

theorem messageDelivered : Statement (.messageDelivered) := noFrame rfl

theorem closingLimit : Statement (.closingLimit) := noFrame rfl

theorem downstreamNoProgress : Statement (.downstreamNoProgress) := noFrame rfl

theorem upstreamNoProgress : Statement (.upstreamNoProgress) := noFrame rfl

theorem grantWithdrawal : Statement (.grantWithdrawal) := noFrame rfl

theorem lineBreakEnd : Statement (.lineBreakEnd) := noFrame rfl

theorem bringUpQuery (address : Addr) : Statement (.bringUpQuery address) := noFrame rfl

theorem answerTimeout (address : Addr) : Statement (.answerTimeout address) := noFrame rfl

theorem caps (address : Addr) (body : Vector Octet 6) : Statement (.caps address body) := noFrame rfl

theorem silentCountLimit (address : Addr) : Statement (.silentCountLimit address) := noFrame rfl

theorem stuckLineBreak : Statement (.stuckLineBreak) := noFrame rfl

theorem busStuck : Statement (.busStuck) := noFrame rfl

theorem stuckRepeatBreak : Statement (.stuckRepeatBreak) := noFrame rfl

theorem busStuckClear : Statement (.busStuckClear) := noFrame rfl

theorem supplyFail : Statement (.supplyFail) := noFrame rfl

end Sys2Proof.Laws.Form
end

