-- ==== Sys2Proof/Tests/Slice0.lean ====
section
/-! SUPPORT. Tests of the model on fixed values: the checks of WellFormed refusing an ill-formed term, the worked figures of
the spec's examples (each test names its rule or its example), one step of every command, and for every obligation with
hypotheses a witness `test_witness_<Name>` that meets them together. -/

set_option maxRecDepth 20000
namespace Sys2Proof.Tests
open Sys2Proof Sys2Proof.Machine

/-- The part right after a first power-on. -/
abbrev rs : State := State.reset

/-- The state a command answers. -/
def nextOf (r : Result) : State :=
  match r with
  | .next s => s
  | .fault _ => rs
  | .refused _ => rs

/-- The part with its four default modules LINKED and its line running. -/
def lk : State :=
  let link := fun (s : State) (a : Addr) => s.onEntry a fun e => { e with link := .linked }
  (link (link (link (link rs 0) 1) 2) 3).onMbi fun m => { m with line := .running }

/-- A fault list. -/
def withFaults (s : State) (rs : List FaultRec) : State := s.onFlu fun u => { u with list := rs }

/-- A record of a key. -/
def faultOf (code : FaultCode) (detail : Nat) (cls : FaultClass) (ack present : Bool) : FaultRec :=
  { code := code, detail := detail, cls := cls, ack := ack, present := present, count := 1, firstCycle := 0,
    escalated := false }

/-- A LOCKOUT stands. -/
def lockedPart : State := withFaults rs [faultOf .doorObstructed 0 .lockout true true]

/-- A STOP stands. -/
def stopped : State := withFaults rs [faultOf .inletNoFlow 0 .stop true false]

/-- An entry of the cycle queue. -/
def ent : ActiveEntry := { recipe := 0, queuedAt := 0, copy := defaultRecipe, number := 0, dosing := Dosing.zero }

/-- A cycle in a state of its sequence, all modules LINKED. -/
def cyc (p : CycleState) : State := lk.onCsq fun c => { c with active := some ent, phase := p }

/-- A state of WHU. -/
def whu (f : Whu → Whu) : State := rs.onWhu f

/-- Every thermostat has its reading and its conditions, and demands heat. -/
def warm : State := whu fun x =>
  { x with
    accepted := some .full, tankSensor := { last := some 450, bad := 0, failed := false }
    boosterSensor := { last := some 700, bad := 0, failed := false }, boosterFull := some true
    tankHeat := { demand := true, unfit := false }, boosterA := { demand := true, unfit := false }
    boosterB := { demand := true, unfit := false } }

/-- A state of STO. -/
def sto (f : Sto → Sto) : State := rs.onSto f

/-- A state of PLK. -/
def plk (f : Plk → Plk) : State := rs.onPlk f

/-- A claim of a load in a state. -/
def held (s : State) (l : Load) (c : ClaimState) : State := s.onClaim l fun x => { x with state := c, counted := 100 }

/-- An order of three steps. -/
def ord (st : OrderState) (started : Bool) : Order :=
  { tag := 9, origin := .manual, amount := .steps 3, ulPerStep := 100, state := st, started := started }

/-- The detergent channel, filled, with a list of orders, and its module LINKED. -/
def det (os : List Order) : State := lk.onDsc fun d => { d with det := { d.det with orders := os, empty := false } }

/-- A copy of the counters. -/
def copy (seq : Nat) (good : Bool) : StoreCopy CountersImage := { seq := seq, good := good, image := defaultCounters 2000 }

/-- A message in the downstream queue. -/
def msg (source : Enqueuer) (sending : Bool) : DownMsg := { dest := 0, body := .capsQuery, source := source, sending := sending }

/-- An entry of the module table in a state of its bring-up. -/
def seek (b : BringUp) (pinned : Bool) : State := rs.onEntry 0 fun e => { e with bringUp := b, pinned := pinned }

/-! ### Ill-formed commands are refused -/

/-- A recipe whose fields do not fit their octets is no command (11.4). -/
theorem test_recipeSet_ill_formed : WellFormed (.recipeSet 1 0 { defaultRecipe with washS := 65536 }) = false := by decide

/-- A PIN record longer than a frame carries is no command (R181). -/
theorem test_modulePin_ill_formed : WellFormed (.modulePin 1 0 (List.replicate 119 0#8)) = false := by decide

/-- A KIND of the catalogue is no unknown KIND (R183). -/
theorem test_unknownKind_ill_formed : WellFormed (.unknownKind 1 0x14) = false := by decide

/-- The table gives no bits, so no word spells a command. -/
theorem test_no_word_spells_a_command : decodeTableWord 8 1 = none := by decide

/-! ### Checks and codes -/

/-- The check value of 11.1. -/
theorem test_crc16_of_digits :
    crc16 [0x31#8, 0x32#8, 0x33#8, 0x34#8, 0x35#8, 0x36#8, 0x37#8, 0x38#8, 0x39#8] = 0x29B1 := by decide

/-- Twelve 1 bits give 1110 (R143): an empty address reads as a bad bay. -/
theorem test_crc4_of_ones : crc4 0xFF 0xFF = 0xE ∧ State.bayGood (Vector.replicate 24 0xFF#8) 3 = false := by decide

/-- A UP line held at 0 reads as good bays (R143). -/
theorem test_crc4_of_zeros : crc4 0 0 = 0 ∧ State.bayGood (Vector.replicate 24 0#8) 3 = true := by decide

/-- The DOSE message of 8.13 on DN slots 17 and 18, octet by octet. -/
theorem test_dose_message_on_the_line :
    ([0, 1, 2, 3] : List Nat).map (fun i => (rs.onMbi fun m =>
      { m with
        queue := [{ dest := 2, body := .dose 46 117, source := .dsc .det, sending := true }]
        down := { m.down with phase := .present i } }).dnMessage) =
      [[0x13, 0x58], [0x2E, 0x50], [0x00, 0x58], [0x75, 0x50]] := by decide

/-- PREPARE and CLOSING of the same message (8.13). -/
theorem test_dose_message_between_octets :
    ([DownPhase.prepare, .closing 0] : List DownPhase).map (fun p => (rs.onMbi fun m =>
      { m with
        queue := [{ dest := 2, body := .dose 46 117, source := .dsc .det, sending := true }]
        down := { m.down with phase := p } }).dnMessage) = [[0x00, 0x40], [0x00, 0x40]] := by decide

/-- The default records and the record of 9.10 as CAPS carries them (R165, R163). -/
theorem test_caps_fields_are_read :
    CapFields.read .door [35, 55, 38, 90] = some (.door 35 55 38 90) ∧
      CapFields.read .door [35, 55, 38, 101] = none ∧ CapFields.read .doseDet [3, 0xE9, 15, 20] = none ∧
        CapFields.read .doseDet [3, 0xE8, 15, 20] = some (.doser 1000 15 20) ∧
          CapFields.read .softener [0, 20, 0, 0] = none := by decide

/-! ### Figures of 5.9 and 5.10 -/

/-- 5.9: target, purge time, metered volume, dose, steps and carry. -/
theorem test_figures_of_one_rinse :
    pulseTarget 2500 480 = 1200 ∧ purgeMsOf 2500 250 = 10000 ∧ meteredMl 1203 480 = 2506 ∧ hardnessFactor 150 15 = 122 ∧
      detergentDose 2506 2000 122 100 30000 = 6114 ∧ stepsAndCarry 6114 180 250 = (25, 44) ∧
        stockAfter 40000 25 250 = 33750 := by decide

/-- 5.10: rounding up, the clamps and the stock floored at 0. -/
theorem test_figures_at_the_limits :
    pulseTarget 2500 333 = 833 ∧ meteredMl 833 333 = 2501 ∧ purgeMsOf 1000 300 = 3334 ∧ hardnessFactor 1000 50 = 400 ∧
      detergentDose 24500 5000 400 100 30000 = 30000 ∧ stepsAndCarry 30000 70 100 = (300, 70) ∧
        clampCarry 180 150 = 149 ∧ stepsAndCarry 6114 149 150 = (41, 113) ∧ stockAfter 1500 35 50 = 0 := by decide

/-- 5.9 and 5.10: the accumulator, the regeneration credit and the rinse-aid accrual. -/
theorem test_figures_of_the_accumulators :
    accumulatorStep 400 1000 480 = (2, 440) ∧ accumulatorStep 440 1000 480 = (3, 0) ∧ regenCredit 2000 95 100 = 190000 ∧
      regenCredit 2000 95 40 = 76000 ∧ rinseAidStep 20000 300 9600 = (1100, 2) := by decide

/-! ### Requests -/

/-- The reply a request leaves in the reply slot. -/
def replyOf (c : Instr) (s : State) : Option (Octet × Status × List Octet) :=
  (nextOf (exec c s)).plk.reply.map fun r => (r.kind, r.status, r.fields)

/-- IDENT: part code and number of settings (R186). -/
theorem test_ident : ((nextOf (exec (.ident 5) rs)).plk.reply.map fun r =>
    (r.kind, r.tag, r.status, r.fields.take 2, r.fields.drop 6)) = some (1, 5, .ok, [0, 0x82], [40]) := by decide

/-- A STATUS section above 10 (R186). -/
theorem test_status_section_above_ten : replyOf (.status 1 11) rs = some (2, .outOfRange, []) := by decide

/-- STATUS of STO after a first start: no write, no marks, DEFAULTS loaded (12.1 to 12.4). -/
theorem test_status_of_the_store : ((replyOf (.status 1 10) rs).map fun p => p.2.1) = some .ok := by decide

/-- GET 1 is flow_quiet_ms, 3000 by default (12.1). -/
theorem test_get : replyOf (.get 1 1) rs = some (3, .ok, [0, 0, 0x0B, 0xB8]) := by decide

/-- A w_booster_b of 499 is raised to 500 and the reply is CLAMPED (R56). -/
theorem test_set_booster_b : replyOf (.set 1 13 499) rs = some (4, .clamped, [0, 0, 1, 0xF4]) := by decide

/-- 3.11: a lower budget revokes stage A at once and keeps the budget in force until the wattage has settled. -/
theorem test_set_budget_decrease :
    (fun t : State => (t.lba.inForce, (t.claimOf .boosterA).state, (t.claimOf .washPump).state, t.sumGranted,
      t.sumSettling)) (nextOf (exec (.set 1 8 3000)
        ((warm.onClaim .washPump fun c => { c with state := .granted, counted := 750 }).onClaim .boosterA fun c =>
          { c with state := .granted, counted := 2700 }))) = (3600, .waiting, .granted, 750, 2700) := by decide

/-- The default recipe as RECIPE_GET carries it (2.1, R186). -/
theorem test_recipeGet : replyOf (.recipeGet 1 7) rs =
    some (5, .ok, [0, 90, 2, 0x58, 3, 0x3E, 9, 0xC4, 9, 0xC4, 5, 20, 0, 120, 100]) := by decide

/-- A recipe in range replaces the record (R22). -/
theorem test_recipeSet :
    ((nextOf (exec (.recipeSet 1 2 { defaultRecipe with washS := 20 }) rs)).csq.recipes.get 2).washS = 20 := by decide

/-- 2.13: RUN with a READY tank makes the ACTIVE entry, ARMED. -/
theorem test_run : (fun t : State => (t.csq.phase, t.csq.active.map (·.recipe)))
    (nextOf (exec (.run 1 2) (whu fun x => { x with tank := .ready }))) = (.armed, some 2) := by decide

/-- RUN while a STOP record stands (R25). -/
theorem test_run_with_a_stop : replyOf (.run 1 2) stopped = some (7, .notNow, []) := by decide

/-- A PENDING entry is removed with no other effect (R42). -/
theorem test_cancelPending : (nextOf (exec (.cancelPending 1)
    ((cyc .wash).onCsq fun c => { c with waiting := some { recipe := 5, queuedAt := 0 } }))).csq.waiting = none := by decide

/-- 2.13: CANCEL ACTIVE in RINSE is TOO_LATE. -/
theorem test_cancelActive_in_rinse : replyOf (.cancelActive 1) (cyc .rinse) = some (8, .tooLate, []) := by decide

/-- CANCEL ALL in RINSE_WAIT ends the cycle and leaves the queue empty (R42). -/
theorem test_cancelAll : (fun t : State => (t.csq.phase, t.csq.active.isNone, t.csq.waiting.isNone))
    (nextOf (exec (.cancelAll 1) ((cyc .rinseWait).onCsq fun c =>
      { c with waiting := some { recipe := 5, queuedAt := 0 } }))) = (.idle, true, true) := by decide

/-- PREPARE of an EMPTY tank starts a fill (R14); the inlet is taken by its hand-over. -/
theorem test_prepare : (fun t : State => (t.whu.tank, t.whu.fill, t.whu.tankWaiting)) (nextOf (exec (.prepare 1) rs)) =
    (.filling, some { kind := .fill, timeMs := 0 }, true) := by decide

/-- DRAIN with a cycle (R13). -/
theorem test_drain_with_a_cycle : replyOf (.drain 1) (cyc .armed) = some (0x0A, .notNow, []) := by decide

/-- The detergent channel of 6.12. -/
def det612 (os : List Order) : State :=
  (lk.onEntry 2 fun e => { e with caps := { fields := .doser 250 15 20, revision := 0 } }).onDsc fun d =>
    { d with det := { d.det with stock := 20000, carry := 74, empty := false, low := true, nextTag := 47, orders := os } }

/-- 6.12: a MANUAL order of 1000 uL is order 47 of 4 steps and leaves the carry at 74. -/
theorem test_doseManual : (fun t : State => (t.plk.reply.map (·.fields), t.dsc.det.carry))
    (nextOf (exec (.doseManual 1 0 1000) (det612 []))) = (some [47, 0, 4], 74) := by decide

/-- 6.12: a PRIME order of 5 s is sent with a watchdog of 10 s. -/
theorem test_dosePrime : (fun t : State => (t.plk.reply.map (·.fields), t.dsc.det.watchdogLeft))
    (nextOf (exec (.dosePrime 1 0 5) (det612 []))) = (some [47, 0xFF, 0xFF], some 10000) := by decide

/-- 6.12: STOCK of 10000 mL clears the empty flag, the low flag and DET_EMPTY. -/
theorem test_stock : (fun t : State => (t.dsc.det.stock, t.dsc.det.empty, t.dsc.det.low, t.hasFault .detEmpty 0))
    (nextOf (exec (.stock 1 0 10000) rs)) = (10000000, false, false, false) := by decide

/-- REGEN of a READY column starts BRINE with its capacity at 0 (R75, R80). -/
theorem test_regen : (fun t : State => ((t.column .b).state, (t.column .b).capacity))
    (nextOf (exec (.regen 1 1) lk)) = (.regenBrine, 0) := by decide

/-- DOOR OPEN is held to max_pct: 9.10's door opens to 90 at most (R136). -/
theorem test_doorOpen : replyOf (.doorOpen 1 100)
    (lk.onEntry 0 fun e => { e with caps := { fields := .door 35 55 38 90, revision := 3 } }) =
      some (0x0E, .accepted, [90]) := by decide

/-- DOOR RETRACT with the door not LINKED (R136). -/
theorem test_doorRetract_without_a_door : replyOf (.doorRetract 1) rs = some (0x0E, .notNow, []) := by decide

/-- FAULTS from record 2 of the list after a first start: SETTINGS_LOST (10.1, R176). -/
theorem test_faults : ((replyOf (.faults 1 2) rs).map fun p => p.2.2.take 5) = some [3, 0, 1, 1, 0x1B] := by decide

/-- ACK_FAULT of SETTINGS_LOST removes it (10.1, R176). -/
theorem test_ackFault : replyOf (.ackFault 1 0x1B 0) rs = some (0x10, .ok, [1, 2]) := by decide

/-- 10.8: ACK_FAULT of ALL removes an escalated record whose condition has gone. -/
theorem test_ackFaultAll : (fun t : State => (t.locked, t.flu.list.length)) (nextOf (exec (.ackFaultAll 1)
    (withFaults rs [faultOf .inletNoFlow 0 .lockout true false]))) = (false, 0) := by decide

/-- MODULE READ of an address above 7 (R170). -/
theorem test_moduleRead_above_seven : replyOf (.moduleRead 1 8) rs = some (0x11, .outOfRange, []) := by decide

/-- A pinned record keeps the revision held (R166). -/
theorem test_modulePin : (fun t : State => ((t.entry 0).pinned, (t.entry 0).caps))
    (nextOf (exec (.modulePin 1 0 [35, 55, 38, 90]) rs)) = (true, { fields := .door 35 55 38 90, revision := 0 }) := by
  decide

/-- UNPIN of an entry that is not LINKED brings the default record (R166). -/
theorem test_moduleUnpin : (fun t : State => ((t.entry 0).pinned, (t.entry 0).caps))
    (nextOf (exec (.moduleUnpin 1 0) (rs.onEntry 0 fun e =>
      { e with pinned := true, caps := { fields := .door 1 1 1 1, revision := 9 } }))) = (false, defaultCaps .door) := by
  decide

/-- 9.10: CLEAR_COUNTERS sets bay_errors back to 0. -/
theorem test_moduleClearCounters : ((nextOf (exec (.moduleClearCounters 1 0)
    (rs.onEntry 0 fun e => { e with bayErrors := 16 }))).entry 0).bayErrors = 0 := by decide

/-- MODULE BUS_RESET breaks the line and unlinks the modules (R158). -/
theorem test_moduleBusReset : (fun t : State => (t.mbi.line, (t.entry 0).link)) (nextOf (exec (.moduleBusReset 1) lk)) =
    (.brk 8, .seeking) := by decide

/-- SAVE starts with the counters, the settings marked (R190). -/
theorem test_save : (fun t : State => (t.sto.write, t.sto.settingsMark, t.sto.countersMark)) (nextOf (exec (.save 1) rs)) =
    (.writing .counters false 8, true, false) := by decide

/-- A SOFT reset waits for its reply to be sent (R192). -/
theorem test_resetSoft : (nextOf (exec (.resetSoft 1) rs)).sto.resetReq = .asked .soft := by decide

/-- RESET is taken in a LOCKOUT (R179). -/
theorem test_resetFull_in_lockout : (nextOf (exec (.resetFull 1) lockedPart)).sto.resetReq = .asked .full := by decide

/-- SLEEP with nothing to hinder it (R193). -/
theorem test_sleep : (fun t : State => (t.sto.power, t.sto.wakeMask)) (nextOf (exec (.sleep 1 7) rs)) = (.standby, 7) := by
  decide

/-- A KIND that the catalogue does not hold (R183). -/
theorem test_unknownKind : replyOf (.unknownKind 1 0x7F) rs = some (0x7F, .unknownKind, []) := by decide

/-! ### The line, the supply and the store -/

/-- 0xC3 starts a frame (R182). -/
theorem test_panelOctetReceived : (nextOf (exec (.panelOctetReceived 0xC3 true false) rs)).plk.rx = .assemble [] 5 := by
  decide

/-- A gap of more than 5 ms discards the frame (R182). -/
theorem test_octetGapTimeout : (fun t : State => (t.plk.rx, t.plk.linkErrors)) (nextOf (exec .octetGapTimeout
    (plk fun p => { p with rx := .assemble [2, 1] 5 }))) = (.hunt, 1) := by decide

/-- The STARTED notice has gone; the next notice follows (R184). -/
theorem test_transmitDone : (nextOf (exec .transmitDone rs)).plk.notices.length = 3 := by decide

/-- A SOFT reset places STARTED, kind SOFT, first (R192). -/
theorem test_softResetTaken : ((nextOf (exec .softResetTaken (sto fun x => { x with resetReq := .due .soft }))).plk.notices.any
    fun n => match n with
      | .started .soft _ _ _ => true
      | _ => false) = true := by decide

/-- A FULL reset keeps the cycle counter (R45). -/
theorem test_fullResetTaken : (nextOf (exec .fullResetTaken ((sto fun x => { x with resetReq := .due .full }).onCsq fun c =>
    { c with counter := 417 }))).csq.counter = 417 := by decide

/-- The supply rises: 10 ms for the oscillator (R192). -/
theorem test_supplyRise : (nextOf (exec .supplyRise (sto fun x => { x with power := .off }))).sto.power = .oscillator 10 := by
  decide

/-- The start with a blank store is State.reset (R192). -/
theorem test_oscillatorSettled : nextOf (exec .oscillatorSettled (sto fun x => { x with power := .oscillator 10 })) = rs := by
  decide

/-- A write ends and its copy passes its check (R190). -/
theorem test_storeWriteEnd : (fun t : State => (t.sto.write, t.sto.nvm.cnt1.map (·.good))) (nextOf (exec .storeWriteEnd
    (sto fun x => { x with write := .writing .counters false 8, nvm := { x.nvm with cnt1 := some (copy 0 false) } }))) =
      (.idle, some true) := by decide

/-- PFW starts the counters write (R191). -/
theorem test_pfwAssert : (nextOf (exec .pfwAssert rs)).sto.write = .writing .counters false 8 := by decide

/-- PFW is released and the kept mark is served (R191). -/
theorem test_pfwRelease : (nextOf (exec .pfwRelease (sto fun x => { x with pfw := true, settingsMark := true }))).sto.write =
    .writing .settings false 8 := by decide

/-- The supply fails after the PFW write: the copy is good (R191). -/
theorem test_supplyFail : (fun t : State => (t.sto.power, t.sto.nvm.cnt1.map (·.good))) (nextOf (exec .supplyFail
    (sto fun x => { x with
      pfw := true, write := .writing .counters false 3, nvm := { x.nvm with cnt1 := some (copy 0 false) } }))) =
      (.off, some true) := by decide

/-- The settle ends and the request held in it is answered (R194). -/
theorem test_settleEnd : (fun t : State => (t.sto.power, t.plk.reply.map (·.status))) (nextOf (exec .settleEnd
    (sto fun x => { x with power := .standby, settle := some (.octet, 2), held := [{ kind := 0x08, tag := 1, body := [1] }] }))) =
      (.running, some .notFound) := by decide

/-- The WAKE pulse ends (R194). -/
theorem test_wakePulseEnd : (nextOf (exec .wakePulseEnd (sto fun x => { x with wakePulseLeft := some 10 }))).wakeLine =
    false := by decide

/-! ### Water and the cycle -/

/-- 5.10: the pulse that exhausts the service column starts the trigger of a changeover (R69). -/
theorem test_flowPulse_exhausts : (fun t : State => (t.sfc.acc, t.sfc.colA.capacity, t.sfc.changeover, t.sfc.target))
    (nextOf (exec .flowPulse ((rs.putSetting 15 1000).onSfc fun x =>
      { x with acc := 400, colA := { x.colA with capacity := 1 } }))) = (440, 0, .due, .b) := by decide

/-- 2.13: pulse 1200 releases the inlet and opens the run-on window (R35, R3). -/
theorem test_rinseTargetReached : (fun t : State => (t.whu.owner, t.whu.phase, t.whu.runOn.map (·.pulses)))
    (nextOf (exec .rinseTargetReached (((cyc .rinse).onWhu fun x =>
      { x with owner := some .rinse, phase := .opened, draw := 1200 }).onCsq fun c =>
        { c with rinse := { c.rinse with target := 1200, count := 1200 } }))) = (none, .closed, some 1200) := by decide

/-- RINSE is served before TANK_FILL (R1). -/
theorem test_inletHandover : (nextOf (exec .inletHandover (whu fun x =>
    { x with rinseWaiting := true, tankWaiting := true }))).whu.owner = some .rinse := by decide

/-- A quiet window without a pulse raises INLET_NO_FLOW as STOP (R6). -/
theorem test_quietWindowExpiry : (fun t : State => (t.whu.phase, t.level)) (nextOf (exec .quietWindowExpiry (whu fun x =>
    { x with owner := some .tankFill, phase := .opened, quietLeft := some 3000 }))) = (.closed, .stop) := by decide

/-- 6.12: a fill of 12000 mL is dosed as 29280 uL: 117 steps, carry 74. -/
theorem test_runOnEnd : (fun t : State => (t.dsc.det.carry, t.dsc.det.orders.map (·.amount)))
    (nextOf (exec .runOnEnd (((det612 []).onDsc fun d => { d with det := { d.det with carry := 44 } }).onBay 1 (fun b =>
      { b with accepted := some 0x01 }) |>.onWhu fun x =>
        { x with
          tank := .heating, fillEnded := some .fill
          runOn := some { user := .tankFill, outcome := .released, pulses := 5760, left := 500 } }))) =
      (74, [.steps 117]) := by decide

/-- A code is accepted at its second like sample (R8). -/
theorem test_levelSample : ((nextOf (exec (.levelSample true false true) rs)).whu.accepted,
    (nextOf (exec (.levelSample true false true) (nextOf (exec (.levelSample true false true) rs)))).whu.accepted) =
      (none, some .partly) := by decide

/-- IMPLAUSIBLE for 5 s is a STOP (R8). -/
theorem test_implausibleTimerExpiry : (nextOf (exec .implausibleTimerExpiry (whu fun x =>
    { x with accepted := some .implausible, implausibleLeft := some 5000 }))).level = .stop := by decide

/-- The fill time limit ends the fill with a STOP (R12). -/
theorem test_fillTimeLimit : (fun t : State => (t.whu.fill, t.whu.phase, t.level)) (nextOf (exec .fillTimeLimit (whu fun x =>
    { x with tank := .filling, owner := some .tankFill, phase := .opened, fill := some { kind := .fill, timeMs := 0 } }))) =
      (none, .closed, .stop) := by decide

/-- DRY for 10 s of pumping leaves the tank EMPTY (R13). -/
theorem test_drainOutTimer : (nextOf (exec .drainOutTimer ((held rs .drainPump .granted).onWhu fun x =>
    { x with tank := .draining, accepted := some .dry, drainUser := some .draining, drainOutMs := some 0 }))).whu.tank =
      .empty := by decide

/-- The fifth bad reading in a row marks the sensor failed (R18). -/
theorem test_sensorReading : (fun t : State => (t.whu.tankSensor.failed, t.hasFault .sensorTank 0))
    (nextOf (exec (.sensorReading 1251 500 500) (whu fun x =>
      { x with tankSensor := { last := some 500, bad := 4, failed := false } }))) = (true, true) := by decide

/-- 2.13: after the purge the cycle waits for the rinse with the latch asked for (R33). -/
theorem test_purgeDone : (fun t : State => (t.csq.phase, t.dvc.latch, t.csq.rinseWait.holdLeft, t.csq.rinseWait.confirmLeft))
    (nextOf (exec .purgeDone ((held (cyc .purge) .drainPump .granted).onWhu fun x =>
      { x with drainUser := some .purge, purgeTime := 10000, purgeMs := 0 }))) =
      (.rinseWait, true, some 120000, some 2000) := by decide

/-- 2.13: the wash begins with number 418 (R28). -/
theorem test_washStart : (fun t : State => (t.csq.phase, t.csq.counter, t.csq.cycleOpen, (t.claimOf .washPump).state))
    (nextOf (exec .washStart ((((cyc .armed).onCsq fun c => { c with counter := 417 }).onWhu fun x =>
      { x with tank := .ready }).onDvc fun d => { d with door := .closed, openedFlag := true }))) =
      (.wash, 418, 418, .granted) := by decide

/-- A purge_ml of 0 goes from WASH to RINSE_WAIT (R29). -/
theorem test_washEnd_without_a_purge : (nextOf (exec .washEnd ((held (cyc .wash) .washPump .granted).onCsq fun c =>
    { c with active := some { ent with copy := { defaultRecipe with purgeMl := 0 } } }))).csq.phase = .rinseWait := by decide

/-- A hold that lasts hold_limit_s ends the cycle ABORTED_HOLD (R31). -/
theorem test_holdLimit : ((nextOf (exec .holdLimit ((cyc .held).onCsq fun c =>
    { c with hold := { c.hold with door := true, left := some .wash } }))).plk.notices.any fun n => match n with
      | .cycleEnd r => decide (r.outcome = some .abortedHold)
      | _ => false) = true := by decide

/-- The latch unconfirmed for 2 s is DOOR_LATCH_FAIL, STOP, detail 0: the cycle ends (R33). -/
theorem test_latchConfirmTimeout : (fun t : State => (t.csq.phase, t.hasFault .doorLatchFail 0)) (nextOf (exec
    .latchConfirmTimeout ((cyc .rinseWait).onCsq fun c => { c with rinseWait := { c.rinseWait with confirmLeft := some 0 } }))) =
      (.idle, true) := by decide

/-- The rinse hold ends: RINSE_LOW_TEMP as WARNING (R34). -/
theorem test_rinseHoldExpiry : (fun t : State => (t.csq.rinseWait.holdExpired, t.hasFault .rinseLowTemp 0)) (nextOf (exec
    .rinseHoldExpiry ((cyc .rinseWait).onCsq fun c => { c with rinseWait := { c.rinseWait with holdLeft := some 0 } }))) =
      (true, true) := by decide

/-- 2.13: the rinse starts with a target of 1200 pulses and asks for the inlet (R35). -/
theorem test_rinseStart : (fun t : State => (t.csq.phase, t.csq.rinse.target, t.whu.rinseWaiting)) (nextOf (exec .rinseStart
    ((held (cyc .rinseWait) .rinsePump .granted).onCsq fun c =>
      { c with rinseWait := { c.rinseWait with tempMet := true, confirmed := true } }))) = (.rinse, 1200, true) := by decide

/-- 2.13, 7.9: after the dwell the vent unlatches first (R38, R130). -/
theorem test_dwellEnd : (fun t : State => (t.csq.phase, t.dvc.vent.step, t.dvc.latch)) (nextOf (exec .dwellEnd
    ((cyc .dwell).onDvc fun d => { d with latch := true, door := .closedLatched }))) = (.vent, .unlatch, false) := by decide

/-! ### The budget -/

/-- 3.10 at 10.040 s: the tank heater's wattage has settled and stage A is granted. -/
theorem test_settlingEnd : (fun t : State => ((t.claimOf .boosterA).state, (t.claimOf .tankHeater).state, t.sumGranted,
    t.sumSettling)) (nextOf (exec .settlingEnd ((((warm.onClaim .washPump fun c => { c with state := .granted, counted := 750 }
      ).onClaim .boosterA fun c => { c with state := .waiting, claimTime := 10000 }).onClaim .tankHeater fun c =>
        { c with state := .waiting, claimTime := 0 }).onLba fun x =>
          { x with settling := [{ load := .tankHeater, watts := 2800, left := 40 }] }))) =
      (.granted, .waiting, 3450, 0) := by decide

/-- 3.10 at 57.960 s: the tank heater's wait is over (R54). -/
theorem test_agingPromotion : ((nextOf (exec .agingPromotion ((warm.onClaim .boosterA fun c =>
    { c with state := .granted, counted := 2700 }).onClaim .tankHeater fun c => { c with state := .waiting }))).claimOf
      .tankHeater).promoted = true := by decide

/-- HALT clear for 2 s clears the halt flag (R59). -/
theorem test_haltClearTimer : (nextOf (exec .haltClearTimer (rs.onLba fun x =>
    { x with halt := true, haltClearLeft := some 2000 }))).lba.halt = false := by decide

/-! ### The softener -/

/-- 4.12 at 12.5 s: the motor is granted at once, SERVE names the other column and the move may take 18 s. -/
theorem test_changeoverStart : (fun t : State => (t.sfc.changeover, t.sfc.serve, t.sfc.moveLeft)) (nextOf (exec .changeoverStart
    (lk.onSfc fun x => { x with changeover := .pending, target := .b }))) = (.moving, .b, some 18000) := by decide

/-- 4.12: a move that does not end brings SERVE back and raises VALVE_STUCK (R73). -/
theorem test_moveTimerExpiry : (fun t : State => (t.sfc.changeover, t.sfc.serve, t.hasFault .valveStuck 0)) (nextOf (exec
    .moveTimerExpiry (lk.onSfc fun x =>
      { x with changeover := .moving, serve := .b, moveLeft := some 0, moveLimit := 18000 }))) = (.returning, .a, true) := by
  decide

/-- A valve found at the other column is brought back (R73). -/
theorem test_alignmentStart : (nextOf (exec .alignmentStart (lk.onBay 1 fun b => { b with accepted := some 0x10 }))).sfc.changeover =
    .aligning := by decide

/-- An EXHAUSTED standby column regenerates (R75): brine for 600 s. -/
theorem test_regenStart : (fun t : State => ((t.column .b).state, (t.column .b).phaseLeft)) (nextOf (exec .regenStart
    (lk.onSfc fun x => { x with colB := { x.colB with state := .exhausted } }))) = (.regenBrine, 600000) := by decide

/-- 4.12 at 1653.1 s: the credit of a column of condition 95 (R77, R91). -/
theorem test_regenPhaseEnd : (fun t : State => ((t.column .b).state, (t.column .b).capacity, (t.column .b).regens)) (nextOf
    (exec .regenPhaseEnd (lk.onSfc fun x => { x with colB := { x.colB with state := .regenFast, condition := 95 } }))) =
      (.ready, 190000, 1) := by decide

/-! ### Dosing and the door -/

/-- The head order claims its load and is sent with a watchdog of 11 s (6.12). -/
theorem test_orderStart : (fun t : State => ((t.claimOf .doserDet).state, t.dsc.det.watchdogLeft)) (nextOf (exec
    (.orderStart .det) (det612 [{ ord .queued false with amount := .steps 117 }]))) = (.granted, some 11000) := by decide

/-- The watchdog ends: STOP, and DOSER_STALL with detail 1 (R108). -/
theorem test_orderWatchdogExpiry : (fun t : State => (t.dsc.det.stop, t.hasFault .doserStall 1)) (nextOf (exec
    (.orderWatchdogExpiry .det) ((held (det612 [ord .sent true]) .doserDet .granted).onChannel .det fun r =>
      { r with watchdogLeft := some 0 }))) = (true, true) := by decide

/-- 6.12 at 3.08 s: AIR sets the stock to 0 and the empty flag, and drops the queued order. -/
theorem test_done_air : (fun t : State => (t.dsc.det.stock, t.dsc.det.empty, t.dsc.det.orders.length, t.hasFault .detEmpty 0))
    (nextOf (exec (.done 2 46 60 2) (det612 [{ ord .sent true with tag := 46, amount := .steps 117 },
      { ord .queued false with tag := 47 }]))) = (0, true, 0, true) := by decide

/-- 6.12 at 126.10 s: a PRIME order's delivery is taken from the stock. -/
theorem test_done_prime : (nextOf (exec (.done 2 48 100 0) ((det612 [{ ord .sent true with tag := 48, amount := .seconds 5, ulPerStep := 250 }]
    ).onChannel .det fun r => { r with stock := 10000000 }))).dsc.det.stock = 9975000 := by decide

/-- The latch not released in 2 s is DOOR_LATCH_FAIL with detail 1, a WARNING (R126). -/
theorem test_latchReleaseTimeout : (fun t : State => (t.hasFault .doorLatchFail 1, t.level)) (nextOf (exec .latchReleaseTimeout
    (withFaults (rs.onDvc fun d => { d with releaseLeft := some 0 }) []))) = (true, .warning) := by decide

/-- 7.9 at 1.700 s: BLOCKED at 3 % marks the vent and starts the retract. -/
theorem test_moved_blocked : (fun t : State => (t.dvc.lastReached, t.dvc.vent.step, t.dvc.vent.doorBlocked, t.dvc.vent.fanOnly,
    t.dvc.retract)) (nextOf (exec (.moved 0 3 1) ((held (cyc .vent) .doorDrive .granted).onDvc fun d =>
      { d with task := .push .vent 20 .delivered, vent := { d.vent with step := .push, pct := 20, secs := 120 } }))) =
      (3, .retract, true, true, true) := by decide

/-- A retract that is owed starts: the limit is travel and 2 s (7.9). -/
theorem test_retractStart : (nextOf (exec .retractStart (lk.onDvc fun d => { d with owed := true }))).dvc.task =
    .retract 6000 := by decide

/-- The retract's limit raises DOOR_BLOCKED (R129). -/
theorem test_retractTimeLimit : (fun t : State => (t.dvc.task, t.dvc.retract, t.hasFault .doorBlocked 0)) (nextOf (exec
    .retractTimeLimit (lk.onDvc fun d => { d with task := .retract 0, retract := true }))) = (.none, false, true) := by decide

/-- The vent's time ends: the cycle is COMPLETE (R41, R133). -/
theorem test_ventTimerExpiry : (fun t : State => (t.csq.phase, t.dvc.fan)) (nextOf (exec .ventTimerExpiry ((cyc .vent).onDvc
    fun d => { d with fan := true, vent := { d.vent with step := .fan, timerLeft := some 0 } }))) = (.idle, false) := by decide

/-- 7.9 at 85.500 s: the cooling window ends the vent (R133). -/
theorem test_coolingWindowEnd : (nextOf (exec .coolingWindowEnd ((cyc .vent).onDvc fun d =>
    { d with vent := { d.vent with step := .fan, coolingLeft := some 0 } }))).csq.phase = .idle := by decide

/-! ### The Module Bus -/

/-- 8.1: frame 1 follows frame 0, and every empty address counts a bad bay. -/
theorem test_frameEnd : (fun t : State => (t.mbi.frameNo, (t.entry 3).bayErrors)) (nextOf (exec
    (.frameEnd (Vector.replicate 24 0xFF#8)) (rs.onMbi fun m => { m with line := .running }))) = (1, 1) := by decide

/-- The DOSE message has been delivered: it leaves the queue and the channel is IDLE (8.13). -/
theorem test_messageDelivered : (fun t : State => (t.mbi.queue.length, t.mbi.down.phase)) (nextOf (exec .messageDelivered
    (lk.onMbi fun m => { m with
      queue := [{ dest := 2, body := .dose 46 117, source := .dsc .det, sending := true }], down := { m.down with phase := .closing 2 } }))) =
      (0, .idle) := by decide

/-- CLOSING that lasts 50 frames ends as a delivery (R151). -/
theorem test_closingLimit : (nextOf (exec .closingLimit (lk.onMbi fun m => { m with
    queue := [msg (.dsc .det) true], down := { m.down with phase := .closing 0 } }))).mbi.queue.length = 0 := by decide

/-- A message without progress is abandoned and counted (R151). -/
theorem test_downstreamNoProgress : (fun t : State => (t.mbi.queue.length, (t.entry 0).msgAborts)) (nextOf (exec
    .downstreamNoProgress (lk.onMbi fun m => { m with
      queue := [{ dest := 0, body := .move 20, source := .dvc, sending := true }], down := { m.down with phase := .present 0 } }))) =
      (0, 1) := by decide

/-- An upstream message without progress loses its grant (R152). -/
theorem test_upstreamNoProgress : (fun t : State => (t.mbi.grant, (t.entry 2).msgAborts)) (nextOf (exec .upstreamNoProgress
    (lk.onMbi fun m => { m with grant := some { owner := 2, frames := 60, msgSeen := true } }))) = (none, 1) := by decide

/-- A grant that is not used is withdrawn (R155). -/
theorem test_grantWithdrawal : (fun t : State => (t.mbi.grant, (t.entry 2).grantLapses)) (nextOf (exec .grantWithdrawal
    (lk.onMbi fun m => { m with grant := some { owner := 2, frames := 8, msgSeen := false } }))) = (none, 1) := by decide

/-- The line runs again from frame 0 (R157). -/
theorem test_lineBreakEnd : (fun t : State => (t.mbi.line, t.mbi.frameNo, t.now)) (nextOf (exec .lineBreakEnd rs)) =
    (.running, 0, 8) := by decide

/-- 9.10 at the end of frame 7: the CAPS_QUERY is enqueued (R162). -/
theorem test_bringUpQuery : (fun t : State => ((t.entry 0).bringUp, t.mbi.queue.map (·.body))) (nextOf (exec (.bringUpQuery 0)
    rs)) = (.query, [.capsQuery]) := by decide

/-- No CAPS in 250 frames: the entry counts again (R162). -/
theorem test_answerTimeout : ((nextOf (exec (.answerTimeout 0) (seek (.answer 0) false))).entry 0).bringUp = .count 0 := by
  decide

/-- 9.10 at the end of frame 39: the record is replaced and the entry LINKED. -/
theorem test_caps : (fun t : State => ((t.entry 0).link, (t.entry 0).caps)) (nextOf (exec (.caps 0 #v[1, 3, 35, 55, 38, 90])
    (seek (.answer 200) false))) = (.linked, { fields := .door 35 55 38 90, revision := 3 }) := by decide

/-- A CAPS of another kind is MODULE_MISMATCH (R164). -/
theorem test_caps_mismatch : (fun t : State => ((t.entry 0).bringUp, t.hasFault .moduleMismatch 0)) (nextOf (exec
    (.caps 0 #v[2, 3, 80, 20, 0, 0]) (seek (.answer 200) false))) = (.mismatch, true) := by decide

/-- 9.10 at frame 151: the door is LOST with the loss mark, MODULE_LOST is a STOP, the cycle ends. -/
theorem test_silentCountLimit : (fun t : State => ((t.entry 0).link, (t.entry 0).lossMark, t.level, t.csq.phase, t.dvc.door))
    (nextOf (exec (.silentCountLimit 0) ((cyc .wash).onDvc fun d => { d with door := .closed }))) =
      (.lost, true, .stop, .idle, .unknown) := by decide

/-- A stuck line is broken and watched (R169). -/
theorem test_stuckLineBreak : (fun t : State => (t.mbi.line, t.msu.watch)) (nextOf (exec .stuckLineBreak lk)) =
    (.brk 8, .watch 0) := by decide

/-- A line still stuck is BUS_STUCK, a STOP, and every entry LOST (R169). -/
theorem test_busStuck : (fun t : State => (t.level, (t.entry 0).link, (t.entry 4).link)) (nextOf (exec .busStuck
    (lk.onMsu fun m => { m with watch := .watch 6 }))) = (.stop, .lost, .notExpected) := by decide

/-- Every 2500 frames the line is broken again (R169). -/
theorem test_stuckRepeatBreak : (fun t : State => (t.mbi.line, t.msu.watch)) (nextOf (exec .stuckRepeatBreak
    (lk.onMsu fun m => { m with watch := .stuck 0 0 }))) = (.brk 8, .stuck 2500 0) := by decide

/-- A line that lives again ends BUS_STUCK (R169). -/
theorem test_busStuckClear : (fun t : State => (t.msu.watch, t.hasFault .busStuck 0)) (nextOf (exec .busStuckClear
    (withFaults (lk.onMsu fun m => { m with watch := .stuck 100 8 }) [faultOf .busStuck 0 .stop false true]))) =
      (.off, false) := by decide

/-! ### Faults -/

/-- 10.8: the third stall within nine cycles escalates. -/
theorem test_escalation : (fun t : State => (t.level, t.flu.list.map fun r => (r.cls, r.count, r.escalated), t.flu.history.map
    HistoryRow.cycles)) ((withFaults ((rs.onCsq fun c => { c with counter := 534 }).onFlu fun u =>
      { u with history := [{ code := .inletNoFlow, detail := 0, cycles := [530, 531] }] }) []).raise .inletNoFlow 0 .stop) =
      (.lockout, [(.lockout, 1, true)], [[]]) := by decide

/-- 10.8: a span of eleven does not. -/
theorem test_no_escalation : (fun t : State => (t.level, t.flu.history.map HistoryRow.cycles)) ((withFaults ((rs.onCsq fun c =>
    { c with counter := 541 }).onFlu fun u => { u with history := [{ code := .inletNoFlow, detail := 0, cycles := [530, 531] }] })
      []).raise .inletNoFlow 0 .stop) = (.stop, [[530, 531, 541]]) := by decide

/-! ### What every step keeps, at reset -/

/-- The state after reset is awake and answers a request at once. -/
theorem test_reset_serves : rs.serves = true := by decide


/-- 4.12 at 12.5 s: the inlet that closes at the rinse target lets a PENDING changeover claim the valve motor (R71). -/
theorem test_rinseTarget_starts_changeover : (fun t : State => (t.sfc.changeover, (t.claimOf .valveMotor).state))
    (nextOf (exec .rinseTargetReached ((((cyc .rinse).onWhu fun x =>
      { x with owner := some .rinse, phase := .opened, draw := 1200 }).onCsq fun c =>
        { c with rinse := { c.rinse with target := 1200, count := 1200 } }).onSfc fun x =>
          { x with changeover := .pending, target := .b }))) = (.moving, .granted) := by decide

/-- The ACK that removes DOOR_OBSTRUCTED, the last LOCKOUT, starts an owed retract in its event (R129, R135). -/
theorem test_ackFault_starts_retract : (nextOf (exec (.ackFault 1 0x15 0)
    (withFaults (lk.onDvc fun d => { d with owed := true }) [faultOf .doorObstructed 0 .lockout true false]))).dvc.task =
    .retract 6000 := by decide

/-- A MOVED reason above 3 is BLOCKED, in the DOOR notice too (R123, R148). -/
theorem test_moved_reason_nine : ((nextOf (exec (.moved 0 3 9) ((held (cyc .vent) .doorDrive .granted).onDvc fun d =>
    { d with task := .push .vent 20 .delivered, vent := { d.vent with step := .push, pct := 20, secs := 120 } }))).plk.notices
    |>.any fun n => match n with
      | .door _ _ last _ _ _ moved => decide (last = 3 ∧ moved = some (1#8, 3))
      | _ => false) = true := by decide

/-- R194: a first acceptance in STANDBY that raises DOOR_BLOCKED again wakes the part with the cause door. -/
theorem test_door_wakes_before_its_fault :
    ((((sto fun x => { x with power := .standby, wakeMask := 7 }).onDvc fun d =>
      { d with blockedGone := true }).doorAccepted none 0x50#8).sto.settle.map Prod.fst) = some .door := by decide

/-- R129, R123: a RETRACT refused as unfit has its DOOR notice and stays owed. -/
theorem test_retract_refused_is_noticed :
    (let s := nextOf (exec .retractStart ((lk.onDvc fun d => { d with owed := true, latch := false }).onLba fun b =>
        { b with inForce := 39 }));
      s.dvc.owed && s.plk.notices.any fun n => match n with
        | .door _ _ _ _ _ r m => !r && m.isNone
        | _ => false) = true := by decide

/-- R129: a PANEL PUSH made unfit leaves the pusher owed; its RETRACT is tried in the same event, refused, and noticed. -/
theorem test_push_made_unfit_tries_the_retract :
    (let s := (((held lk .doorDrive .granted).onDvc fun d => { d with task := .push .panel 50 .delivered }).onLba fun b =>
        { b with inForce := 39 });
      let r := s.retest;
      let t := (State.tellEnded r.1 r.2).finish;
      (t.dvc.task, t.dvc.owed, (t.faultRec .budgetUnfit 4).map FaultRec.count, t.plk.notices.any fun n => match n with
        | .door _ _ _ _ _ x m => !x && m.isNone
        | _ => false)) = (.none, true, some 2, true) := by decide

/-- R129: a RETRACT refused as unfit is not tried again by an event that changes none of its items, and is at a relink. -/
theorem test_refused_retract_waits_for_a_change :
    (let s := nextOf (exec .retractStart ((lk.onDvc fun d => { d with owed := true }).onLba fun b =>
        { b with inForce := 39 }));
      let n := fun t : State => (t.faultRec .budgetUnfit 4).map FaultRec.count;
      (n s, n s.finish, n (s.freeRetract.finish))) = (some 1, some 1, some 2) := by decide

/-- R55: a lower mains_budget_w that still waits to take force ends the unfitness of the load that broke the class sum. -/
theorem test_decrease_in_progress_ends_a_broken_sum :
    (let s := ((withFaults ((rs.putSetting SettingIx.mainsBudget 2000).putSetting SettingIx.washPumpW 1900)
        [faultOf .budgetUnfit 4 .warning false true]).onClaim .tankHeater fun c =>
        { c with state := .granted, counted := 2000 }).onLba fun b =>
        { b with
          inForce := 3600, told := b.told.set 3 true, breaker := b.breaker.set 3 true
          settling := [{ load := .boosterA, watts := 1000, left := 40 }] };
      let t := nextOf (exec (.set 1 8 2500) s);
      (s.loadUnfit .doorDrive, t.lba.inForce, t.toldUnfit .doorDrive, t.hasFault .budgetUnfit 4)) =
      (true, 3600, false, false) := by decide

/-- R117: a started head that waits for room stays QUEUED when its module is lost, though the loss withdraws the query of an
UNPIN and so frees a place. -/
theorem test_started_head_stays_queued_at_a_loss :
    (let s := (det [ord .queued true]).onMbi fun m =>
        { m with
          queue := { (msg .msu false) with dest := 2 } :: List.replicate 7 (msg (.dsc .ra) false)
          down := { m.down with phase := .present 0 } };
      let t := nextOf (exec (.silentCountLimit 2) s);
      (t.dsc.det.orders.map fun o => (o.state, o.started), t.mbi.queue.length, t.mbi.departed)) =
      ([(.queued, false)], 7, false) := by decide

/-- R117: at the first frame of a stuck line both channels are lost at once: the SENT detergent order ends, and the started
rinse-aid head stays QUEUED. -/
theorem test_both_channels_are_lost_at_once :
    (let s := ((det [ord .sent true]).onDsc fun d => { d with ra := { d.ra with orders := [ord .queued true] } }).onMbi
        fun m =>
        { m with
          queue := { (msg (.dsc .det) false) with dest := 2, body := .dose 9 3 } :: List.replicate 7 (msg (.dsc .ra) false)
          down := { m.down with phase := .present 0 } };
      let t := nextOf (exec (.frameEnd (Vector.replicate 24 0#8)) s);
      (t.dsc.det.orders.length, t.dsc.ra.orders.map fun o => (o.state, o.started), t.mbi.queue.length)) =
      (0, [(.queued, false)], 7) := by decide

/-- R70: SOFTENER_EXHAUSTED raised with capacity left has ended when the event ends. -/
theorem test_exhausted_with_capacity_ends :
    (let s := nextOf (exec .retractStart (((lk.onSfc fun x => { x with changeover := .pending }).onColumn .a fun r =>
        { r with capacity := 5 }).onLba fun b => { b with inForce := 10 }));
      (s.sfc.changeover, s.hasFault .softenerExhausted 0)) = (.due, false) := by decide

/-- R117: the loss of a channel's module takes the SENT order's message, and leaves that of an order DONE before. -/
theorem test_loss_keeps_other_message :
    (((det [{ ord .sent true with tag := 9 }]).onMbi fun m =>
      { m with
        queue := [{ dest := 2, body := .dose 8 1, source := .dsc .det, sending := true },
          { dest := 2, body := .dose 9 3, source := .dsc .det, sending := false }] }).channelLost .det).mbi.queue.map
      DownMsg.body = [.dose 8 1] := by decide

/-- R51, R53: a claim that a revocation lets fit is granted by the walk that follows it, while the budget decreases. -/
theorem test_revocation_walks_again :
    (let s := ((held (held rs .tankHeater .granted) .rinsePump .waiting).putSetting SettingIx.mainsBudget 2000).onClaim
        .tankHeater fun c => { c with counted := 1900 };
      (s.walk.granted .rinsePump, s.walk.granted .tankHeater)) = (true, false) := by decide

/-- R164: a CAPS that does not match leaves the silent count as it stands. -/
theorem test_mismatch_keeps_silent_count :
    ((nextOf (exec (.caps 0 #v[2, 7, 40, 60, 40, 100]) ((seek .query false).onEntry 0 fun e =>
      { e with silent := 9 }))).entry 0).silent = 9 := by decide

/-- R186: the absent address of a BUS_RESET is sent as all ones, and its body has two octets. -/
theorem test_busReset_body :
    (rs.parse { kind := 0x11#8, tag := 1, body := [4#8, 0xFF#8] }, rs.parse { kind := 0x11#8, tag := 1, body := [4#8] }) =
      (.good (.moduleBusReset 1), .refused .badForm) := by decide

/-- R157, R194: a BUS_RESET that wakes the part is held as it was sent, and breaks the line when the settle ends. -/
theorem test_busReset_held_over_a_settle :
    (let s := nextOf (exec (.moduleBusReset 7) (lk.onSto fun x => { x with power := .standby }));
      let t := nextOf (exec .settleEnd s);
      (s.sto.held, t.plk.reply.map (·.status), t.mbi.line)) =
      ([{ kind := 0x11#8, tag := 7, body := [4#8, 0xFF#8] }], some .accepted, .brk 8) := by decide

/-- R140, R144: a RETRACT that a frame end starts sets its bit in the frame built at that end. -/
theorem test_frame_carries_the_starts_of_its_event :
    (let s := nextOf (exec (.frameEnd (Vector.replicate 24 0xFF#8)) (lk.onDvc fun d => { d with owed := true }));
      (s.dvc.retract, (s.mbi.dn.get 0).getLsbD 5, s.mbi.frameNo)) = (true, true, 1) := by decide

/-- R190: a SAVE is DONE at the end of the settings write that serves it, with a counters write marked meanwhile. -/
theorem test_save_done_with_its_settings_write :
    (let s := nextOf (exec .storeWriteEnd (sto fun x =>
        { x with write := .writing .settings false 8, saveRuns := true, countersMark := true }));
      (s.sto.lastSave, s.sto.write, s.sto.saveRuns)) = (.done, .writing .counters false 8, false) := by decide

/-- StepRunsTheCommandInFront: states and operands that meet its hypotheses, clause by clause. -/
theorem test_witness_StepRunsTheCommandInFront :
    (∃ (c : Instr) (rest : List Instr) (s : State), s.pending = c :: rest) ∧ (∃ (c : Instr) (s : State), s.pending =
    [] ∧ s.dueEvent = some c) ∧ (∃ (s : State), s.pending = [] ∧ s.dueEvent = none) ∧ (∃ (s : State), s.pending = []
    ∧ s.sto.power = .off) :=
  ⟨⟨.flowPulse, [.prepare 1], { rs with pending := [.flowPulse, .prepare 1] }, by decide⟩,
    ⟨.lineBreakEnd, rs.onMbi fun m => { m with line := .brk 0 }, by decide⟩,
    ⟨rs, by decide⟩,
    ⟨sto fun x => { x with power := .off }, by decide⟩⟩

/-- EveryCommandAnswersANextState: states and operands that meet its hypotheses, clause by clause. -/
theorem test_witness_EveryCommandAnswersANextState :
    (∃ (c : Instr) (s : State), s.on = false ∧ c ≠ .supplyRise ∧ c ≠ .oscillatorSettled) :=
  ⟨.flowPulse, sto fun x => { x with power := .off }, by decide⟩

/-- SupplyRisesAndFails: states and operands that meet its hypotheses, clause by clause. -/
theorem test_witness_SupplyRisesAndFails :
    (∃ (s : State), s.sto.power = .off) ∧ (∃ (s : State), s.sto.power ≠ .off) ∧ (∃ (s : State) (copy : StoreCopy
    CountersImage) (left : Nat), s.on = true ∧ s.sto.pfw = true ∧ s.sto.write = .writing .counters false left ∧
    s.sto.nvm.cnt1 = some copy) ∧ (∃ (s : State) (copy : StoreCopy CountersImage) (left : Nat), s.on = true ∧
    s.sto.pfw = true ∧ s.sto.write = .writing .counters true left ∧ s.sto.nvm.cnt2 = some copy) ∧ (∃ (s : State),
    s.sto.pfw = false) ∧ (∃ (s : State), s.on = true ∧ s.sto.pfw = true ∧ s.sto.write = .idle) :=
  ⟨⟨sto fun x => { x with power := .off }, by decide⟩,
    ⟨rs, by decide⟩,
    ⟨sto fun x =>
      { x with pfw := true, write := .writing .counters false 1, nvm := { x.nvm with cnt1 := some (copy 65535 false), cnt2 := some (copy 0 false) } },
      copy 65535 false, 1, by decide⟩,
    ⟨sto fun x =>
      { x with pfw := true, write := .writing .counters true 1, nvm := { x.nvm with cnt1 := some (copy 65535 false), cnt2 := some (copy 0 false) } },
      copy 0 false, 1, by decide⟩,
    ⟨rs, by decide⟩,
    ⟨sto fun x => { x with pfw := true }, by decide⟩⟩

/-- PowerOnWithABlankStoreGivesReset: states and operands that meet its hypotheses, clause by clause. -/
theorem test_witness_PowerOnWithABlankStoreGivesReset :
    (∃ (s : State) (left : Nat), s.sto.power = .oscillator left ∧ s.sto.nvm = blankNvm) ∧ (∃ (s : State),
    s.oscillatorLeft = none) :=
  ⟨⟨sto fun x => { x with power := .oscillator 0 }, 0, by decide⟩,
    ⟨rs, by decide⟩⟩

/-- PowerOnRestoresTheStore: states and operands that meet its hypotheses, clause by clause. -/
theorem test_witness_PowerOnRestoresTheStore :
    (∃ (s : State) (left : Nat), s.sto.power = .oscillator left) :=
  ⟨sto fun x => { x with power := .oscillator 10 }, 10, by decide⟩

/-- StoreCopiesAlternateAndTheLaterIsLoaded: states and operands that meet its hypotheses, clause by clause. -/
theorem test_witness_StoreCopiesAlternateAndTheLaterIsLoaded :
    (∃ (a : StoreCopy CountersImage) (b : StoreCopy CountersImage), b.seq = (a.seq + 1) % 65536 ∧ b.good = true) ∧
    (∃ (a : StoreCopy CountersImage) (b : StoreCopy CountersImage), b.seq = (a.seq + 1) % 65536 ∧ b.good = false ∧
    a.good = true) ∧ (∃ (a : StoreCopy CountersImage) (b : StoreCopy CountersImage), b.seq ≠ (a.seq + 1) % 65536 ∧
    a.good = true) ∧ (∃ (a : StoreCopy CountersImage) (b : StoreCopy CountersImage), b.seq ≠ (a.seq + 1) % 65536 ∧
    a.good = false ∧ b.good = true) ∧ (∃ (a : StoreCopy CountersImage) (b : StoreCopy CountersImage), a.good = false
    ∧ b.good = false) ∧ (∃ (s : State) (a : StoreCopy CountersImage) (b : StoreCopy CountersImage), s.sto.nvm.cnt1 =
    some a ∧ s.sto.nvm.cnt2 = some b ∧ a.good = true ∧ b.good = true ∧ b.seq = (a.seq + 1) % 65536) ∧ (∃ (s : State)
    (a : StoreCopy CountersImage) (b : StoreCopy CountersImage), s.sto.nvm.cnt1 = some a ∧ s.sto.nvm.cnt2 = some b ∧
    a.good = true ∧ (b.good = false ∨ b.seq ≠ (a.seq + 1) % 65536)) ∧ (∃ (s : State), s.sto.nvm.cnt1 = none ∧
    s.sto.nvm.cnt2 = none) ∧ (∃ (s : State) (second : Bool) (left : Nat), s.on = true ∧ s.sto.write = .writing
    .counters second left) ∧ (∃ (s : State) (second : Bool) (left : Nat), s.on = true ∧ s.sto.write = .writing
    .settings second left) ∧ (∃ (s : State), s.sto.write = .idle) :=
  ⟨⟨copy 65535 true, copy 0 true, by decide⟩,
    ⟨copy 65535 true, copy 0 false, by decide⟩,
    ⟨copy 0 true, copy 65535 true, by decide⟩,
    ⟨copy 0 false, copy 65535 true, by decide⟩,
    ⟨copy 1 false, copy 2 false, by decide⟩,
    ⟨sto fun x => { x with nvm := { x.nvm with cnt1 := some (copy 65535 true), cnt2 := some (copy 0 true) } },
      copy 65535 true, copy 0 true, by decide⟩,
    ⟨sto fun x => { x with nvm := { x.nvm with cnt1 := some (copy 1 true), cnt2 := some (copy 0 true) } }, copy 1
      true, copy 0 true, by decide⟩,
    ⟨rs, by decide⟩,
    ⟨sto fun x => { x with write := .writing .counters true 0 }, true, 0, by decide⟩,
    ⟨sto fun x => { x with write := .writing .settings false 8 }, false, 8, by decide⟩,
    ⟨rs, by decide⟩⟩

/-- FullResetKeepsTheCounters: states and operands that meet its hypotheses, clause by clause. -/
theorem test_witness_FullResetKeepsTheCounters :
    (∃ (s : State), s.on = true ∧ s.sto.resetReq = .due .full ∧ s.sto.write = .idle ∧ s.sto.pfw = false) ∧ (∃ (s :
    State), s.on = true ∧ s.sto.resetReq ≠ .due .full) ∧ (∃ (s : State), s.on = true ∧ s.sto.resetReq = .due .full ∧
    s.sto.write = .idle ∧ s.sto.pfw = true) ∧ (∃ (s : State) (i : ImageId) (second : Bool) (left : Nat), s.on = true
    ∧ s.sto.resetReq = .due .full ∧ s.sto.write = .writing i second left ∧ s.sto.pfw = false) :=
  ⟨⟨sto fun x => { x with resetReq := .due .full }, by decide⟩,
    ⟨rs, by decide⟩,
    ⟨sto fun x => { x with resetReq := .due .full, pfw := true }, by decide⟩,
    ⟨sto fun x => { x with resetReq := .due .full, write := .writing .settings true 5 }, .settings, true, 5, by
      decide⟩⟩

/-- SoftResetKeepsWorkingValues: states and operands that meet its hypotheses, clause by clause. -/
theorem test_witness_SoftResetKeepsWorkingValues :
    (∃ (s : State), s.on = true ∧ s.sto.resetReq = .due .soft) ∧ (∃ (s : State), s.on = true ∧ s.sto.resetReq ≠ .due
    .soft) :=
  ⟨⟨sto fun x => { x with resetReq := .due .soft }, by decide⟩,
    ⟨rs, by decide⟩⟩

/-- PfwWritesTheCountersAtOnce: states and operands that meet its hypotheses, clause by clause. -/
theorem test_witness_PfwWritesTheCountersAtOnce :
    (∃ (s : State), s.on = true ∧ s.sto.pfw = false ∧ (∀ (c : Bool) (n : Nat), s.sto.write ≠ .writing .settings c
    n)) ∧ (∃ (s : State) (c : Bool) (n : Nat), s.on = true ∧ s.sto.pfw = false ∧ s.sto.write = .writing .settings c
    n) ∧ (∃ (s : State), s.on = true ∧ s.sto.pfw = true) ∧ (∃ (s : State), s.on = true ∧ s.sto.write = .idle ∧
    s.sto.resetReq ≠ .due .full) ∧ (∃ (s : State), s.on = true ∧ s.sto.write = .idle ∧ s.sto.resetReq = .due .full) ∧
    (∃ (s : State) (i : ImageId) (c : Bool) (n : Nat), s.on = true ∧ s.sto.write = .writing i c n) :=
  ⟨⟨rs, by decide, by decide, (fun _ _ h => by cases h)⟩,
    ⟨sto fun x => { x with write := .writing .settings false 1 }, false, 1, by decide⟩,
    ⟨sto fun x => { x with pfw := true }, by decide⟩,
    ⟨sto fun x => { x with pfw := true, countersMark := true, settingsMark := true, saveWaits := true }, by decide⟩,
    ⟨sto fun x => { x with pfw := true, resetReq := .due .full }, by decide⟩,
    ⟨sto fun x =>
      { x with pfw := true, write := .writing .counters true 1, nvm := { x.nvm with cnt1 := some (copy 65535 false), cnt2 := some (copy 0 false) } },
      .counters, true, 1, by decide⟩⟩

/-- WakeSettlesThenServesTheHeldRequests: states and operands that meet its hypotheses, clause by clause. -/
theorem test_witness_WakeSettlesThenServesTheHeldRequests :
    (∃ (s : State) (cause : StandbyCause) (left : Nat), s.on = true ∧ s.sto.settle = some (cause, left)) ∧ (∃ (s :
    State) (left : Nat), s.on = true ∧ s.sto.wakePulseLeft = some left) ∧ (∃ (s : State), s.sto.settle = none) ∧ (∃
    (s : State), s.sto.wakePulseLeft = none) :=
  ⟨⟨sto fun x => { x with power := .standby, settle := some (.door, 0) }, .door, 0, by decide⟩,
    ⟨sto fun x => { x with wakePulseLeft := some 10 }, 10, by decide⟩,
    ⟨rs, by decide⟩,
    ⟨rs, by decide⟩⟩

/-- RequestsAreTurnedAway: states and operands that meet its hypotheses, clause by clause. -/
theorem test_witness_RequestsAreTurnedAway :
    (∃ (i : Instr) (f : ReqFrame) (s : State), encodeRequest i = some f ∧ s.awake = true ∧ s.plk.reply.isSome =
    true) ∧ (∃ (s : State), s.takes = true) ∧ (∃ (address : Octet) (fields : List Octet) (s : State), s.takes = true
    ∧ fields.length ≠ s.pinLength address) ∧ (∃ (i : Instr) (f : ReqFrame) (s : State), encodeRequest i = some f ∧
    s.takes = true ∧ s.locked = true ∧ State.exempt f.kind = false ∧ (∀ tag kind, i ≠ .unknownKind tag kind) ∧ ((∀
    tag address fields, i = .modulePin tag address fields → fields.length = s.pinLength address))) :=
  ⟨⟨.ident 1, { kind := 0x01#8, tag := 1, body := [] }, plk fun p =>
      { p with reply := some { kind := 0x01#8, tag := 1, status := .ok, fields := [] } }, by decide⟩,
    ⟨rs, by decide⟩,
    ⟨0, [], rs, by decide⟩,
    ⟨.save 1, { kind := 0x12#8, tag := 1, body := [] }, lockedPart, by decide, by decide, by decide, by decide,
      (fun _ _ h => by cases h), (fun _ _ _ h => by cases h)⟩⟩

/-- RequestsInStandbyAreHeld: states and operands that meet its hypotheses, clause by clause. -/
theorem test_witness_RequestsInStandbyAreHeld :
    (∃ (i : Instr) (f : ReqFrame) (s : State), encodeRequest i = some f ∧ s.sto.power = .standby ∧ s.sto.settle =
    none) ∧ (∃ (i : Instr) (f : ReqFrame) (s : State), encodeRequest i = some f ∧ s.on = true ∧ s.sto.settle.isSome
    = true) :=
  ⟨⟨.ident 1, { kind := 0x01#8, tag := 1, body := [] }, sto fun x => { x with power := .standby }, by decide⟩,
    ⟨.ident 1, { kind := 0x01#8, tag := 1, body := [] }, sto fun x =>
      { x with power := .standby, settle := some (.octet, 2) }, by decide⟩⟩

/-- GoodFrameTakesTheCommandsMeaning: states and operands that meet its hypotheses, clause by clause. -/
theorem test_witness_GoodFrameTakesTheCommandsMeaning :
    (∃ (i : Instr) (f : ReqFrame) (s : State), WellFormed i = true ∧ encodeRequest i = some f ∧ s.on = true) :=
  ⟨.ident 1, { kind := 0x01#8, tag := 1, body := [] }, rs, by decide⟩

/-- ParseInvertsEncode: states and operands that meet its hypotheses, clause by clause. -/
theorem test_witness_ParseInvertsEncode :
    (∃ (i : Instr) (f : ReqFrame) (s : State), WellFormed i = true ∧ encodeRequest i = some f ∧ (∀ tag kind, i ≠
    .unknownKind tag kind) ∧ ((∀ tag address fields, i = .modulePin tag address fields → fields.length = s.pinLength
    address))) :=
  ⟨.ident 1, { kind := 0x01#8, tag := 1, body := [] }, rs, by decide, by decide, (fun _ _ h => by cases h), (fun _ _
  _ h => by cases h)⟩

/-- OctetsOfAFrameAreTaken: states and operands that meet its hypotheses, clause by clause. -/
theorem test_witness_OctetsOfAFrameAreTaken :
    (∃ (s : State) (f : ReqFrame), s.awake = true ∧ s.plk.rx = .hunt ∧ f.body.length ≤ 120) ∧ (∃ (s : State) (f :
    ReqFrame) (x : Octet), s.awake = true ∧ s.plk.rx = .hunt ∧ f.body.length ≤ 120 ∧ (panelFrame f.kind f.tag
    f.body).getLast? ≠ some x) :=
  ⟨⟨rs, { kind := 0x01#8, tag := 1, body := List.replicate 120 0#8 }, by decide⟩,
    ⟨rs, { kind := 0x01#8, tag := 1, body := [] }, 0, by decide⟩⟩

/-- OctetsStartAndDiscardFrames: states and operands that meet its hypotheses, clause by clause. -/
theorem test_witness_OctetsStartAndDiscardFrames :
    (∃ (s : State), s.awake = true ∧ s.plk.rx = .hunt) ∧ (∃ (o : Octet) (stop : Bool) (ovr : Bool) (s : State),
    s.awake = true ∧ s.plk.rx = .hunt ∧ (o ≠ 0xC3#8 ∨ stop = false ∨ ovr = true)) ∧ (∃ (o : Octet) (left : Nat) (s :
    State), s.awake = true ∧ s.plk.rx = .assemble [] left ∧ 2 ≤ o.toNat ∧ o.toNat ≤ 122) ∧ (∃ (o : Octet) (left :
    Nat) (s : State), s.awake = true ∧ s.plk.rx = .assemble [] left ∧ (o.toNat < 2 ∨ 122 < o.toNat)) ∧ (∃ (stop :
    Bool) (ovr : Bool) (os : List Octet) (left : Nat) (s : State), s.awake = true ∧ s.plk.rx = .assemble os left ∧
    (stop = false ∨ ovr = true)) ∧ (∃ (os : List Octet) (left : Nat) (s : State), s.on = true ∧ s.plk.rx = .assemble
    os left) ∧ (∃ (s : State), s.plk.rx = .hunt) ∧ (∃ (s : State), s.sto.power = .standby ∧ s.sto.settle = none ∧
    s.plk.rx = .hunt) :=
  ⟨⟨rs, by decide⟩,
    ⟨0xC3, false, false, rs, by decide⟩,
    ⟨122, 5, plk fun p => { p with rx := .assemble [] 5 }, by decide⟩,
    ⟨123, 5, plk fun p => { p with rx := .assemble [] 5 }, by decide⟩,
    ⟨true, true, [2], 5, plk fun p => { p with rx := .assemble [2] 5 }, by decide⟩,
    ⟨[2], 5, plk fun p => { p with rx := .assemble [2] 5 }, by decide⟩,
    ⟨rs, by decide⟩,
    ⟨sto fun x => { x with power := .standby }, by decide⟩⟩

/-- TransmitterEmptiesItsSlotAndChooses: states and operands that meet its hypotheses, clause by clause. -/
theorem test_witness_TransmitterEmptiesItsSlotAndChooses :
    (∃ (os : List Octet) (s : State), s.on = true ∧ s.plk.tx = some { source := .reply, octets := os }) ∧ (∃ (os :
    List Octet) (s : State), s.on = true ∧ s.plk.tx = some { source := .busy, octets := os }) ∧ (∃ (os : List Octet)
    (s : State), s.on = true ∧ s.plk.tx = some { source := .notice, octets := os }) ∧ (∃ (os : List Octet) (s :
    State), s.on = true ∧ s.plk.tx = some { source := .orphan, octets := os }) ∧ (∃ (s : State), s.on = true ∧
    s.plk.tx = none) ∧ (∃ (s : State) (r : Reply), s.resetDue = false ∧ s.plk.tx = none ∧ s.plk.reply = some r) ∧ (∃
    (s : State) (kind : Octet) (tag : Octet), s.resetDue = false ∧ s.plk.tx = none ∧ s.plk.reply = none ∧ s.plk.busy
    = some (kind, tag)) ∧ (∃ (s : State) (n : Notice) (rest : List Notice), s.resetDue = false ∧ s.plk.tx = none ∧
    s.plk.reply = none ∧ s.plk.busy = none ∧ s.plk.notices = n :: rest) ∧ (∃ (s : State) (t : TxFrame), s.plk.tx =
    some t) ∧ (∃ (s : State), s.resetDue = true) :=
  ⟨⟨[0xC3], plk fun p => { p with tx := some { source := .reply, octets := [0xC3] } }, by decide⟩,
    ⟨[0xC3], plk fun p => { p with tx := some { source := .busy, octets := [0xC3] } }, by decide⟩,
    ⟨[0xC3], plk fun p => { p with tx := some { source := .notice, octets := [0xC3] } }, by decide⟩,
    ⟨[0xC3], plk fun p => { p with tx := some { source := .orphan, octets := [0xC3] } }, by decide⟩,
    ⟨plk fun p => { p with tx := none }, by decide⟩,
    ⟨plk fun p => { p with tx := none, reply := some { kind := 0x01#8, tag := 1, status := .ok, fields := [] } },
      { kind := 0x01#8, tag := 1, status := .ok, fields := [] }, by decide⟩,
    ⟨plk fun p => { p with tx := none, busy := some (1, 1) }, 1, 1, by decide⟩,
    ⟨plk fun p => { p with tx := none, notices := [.standby .running .request] }, .standby .running .request, [],
      by decide⟩,
    ⟨plk fun p => { p with tx := some { source := .reply, octets := [] } }, { source := .reply, octets := [] }, by
      decide⟩,
    ⟨sto fun x => { x with resetReq := .due .soft }, by decide⟩⟩

/-- FullQueuesRefuse: states and operands that meet its hypotheses, clause by clause. -/
theorem test_witness_FullQueuesRefuse :
    (∃ (s : State), 16 ≤ s.plk.notices.length) ∧ (∃ (s : State), s.plk.notices.length < 16) ∧ (∃ (s : State), 8 ≤
    s.mbi.queue.length) ∧ (∃ (s : State), s.mbi.queue.length < 8 ∧ s.mbi.down.phase ≠ .idle) ∧ (∃ (s : State),
    s.mbi.queue.length < 8) ∧ (∃ (s : State), (s.mbi.down.phase ≠ .idle ∨ ∀ m ∈ s.mbi.queue, (s.entry m.dest).link ≠
    .linked ∧ m.body ≠ .capsQuery)) ∧ (∃ (s : State) (xs : List DownMsg) (ys : List DownMsg) (m : DownMsg),
    s.mbi.down.phase = .idle ∧ s.mbi.queue = xs ++ m :: ys ∧ (∀ x ∈ xs, (s.entry x.dest).link ≠ .linked ∧ x.body ≠
    .capsQuery) ∧ ((s.entry m.dest).link = .linked ∨ m.body = .capsQuery)) ∧ (∃ (s : State) (a : Addr) (b :
    DownBody), s.mbi.queue.length < 8 ∧ s.mbi.down.phase = .idle ∧ (∀ m ∈ s.mbi.queue, (s.entry m.dest).link ≠
    .linked ∧ m.body ≠ .capsQuery) ∧ ((s.entry a).link = .linked ∨ b = .capsQuery)) :=
  ⟨⟨plk fun p => { p with notices := List.replicate 16 (.standby .running .request) }, by decide⟩,
    ⟨plk fun p => { p with notices := List.replicate 15 (.standby .running .request) }, by decide⟩,
    ⟨rs.onMbi fun m => { m with queue := List.replicate 8 (msg .msu false) }, by decide⟩,
    ⟨rs.onMbi fun m =>
      { m with queue := List.replicate 7 (msg .msu false), down := { m.down with phase := .prepare } }, by decide⟩,
    ⟨(rs).onMbi fun m =>
      { m with queue := List.replicate 7 ({ dest := 7, body := .move 5, source := .dvc, sending := false }) }, by
      decide⟩,
    ⟨(rs).onMbi fun m => { m with queue := [{ dest := 7, body := .move 5, source := .dvc, sending := false }] },
      by decide⟩,
    ⟨(rs).onMbi fun m =>
      { m with queue := [{ dest := 7, body := .move 5, source := .dvc, sending := false }, msg .msu false] },
      [{ dest := 7, body := .move 5, source := .dvc, sending := false }], [], msg .msu false, by decide⟩,
    ⟨(rs).onMbi fun m =>
      { m with queue := List.replicate 7 ({ dest := 7, body := .move 5, source := .dvc, sending := false }) }, 0,
      .capsQuery, by decide⟩⟩

/-- ReportingRequestsChangeNothing: states and operands that meet its hypotheses, clause by clause. -/
theorem test_witness_ReportingRequestsChangeNothing :
    (∃ (s : State), s.takes = true) ∧ (∃ (s : State), s.takes = true) ∧ (∃ (n : Octet) (s : State), s.takes = true ∧
    (n.toNat = 0 ∨ 40 < n.toNat)) ∧ (∃ (s : State), s.serves = true) ∧ (∃ (n : Octet) (s : State), s.serves = true ∧
    7 < n.toNat) ∧ (∃ (sect : Octet) (os : List Octet) (s : State), s.takes = true ∧ s.statusSection sect.toNat =
    some os) ∧ (∃ (n : Nat), n ≤ 10) ∧ (∃ (sect : Octet) (s : State), s.takes = true ∧ 10 < sect.toNat) ∧ (∃ (s :
    State), s.takes = true) ∧ (∃ (first : Octet) (s : State), s.takes = true ∧ first.toNat ≤ 39) ∧ (∃ (first :
    Octet) (s : State), s.takes = true ∧ 39 < first.toNat) ∧ (∃ (s : State), s.serves = true) ∧ (∃ (a : Octet) (s :
    State), s.serves = true ∧ 7 < a.toNat) :=
  ⟨⟨rs, by decide⟩,
    ⟨rs, by decide⟩,
    ⟨41, rs, by decide⟩,
    ⟨rs, by decide⟩,
    ⟨8, rs, by decide⟩,
    ⟨5, rs.statusDsc, rs, by decide⟩,
    ⟨10, by decide⟩,
    ⟨11, rs, by decide⟩,
    ⟨rs, by decide⟩,
    ⟨39, rs, by decide⟩,
    ⟨40, rs, by decide⟩,
    ⟨rs, by decide⟩,
    ⟨8, rs, by decide⟩⟩

/-- SetClampsIntoTheRange: states and operands that meet its hypotheses, clause by clause. -/
theorem test_witness_SetClampsIntoTheRange :
    (∃ (n : Octet) (s : State), s.serves = true ∧ (n.toNat = 0 ∨ 40 < n.toNat)) :=
  ⟨41, rs, by decide⟩

/-- SetAndRecipeSetRefuseOrTake: states and operands that meet its hypotheses, clause by clause. -/
theorem test_witness_SetAndRecipeSetRefuseOrTake :
    (∃ (i : Fin 40) (v : BitVec 32) (s : State), s.serves = true ∧ 7 ≤ i.val ∧ i.val ≤ 10 ∧ clampSetting i
    v.toInt ≠ s.val i ∧ (s.putSetting i (clampSetting i v.toInt)).mains < (s.putSetting i (clampSetting i
    v.toInt)).classSum) ∧ (∃ (v : BitVec 32) (s : State), s.serves = true ∧ (v.toInt < 0 ∨ 4 < v.toInt)) ∧ (∃ (v
    : BitVec 32) (s : State), s.serves = true ∧ 0 ≤ v.toInt ∧ v.toInt ≤ 4 ∧ s.csq.phase ≠ .idle) ∧ (∃ (s :
    State), s.serves = true ∧ (s.whu.owner.isSome ∨ s.whu.runOn.isSome)) ∧ (∃ (v : BitVec 32) (s : State),
    s.serves = true ∧ s.whu.owner = none ∧ s.whu.runOn = none ∧ s.csq.phase ≠ .rinse ∧ 100 ≤ v.toInt ∧ v.toInt ≤
    2000 ∧ v.toInt ≠ s.settings.get 16) ∧ (∃ (v : BitVec 32) (s : State), s.serves = true ∧ 200 ≤ v.toInt ∧
    v.toInt ≤ 20000 ∧ v.toInt ≠ s.settings.get 17) ∧ (∃ (r : Recipe) (s : State), s.serves = true ∧ 20 ≤ r.washS
    ∧ r.washS ≤ 600 ∧ 500 ≤ r.tankC ∧ r.tankC ≤ 700 ∧ 750 ≤ r.rinseC ∧ r.rinseC ≤ 900 ∧ 1000 ≤ r.rinseMl ∧
    r.rinseMl ≤ 5000 ∧ r.purgeMl ≤ 5000 ∧ r.dwellS ≤ 30 ∧ r.ventPct ≤ 100 ∧ r.ventS ≤ 900 ∧ 50 ≤ r.soilPct ∧
    r.soilPct ≤ 200) ∧ (∃ (n : Octet) (s : State), s.serves = true ∧ 7 < n.toNat) ∧ (∃ (r : Recipe) (s : State),
    s.serves = true ∧ (r.washS < 20 ∨ 600 < r.washS ∨ r.tankC < 500 ∨ 700 < r.tankC ∨ r.rinseC < 750 ∨ 900 <
    r.rinseC ∨ r.rinseMl < 1000 ∨ 5000 < r.rinseMl ∨ 5000 < r.purgeMl ∨ 30 < r.dwellS ∨ 100 < r.ventPct ∨ 900 <
    r.ventS ∨ r.soilPct < 50 ∨ 200 < r.soilPct)) ∧ (∃ (v : BitVec 32) (s : State), s.serves = true ∧ 2000 ≤
    v.toInt ∧ v.toInt ≤ 11000 ∧ v.toInt ≠ s.settings.get 7 ∧ s.classSum ≤ v.toInt.toNat ∧ (s.lba.inForce ≤
    v.toInt.toNat ∨ s.sumGranted + s.sumSettling ≤ v.toInt.toNat)) ∧ (∃ (v : BitVec 32) (s : State), s.serves =
    true ∧ 2000 ≤ v.toInt ∧ v.toInt ≤ 11000 ∧ v.toInt ≠ s.settings.get 7 ∧ s.classSum ≤ v.toInt.toNat ∧
    v.toInt.toNat < s.lba.inForce ∧ v.toInt.toNat < s.sumGranted ∧ s.granted .tankHeater = true ∧ s.granted
    .boosterA = false ∧ s.granted .boosterB = false) ∧ (∃ (s : State) (l : Load), l.heater = false ∧ s.classSum
    ≤ s.mains) ∧ (∃ (i : Fin 40) (v : BitVec 32) (s : State), s.serves = true ∧ 8 ≤ i.val ∧ i.val ≤ 13 ∧
    clampSetting i v.toInt ≠ s.settings.get i ∧ ((i.val ≤ 10 → (s.putSetting i (clampSetting i
    v.toInt)).classSum ≤ (s.putSetting i (clampSetting i v.toInt)).mains))) ∧ (∃ (b : State) (s : State), (∀ l :
    Load, (s.claimOf l).state = .idle ∧ s.toldUnfit l = false) ∧ s.lba.breaker = Vector.replicate 11 false ∧
    s.classSum ≤ s.mains ∧ (s.watts .boosterB ≠ 0 ∨ b.watts .boosterB = 0) ∧ s.whu.tankHeat = b.whu.tankHeat ∧
    s.whu.boosterA = b.whu.boosterA ∧ s.whu.boosterB = b.whu.boosterB ∧ b.whu.tankHeat.unfit = false ∧
    b.whu.boosterA.unfit = false ∧ b.whu.boosterB.unfit = false) ∧ (∃ (b : State) (s : State) (l : Load),
    b.watts l ≠ s.watts l ∧ (l ≠ .boosterB ∨ s.watts l ≠ 0) ∧ s.granted l = false) ∧ (∃ (b : State) (s : State)
    (l : Load), b.watts l ≠ s.watts l ∧ (l ≠ .boosterB ∨ s.watts l ≠ 0) ∧ s.granted l = true ∧ s.watts l ≤
    (s.claimOf l).counted) ∧ (∃ (b : State) (s : State) (l : Load), b.watts l ≠ s.watts l ∧ (l ≠ .boosterB ∨
    s.watts l ≠ 0) ∧ s.granted l = true ∧ (s.claimOf l).counted < s.watts l ∧ s.loadUnfit l = false ∧ l.heater =
    true ∧ s.sumGranted + s.sumSettling + (s.watts l - (s.claimOf l).counted) ≤ s.lba.inForce ∧ s.sumGranted +
    (s.watts l - (s.claimOf l).counted) ≤ s.mains) ∧ (∃ (b : State) (s : State) (l : Load), b.watts l ≠ s.watts
    l ∧ (l ≠ .boosterB ∨ s.watts l ≠ 0) ∧ s.granted l = true ∧ (s.claimOf l).counted < s.watts l ∧ s.loadUnfit l
    = false ∧ l.heater = true ∧ (s.lba.inForce < s.sumGranted + s.sumSettling + (s.watts l - (s.claimOf
    l).counted) ∨ s.mains < s.sumGranted + (s.watts l - (s.claimOf l).counted))) ∧ (∃ (b : State) (s : State) (l
    : Load), b.watts l ≠ s.watts l ∧ (l ≠ .boosterB ∨ s.watts l ≠ 0) ∧ s.granted l = true ∧ (s.claimOf
    l).counted < s.watts l ∧ s.loadUnfit l = false ∧ l.heater = false) ∧ (∃ (b : State) (s : State), b.watts
    .boosterB ≠ 0 ∧ s.watts .boosterB = 0) ∧ (∃ (a : Addr) (v : BitVec 32) (s : State), s.serves = true ∧ 0 ≤
    v.toInt ∧ v.toInt ≤ 4 ∧ s.csq.phase = .idle ∧ v.toInt ≠ s.settings.get (kindIx a)) ∧ (∃ (c : Channel) (i :
    Fin 40) (v : BitVec 32) (s : State), s.serves = true ∧ (c = .det ∧ i = 27 ∨ c = .ra ∧ i = 28) ∧ 500 ≤
    v.toInt ∧ v.toInt ≤ 25000 ∧ v.toInt ≠ s.settings.get i) ∧ (∃ (v : BitVec 32) (s : State), s.serves = true ∧
    5 ≤ v.toInt ∧ v.toInt ≤ 50 ∧ v.toInt ≠ s.settings.get 29) ∧ (∃ (v : BitVec 32) (s : State), s.serves = true
    ∧ 30 ≤ v.toInt ∧ v.toInt ≤ 1800 ∧ v.toInt ≠ s.settings.get 14) ∧ (∃ (v : BitVec 32) (s : State), s.serves =
    true ∧ s.whu.owner = none ∧ s.whu.runOn = none ∧ s.csq.phase = .rinse ∧ 100 ≤ v.toInt ∧ v.toInt ≤ 2000 ∧
    v.toInt ≠ s.settings.get 16) :=
  ⟨⟨7, 2000, rs.putSetting 9 2500, by decide⟩,
    ⟨5, rs, by decide⟩,
    ⟨4, cyc .armed, by decide⟩,
    ⟨whu fun x => { x with owner := some .rinse }, by decide⟩,
    ⟨2000, rs, by decide⟩,
    ⟨200, rs, by decide⟩,
    ⟨{ defaultRecipe with washS := 20, rinseC := 900 }, rs, by decide⟩,
    ⟨8, rs, by decide⟩,
    ⟨{ defaultRecipe with washS := 19 }, rs, by decide⟩,
    ⟨11000, rs, by decide⟩,
    ⟨2000, (rs).onClaim .tankHeater fun c => { c with state := .granted, counted := 2500 }, by decide⟩,
    ⟨rs, .rinsePump, by decide⟩,
    ⟨8, 600, rs, by decide, by decide, by decide, by decide, (fun _ => by decide)⟩,
    ⟨rs, rs, (fun l => by cases l <;> decide), by decide, by decide, by decide, by decide, by decide, by decide,
      by decide, by decide, by decide⟩,
    ⟨rs.putSetting 13 2000, rs, .tankHeater, by decide⟩,
    ⟨rs.putSetting 13 2000, (rs).onClaim .tankHeater fun c => { c with state := .granted, counted := 2900 },
      .tankHeater, by decide⟩,
    ⟨rs.putSetting 13 2000, (rs).onClaim .tankHeater fun c => { c with state := .granted, counted := 2000 },
      .tankHeater, by decide⟩,
    ⟨rs.putSetting 13 2000, (((rs).onClaim .tankHeater fun c =>
      { c with state := .granted, counted := 2000 }).onLba fun x =>
      { x with settling := [{ load := .rinsePump, watts := 3000, left := 40 }] }), .tankHeater, by decide⟩,
    ⟨rs.putSetting 10 200, (rs).onClaim .rinsePump fun c => { c with state := .granted, counted := 200 },
      .rinsePump, by decide⟩,
    ⟨rs, rs.putSetting 12 0, by decide⟩,
    ⟨7, 4, rs, by decide⟩,
    ⟨.ra, 28, 25000, rs, by decide⟩,
    ⟨50, rs, by decide⟩,
    ⟨1800, rs, by decide⟩,
    ⟨2000, cyc .rinse, by decide⟩⟩

/-- RunQueuesACycle: states and operands that meet its hypotheses, clause by clause. -/
theorem test_witness_RunQueuesACycle :
    (∃ (s : State), s.serves = true ∧ s.hasClass .stop = true) ∧ (∃ (n : Octet) (s : State), s.serves = true ∧
    s.hasClass .stop = false ∧ 7 < n.toNat) ∧ (∃ (n : Octet) (s : State), s.serves = true ∧ s.hasClass .stop = false
    ∧ n.toNat ≤ 7 ∧ s.csq.active.isSome = true ∧ s.csq.waiting.isSome = true) ∧ (∃ (n : Octet) (s : State), s.serves
    = true ∧ s.hasClass .stop = false ∧ n.toNat ≤ 7 ∧ s.csq.active.isSome = true ∧ s.csq.waiting = none ∧
    s.sto.power = .running) ∧ (∃ (s : State), s.serves = true ∧ s.hasClass .stop = false ∧ s.csq.active = none ∧
    s.whu.tank ≠ .empty ∧ s.sto.power = .running) ∧ (∃ (s : State), s.serves = true ∧ s.hasClass .stop = false ∧
    s.csq.active = none ∧ s.whu.tank ≠ .empty ∧ s.sto.power = .standbyPending) ∧ (∃ (s : State), s.serves = true ∧
    s.hasClass .stop = false ∧ s.csq.active = none ∧ s.whu.tank = .empty) ∧ (∃ (s : State), s.whu.accepted ≠ some
    .full) ∧ (∃ (s : State), s.whu.accepted = some .full) ∧ (∃ (s : State), s.sto.power = .standbyPending) ∧ (∃ (s :
    State), s.sto.power = .running) :=
  ⟨⟨stopped, by decide⟩,
    ⟨8, rs, by decide⟩,
    ⟨7, (cyc .armed).onCsq fun c => { c with waiting := some { recipe := 0, queuedAt := 0 } }, by decide⟩,
    ⟨7, cyc .armed, by decide⟩,
    ⟨whu fun x => { x with tank := .ready }, by decide⟩,
    ⟨(whu fun x => { x with tank := .ready }).onSto fun x => { x with power := .standbyPending }, by decide⟩,
    ⟨rs, by decide⟩,
    ⟨rs, by decide⟩,
    ⟨whu fun x => { x with accepted := some .full }, by decide⟩,
    ⟨sto fun x => { x with power := .standbyPending }, by decide⟩,
    ⟨rs, by decide⟩⟩

/-- CancelEndsWhatItNames: states and operands that meet its hypotheses, clause by clause. -/
theorem test_witness_CancelEndsWhatItNames :
    (∃ (s : State), s.takes = true ∧ s.locked = true) ∧ (∃ (s : State), s.serves = true) ∧ (∃ (s : State), s.serves
    = true ∧ s.csq.active = none) ∧ (∃ (s : State), s.serves = true ∧ s.csq.active.isSome = true ∧ (s.csq.phase =
    .armed ∨ s.csq.phase = .wash ∨ s.csq.phase = .held ∨ s.csq.phase = .purge ∨ s.csq.phase = .rinseWait)) ∧ (∃ (s :
    State), s.serves = true ∧ s.csq.active.isSome = true ∧ (s.csq.phase = .rinse ∨ s.csq.phase = .dwell ∨
    s.csq.phase = .vent)) ∧ (∃ (s : State) (p : PendingEntry), s.csq.active.isSome = true ∧ s.csq.waiting = some p)
    ∧ (∃ (s : State), s.csq.active.isSome = true) ∧ (∃ (s : State), s.csq.active.isSome = true) ∧ (∃ (s : State),
    s.csq.active.isSome = true ∧ (s.whu.drainUser = some .purge ∨ s.whu.drainUser = some .level)) :=
  ⟨⟨lockedPart, by decide⟩,
    ⟨rs, by decide⟩,
    ⟨rs, by decide⟩,
    ⟨cyc .rinseWait, by decide⟩,
    ⟨cyc .rinse, by decide⟩,
    ⟨(cyc .armed).onCsq fun c => { c with waiting := some { recipe := 0, queuedAt := 0 } },
      { recipe := 0, queuedAt := 0 }, by decide⟩,
    ⟨cyc .armed, by decide⟩,
    ⟨cyc .rinse, by decide⟩,
    ⟨(cyc .purge).onWhu fun x => { x with drainUser := some .purge }, by decide⟩⟩

/-- CycleEndEmptiesTheQueue: states and operands that meet its hypotheses, clause by clause. -/
theorem test_witness_CycleEndEmptiesTheQueue :
    (∃ (s : State), s.csq.active.isSome = true ∧ s.csq.waiting = none) ∧ (∃ (s : State) (i : Fin 8) (at' : BitVec
    32), s.csq.active.isSome = true ∧ s.csq.waiting = some { recipe := i.val, queuedAt := at' }) ∧ (∃ (s : State) (e
    : ActiveEntry), s.csq.active = some e) ∧ (∃ (s : State) (e : ActiveEntry), s.csq.active = some e) ∧ (∃ (s :
    State) (e : ActiveEntry), s.csq.active = some e ∧ e.number ≠ 0) ∧ (∃ (s : State) (e : ActiveEntry), s.csq.active
    = some e ∧ e.number = 0) ∧ (∃ (s : State), s.csq.waiting = none) ∧ (∃ (s : State) (i : Fin 8) (at' : BitVec 32),
    s.csq.waiting = some { recipe := i.val, queuedAt := at' } ∧ s.whu.tank ≠ .empty) ∧ (∃ (s : State) (i : Fin 8)
    (at' : BitVec 32), s.csq.waiting = some { recipe := i.val, queuedAt := at' } ∧ s.whu.tank = .empty) ∧ (∃ (s :
    State), s.dvc.vent.step = .none) :=
  ⟨⟨cyc .vent, by decide⟩,
    ⟨(cyc .vent).onCsq fun c => { c with waiting := some { recipe := 7, queuedAt := 3 } }, 7, 3, by decide⟩,
    ⟨cyc .rinse, ent, by decide⟩,
    ⟨cyc .dwell, ent, by decide⟩,
    ⟨(cyc .dwell).onCsq fun c => { c with active := some { ent with number := 1 } }, { ent with number := 1 }, by
      decide⟩,
    ⟨cyc .armed, ent, by decide⟩,
    ⟨rs, by decide⟩,
    ⟨((cyc .vent).onCsq fun c => { c with waiting := some { recipe := 7, queuedAt := 3 } }).onWhu fun x =>
      { x with tank := .ready }, 7, 3, by decide⟩,
    ⟨(cyc .vent).onCsq fun c => { c with waiting := some { recipe := 7, queuedAt := 3 } }, 7, 3, by decide⟩,
    ⟨rs, by decide⟩⟩

/-- PrepareIsAnsweredByItsRows: states and operands that meet its hypotheses, clause by clause. -/
theorem test_witness_PrepareIsAnsweredByItsRows :
    (∃ (s : State), s.serves = true ∧ (s.hasClass .stop = true ∨ s.whu.tank = .draining)) ∧ (∃ (s : State), s.serves
    = true ∧ s.hasClass .stop = false ∧ s.sto.power = .running ∧ (s.whu.tank = .filling ∨ s.whu.tank = .heating ∨
    s.whu.tank = .ready)) ∧ (∃ (s : State), s.serves = true ∧ s.hasClass .stop = false ∧ s.sto.power = .running ∧
    s.whu.tank = .empty ∧ s.whu.owner ≠ some .tankFill ∧ s.whu.accepted ≠ some .full) ∧ (∃ (s : State), s.serves =
    true ∧ s.hasClass .stop = false ∧ s.whu.tank = .empty) ∧ (∃ (s : State), s.serves = true ∧ s.hasClass .stop =
    false ∧ s.sto.power = .standbyPending ∧ (s.whu.tank = .filling ∨ s.whu.tank = .heating ∨ s.whu.tank = .ready)) :=
  ⟨⟨stopped, by decide⟩,
    ⟨whu fun x => { x with tank := .heating }, by decide⟩,
    ⟨rs, by decide⟩,
    ⟨rs, by decide⟩,
    ⟨(whu fun x => { x with tank := .ready }).onSto fun x => { x with power := .standbyPending }, by decide⟩⟩

/-- DrainMovesTheTankToDraining: states and operands that meet its hypotheses, clause by clause. -/
theorem test_witness_DrainMovesTheTankToDraining :
    (∃ (s : State), s.serves = true ∧ s.csq.phase ≠ .idle) ∧ (∃ (s : State), s.serves = true ∧ s.csq.phase = .idle ∧
    s.whu.tank = .draining) ∧ (∃ (s : State), s.serves = true ∧ s.csq.phase = .idle ∧ s.whu.tank ≠ .draining) ∧ (∃
    (s : State), s.sto.power = .standbyPending) ∧ (∃ (s : State), s.sto.power = .running) ∧ (∃ (s : State),
    s.whu.fill = none) ∧ (∃ (s : State) (f : FillRec), s.whu.fill = some f ∧ s.whu.tankWaiting = true) ∧ (∃ (s :
    State) (f : FillRec), s.whu.fill = some f ∧ s.whu.tankWaiting = false ∧ s.whu.owner = some .tankFill ∧
    s.whu.phase = .opened) ∧ (∃ (s : State) (f : FillRec), s.whu.fill = some f ∧ s.whu.tankWaiting = false ∧
    s.whu.owner = some .tankFill ∧ s.whu.phase = .opening) ∧ (∃ (s : State) (f : FillRec), s.whu.fill = some f ∧
    s.whu.tankWaiting = false ∧ s.whu.owner ≠ some .tankFill) :=
  ⟨⟨cyc .armed, by decide⟩,
    ⟨whu fun x => { x with tank := .draining }, by decide⟩,
    ⟨whu fun x => { x with tank := .ready, accepted := some .dry }, by decide⟩,
    ⟨sto fun x => { x with power := .standbyPending }, by decide⟩,
    ⟨rs, by decide⟩,
    ⟨rs, by decide⟩,
    ⟨whu fun x => { x with fill := some { kind := .topUp, timeMs := 5 }, tankWaiting := true },
      { kind := .topUp, timeMs := 5 }, by decide⟩,
    ⟨whu fun x =>
      { x with fill := some { kind := .topUp, timeMs := 5 }, owner := some .tankFill, phase := .opened },
      { kind := .topUp, timeMs := 5 }, by decide⟩,
    ⟨whu fun x =>
      { x with fill := some { kind := .topUp, timeMs := 5 }, owner := some .tankFill, phase := .opening },
      { kind := .topUp, timeMs := 5 }, by decide⟩,
    ⟨whu fun x => { x with fill := some { kind := .topUp, timeMs := 5 } }, { kind := .topUp, timeMs := 5 }, by
      decide⟩⟩

/-- DoseRequestsMakeOrders: states and operands that meet its hypotheses, clause by clause. -/
theorem test_witness_DoseRequestsMakeOrders :
    (∃ (code : Octet) (v : BitVec 16) (s : State), s.serves = true ∧ (1 < code.toNat ∨ v.toNat < 100 ∨ 60000 <
    v.toNat)) ∧ (∃ (code : Octet) (v : BitVec 16) (s : State), s.serves = true ∧ (1 < code.toNat ∨ v.toNat < 1 ∨ 60
    < v.toNat)) ∧ (∃ (c : Channel) (v : BitVec 16) (w : BitVec 16) (s : State), s.serves = true ∧ 100 ≤ v.toNat ∧
    v.toNat ≤ 60000 ∧ 1 ≤ w.toNat ∧ w.toNat ≤ 60 ∧ (s.csq.phase = .rinse ∨ s.linked (channelKind c) = false)) ∧ (∃
    (c : Channel) (v : BitVec 16) (s : State), s.serves = true ∧ 100 ≤ v.toNat ∧ v.toNat ≤ 60000 ∧ s.csq.phase ≠
    .rinse ∧ s.linked (channelKind c) = true ∧ (s.channel c).empty = true) ∧ (∃ (c : Channel) (v : BitVec 16) (w :
    BitVec 16) (s : State), s.serves = true ∧ 100 ≤ v.toNat ∧ v.toNat ≤ 60000 ∧ 1 ≤ w.toNat ∧ w.toNat ≤ 60 ∧
    s.csq.phase ≠ .rinse ∧ s.linked (channelKind c) = true ∧ (s.channel c).empty = false ∧ 4 ≤ (s.channel
    c).orders.length) ∧ (∃ (c : Channel) (v : BitVec 16) (s : State), s.serves = true ∧ 100 ≤ v.toNat ∧ v.toNat ≤
    60000 ∧ s.csq.phase ≠ .rinse ∧ s.linked (channelKind c) = true ∧ (s.channel c).empty = false ∧ (s.channel
    c).orders.length < 4 ∧ 0 < (v.toNat + (s.channel c).carry) / s.ulPerStep c) ∧ (∃ (c : Channel) (v : BitVec 16)
    (s : State), s.serves = true ∧ 100 ≤ v.toNat ∧ v.toNat ≤ 60000 ∧ s.csq.phase ≠ .rinse ∧ s.linked (channelKind c)
    = true ∧ (s.channel c).empty = false ∧ (s.channel c).orders.length < 4 ∧ (v.toNat + (s.channel c).carry) /
    s.ulPerStep c = 0) ∧ (∃ (c : Channel) (v : BitVec 16) (s : State), s.serves = true ∧ 1 ≤ v.toNat ∧ v.toNat ≤ 60
    ∧ s.csq.phase ≠ .rinse ∧ s.linked (channelKind c) = true ∧ (s.channel c).orders.length < 4) ∧ (∃ (s : State) (c
    : Channel) (n : Nat), 0 < n ∧ ((s.channel c).empty = true ∨ s.locked = true)) ∧ (∃ (s : State) (c : Channel) (n
    : Nat), 0 < n ∧ (s.channel c).empty = false ∧ s.locked = false ∧ (s.channel c).orders.length < 4) ∧ (∃ (s :
    State) (c : Channel) (origin : Origin) (n : Nat) (m : Nat) (os : List Order) (o : Order), 0 < n ∧ (s.channel
    c).empty = false ∧ s.locked = false ∧ (s.channel c).orders = os ++ [o] ∧ 4 ≤ (s.channel c).orders.length ∧
    o.amount = .steps m ∧ (origin = .rinseEnd ∨ origin = .fill ∨ origin = .topUp) ∧ o.state = .queued ∧ o.ulPerStep
    = s.ulPerStep c) ∧ (∃ (s : State) (c : Channel) (origin : Origin) (n : Nat) (m : Nat) (os : List Order) (o :
    Order), 0 < n ∧ (s.channel c).empty = false ∧ s.locked = false ∧ (s.channel c).orders = os ++ [o] ∧ 4 ≤
    (s.channel c).orders.length ∧ o.amount = .steps m ∧ (origin = .manual ∨ origin = .raStream ∨ origin = .prime ∨
    o.state = .sent ∨ o.ulPerStep ≠ s.ulPerStep c)) ∧ (∃ (s : State) (c : Channel) (n : Nat) (m : Nat) (os : List
    Order) (o : Order), 0 < n ∧ (s.channel c).empty = false ∧ s.locked = false ∧ (s.channel c).orders = os ++ [o] ∧
    4 ≤ (s.channel c).orders.length ∧ o.amount = .seconds m) ∧ (∃ (s : State) (e : ActiveEntry) (r : CycleRecord),
    s.csq.active = some e ∧ s.csq.record = some r) ∧ (∃ (s : State) (n : Nat) (e : ActiveEntry) (r : CycleRecord),
    s.csq.active = some e ∧ s.csq.record = some r ∧ 0 < n) ∧ (∃ (s : State) (e : ActiveEntry), s.csq.active = some e
    ∧ s.csq.record = none) ∧ (∃ (s : State) (n : Nat) (e : ActiveEntry), s.csq.active = some e ∧ s.csq.record = none
    ∧ 0 < n) ∧ (∃ (s : State), s.csq.active = none) :=
  ⟨⟨2, 100, rs, by decide⟩,
    ⟨1, 61, rs, by decide⟩,
    ⟨.det, 60000, 60, rs, by decide⟩,
    ⟨.det, 100, lk.onDsc fun d => { d with det := { d.det with empty := true } }, by decide⟩,
    ⟨.det, 100, 1, det (List.replicate 4 (ord .queued false)), by decide⟩,
    ⟨.det, 100, det (List.replicate 3 (ord .queued false)), by decide⟩,
    ⟨.det, 100, (det []).onEntry 2 fun e => { e with caps := { fields := .doser 1000 15 20, revision := 0 } }, by
      decide⟩,
    ⟨.det, 60, det [], by decide⟩,
    ⟨lockedPart, .ra, 65535, by decide⟩,
    ⟨det (List.replicate 3 (ord .queued false)), .det, 1, by decide⟩,
    ⟨det (List.replicate 3 (ord .queued false) ++
      [{ tag := 9, origin := .fill, amount := .steps 65535, ulPerStep := 100, state := .queued, started := false }]),
      .det, .topUp, 65535, 65535, List.replicate 3 (ord .queued false),
      { tag := 9, origin := .fill, amount := .steps 65535, ulPerStep := 100, state := .queued, started := false },
      by decide⟩,
    ⟨det (List.replicate 3 (ord .queued false) ++
      [{ tag := 9, origin := .fill, amount := .steps 3, ulPerStep := 99, state := .queued, started := false }]),
      .det, .rinseEnd, 1, 3, List.replicate 3 (ord .queued false),
      { tag := 9, origin := .fill, amount := .steps 3, ulPerStep := 99, state := .queued, started := false }, by
      decide⟩,
    ⟨det (List.replicate 3 (ord .queued false) ++
      [{ tag := 9, origin := .fill, amount := .seconds 60, ulPerStep := 100, state := .queued, started := false }]),
      .det, 1, 60, List.replicate 3 (ord .queued false),
      { tag := 9, origin := .fill, amount := .seconds 60, ulPerStep := 100, state := .queued, started := false }, by
      decide⟩,
    ⟨(cyc .wash).onCsq fun c => { c with record := some (State.openRecord 1 ent) }, ent, State.openRecord 1 ent,
      by decide⟩,
    ⟨(cyc .wash).onCsq fun c => { c with record := some (State.openRecord 1 ent) }, 1, ent, State.openRecord 1
      ent, by decide⟩,
    ⟨cyc .armed, ent, by decide⟩,
    ⟨cyc .armed, 1, ent, by decide⟩,
    ⟨rs, by decide⟩⟩

/-- StockSetsTheContainer: states and operands that meet its hypotheses, clause by clause. -/
theorem test_witness_StockSetsTheContainer :
    (∃ (code : Octet) (s : State), s.serves = true ∧ 1 < code.toNat) ∧ (∃ (s : State), s.serves = true) :=
  ⟨⟨2, rs, by decide⟩,
    ⟨rs, by decide⟩⟩

/-- RegenStartsOrChangesOver: states and operands that meet its hypotheses, clause by clause. -/
theorem test_witness_RegenStartsOrChangesOver :
    (∃ (code : Octet) (s : State), s.serves = true ∧ 1 < code.toNat) ∧ (∃ (c : Column) (s : State), s.serves = true
    ∧ (s.linked .softener = false ∨ (s.column c).state.regen = true)) ∧ (∃ (c : Column) (s : State), s.serves = true
    ∧ s.linked .softener = true ∧ ((s.column c).state = .ready ∨ (s.column c).state = .exhausted)) ∧ (∃ (c : Column)
    (s : State), s.serves = true ∧ s.linked .softener = true ∧ (s.column c).state = .service ∧ (s.sfc.changeover =
    .pending ∨ s.sfc.changeover = .claimed ∨ s.sfc.changeover = .moving)) ∧ (∃ (c : Column) (s : State), s.serves =
    true ∧ s.linked .softener = true ∧ (s.column c).state = .service ∧ s.sfc.changeover = .none ∧ (s.column
    c.other).state = .ready ∧ s.hasFault .valveStuck 0 = false ∧ s.whu.owner.isSome = true) ∧ (∃ (c : Column) (s :
    State), s.serves = true ∧ s.linked .softener = true ∧ (s.column c).state = .service ∧ s.sfc.changeover = .none ∧
    (s.column c.other).state = .ready ∧ s.hasFault .valveStuck 0 = false ∧ s.whu.owner = none ∧ (s.claimOf
    .valveMotor).state = .idle ∧ s.loadUnfit .valveMotor = false) ∧ (∃ (c : Column) (s : State), s.serves = true ∧
    s.linked .softener = true ∧ (s.column c).state = .service ∧ s.sfc.changeover = .none ∧ (s.column c.other).state =
    .ready ∧ s.hasFault .valveStuck 0 = false ∧ s.whu.owner = none ∧ (s.claimOf .valveMotor).state = .idle ∧
    s.loadUnfit .valveMotor = true) ∧ (∃ (c : Column) (s : State), s.serves = true ∧ s.linked .softener = true ∧ (s.column c).state = .service ∧ (s.sfc.changeover = .due ∨
    s.sfc.changeover = .returning ∨ s.sfc.changeover = .aligning ∨ s.sfc.changeover = .none ∧ (s.column
    c.other).state ≠ .ready ∨ s.sfc.changeover = .none ∧ s.hasFault .valveStuck 0 = true)) :=
  ⟨⟨2, rs, by decide⟩,
    ⟨.a, rs, by decide⟩,
    ⟨.b, lk, by decide⟩,
    ⟨.a, (lk).onSfc fun x => { x with changeover := .moving }, by decide⟩,
    ⟨.a, lk.onWhu fun x => { x with owner := some .tankFill }, by decide⟩,
    ⟨.a, lk, by decide⟩,
    ⟨.a, lk.onLba fun b => { b with inForce := 10 }, by decide⟩,
    ⟨.a, (lk).onSfc fun x => { x with changeover := .due }, by decide⟩⟩

/-- DoorRequestsPushAndRetract: states and operands that meet its hypotheses, clause by clause. -/
theorem test_witness_DoorRequestsPushAndRetract :
    (∃ (p : Octet) (s : State), s.serves = true ∧ (p.toNat < 1 ∨ 100 < p.toNat)) ∧ (∃ (p : Octet) (s : State),
    s.serves = true ∧ 1 ≤ p.toNat ∧ p.toNat ≤ 100 ∧ (s.linked .door = false ∨ s.hasFault .doorObstructed 0 = true ∨
    s.dvc.latch = true ∨ s.csq.phase ≠ .idle ∨ s.dvc.task ≠ .none)) ∧ (∃ (p : Octet) (s : State), s.serves = true ∧
    1 ≤ p.toNat ∧ p.toNat ≤ 100 ∧ s.linked .door = true ∧ s.hasFault .doorObstructed 0 = false ∧ s.dvc.latch = false
    ∧ s.csq.phase = .idle ∧ s.dvc.task = .none) ∧ (∃ (s : State), s.locked = false ∧ (s.claimOf .doorDrive).state =
    .idle ∧ s.loadUnfit .doorDrive = false ∧ s.retracting = false) ∧ (∃ (s : State), s.serves = true ∧ (s.linked
    .door = false ∨ s.hasFault .doorObstructed 0 = true ∨ s.dvc.latch = true ∨ s.pushing = true)) ∧ (∃ (s : State),
    s.serves = true ∧ s.linked .door = true ∧ s.hasFault .doorObstructed 0 = false ∧ s.dvc.latch = false ∧ s.pushing
    = false ∧ (s.retracting = true ∨ s.pusherHome = true)) ∧ (∃ (s : State), s.serves = true ∧ s.linked .door = true
    ∧ s.hasFault .doorObstructed 0 = false ∧ s.dvc.latch = false ∧ s.dvc.task = .none ∧ s.pusherHome = false) :=
  ⟨⟨101, rs, by decide⟩,
    ⟨100, rs, by decide⟩,
    ⟨100, lk, by decide⟩,
    ⟨rs, by decide⟩,
    ⟨rs, by decide⟩,
    ⟨lk.onDvc fun d => { d with bits := some { latch := false, fan := false, home := true } }, by decide⟩,
    ⟨lk, by decide⟩⟩

/-- AckFaultRemovesEndedRecords: states and operands that meet its hypotheses, clause by clause. -/
theorem test_witness_AckFaultRemovesEndedRecords :
    (∃ (code : Octet) (s : State), s.takes = true ∧ FaultCode.ofCode code.toNat = none) ∧ (∃ (detail : Octet) (c :
    FaultCode) (s : State), s.takes = true ∧ s.faultRec c detail.toNat = none) ∧ (∃ (detail : Octet) (c : FaultCode)
    (r : FaultRec) (s : State), s.takes = true ∧ s.faultRec c detail.toNat = some r ∧ (r.ack = false ∨ r.present =
    true)) ∧ (∃ (detail : Octet) (c : FaultCode) (r : FaultRec) (s : State), s.takes = true ∧ s.faultRec c
    detail.toNat = some r ∧ r.ack = true ∧ r.present = false) ∧ (∃ (s : State), s.takes = true ∧ (∀ r ∈ s.flu.list,
    r.ack = false ∨ r.present = true)) ∧ (∃ (s : State), s.takes = true ∧ s.flu.list.Pairwise (fun x y : FaultRec =>
    x.code ≠ y.code ∨ x.detail ≠ y.detail) ∧ (∃ r ∈ s.flu.list, r.ack = true ∧ r.present = false)) :=
  ⟨⟨0xFE, rs, by decide⟩,
    ⟨255, .saltLow, rs, by decide⟩,
    ⟨0, .detEmpty, faultOf .detEmpty 0 .warning false true, withFaults rs [faultOf .detEmpty 0 .warning false
      true], by decide⟩,
    ⟨0, .inletNoFlow, faultOf .inletNoFlow 0 .stop true false, stopped, by decide⟩,
    ⟨withFaults rs [faultOf .doorObstructed 0 .lockout true true], by decide⟩,
    ⟨withFaults rs [faultOf .inletNoFlow 0 .stop true false, faultOf .detEmpty 0 .warning false true], by decide⟩⟩

/-- ModuleRequestsPinAndClear: states and operands that meet its hypotheses, clause by clause. -/
theorem test_witness_ModuleRequestsPinAndClear :
    (∃ (a : Octet) (fields : List Octet) (s : State), s.serves = true ∧ fields.length = s.pinLength a ∧ 7 < a.toNat)
    ∧ (∃ (a : Addr) (fields : List Octet) (s : State), s.serves = true ∧ fields.length = 4 ∧ s.kindAt a = .none) ∧
    (∃ (a : Addr) (fields : List Octet) (s : State), s.serves = true ∧ fields.length = (s.kindAt a).recordLength ∧
    s.kindAt a ≠ .none ∧ CapFields.read (s.kindAt a) fields = none) ∧ (∃ (a : Addr) (fields : List Octet) (f :
    CapFields) (s : State), s.serves = true ∧ fields.length = (s.kindAt a).recordLength ∧ s.kindAt a ≠ .none ∧
    CapFields.read (s.kindAt a) fields = some f) ∧ (∃ (a : Octet) (s : State), s.serves = true ∧ 7 < a.toNat) ∧ (∃
    (a : Addr) (s : State), s.serves = true ∧ (s.entry a).pinned = false) ∧ (∃ (a : Addr) (s : State), s.serves =
    true ∧ (s.entry a).pinned = true) ∧ (∃ (s : State), s.serves = true) ∧ (∃ (s : State), s.serves = true) ∧ (∃ (a
    : Octet) (s : State), s.serves = true ∧ 7 < a.toNat ∧ a ≠ 0xFF#8) ∧ (∃ (s : State), s.serves = true) :=
  ⟨⟨8, [0, 0, 0, 0], rs, by decide⟩,
    ⟨7, [0, 0, 0, 0], rs, by decide⟩,
    ⟨0, [40, 60, 40, 101], rs, by decide⟩,
    ⟨0, [40, 60, 40, 100], .door 40 60 40 100, rs, by decide⟩,
    ⟨8, rs, by decide⟩,
    ⟨0, rs, by decide⟩,
    ⟨0, seek .query true, by decide⟩,
    ⟨rs, by decide⟩,
    ⟨rs, by decide⟩,
    ⟨0xFE, rs, by decide⟩,
    ⟨rs, by decide⟩⟩

/-- SaveResetAndSleepAreAnswered: states and operands that meet its hypotheses, clause by clause. -/
theorem test_witness_SaveResetAndSleepAreAnswered :
    (∃ (s : State), s.serves = true ∧ s.sto.pfw = true) ∧ (∃ (s : State), s.serves = true ∧ s.sto.pfw = false) ∧ (∃
    (s : State), s.takes = true) ∧ (∃ (s : State), s.serves = true ∧ (s.csq.active.isSome = true ∨ s.whu.tank =
    .filling ∨ s.whu.tank = .draining)) ∧ (∃ (s : State), s.serves = true ∧ s.csq.active = none ∧ s.whu.tank ≠
    .filling ∧ s.whu.tank ≠ .draining ∧ s.softenerBusy = false) ∧ (∃ (s : State), s.serves = true ∧ s.csq.active =
    none ∧ s.whu.tank ≠ .filling ∧ s.whu.tank ≠ .draining ∧ s.softenerBusy = true ∧ s.sto.power = .running) ∧ (∃ (s
    : State), s.serves = true ∧ s.csq.active = none ∧ s.whu.tank ≠ .filling ∧ s.whu.tank ≠ .draining ∧
    s.softenerBusy = true ∧ s.sto.power = .standbyPending) :=
  ⟨⟨sto fun x => { x with pfw := true }, by decide⟩,
    ⟨rs, by decide⟩,
    ⟨lockedPart, by decide⟩,
    ⟨whu fun x => { x with tank := .filling }, by decide⟩,
    ⟨rs, by decide⟩,
    ⟨(lk).onSfc fun x => { x with changeover := .moving }, by decide⟩,
    ⟨((lk).onSfc fun x => { x with changeover := .moving }).onSto fun x => { x with power := .standbyPending }, by
      decide⟩⟩

/-- FlowPulseIsCreditedAndCharged: states and operands that meet its hypotheses, clause by clause. -/
theorem test_witness_FlowPulseIsCreditedAndCharged :
    (∃ (s : State), s.on = true ∧ s.whu.phase = .opened ∧ s.whu.owner = some .tankFill ∧ (s.sfc.acc + s.num
    SettingIx.inletHardness) / s.k < (s.column s.sfc.serviceCol).capacity) ∧ (∃ (s : State) (w : RunOn), s.on =
    true ∧ s.whu.phase ≠ .opened ∧ s.whu.runOn = some w ∧ w.user = .tankFill ∧ (s.sfc.acc + s.num
    SettingIx.inletHardness) / s.k < (s.column s.sfc.serviceCol).capacity) ∧ (∃ (s : State), s.on = true ∧
    s.whu.phase ≠ .opened ∧ s.whu.runOn = none ∧ (s.sfc.acc + s.num SettingIx.inletHardness) / s.k < (s.column
    s.sfc.serviceCol).capacity) ∧ (∃ (s : State), s.on = true ∧ s.whu.phase = .opened ∧ s.whu.owner = some
    .rinse ∧ s.csq.phase = .rinse ∧ (s.sfc.acc + s.num SettingIx.inletHardness) / s.k < (s.column
    s.sfc.serviceCol).capacity ∧ (rinseAidStep s.dsc.acc (s.num SettingIx.raRate) (s.k * s.ulPerStep .ra)).2 = 0
    ∧ s.dsc.owed < 8 ∧ s.dsc.flush = false) ∧ (∃ (s : State), s.on = true ∧ s.whu.phase = .opened ∧ s.whu.owner
    = some .rinse ∧ (s.sfc.acc + s.num SettingIx.inletHardness) / s.k < (s.column s.sfc.serviceCol).capacity) ∧
    (∃ (s : State) (w : RunOn), s.on = true ∧ s.whu.phase ≠ .opened ∧ s.whu.runOn = some w ∧ w.user = .rinse ∧
    (s.sfc.acc + s.num SettingIx.inletHardness) / s.k < (s.column s.sfc.serviceCol).capacity) ∧ (∃ (s : State),
    s.on = true ∧ (s.column s.sfc.serviceCol).capacity = 0 ∧ s.whu.phase = .opened ∧ s.whu.owner = some
    .tankFill) ∧ (∃ (s : State), s.on = true ∧ (s.column s.sfc.serviceCol).capacity = 0 ∧ s.whu.phase = .opened
    ∧ s.whu.owner = some .rinse) ∧ (∃ (s : State) (w : RunOn), s.on = true ∧ (s.column
    s.sfc.serviceCol).capacity = 0 ∧ s.whu.phase ≠ .opened ∧ s.whu.runOn = some w ∧ w.user = .tankFill) ∧ (∃ (s
    : State) (w : RunOn), s.on = true ∧ (s.column s.sfc.serviceCol).capacity = 0 ∧ s.whu.phase ≠ .opened ∧
    s.whu.runOn = some w ∧ w.user = .rinse) ∧ (∃ (s : State), s.on = true ∧ (s.column s.sfc.serviceCol).capacity
    = 0 ∧ s.whu.phase ≠ .opened ∧ s.whu.runOn = none) ∧ (∃ (s : State), s.dsc.ra.orders = [] ∧ (8 ≤ (min 65535
    (s.dsc.owed + (s.dsc.acc + s.num SettingIx.raRate) / (s.k * s.ulPerStep .ra))) ∨ s.dsc.flush = true)) ∧ (∃
    (s : State), (s.dsc.ra.orders ≠ [] ∨ ((min 65535 (s.dsc.owed + (s.dsc.acc + s.num SettingIx.raRate) / (s.k *
    s.ulPerStep .ra))) < 8 ∧ s.dsc.flush = false))) :=
  ⟨⟨whu fun x => { x with phase := .opened, owner := some .tankFill, draw := 65535 }, by decide⟩,
    ⟨whu fun x =>
      { x with runOn := some { user := .tankFill, outcome := .released, pulses := 65535, left := 0 } },
      { user := .tankFill, outcome := .released, pulses := 65535, left := 0 }, by decide⟩,
    ⟨rs, by decide⟩,
    ⟨(cyc .rinse).onWhu fun x => { x with phase := .opened, owner := some .rinse }, by decide⟩,
    ⟨(cyc .rinse).onWhu fun x => { x with owner := some .rinse, phase := .opened }, by decide⟩,
    ⟨whu fun x => { x with runOn := some { user := .rinse, outcome := .released, pulses := 7, left := 0 } },
      { user := .rinse, outcome := .released, pulses := 7, left := 0 }, by decide⟩,
    ⟨(whu fun x => { x with phase := .opened, owner := some .tankFill }).onColumn .a fun r => { r with capacity := 0 }, by
      decide⟩,
    ⟨((cyc .rinse).onWhu fun x => { x with phase := .opened, owner := some .rinse }).onColumn .a fun r =>
      { r with capacity := 0 }, by decide⟩,
    ⟨(whu fun x =>
      { x with runOn := some { user := .tankFill, outcome := .released, pulses := 7, left := 0 } }).onColumn .a fun r =>
      { r with capacity := 0 }, { user := .tankFill, outcome := .released, pulses := 7, left := 0 }, by decide⟩,
    ⟨(whu fun x =>
      { x with runOn := some { user := .rinse, outcome := .released, pulses := 7, left := 0 } }).onColumn .a fun r =>
      { r with capacity := 0 }, { user := .rinse, outcome := .released, pulses := 7, left := 0 }, by decide⟩,
    ⟨rs.onColumn .a fun r => { r with capacity := 0 }, by decide⟩,
    ⟨rs.onDsc fun d => { d with owed := 8 }, by decide⟩,
    ⟨rs, by decide⟩⟩

/-- ArithmeticLosesNothing: states and operands that meet its hypotheses, clause by clause. -/
theorem test_witness_ArithmeticLosesNothing :
    (∃ (k : Nat), 0 < k) ∧ (∃ (carry : Nat) (ul : Nat), carry < ul) ∧ (∃ (rate : Nat), 0 < rate) ∧ (∃ (k : Nat), 0 <
    k) ∧ (∃ (k : Nat), 0 < k) ∧ (∃ (ml : Nat) (rate : Nat), 1 ≤ ml ∧ ml ≤ 5000 ∧ 50 ≤ rate ∧ rate ≤ 1000) ∧ (∃ (s :
    State) (e : ActiveEntry), s.csq.active = some e ∧ e.copy.purgeMl = 0) ∧ (∃ (s : State) (e : ActiveEntry),
    s.csq.active = some e ∧ 0 < e.copy.purgeMl) ∧ (∃ (s : State), s.csq.phase = .purge) ∧ (∃ (s : State),
    s.csq.hold.left = some .purge) ∧ (∃ (v : BitVec 32) (s : State), s.serves = true ∧ 50 ≤ v.toInt ∧ v.toInt ≤ 1000) :=
  ⟨⟨1, by decide⟩,
    ⟨0, 1, by decide⟩,
    ⟨1, by decide⟩,
    ⟨1, by decide⟩,
    ⟨1, by decide⟩,
    ⟨5000, 50, by decide⟩,
    ⟨(cyc .wash).onCsq fun c =>
      { c with active := some { ent with copy := { defaultRecipe with purgeMl := 0 } } },
      { ent with copy := { defaultRecipe with purgeMl := 0 } }, by decide⟩,
    ⟨(cyc .wash).onCsq fun c =>
      { c with active := some { ent with copy := { defaultRecipe with purgeMl := 5000 } } },
      { ent with copy := { defaultRecipe with purgeMl := 5000 } }, by decide⟩,
    ⟨cyc .purge, by decide⟩,
    ⟨(cyc .held).onCsq fun c => { c with hold := { c.hold with left := some .purge } }, by decide⟩,
    ⟨1000, rs, by decide⟩⟩

/-- InletIsHandedOverAndStalls: states and operands that meet its hypotheses, clause by clause. -/
theorem test_witness_InletIsHandedOverAndStalls :
    (∃ (s : State), s.on = true ∧ s.whu.owner = none ∧ (s.sfc.changeover = .none ∨ s.sfc.changeover = .due) ∧
    s.locked = false ∧ s.whu.rinseWaiting = true) ∧ (∃ (s : State), s.on = true ∧ s.whu.owner = none ∧
    (s.sfc.changeover = .none ∨ s.sfc.changeover = .due) ∧ s.locked = false ∧ s.whu.rinseWaiting = false ∧
    s.whu.tankWaiting = true) ∧ (∃ (s : State), s.on = true ∧ (s.whu.owner.isSome = true ∨ s.locked = true ∨
    s.sfc.changeover = .pending ∨ s.sfc.changeover = .claimed ∨ s.sfc.changeover = .moving ∨ s.sfc.changeover =
    .returning ∨ s.sfc.changeover = .aligning)) ∧ (∃ (s : State), s.on = true ∧ s.whu.rinseWaiting = false ∧
    s.whu.tankWaiting = false) ∧ (∃ (s : State) (left : Nat), s.on = true ∧ s.whu.quietLeft = some left ∧
    s.whu.owner = some .tankFill ∧ s.whu.phase = .opened) ∧ (∃ (s : State) (left : Nat), s.on = true ∧
    s.whu.quietLeft = some left ∧ s.whu.owner = some .rinse ∧ s.whu.phase = .opened ∧ s.csq.phase = .rinse ∧
    s.csq.rinse.cut = false) ∧ (∃ (s : State), s.whu.quietLeft = none) :=
  ⟨⟨whu fun x => { x with rinseWaiting := true, tankWaiting := true }, by decide⟩,
    ⟨whu fun x => { x with tankWaiting := true }, by decide⟩,
    ⟨lockedPart, by decide⟩,
    ⟨rs, by decide⟩,
    ⟨whu fun x => { x with quietLeft := some 0, owner := some .tankFill, phase := .opened }, 0, by decide⟩,
    ⟨(cyc .rinse).onWhu fun x => { x with quietLeft := some 10000, owner := some .rinse, phase := .opened },
      10000, by decide⟩,
    ⟨rs, by decide⟩⟩

/-- RunOnEndReportsTheDraw: states and operands that meet its hypotheses, clause by clause. -/
theorem test_witness_RunOnEndReportsTheDraw :
    (∃ (s : State) (w : RunOn) (kind : FillKind), s.on = true ∧ s.whu.runOn = some w ∧ w.user = .tankFill ∧
    s.whu.fillEnded = some kind) ∧ (∃ (s : State) (w : RunOn) (f : FillRec), s.on = true ∧ s.whu.runOn = some w ∧
    w.user = .tankFill ∧ s.whu.fillEnded = none ∧ s.whu.fill = some f) ∧ (∃ (s : State) (w : RunOn), s.on = true ∧
    s.whu.runOn = some w ∧ w.user = .rinse ∧ (s.csq.phase ≠ .rinse ∨ s.csq.rinse.closing = false)) ∧ (∃ (s : State),
    s.whu.runOn = none) ∧ (∃ (s : State) (w : RunOn), s.on = true ∧ s.whu.runOn = some w ∧ w.user = .rinse ∧
    s.csq.phase = .rinse ∧ s.csq.rinse.closing = true ∧ s.csq.rinse.cut = false) ∧ (∃ (s : State) (w : RunOn), s.on
    = true ∧ s.whu.runOn = some w ∧ w.user = .rinse ∧ s.csq.phase = .rinse ∧ s.csq.rinse.closing = true ∧
    s.csq.rinse.cut = true) ∧ (∃ (s : State), s.dsc.owed = 0) ∧ (∃ (s : State), 0 < s.dsc.owed ∧ s.dsc.ra.orders ≠
    []) ∧ (∃ (s : State), 0 < s.dsc.owed ∧ s.dsc.ra.orders = []) ∧ (∃ (s : State), s.csq.active = none) ∧ (∃ (s :
    State) (e : ActiveEntry) (r : CycleRecord), s.csq.active = some e ∧ s.csq.record = some r) ∧ (∃ (s : State) (e :
    ActiveEntry), s.csq.active = some e ∧ s.csq.record = none) ∧ (∃ (s : State), ((s.column
    s.sfc.serviceCol).capacity = 0 ∨ s.indication .softener = none)) ∧ (∃ (s : State) (o : Octet), (s.column
    s.sfc.serviceCol).capacity ≠ 0 ∧ s.indication .softener = some o ∧ 2 ≤ o.toNat % 4) ∧ (∃ (s : State) (o :
    Octet), (s.column s.sfc.serviceCol).capacity ≠ 0 ∧ s.indication .softener = some o ∧ o.toNat % 4 = 1) ∧ (∃ (s :
    State) (o : Octet), (s.column s.sfc.serviceCol).capacity ≠ 0 ∧ s.indication .softener = some o ∧ o.toNat % 4 = 0) :=
  ⟨⟨whu fun x =>
      { x with runOn := some { user := .tankFill, outcome := .released, pulses := 7, left := 0 }, fillEnded := some .topUp },
      { user := .tankFill, outcome := .released, pulses := 7, left := 0 }, .topUp, by decide⟩,
    ⟨whu fun x =>
      { x with runOn := some { user := .tankFill, outcome := .released, pulses := 7, left := 0 }, fill := some { kind := .fill, timeMs := 0 } },
      { user := .tankFill, outcome := .released, pulses := 7, left := 0 }, { kind := .fill, timeMs := 0 }, by decide⟩,
    ⟨whu fun x => { x with runOn := some { user := .rinse, outcome := .released, pulses := 7, left := 0 } },
      { user := .rinse, outcome := .released, pulses := 7, left := 0 }, by decide⟩,
    ⟨rs, by decide⟩,
    ⟨((cyc .rinse).onWhu fun x =>
      { x with runOn := some { user := .rinse, outcome := .released, pulses := 7, left := 0 } }).onCsq fun c =>
      { c with rinse := { c.rinse with closing := true, cut := false } },
      { user := .rinse, outcome := .released, pulses := 7, left := 0 }, by decide⟩,
    ⟨((cyc .rinse).onWhu fun x =>
      { x with runOn := some { user := .rinse, outcome := .released, pulses := 7, left := 0 } }).onCsq fun c =>
      { c with rinse := { c.rinse with closing := true, cut := true } },
      { user := .rinse, outcome := .released, pulses := 7, left := 0 }, by decide⟩,
    ⟨rs, by decide⟩,
    ⟨rs.onDsc fun d => { d with owed := 3, ra := { d.ra with orders := [ord .queued false] } }, by decide⟩,
    ⟨rs.onDsc fun d => { d with owed := 3 }, by decide⟩,
    ⟨rs, by decide⟩,
    ⟨(cyc .wash).onCsq fun c => { c with record := some (State.openRecord 1 ent) }, ent, State.openRecord 1 ent,
      by decide⟩,
    ⟨cyc .armed, ent, by decide⟩,
    ⟨rs, by decide⟩,
    ⟨(lk.onBay 1 fun _ => { candidate := none, accepted := some 2 }).onColumn .a fun r =>
      { r with capacity := 5 }, 2, by decide⟩,
    ⟨(lk.onBay 1 fun _ => { candidate := none, accepted := some 1 }).onColumn .a fun r =>
      { r with capacity := 5 }, 1, by decide⟩,
    ⟨(lk.onBay 1 fun _ => { candidate := none, accepted := some 0 }).onColumn .a fun r =>
      { r with capacity := 5 }, 0, by decide⟩⟩

/-- LevelSamplesNeedTwoAlike: states and operands that meet its hypotheses, clause by clause. -/
theorem test_witness_LevelSamplesNeedTwoAlike :
    (∃ (low : Bool) (high : Bool) (s : State), s.on = true ∧ (s.whu.prevSample ≠ some (State.levelCodeOf low high) ∨
    s.whu.accepted = some (State.levelCodeOf low high))) ∧ (∃ (low : Bool) (high : Bool) (s : State), s.on = true ∧
    s.whu.prevSample = some (State.levelCodeOf low high) ∧ s.whu.accepted ≠ some (State.levelCodeOf low high)) ∧ (∃
    (s : State), (s.whu.accepted ≠ none ∨ s.whu.tank ≠ .empty) ∧ s.csq.phase ≠ .rinse ∧ s.csq.phase ≠ .dwell) ∧ (∃
    (s : State), (s.whu.accepted ≠ none ∨ s.whu.tank ≠ .empty) ∧ (s.csq.phase = .rinse ∨ s.csq.phase = .dwell) ∧
    s.whu.drainUser = some .level) ∧ (∃ (s : State), (s.whu.accepted ≠ none ∨ s.whu.tank ≠ .empty)) ∧ (∃ (s :
    State), (s.whu.accepted ≠ none ∨ s.whu.tank ≠ .empty) ∧ s.whu.fill.isSome = true ∧ s.csq.phase ≠ .rinse ∧
    s.csq.phase ≠ .dwell) ∧ (∃ (s : State), (s.whu.accepted ≠ none ∨ s.whu.tank ≠ .empty) ∧ s.whu.fill = none ∧
    s.csq.phase ≠ .rinse ∧ s.csq.phase ≠ .dwell) ∧ (∃ (s : State), (s.whu.accepted ≠ none ∨ s.whu.tank ≠ .empty) ∧
    s.whu.fill = none ∧ (s.csq.phase = .rinse ∨ s.csq.phase = .dwell) ∧ s.whu.drainUser = none) ∧ (∃ (s : State),
    (s.whu.accepted ≠ none ∨ s.whu.tank ≠ .empty) ∧ s.whu.tank = .draining ∧ s.csq.phase ≠ .rinse ∧ s.csq.phase ≠
    .dwell) ∧ (∃ (s : State), (s.whu.accepted ≠ none ∨ s.whu.tank ≠ .empty) ∧ (s.csq.phase = .wash ∨ s.csq.phase =
    .held) ∧ (s.whu.tank = .heating ∨ s.whu.tank = .ready)) ∧ (∃ (s : State), (s.whu.accepted ≠ none ∨ s.whu.tank ≠
    .empty) ∧ (s.csq.phase = .wash ∨ s.csq.phase = .held) ∧ s.whu.tank = .empty) ∧ (∃ (s : State), (s.whu.accepted ≠
    none ∨ s.whu.tank ≠ .empty) ∧ s.csq.phase = .purge ∧ (s.whu.tank = .empty ∨ s.whu.tank = .heating ∨ s.whu.tank =
    .ready)) ∧ (∃ (s : State), (s.whu.accepted ≠ none ∨ s.whu.tank ≠ .empty) ∧ (s.csq.phase = .idle ∨ s.csq.phase =
    .rinseWait ∨ s.csq.phase = .vent) ∧ (s.whu.tank = .heating ∨ s.whu.tank = .ready)) ∧ (∃ (s : State),
    (s.whu.accepted ≠ none ∨ s.whu.tank ≠ .empty) ∧ s.csq.phase = .armed ∧ (s.whu.tank = .heating ∨ s.whu.tank =
    .ready)) ∧ (∃ (s : State), (s.whu.accepted ≠ none ∨ s.whu.tank ≠ .empty) ∧ (s.csq.phase = .rinse ∨ s.csq.phase =
    .dwell) ∧ (s.whu.tank = .heating ∨ s.whu.tank = .ready) ∧ s.whu.drainUser = some .level) ∧ (∃ (s : State),
    (s.whu.accepted ≠ none ∨ s.whu.tank ≠ .empty) ∧ (s.csq.phase = .rinse ∨ s.csq.phase = .dwell) ∧ (s.whu.tank =
    .heating ∨ s.whu.tank = .ready) ∧ s.whu.drainUser = none) ∧ (∃ (s : State), s.whu.fill = none) ∧ (∃ (s : State),
    (s.whu.tank = .heating ∨ s.whu.tank = .ready)) ∧ (∃ (s : State), s.whu.tank = .empty ∧ s.csq.phase = .armed ∧
    s.whu.accepted ≠ some .full) ∧ (∃ (s : State) (c : LevelCode), s.whu.accepted = none ∧ s.whu.tank = .empty ∧
    s.whu.fill = none ∧ s.csq.phase = .idle ∧ (c = .partly ∨ c = .full)) ∧ (∃ (s : State), s.whu.accepted = none ∧
    s.whu.tank = .empty ∧ s.whu.fill = none ∧ s.csq.phase = .idle) :=
  ⟨⟨true, true, rs, by decide⟩,
    ⟨true, true, whu fun x => { x with prevSample := some .full }, by decide⟩,
    ⟨whu fun x => { x with accepted := some .dry }, by decide⟩,
    ⟨(cyc .rinse).onWhu fun x => { x with accepted := some .partly, drainUser := some .level }, by decide⟩,
    ⟨whu fun x => { x with accepted := some .dry }, by decide⟩,
    ⟨(cyc .armed).onWhu fun x =>
      { x with accepted := some .partly, fill := some { kind := .topUp, timeMs := 5 } }, by decide⟩,
    ⟨(cyc .armed).onWhu fun x => { x with accepted := some .partly, fill := none }, by decide⟩,
    ⟨(cyc .dwell).onWhu fun x => { x with accepted := some .partly, fill := none }, by decide⟩,
    ⟨(cyc .armed).onWhu fun x => { x with accepted := some .partly, tank := .draining }, by decide⟩,
    ⟨(cyc .wash).onWhu fun x => { x with accepted := some .partly, tank := .ready }, by decide⟩,
    ⟨(cyc .held).onWhu fun x => { x with accepted := some .partly, tank := .empty }, by decide⟩,
    ⟨(cyc .purge).onWhu fun x => { x with accepted := some .partly, tank := .heating }, by decide⟩,
    ⟨(cyc .vent).onWhu fun x => { x with accepted := some .partly, tank := .heating }, by decide⟩,
    ⟨(cyc .armed).onWhu fun x => { x with accepted := some .partly, tank := .ready }, by decide⟩,
    ⟨(cyc .rinse).onWhu fun x => { x with accepted := some .partly, tank := .ready, drainUser := some .level }, by
      decide⟩,
    ⟨(cyc .dwell).onWhu fun x => { x with accepted := some .partly, tank := .ready }, by decide⟩,
    ⟨rs, by decide⟩,
    ⟨whu fun x => { x with tank := .ready }, by decide⟩,
    ⟨cyc .armed, by decide⟩,
    ⟨rs, .full, by decide⟩,
    ⟨rs, by decide⟩⟩

/-- TankTimersEndFillsAndDrains: states and operands that meet its hypotheses, clause by clause. -/
theorem test_witness_TankTimersEndFillsAndDrains :
    (∃ (s : State) (left : Nat), s.on = true ∧ s.whu.implausibleLeft = some left) ∧ (∃ (s : State),
    s.whu.implausibleLeft = none) ∧ (∃ (s : State) (f : FillRec), s.on = true ∧ s.whu.owner = some .tankFill ∧
    s.whu.phase = .opened ∧ s.whu.fill = some f) ∧ (∃ (s : State), (s.whu.phase ≠ .opened ∨ s.whu.fill = none)) ∧ (∃
    (s : State) (ms : Nat), s.on = true ∧ s.whu.drainUser = some .draining ∧ s.granted .drainPump = true ∧
    s.whu.drainOutMs = some ms) ∧ (∃ (s : State), s.whu.drainOutMs = none) ∧ (∃ (s : State), s.on = true ∧
    s.whu.drainUser = some .purge ∧ s.granted .drainPump = true) ∧ (∃ (s : State), (s.whu.drainUser ≠ some .purge ∨
    s.granted .drainPump = false)) :=
  ⟨⟨whu fun x => { x with implausibleLeft := some 0 }, 0, by decide⟩,
    ⟨rs, by decide⟩,
    ⟨whu fun x =>
      { x with owner := some .tankFill, phase := .opened, fill := some { kind := .fill, timeMs := 600000 } },
      { kind := .fill, timeMs := 600000 }, by decide⟩,
    ⟨rs, by decide⟩,
    ⟨(held rs .drainPump .granted).onWhu fun x => { x with drainUser := some .draining, drainOutMs := some 9999 },
      9999, by decide⟩,
    ⟨rs, by decide⟩,
    ⟨(held rs .drainPump .granted).onWhu fun x => { x with drainUser := some .purge }, by decide⟩,
    ⟨rs, by decide⟩⟩

/-- SensorReadingsAreSupervised: states and operands that meet its hypotheses, clause by clause. -/
theorem test_witness_SensorReadingsAreSupervised :
    (∃ (s : State), s.on = true) ∧ (∃ (t : Int), -100 ≤ t ∧ t ≤ 1250) ∧ (∃ (x : Sensor) (t : Int), (t < -100 ∨
    1250 < t) ∧ x.bad < 4) ∧ (∃ (x : Sensor) (t : Int), (t < -100 ∨ 1250 < t) ∧ x.bad = 4) ∧ (∃ (s : State) (t :
    Int) (p : Int), 850 ≤ t ∧ t ≤ 1250 ∧ p < 850 ∧ s.whu.tankSensor.last = some p ∧ s.hasFault .sensorTank 0 =
    false) ∧ (∃ (s : State) (t : Int) (p : Int), 980 ≤ t ∧ t ≤ 1250 ∧ p < 980 ∧ s.whu.boosterSensor.last = some
    p ∧ s.hasFault .sensorBooster 0 = false) ∧ (∃ (t : Int), -100 ≤ t ∧ t ≤ 1250 ∧ t < 850) ∧ (∃ (s : State) (t
    : Int), -100 ≤ t ∧ t ≤ 1250 ∧ 850 ≤ t ∧ ((∀ p : Int, s.whu.tankSensor.last = some p → p < 850))) ∧ (∃ (s :
    State) (t : Int) (p : Int), -100 ≤ t ∧ t ≤ 1250 ∧ 850 ≤ t ∧ s.whu.tankSensor.last = some p ∧ 850 ≤ p) ∧ (∃
    (t : Int), -100 ≤ t ∧ t ≤ 1250 ∧ t < 980) ∧ (∃ (s : State) (t : Int), -100 ≤ t ∧ t ≤ 1250 ∧ 980 ≤ t ∧ ((∀ p
    : Int, s.whu.boosterSensor.last = some p → p < 980))) ∧ (∃ (s : State) (t : Int) (p : Int), -100 ≤ t ∧ t ≤
    1250 ∧ 980 ≤ t ∧ s.whu.boosterSensor.last = some p ∧ 980 ≤ p) ∧ (∃ (s : State) (e : ActiveEntry),
    s.csq.active = some e) ∧ (∃ (s : State), s.csq.active = none) ∧ (∃ (s : State) (t : Int) (p : Int), -100 ≤ t
    ∧ t < 980 ∧ s.whu.boosterSensor.last = some p ∧ s.csq.phase = .idle ∧ s.hasFault .sensorBooster 0 = false ∧
    s.hasFault .boosterOvertemp 0 = false) ∧ (∃ (s : State) (t : Int), s.whu.tank = .heating ∧ s.tankTarget - 50
    ≤ t) ∧ (∃ (s : State) (t : Int), s.whu.tank = .heating ∧ t < s.tankTarget - 50) ∧ (∃ (s : State) (t : Int),
    s.whu.tank = .ready ∧ t < s.tankTarget - 80) ∧ (∃ (s : State) (t : Int), s.whu.tank = .ready ∧ s.tankTarget
    - 80 ≤ t) ∧ (∃ (s : State), (s.whu.tank = .empty ∨ s.whu.tank = .filling ∨ s.whu.tank = .draining)) ∧ (∃ (s
    : State) (t : Int), (t < -100 ∨ 1250 < t) ∧ s.whu.tankSensor.bad = 4) ∧ (∃ (s : State) (t : Int), (t < -100
    ∨ 1250 < t) ∧ s.whu.boosterSensor.bad = 4) ∧ (∃ (s : State) (t : Int), (t < -100 ∨ 1250 < t) ∧
    s.whu.vapourSensor.bad = 4) ∧ (∃ (s : State) (t : Int), (t < -100 ∨ 1250 < t) ∧ s.whu.tankSensor.bad ≠ 4) ∧
    (∃ (s : State) (t : Int), (t < -100 ∨ 1250 < t) ∧ s.whu.boosterSensor.bad ≠ 4) ∧ (∃ (s : State) (t : Int),
    (t < -100 ∨ 1250 < t) ∧ s.whu.vapourSensor.bad ≠ 4) ∧ (∃ (s : State) (t : Int), s.csq.phase = .rinseWait ∧
    s.recipe.rinseC - 10 ≤ t) ∧ (∃ (s : State) (t : Int), (s.csq.phase ≠ .rinseWait ∨ t < s.recipe.rinseC - 10))
    ∧ (∃ (s : State) (t : Int), -100 ≤ t ∧ t ≤ 1250 ∧ s.dvc.vent.step ≠ .fan) ∧ (∃ (s : State) (t : Int), -100 ≤
    t ∧ t ≤ 1250 ∧ s.dvc.vent.step = .fan ∧ t ≤ s.settings.get 30) ∧ (∃ (s : State) (t : Int), -100 ≤ t ∧ t ≤
    1250 ∧ s.dvc.vent.step = .fan ∧ s.settings.get 30 < t) :=
  ⟨⟨rs, by decide⟩,
    ⟨1250, by decide⟩,
    ⟨{ last := none, bad := 3, failed := false }, 1251, by decide⟩,
    ⟨{ last := none, bad := 4, failed := false }, -101, by decide⟩,
    ⟨whu fun x => { x with tankSensor := { last := some 849, bad := 0, failed := false } }, 850, 849, by decide⟩,
    ⟨whu fun x => { x with boosterSensor := { last := some 979, bad := 0, failed := false } }, 980, 979, by decide⟩,
    ⟨849, by decide⟩,
    ⟨rs, 850, by decide, by decide, by decide, (fun _ h => by cases h)⟩,
    ⟨whu fun x => { x with tankSensor := { last := some 850, bad := 0, failed := false } }, 850, 850, by decide⟩,
    ⟨979, by decide⟩,
    ⟨rs, 980, by decide, by decide, by decide, (fun _ h => by cases h)⟩,
    ⟨whu fun x => { x with boosterSensor := { last := some 980, bad := 0, failed := false } }, 980, 980, by decide⟩,
    ⟨cyc .wash, ent, by decide⟩,
    ⟨rs, by decide⟩,
    ⟨whu fun x => { x with boosterSensor := { last := some 500, bad := 0, failed := false } }, 979, 500, by decide⟩,
    ⟨whu fun x => { x with tank := .heating }, 1250, by decide⟩,
    ⟨whu fun x => { x with tank := .heating }, -100, by decide⟩,
    ⟨whu fun x => { x with tank := .ready }, -100, by decide⟩,
    ⟨whu fun x => { x with tank := .ready }, 1250, by decide⟩,
    ⟨whu fun x => { x with tank := .filling }, by decide⟩,
    ⟨whu fun x => { x with tankSensor := { x.tankSensor with bad := 4 } }, 1251, by decide⟩,
    ⟨whu fun x => { x with boosterSensor := { x.boosterSensor with bad := 4 } }, -101, by decide⟩,
    ⟨whu fun x => { x with vapourSensor := { x.vapourSensor with bad := 4 } }, 1251, by decide⟩,
    ⟨rs, 1251, by decide⟩,
    ⟨rs, -101, by decide⟩,
    ⟨rs, 1251, by decide⟩,
    ⟨cyc .rinseWait, 1250, by decide⟩,
    ⟨rs, 0, by decide⟩,
    ⟨rs, 1250, by decide⟩,
    ⟨(rs).onDvc fun d => { d with vent := { d.vent with step := .fan } }, -100, by decide⟩,
    ⟨(rs).onDvc fun d => { d with vent := { d.vent with step := .fan } }, 1250, by decide⟩⟩

/-- ThermostatsClaimBelowAndReleaseAtTheSetpoint: states and operands that meet its hypotheses, clause by clause. -/
theorem test_witness_ThermostatsClaimBelowAndReleaseAtTheSetpoint :
    (∃ (s : State) (t : Int), s.tankReading = some t ∧ s.heatAllowed .tankHeater = true ∧ t < s.tankTarget - 20
    ∧ s.whu.tankHeat.unfit = false) ∧ (∃ (s : State) (t : Int), s.tankReading = some t ∧ s.heatAllowed
    .tankHeater = true ∧ t < s.tankTarget - 20 ∧ s.whu.tankHeat.unfit = true) ∧ (∃ (s : State) (t : Int),
    s.tankReading = some t ∧ s.heatAllowed .tankHeater = true ∧ s.tankTarget - 20 ≤ t ∧ t < s.tankTarget ∧
    s.whu.tankHeat.demand = true ∧ s.whu.tankHeat.unfit = false) ∧ (∃ (s : State) (t : Int), s.tankReading =
    some t ∧ s.heatAllowed .tankHeater = true ∧ s.tankTarget - 20 ≤ t ∧ t < s.tankTarget ∧
    (s.whu.tankHeat.demand = false ∨ s.whu.tankHeat.unfit = true)) ∧ (∃ (s : State) (t : Int), s.tankReading =
    some t ∧ s.tankTarget ≤ t) ∧ (∃ (s : State), (s.tankReading = none ∨ s.locked = true ∨ s.sto.power =
    .standby ∨ s.tankWet = false ∨ s.whu.tank = .draining)) ∧ (∃ (s : State) (t : Int), s.boosterReading = some
    t ∧ s.heatAllowed .boosterA = true ∧ t < s.boosterTarget - 20 ∧ s.whu.boosterA.unfit = false) ∧ (∃ (s :
    State) (t : Int), s.boosterReading = some t ∧ s.heatAllowed .boosterA = true ∧ t < s.boosterTarget - 20 ∧
    s.whu.boosterA.unfit = true) ∧ (∃ (s : State) (t : Int), s.boosterReading = some t ∧ s.heatAllowed .boosterA
    = true ∧ s.boosterTarget - 20 ≤ t ∧ t < s.boosterTarget ∧ s.whu.boosterA.demand = true ∧
    s.whu.boosterA.unfit = false) ∧ (∃ (s : State) (t : Int), s.boosterReading = some t ∧ s.heatAllowed
    .boosterA = true ∧ s.boosterTarget - 20 ≤ t ∧ t < s.boosterTarget ∧ (s.whu.boosterA.demand = false ∨
    s.whu.boosterA.unfit = true)) ∧ (∃ (s : State) (t : Int), s.boosterReading = some t ∧ s.boosterTarget ≤ t) ∧
    (∃ (s : State), (s.boosterReading = none ∨ s.locked = true ∨ s.sto.power = .standby ∨ s.boosterClosed =
    false)) ∧ (∃ (s : State) (t : Int), s.boosterReading = some t ∧ s.heatAllowed .boosterB = true ∧ t <
    s.boosterTarget - 60 ∧ s.whu.boosterB.unfit = false) ∧ (∃ (s : State) (t : Int), s.boosterReading = some t ∧
    s.heatAllowed .boosterB = true ∧ t < s.boosterTarget - 60 ∧ s.whu.boosterB.unfit = true) ∧ (∃ (s : State) (t
    : Int), s.boosterReading = some t ∧ s.heatAllowed .boosterB = true ∧ s.boosterTarget - 60 ≤ t ∧ t <
    s.boosterTarget - 30 ∧ s.whu.boosterB.demand = true ∧ s.whu.boosterB.unfit = false) ∧ (∃ (s : State) (t :
    Int), s.boosterReading = some t ∧ s.heatAllowed .boosterB = true ∧ s.boosterTarget - 60 ≤ t ∧ t <
    s.boosterTarget - 30 ∧ (s.whu.boosterB.demand = false ∨ s.whu.boosterB.unfit = true)) ∧ (∃ (s : State) (t :
    Int), s.boosterReading = some t ∧ s.boosterTarget - 30 ≤ t) ∧ (∃ (s : State), (s.boosterReading = none ∨
    s.locked = true ∨ s.sto.power = .standby ∨ s.boosterClosed = false ∨ s.watts .boosterB = 0)) ∧ (∃ (s :
    State) (l : Load), (s.claimOf l).state ≠ .idle) ∧ (∃ (s : State) (l : Load), (s.claimOf l).state = .idle ∧
    s.locked = false ∧ (l ≠ .boosterB ∨ s.watts .boosterB ≠ 0) ∧ s.loadUnfit l = false) ∧ (∃ (s : State) (l :
    Load), (s.claimOf l).state = .idle ∧ s.locked = false ∧ (l ≠ .boosterB ∨ s.watts .boosterB ≠ 0) ∧
    s.loadUnfit l = true) :=
  ⟨⟨whu fun x =>
      { x with
        tankSensor := { last := some 579, bad := 0, failed := false }, accepted := some .partly
        tankHeat := { demand := false, unfit := false } }, 579, by decide⟩,
    ⟨whu fun x =>
      { x with
        tankSensor := { last := some 579, bad := 0, failed := false }, accepted := some .partly
        tankHeat := { demand := true, unfit := true } }, 579, by decide⟩,
    ⟨whu fun x =>
      { x with
        tankSensor := { last := some 580, bad := 0, failed := false }, accepted := some .partly
        tankHeat := { demand := true, unfit := false } }, 580, by decide⟩,
    ⟨whu fun x =>
      { x with
        tankSensor := { last := some 599, bad := 0, failed := false }, accepted := some .partly
        tankHeat := { demand := false, unfit := false } }, 599, by decide⟩,
    ⟨whu fun x => { x with tankSensor := { last := some 600, bad := 0, failed := false } }, 600, by decide⟩,
    ⟨rs, by decide⟩,
    ⟨whu fun x =>
      { x with
        boosterSensor := { last := some 799, bad := 0, failed := false }, boosterFull := some true
        boosterA := { demand := false, unfit := false } }, 799, by decide⟩,
    ⟨whu fun x =>
      { x with
        boosterSensor := { last := some 799, bad := 0, failed := false }, boosterFull := some true
        boosterA := { demand := true, unfit := true } }, 799, by decide⟩,
    ⟨whu fun x =>
      { x with
        boosterSensor := { last := some 800, bad := 0, failed := false }, boosterFull := some true
        boosterA := { demand := true, unfit := false } }, 800, by decide⟩,
    ⟨whu fun x =>
      { x with
        boosterSensor := { last := some 819, bad := 0, failed := false }, boosterFull := some true
        boosterA := { demand := false, unfit := false } }, 819, by decide⟩,
    ⟨whu fun x => { x with boosterSensor := { last := some 820, bad := 0, failed := false } }, 820, by decide⟩,
    ⟨rs, by decide⟩,
    ⟨whu fun x =>
      { x with
        boosterSensor := { last := some 759, bad := 0, failed := false }, boosterFull := some true
        boosterB := { demand := false, unfit := false } }, 759, by decide⟩,
    ⟨whu fun x =>
      { x with
        boosterSensor := { last := some 759, bad := 0, failed := false }, boosterFull := some true
        boosterB := { demand := true, unfit := true } }, 759, by decide⟩,
    ⟨whu fun x =>
      { x with
        boosterSensor := { last := some 760, bad := 0, failed := false }, boosterFull := some true
        boosterB := { demand := true, unfit := false } }, 760, by decide⟩,
    ⟨whu fun x =>
      { x with
        boosterSensor := { last := some 789, bad := 0, failed := false }, boosterFull := some true
        boosterB := { demand := false, unfit := false } }, 789, by decide⟩,
    ⟨whu fun x => { x with boosterSensor := { last := some 790, bad := 0, failed := false } }, 790, by decide⟩,
    ⟨rs, by decide⟩,
    ⟨held rs .boosterA .waiting, .boosterA, by decide⟩,
    ⟨rs, .boosterB, by decide⟩,
    ⟨rs.onLba fun x => { x with inForce := 2000 }, .boosterB, by decide⟩⟩

/-- WashStartsWithANumber: states and operands that meet its hypotheses, clause by clause. -/
theorem test_witness_WashStartsWithANumber :
    (∃ (s : State) (e : ActiveEntry), s.on = true ∧ s.csq.phase = .armed ∧ s.whu.tank = .ready ∧ s.linked .door =
    true ∧ (s.dvc.door = .closed ∨ s.dvc.door = .closedLatched) ∧ (s.dvc.openedFlag = true ∨ s.settings.get 6 = 0) ∧
    s.hasClass .stop = false ∧ s.csq.active = some e) ∧ (∃ (s : State), s.on = true ∧ (s.csq.phase ≠ .armed ∨
    s.whu.tank ≠ .ready ∨ s.linked .door = false ∨ (s.dvc.door ≠ .closed ∧ s.dvc.door ≠ .closedLatched) ∨
    (s.dvc.openedFlag = false ∧ s.settings.get 6 ≠ 0) ∨ s.hasClass .stop = true)) :=
  ⟨⟨((cyc .armed).onWhu fun x => { x with tank := .ready }).onDvc fun d =>
      { d with door := .closed, openedFlag := true }, ent, by decide⟩,
    ⟨rs, by decide⟩⟩

/-- CycleTimersEndTheirPhase: states and operands that meet its hypotheses, clause by clause. -/
theorem test_witness_CycleTimersEndTheirPhase :
    (∃ (s : State), s.on = true ∧ s.csq.phase = .wash ∧ s.granted .washPump = true) ∧ (∃ (s : State), (s.csq.phase ≠
    .wash ∨ s.granted .washPump = false)) ∧ (∃ (s : State), s.on = true ∧ s.csq.phase = .held) ∧ (∃ (s : State),
    s.csq.phase ≠ .held) ∧ (∃ (s : State) (left : Nat), s.on = true ∧ s.csq.phase = .rinseWait ∧
    s.csq.rinseWait.confirmLeft = some left) ∧ (∃ (s : State) (left : Nat), s.on = true ∧ s.csq.phase = .rinseWait ∧
    s.csq.rinseWait.holdLeft = some left) ∧ (∃ (s : State), s.csq.phase ≠ .rinseWait) ∧ (∃ (s : State), s.on = true
    ∧ s.csq.phase = .dwell) ∧ (∃ (s : State), s.csq.phase ≠ .dwell) ∧ (∃ (s : State), s.csq.phase = .wash) ∧ (∃ (s :
    State), s.csq.phase = .purge) ∧ (∃ (s : State) (r : State.HoldReason), s.csq.phase = .held ∧ State.Hold.has
    s.csq.hold r = false) ∧ (∃ (s : State) (r : State.HoldReason), s.csq.phase = .held ∧ State.Hold.has s.csq.hold r
    = true) ∧ (∃ (s : State) (r : State.HoldReason) (q : State.HoldReason), s.csq.phase = .held ∧ r ≠ q ∧
    State.Hold.has s.csq.hold r = true ∧ State.Hold.has s.csq.hold q = true) ∧ (∃ (s : State) (r : State.HoldReason)
    (q : State.HoldReason), s.csq.phase = .held ∧ r ≠ q ∧ State.Hold.has s.csq.hold r = true ∧ State.Hold.has
    s.csq.hold q = false ∧ s.csq.hold.left = some .wash) ∧ (∃ (s : State) (r : State.HoldReason) (q :
    State.HoldReason), s.csq.phase = .held ∧ r ≠ q ∧ State.Hold.has s.csq.hold r = true ∧ State.Hold.has s.csq.hold
    q = false ∧ s.csq.hold.left = some .purge) ∧ (∃ (s : State) (r : State.HoldReason), (s.csq.phase ≠ .held ∨
    State.Hold.has s.csq.hold r = false)) ∧ (∃ (s : State), (s.dvc.door = .closed ∨ s.dvc.door = .closedLatched) ∧
    s.csq.phase = .held) ∧ (∃ (s : State), (s.dvc.door = .closed ∨ s.dvc.door = .closedLatched) ∧ s.csq.phase ≠
    .held) ∧ (∃ (s : State), s.dvc.door ≠ .closed ∧ s.dvc.door ≠ .closedLatched ∧ (s.csq.phase = .wash ∨ s.csq.phase
    = .purge ∨ s.csq.phase = .held)) ∧ (∃ (s : State), s.dvc.door ≠ .closed ∧ s.dvc.door ≠ .closedLatched ∧
    (s.csq.phase = .idle ∨ s.csq.phase = .armed ∨ s.csq.phase = .rinseWait ∨ s.csq.phase = .vent)) ∧ (∃ (s : State),
    s.dvc.door = .opened ∧ s.csq.phase = .dwell) ∧ (∃ (s : State), s.dvc.door = .opened ∧ s.csq.phase = .rinse ∧
    s.csq.rinse.cut = true) ∧ (∃ (s : State), s.dvc.door = .opened ∧ s.csq.phase = .rinse ∧ s.csq.rinse.cut = false
    ∧ (((({ s with csq := { s.csq with rinse := { s.csq.rinse with cut := true, closing := true } } }).release
    .rinsePump).warn .doorForced 0).endCondition .doorForced 0).whu.rinseWaiting = true) ∧ (∃ (s : State),
    s.dvc.door = .opened ∧ s.csq.phase = .rinse ∧ s.csq.rinse.cut = false ∧
    (((({ s with csq := { s.csq with rinse := { s.csq.rinse with cut := true, closing := true } } }).release
    .rinsePump).warn .doorForced 0).endCondition .doorForced 0).whu.rinseWaiting = false ∧
    (((({ s with csq := { s.csq with rinse := { s.csq.rinse with cut := true, closing := true } } }).release
    .rinsePump).warn .doorForced 0).endCondition .doorForced 0).whu.owner = some .rinse ∧
    (((({ s with csq := { s.csq with rinse := { s.csq.rinse with cut := true, closing := true } } }).release
    .rinsePump).warn .doorForced 0).endCondition .doorForced 0).whu.phase = .opened) ∧ (∃ (s : State), s.dvc.door =
    .opened ∧ s.csq.phase = .rinse ∧ s.csq.rinse.cut = false ∧
    (((({ s with csq := { s.csq with rinse := { s.csq.rinse with cut := true, closing := true } } }).release
    .rinsePump).warn .doorForced 0).endCondition .doorForced 0).whu.rinseWaiting = false ∧
    (((({ s with csq := { s.csq with rinse := { s.csq.rinse with cut := true, closing := true } } }).release
    .rinsePump).warn .doorForced 0).endCondition .doorForced 0).whu.owner = some .rinse ∧
    (((({ s with csq := { s.csq with rinse := { s.csq.rinse with cut := true, closing := true } } }).release
    .rinsePump).warn .doorForced 0).endCondition .doorForced 0).whu.phase ≠ .opened) ∧ (∃ (s : State), s.dvc.door =
    .opened ∧ s.csq.phase = .rinse ∧ s.csq.rinse.cut = false ∧
    (((({ s with csq := { s.csq with rinse := { s.csq.rinse with cut := true, closing := true } } }).release
    .rinsePump).warn .doorForced 0).endCondition .doorForced 0).whu.rinseWaiting = false ∧
    (((({ s with csq := { s.csq with rinse := { s.csq.rinse with cut := true, closing := true } } }).release
    .rinsePump).warn .doorForced 0).endCondition .doorForced 0).whu.owner ≠ some .rinse) :=
  ⟨⟨held (cyc .wash) .washPump .granted, by decide⟩,
    ⟨rs, by decide⟩,
    ⟨cyc .held, by decide⟩,
    ⟨rs, by decide⟩,
    ⟨(cyc .rinseWait).onCsq fun c => { c with rinseWait := { c.rinseWait with confirmLeft := some 0 } }, 0, by
      decide⟩,
    ⟨(cyc .rinseWait).onCsq fun c => { c with rinseWait := { c.rinseWait with holdLeft := some 0 } }, 0, by decide⟩,
    ⟨rs, by decide⟩,
    ⟨cyc .dwell, by decide⟩,
    ⟨rs, by decide⟩,
    ⟨cyc .wash, by decide⟩,
    ⟨cyc .purge, by decide⟩,
    ⟨cyc .held, .door, by decide⟩,
    ⟨(cyc .held).onCsq fun c => { c with hold := { c.hold with door := true, level := false, left := none } },
      .door, by decide⟩,
    ⟨(cyc .held).onCsq fun c => { c with hold := { c.hold with door := true, level := true, left := none } },
      .door, .level, by decide⟩,
    ⟨(cyc .held).onCsq fun c =>
      { c with hold := { c.hold with door := true, level := false, left := some .wash } }, .door, .level, by decide⟩,
    ⟨(cyc .held).onCsq fun c =>
      { c with hold := { c.hold with door := false, level := true, left := some .purge } }, .level, .door, by decide⟩,
    ⟨cyc .held, .door, by decide⟩,
    ⟨(cyc .held).onDvc fun d => { d with door := .closed }, by decide⟩,
    ⟨(cyc .wash).onDvc fun d => { d with door := .closedLatched }, by decide⟩,
    ⟨(cyc .held).onDvc fun d => { d with door := .ajar }, by decide⟩,
    ⟨(cyc .vent).onDvc fun d => { d with door := .opened }, by decide⟩,
    ⟨(cyc .dwell).onDvc fun d => { d with door := .opened }, by decide⟩,
    ⟨(((cyc .rinse).onDvc fun d => { d with door := .opened }).onWhu fun x =>
      { x with rinseWaiting := false }).onCsq fun c => { c with rinse := { c.rinse with cut := true } }, by decide⟩,
    ⟨(((cyc .rinse).onDvc fun d => { d with door := .opened }).onWhu fun x =>
      { x with rinseWaiting := true }).onCsq fun c => { c with rinse := { c.rinse with cut := false } }, by decide⟩,
    ⟨(((cyc .rinse).onDvc fun d => { d with door := .opened }).onWhu fun x =>
      { x with owner := some .rinse, phase := .opened }).onCsq fun c =>
      { c with rinse := { c.rinse with cut := false } }, by decide⟩,
    ⟨(((cyc .rinse).onDvc fun d => { d with door := .opened }).onWhu fun x =>
      { x with owner := some .rinse, phase := .opening }).onCsq fun c =>
      { c with rinse := { c.rinse with cut := false } }, by decide⟩,
    ⟨(((cyc .rinse).onDvc fun d => { d with door := .opened }).onWhu fun x => { x with owner := none }).onCsq fun
      c => { c with rinse := { c.rinse with cut := false } }, by decide⟩⟩

/-- RinseStartsAndReachesItsTarget: states and operands that meet its hypotheses, clause by clause. -/
theorem test_witness_RinseStartsAndReachesItsTarget :
    (∃ (s : State), s.on = true ∧ s.csq.phase = .rinseWait ∧ (s.csq.rinseWait.tempMet = true ∨
    s.csq.rinseWait.holdExpired = true) ∧ s.obtainable = true ∧ s.granted .rinsePump = true ∧
    s.csq.rinseWait.confirmed = true ∧ s.whu.accepted ≠ some .full) ∧ (∃ (s : State), s.on = true ∧ s.csq.phase =
    .rinseWait ∧ (s.csq.rinseWait.tempMet = true ∨ s.csq.rinseWait.holdExpired = true) ∧ s.obtainable = true ∧
    s.granted .rinsePump = true ∧ s.csq.rinseWait.confirmed = true ∧ s.whu.accepted = some .full ∧ s.whu.drainUser =
    none) ∧ (∃ (s : State), s.on = true ∧ (s.csq.phase ≠ .rinseWait ∨ (s.csq.rinseWait.tempMet = false ∧
    s.csq.rinseWait.holdExpired = false) ∨ s.obtainable = false ∨ s.granted .rinsePump = false ∨
    s.csq.rinseWait.confirmed = false)) ∧ (∃ (s : State), s.on = true ∧ s.csq.phase = .rinse ∧ s.csq.rinse.closing =
    false ∧ s.whu.owner = some .rinse ∧ s.whu.phase = .opened ∧ s.csq.rinse.target ≤ s.csq.rinse.count) ∧ (∃ (s :
    State), s.on = true ∧ (s.csq.phase ≠ .rinse ∨ s.csq.rinse.closing = true ∨ s.whu.owner ≠ some .rinse ∨
    s.whu.phase ≠ .opened ∨ s.csq.rinse.count < s.csq.rinse.target)) :=
  ⟨⟨(held (cyc .rinseWait) .rinsePump .granted).onCsq fun c =>
      { c with rinseWait := { c.rinseWait with tempMet := true, confirmed := true } }, by decide⟩,
    ⟨((held (cyc .rinseWait) .rinsePump .granted).onCsq fun c =>
      { c with rinseWait := { c.rinseWait with tempMet := true, confirmed := true } }).onWhu fun x =>
      { x with accepted := some .full }, by decide⟩,
    ⟨rs, by decide⟩,
    ⟨((cyc .rinse).onWhu fun x => { x with owner := some .rinse, phase := .opened }).onCsq fun c =>
      { c with rinse := { c.rinse with target := 1200, count := 1200 } }, by decide⟩,
    ⟨rs, by decide⟩⟩

/-- ClaimsAndBudgetTimers: states and operands that meet its hypotheses, clause by clause. -/
theorem test_witness_ClaimsAndBudgetTimers :
    (∃ (s : State) (l : Load), (s.claimOf l).state ≠ .idle) ∧ (∃ (s : State) (l : Load), (s.claimOf l).state =
    .idle ∧ s.locked = true) ∧ (∃ (s : State), (s.claimOf .boosterB).state = .idle ∧ s.locked = false ∧
    s.settings.get 12 = 0) ∧ (∃ (s : State) (l : Load), (s.claimOf l).state = .idle ∧ s.locked = false ∧ (l ≠
    .boosterB ∨ s.watts l ≠ 0) ∧ s.lba.inForce < s.watts l) ∧ (∃ (s : State) (l : Load), (s.claimOf l).state =
    .idle ∧ s.locked = false ∧ (l ≠ .boosterB ∨ s.watts l ≠ 0) ∧ s.watts l ≤ s.lba.inForce ∧ s.lba.breaker.get
    l.ix = false) ∧ (∃ (s : State) (l : Load), (s.claimOf l).state = .idle) ∧ (∃ (s : State) (l : Load),
    (s.claimOf l).state = .waiting) ∧ (∃ (s : State) (l : Load), (s.claimOf l).state = .granted) ∧ (∃ (s :
    State) (e : Settling) (rest : List Settling), s.on = true ∧ s.lba.settling = e :: rest ∧ s.lba.inForce ≤
    s.mains) ∧ (∃ (s : State) (e : Settling) (rest : List Settling), s.on = true ∧ s.lba.settling = e :: rest ∧
    s.mains < s.lba.inForce ∧ s.sumGranted + rest.foldl (fun n x => n + x.watts) 0 ≤ s.mains) ∧ (∃ (s : State),
    s.lba.settling = []) ∧ (∃ (s : State) (l : Load), s.loadUnfit l = true ∧ (s.claimOf l).state = .idle) ∧ (∃
    (s : State) (l : Load), s.loadUnfit l = true ∧ (s.claimOf l).state = .waiting) ∧ (∃ (s : State) (l : Load),
    s.loadUnfit l = true ∧ (s.claimOf l).state = .granted) ∧ (∃ (s : State) (l : Load), s.loadUnfit l = false ∧
    s.toldUnfit l = true) ∧ (∃ (s : State) (l : Load), s.loadUnfit l = false ∧ s.toldUnfit l = false) ∧ (∃ (s :
    State), s.dvc.task = .none) ∧ (∃ (s : State) (o : PushOrigin) (target : Nat) (m : MoveState), s.dvc.task =
    .push o target m) ∧ (∃ (s : State) (left : Nat), s.dvc.task = .retract left) ∧ (∃ (s : State),
    (s.dvc.vent.step = .fanWait ∨ s.dvc.vent.step = .fan)) ∧ (∃ (s : State), s.dvc.vent.step ≠ .fanWait ∧
    s.dvc.vent.step ≠ .fan) ∧ (∃ (s : State), s.sfc.changeover = .claimed) ∧ (∃ (s : State), s.sfc.changeover =
    .aligning ∧ s.sfc.keptTrigger = false) ∧ (∃ (s : State), s.sfc.changeover = .aligning ∧ s.sfc.keptTrigger =
    true) ∧ (∃ (s : State), s.sfc.changeover ≠ .claimed ∧ s.sfc.changeover ≠ .aligning) ∧ (∃ (s : State) (c :
    Channel), (s.channel c).orders = []) ∧ (∃ (s : State) (c : Channel) (o : Order) (rest : List Order),
    (s.channel c).orders = o :: rest ∧ o.state = .sent) ∧ (∃ (s : State) (c : Channel) (o : Order) (rest : List
    Order), (s.channel c).orders = o :: rest ∧ o.state ≠ .sent) ∧ (∃ (s : State), s.on = true ∧ s.waits
    .tankHeater = true ∧ (s.claimOf .tankHeater).promoted = false) ∧ (∃ (s : State), (s.waits .tankHeater =
    false ∨ (s.claimOf .tankHeater).promoted = true)) ∧ (∃ (s : State) (left : Nat), s.on = true ∧
    s.lba.haltClearLeft = some left) ∧ (∃ (s : State), s.lba.haltClearLeft = none) ∧ (∃ (s : State) (before :
    List Load) (after : List Load) (a : Load) (b : Load), s.walkOrder = before ++ a :: b :: after) :=
  ⟨⟨held rs .rinsePump .waiting, .rinsePump, by decide⟩,
    ⟨lockedPart, .rinsePump, by decide⟩,
    ⟨rs.putSetting 12 0, by decide⟩,
    ⟨rs.onLba fun x => { x with inForce := 249 }, .rinsePump, by decide⟩,
    ⟨rs.onLba fun x => { x with inForce := 250 }, .rinsePump, by decide⟩,
    ⟨rs, .rinsePump, by decide⟩,
    ⟨held rs .rinsePump .waiting, .rinsePump, by decide⟩,
    ⟨held rs .rinsePump .granted, .rinsePump, by decide⟩,
    ⟨rs.onLba fun x => { x with settling := [{ load := .rinsePump, watts := 250, left := 40 }] },
      { load := .rinsePump, watts := 250, left := 40 }, [], by decide⟩,
    ⟨rs.onLba fun x => { x with settling := [{ load := .rinsePump, watts := 250, left := 40 }], inForce := 3601 },
      { load := .rinsePump, watts := 250, left := 40 }, [], by decide⟩,
    ⟨rs, by decide⟩,
    ⟨rs.onLba fun x => { x with inForce := 249 }, .rinsePump, by decide⟩,
    ⟨(held rs .rinsePump .waiting).onLba fun x => { x with inForce := 249 }, .rinsePump, by decide⟩,
    ⟨(held rs .rinsePump .granted).onLba fun x => { x with inForce := 249 }, .rinsePump, by decide⟩,
    ⟨rs.onLba fun x => { x with told := x.told.set 3 true }, .doorDrive, by decide⟩,
    ⟨rs, .doorDrive, by decide⟩,
    ⟨rs, by decide⟩,
    ⟨lk.onDvc fun d => { d with task := .push .panel 50 .delivered }, .panel, 50, .delivered, by decide⟩,
    ⟨lk.onDvc fun d => { d with task := .retract 5 }, 5, by decide⟩,
    ⟨lk.onDvc fun d => { d with vent := { d.vent with step := .fanWait } }, by decide⟩,
    ⟨rs, by decide⟩,
    ⟨lk.onSfc fun x => { x with changeover := .claimed }, by decide⟩,
    ⟨lk.onSfc fun x => { x with changeover := .aligning }, by decide⟩,
    ⟨lk.onSfc fun x => { x with changeover := .aligning, keptTrigger := true }, by decide⟩,
    ⟨rs, by decide⟩,
    ⟨det [], .det, by decide⟩,
    ⟨det [ord .sent true], .det, ord .sent true, [], by decide⟩,
    ⟨det [ord .queued true], .det, ord .queued true, [], by decide⟩,
    ⟨held rs .tankHeater .waiting, by decide⟩,
    ⟨rs, by decide⟩,
    ⟨rs.onLba fun x => { x with haltClearLeft := some 2000 }, 2000, by decide⟩,
    ⟨rs, by decide⟩,
    ⟨held (held rs .rinsePump .waiting) .tankHeater .waiting, [], [], .rinsePump, .tankHeater, by decide⟩⟩

/-- ChangeoverStartsMovesAndFails: states and operands that meet its hypotheses, clause by clause. -/
theorem test_witness_ChangeoverStartsMovesAndFails :
    (∃ (s : State), s.on = true ∧ s.sfc.changeover = .pending ∧ s.whu.owner = none ∧ s.locked = false ∧
    (s.claimOf .valveMotor).state = .idle ∧ s.loadUnfit .valveMotor = false) ∧ (∃ (s : State), s.on = true ∧
    s.sfc.changeover = .pending ∧ s.whu.owner = none ∧ s.locked = false ∧ (s.claimOf .valveMotor).state = .idle
    ∧ s.loadUnfit .valveMotor = true) ∧ (∃ (s : State), s.on = true ∧ (s.sfc.changeover ≠ .pending ∨
    s.whu.owner.isSome = true ∨ s.locked = true)) ∧ (∃ (s : State), s.on = true ∧ s.alignmentReady = true ∧
    (s.claimOf .valveMotor).state = .idle ∧ s.loadUnfit .valveMotor = false) ∧ (∃ (s : State), s.on = true ∧
    s.alignmentReady = false) ∧ (∃ (s : State), s.sfc.changeover = .claimed) ∧ (∃ (s : State) (left : Nat), s.on
    = true ∧ s.sfc.moveLeft = some left ∧ s.sfc.changeover = .moving) ∧ (∃ (s : State) (left : Nat), s.on = true
    ∧ s.sfc.moveLeft = some left ∧ s.sfc.changeover = .returning) ∧ (∃ (s : State) (left : Nat), s.on = true ∧
    s.sfc.moveLeft = some left ∧ s.sfc.changeover = .aligning) ∧ (∃ (s : State), s.sfc.moveLeft = none) ∧ (∃ (s
    : State), s.sfc.changeover = .returning) ∧ (∃ (s : State) (v : Valve), s.sfc.changeover = .returning ∧ v ≠
    .serves s.sfc.serviceCol) ∧ (∃ (s : State), s.sfc.changeover = .aligning) ∧ (∃ (s : State) (v : Valve),
    s.sfc.changeover = .aligning ∧ v ≠ .serves s.sfc.serve ∧ v ≠ .fault) ∧ (∃ (s : State), s.sfc.keptTrigger =
    false) ∧ (∃ (s : State), s.sfc.keptTrigger = true) ∧ (∃ (s : State), s.sfc.changeover = .claimed) ∧ (∃ (s :
    State), (s.sfc.changeover = .none ∨ s.sfc.changeover = .due ∨ s.sfc.changeover = .pending)) ∧ (∃ (s : State)
    (v : Valve), (s.sfc.changeover = .none ∨ s.sfc.changeover = .due ∨ s.sfc.changeover = .pending ∨
    s.sfc.changeover = .claimed) ∧ v ≠ .fault) ∧ (∃ (s : State) (v : Valve), v = .serves s.sfc.serve) ∧ (∃ (s :
    State) (v : Valve), v ≠ .serves s.sfc.serve) ∧ (∃ (s : State), s.sfc.changeover = .due ∧ (s.column
    s.sfc.target).state = .ready ∧ s.linked .softener = true ∧ s.hasFault .valveStuck 0 = false ∧ s.toldUnfit
    .valveMotor = false) ∧ (∃ (s : State), (s.sfc.changeover ≠ .due ∨ (s.column s.sfc.target).state ≠ .ready ∨
    s.linked .softener = false ∨ s.hasFault .valveStuck 0 = true ∨ s.toldUnfit .valveMotor = true)) ∧ (∃ (s :
    State), s.sfc.changeover = .pending ∧ s.whu.owner = none ∧ s.locked = false ∧ (s.claimOf .valveMotor).state
    = .idle ∧ s.loadUnfit .valveMotor = false) ∧ (∃ (s : State), s.sfc.changeover = .pending ∧ s.whu.owner =
    none ∧ s.locked = false ∧ (s.claimOf .valveMotor).state = .idle ∧ s.loadUnfit .valveMotor = true) ∧ (∃ (s :
    State), (s.sfc.changeover ≠ .pending ∨ s.whu.owner.isSome = true ∨ s.locked = true)) :=
  ⟨⟨(rs).onSfc fun x => { x with changeover := .pending }, by decide⟩,
    ⟨((rs).onSfc fun x => { x with changeover := .pending }).onLba fun x => { x with inForce := 19 }, by decide⟩,
    ⟨rs, by decide⟩,
    ⟨lk.onBay 1 fun b => { b with accepted := some 0x10 }, by decide⟩,
    ⟨rs, by decide⟩,
    ⟨(lk).onSfc fun x => { x with changeover := .claimed }, by decide⟩,
    ⟨(lk).onSfc fun x => { x with changeover := .moving, moveLeft := some 0 }, 0, by decide⟩,
    ⟨(lk).onSfc fun x => { x with changeover := .returning, moveLeft := some 0 }, 0, by decide⟩,
    ⟨(lk).onSfc fun x => { x with changeover := .aligning, moveLeft := some 0 }, 0, by decide⟩,
    ⟨rs, by decide⟩,
    ⟨lk.onSfc fun x => { x with changeover := .returning }, by decide⟩,
    ⟨lk.onSfc fun x => { x with changeover := .returning }, .serves .b, by decide⟩,
    ⟨lk.onSfc fun x => { x with changeover := .aligning }, by decide⟩,
    ⟨lk.onSfc fun x => { x with changeover := .aligning }, .moving, by decide⟩,
    ⟨rs, by decide⟩,
    ⟨lk.onSfc fun x => { x with changeover := .aligning, keptTrigger := true }, by decide⟩,
    ⟨lk.onSfc fun x => { x with changeover := .claimed }, by decide⟩,
    ⟨lk.onSfc fun x => { x with changeover := .due }, by decide⟩,
    ⟨lk.onSfc fun x => { x with changeover := .claimed }, .moving, by decide⟩,
    ⟨rs, .serves .a, by decide⟩,
    ⟨rs, .serves .b, by decide⟩,
    ⟨(lk.onColumn .b fun r => { r with state := .ready }).onSfc fun x => { x with changeover := .due, target := .b }, by
      decide⟩,
    ⟨rs.onSfc fun x => { x with changeover := .due, target := .b }, by decide⟩,
    ⟨rs.onSfc fun x => { x with changeover := .pending }, by decide⟩,
    ⟨(rs.onSfc fun x => { x with changeover := .pending }).onLba fun x => { x with inForce := 19 }, by decide⟩,
    ⟨rs, by decide⟩⟩

/-- RegenerationRunsItsPhases: states and operands that meet its hypotheses, clause by clause. -/
theorem test_witness_RegenerationRunsItsPhases :
    (∃ (s : State), s.on = true ∧ (s.column s.sfc.serviceCol.other).state = .exhausted ∧ s.linked .softener =
    true ∧ s.regenColumn = none) ∧ (∃ (s : State), s.on = true ∧ ((s.column s.sfc.serviceCol.other).state ≠
    .exhausted ∨ s.linked .softener = false ∨ s.regenColumn.isSome = true)) ∧ (∃ (s : State) (c : Column), s.on
    = true ∧ s.regenPaused = false ∧ s.regenColumn = some c ∧ (s.column c).state = .regenBrine ∧ s.sfc.brineSeen
    = true) ∧ (∃ (s : State) (c : Column), s.on = true ∧ s.regenPaused = false ∧ s.regenColumn = some c ∧
    (s.column c).state = .regenSlow) ∧ (∃ (s : State) (c : Column), s.on = true ∧ s.regenPaused = false ∧
    s.regenColumn = some c ∧ (s.column c).state = .regenFast) ∧ (∃ (s : State), (s.regenPaused = true ∨
    s.regenColumn = none)) ∧ (∃ (s : State), s.on = true ∧ s.whu.phase ≠ .opened ∧ s.whu.runOn = none ∧
    s.sfc.changeover = .none ∧ s.linked .softener = false ∧ 0 < (s.column s.sfc.serviceCol).capacity ∧ (s.column
    s.sfc.serviceCol).capacity ≤ (s.sfc.acc + s.num SettingIx.inletHardness) / s.k) ∧ (∃ (s : State) (c :
    Column), s.on = true ∧ s.regenPaused = false ∧ s.regenColumn = some c ∧ (s.column c).state = .regenBrine ∧
    s.sfc.brineSeen = false) ∧ (∃ (s : State) (o : Octet), s.on = true ∧ s.whu.phase ≠ .opened ∧ s.whu.runOn =
    none ∧ 0 < (s.column s.sfc.serviceCol).capacity ∧ (s.column s.sfc.serviceCol).capacity ≤ (s.sfc.acc + s.num
    SettingIx.inletHardness) / s.k ∧ s.indication .softener = some o ∧ o.toNat % 4 = 0) ∧ (∃ (s : State), s.on =
    true ∧ s.whu.phase ≠ .opened ∧ s.whu.runOn = none ∧ 0 < (s.column s.sfc.serviceCol).capacity ∧ (s.column
    s.sfc.serviceCol).capacity ≤ (s.sfc.acc + s.num SettingIx.inletHardness) / s.k ∧ ((∀ o : Octet, s.indication
    .softener = some o → o.toNat % 4 ≠ 0))) ∧ (∃ (s : State), s.on = true ∧ 0 < (s.column
    s.sfc.serviceCol).capacity ∧ (s.column s.sfc.serviceCol).capacity ≤ (s.sfc.acc + s.num
    SettingIx.inletHardness) / s.k ∧ s.whu.phase = .opened ∧ s.whu.owner = some .tankFill) ∧ (∃ (s : State),
    s.on = true ∧ 0 < (s.column s.sfc.serviceCol).capacity ∧ (s.column s.sfc.serviceCol).capacity ≤ (s.sfc.acc +
    s.num SettingIx.inletHardness) / s.k ∧ s.whu.phase = .opened ∧ s.whu.owner = some .rinse) ∧ (∃ (s : State)
    (w : RunOn), s.on = true ∧ 0 < (s.column s.sfc.serviceCol).capacity ∧ (s.column s.sfc.serviceCol).capacity ≤
    (s.sfc.acc + s.num SettingIx.inletHardness) / s.k ∧ s.whu.phase ≠ .opened ∧ s.whu.runOn = some w ∧ w.user =
    .tankFill) ∧ (∃ (s : State) (w : RunOn), s.on = true ∧ 0 < (s.column s.sfc.serviceCol).capacity ∧ (s.column
    s.sfc.serviceCol).capacity ≤ (s.sfc.acc + s.num SettingIx.inletHardness) / s.k ∧ s.whu.phase ≠ .opened ∧
    s.whu.runOn = some w ∧ w.user = .rinse) ∧ (∃ (s : State), s.on = true) ∧ (∃ (s : State) (c : Column) (o :
    Octet), s.regenColumn = some c ∧ isBrineFlow o = true ∧ (s.column c).state = .regenBrine ∧ s.regenPaused =
    false) ∧ (∃ (s : State) (c : Column) (o : Octet), s.regenColumn = some c ∧ (isBrineFlow o = false ∨
    (s.column c).state ≠ .regenBrine ∨ s.regenPaused = true)) ∧ (∃ (s : State) (c : Column) (p : Octet) (o :
    Octet), s.regenColumn = some c ∧ isSaltLow p = true ∧ isSaltLow o = true ∧ (s.column c).state = .regenBrine)
    ∧ (∃ (s : State) (c : Column) (p : Octet) (o : Octet), s.regenColumn = some c ∧ isSaltLow p = true ∧
    isSaltLow o = true ∧ (s.column c).state ≠ .regenBrine) ∧ (∃ (s : State) (p : Octet) (o : Octet), 2 ≤ o.toNat
    % 4 ∧ p.toNat % 4 < 2 ∧ 0 < (s.column s.sfc.serviceCol).capacity) ∧ (∃ (s : State) (p : Octet) (o : Octet),
    (o.toNat % 4 < 2 ∨ 2 ≤ p.toNat % 4 ∨ (s.column s.sfc.serviceCol).capacity = 0)) ∧ (∃ (s : State),
    s.sfc.changeover = .none ∧ (s.column s.sfc.serviceCol.other).state = .ready ∧ s.linked .softener = true ∧
    s.hasFault .valveStuck 0 = false) ∧ (∃ (s : State), s.sfc.changeover = .none ∧ ((s.column
    s.sfc.serviceCol.other).state ≠ .ready ∨ s.linked .softener = false ∨ s.hasFault .valveStuck 0 = true)) ∧ (∃
    (s : State), s.sfc.changeover = .aligning) ∧ (∃ (s : State), (s.sfc.changeover = .due ∨ s.sfc.changeover =
    .pending ∨ s.sfc.changeover = .claimed ∨ s.sfc.changeover = .moving ∨ s.sfc.changeover = .returning)) :=
  ⟨⟨(lk).onSfc fun x => { x with colB := { x.colB with state := .exhausted } }, by decide⟩,
    ⟨rs, by decide⟩,
    ⟨(lk).onSfc fun x => { x with colB := { x.colB with state := .regenBrine }, brineSeen := true }, .b, by decide⟩,
    ⟨(lk).onSfc fun x => { x with colB := { x.colB with state := .regenSlow } }, .b, by decide⟩,
    ⟨(lk).onSfc fun x => { x with colB := { x.colB with state := .regenFast } }, .b, by decide⟩,
    ⟨rs, by decide⟩,
    ⟨rs.onSfc fun x => { x with acc := 479, colA := { x.colA with capacity := 1 } }, by decide⟩,
    ⟨(lk).onSfc fun x => { x with colB := { x.colB with state := .regenBrine }, brineSeen := false }, .b, by decide⟩,
    ⟨((lk.onBay 1 fun _ => { candidate := none, accepted := some 0 }).onColumn .a fun r =>
      { r with capacity := 5 }).onSfc fun x => { x with acc := 5000 }, 0, by decide⟩,
    ⟨(rs.onColumn .a fun r => { r with capacity := 5 }).onSfc fun x => { x with acc := 5000 }, by decide, by
      decide, by decide, by decide, by decide, (fun _ h => by cases h)⟩,
    ⟨(whu fun x => { x with phase := .opened, owner := some .tankFill }).onSfc fun x => { x with acc := 479, colA := { x.colA with capacity := 1 } }, by decide⟩,
    ⟨((cyc .rinse).onWhu fun x => { x with phase := .opened, owner := some .rinse }).onSfc fun x => { x with acc := 479, colA := { x.colA with capacity := 1 } }, by decide⟩,
    ⟨(whu fun x => { x with runOn := some { user := .tankFill, outcome := .released, pulses := 7, left := 0 } }).onSfc fun x =>
      { x with acc := 479, colA := { x.colA with capacity := 1 } }, { user := .tankFill, outcome := .released, pulses := 7, left := 0 }, by decide⟩,
    ⟨(whu fun x => { x with runOn := some { user := .rinse, outcome := .released, pulses := 7, left := 0 } }).onSfc fun x =>
      { x with acc := 479, colA := { x.colA with capacity := 1 } }, { user := .rinse, outcome := .released, pulses := 7, left := 0 }, by decide⟩,
    ⟨rs, by decide⟩,
    ⟨(lk.onColumn .b fun r => { r with state := .regenBrine }), .b, 8, by decide⟩,
    ⟨(lk.onColumn .b fun r => { r with state := .regenSlow }), .b, 8, by decide⟩,
    ⟨(lk.onColumn .b fun r => { r with state := .regenBrine }), .b, 4, 4, by decide⟩,
    ⟨(lk.onColumn .b fun r => { r with state := .regenSlow }), .b, 4, 4, by decide⟩,
    ⟨rs.onColumn .a fun r => { r with capacity := 1 }, 1, 2, by decide⟩,
    ⟨rs, 3, 1, by decide⟩,
    ⟨lk.onColumn .b fun r => { r with state := .ready }, by decide⟩,
    ⟨rs, by decide⟩,
    ⟨(lk).onSfc fun x => { x with changeover := .aligning }, by decide⟩,
    ⟨(lk).onSfc fun x => { x with changeover := .moving }, by decide⟩⟩

/-- OrdersStartAreWatchedAndEnd: states and operands that meet its hypotheses, clause by clause. -/
theorem test_witness_OrdersStartAreWatchedAndEnd :
    (∃ (c : Channel) (s : State), s.on = true ∧ s.orderReady c = true ∧ (s.claimOf (channelLoad c)).state = .idle ∧
    s.loadUnfit (channelLoad c) = false) ∧ (∃ (c : Channel) (o : Order) (rest : List Order) (s : State), (s.channel
    c).orders = o :: rest) ∧ (∃ (c : Channel) (s : State), s.on = true ∧ s.orderReady c = false) ∧ (∃ (c : Channel)
    (a : Addr) (o : Order) (rest : List Order) (n : Nat) (s : State), (s.channel c).orders = o :: rest ∧ o.amount =
    .steps n ∧ o.started = true ∧ o.state = .queued ∧ s.moduleOf (channelKind c) = some a ∧ s.linkedAt a = true ∧
    s.mbi.queue.length < 8 ∧ s.mbi.down.phase ≠ .idle) ∧ (∃ (c : Channel) (left : Nat) (s : State), s.on = true ∧
    s.watchdogLeft c = some left) ∧ (∃ (c : Channel) (s : State), s.watchdogLeft c = none) ∧ (∃ (a : Addr) (tag :
    Octet) (o : Order) (n : Nat) (s : State), s.on = true ∧ s.moduleOf .doseDet = some a ∧ s.sentOrder .det = some o
    ∧ o.tag = tag ∧ o.amount = .steps n) ∧ (∃ (a : Addr) (tag : Octet) (s : State), s.on = true ∧ s.moduleOf
    .doseDet = some a ∧ ((∀ o, s.sentOrder .det = some o → o.tag ≠ tag))) ∧ (∃ (a : Addr) (s : State), s.on = true ∧
    s.moduleOf .doseDet ≠ some a ∧ s.moduleOf .doseRa ≠ some a) ∧ (∃ (c : Channel) (a : Addr) (tag : Octet) (o :
    Order) (s : State), s.on = true ∧ s.moduleOf (channelKind c) = some a ∧ s.sentOrder c = some o ∧ o.tag = tag) ∧
    (∃ (s : State), s.dsc.flush = true ∧ s.dsc.ra.orders = []) ∧ (∃ (s : State), (s.dsc.flush = false ∨
    s.dsc.ra.orders ≠ [])) ∧ (∃ (c : Channel) (a : Addr) (o : Order) (rest : List Order) (s : State), (s.channel
    c).orders = o :: rest ∧ o.started = true ∧ o.state = .queued ∧ s.moduleOf (channelKind c) = some a) :=
  ⟨⟨.det, det [ord .queued false], by decide⟩,
    ⟨.det, ord .queued false, [], det [ord .queued false], by decide⟩,
    ⟨.det, rs, by decide⟩,
    ⟨.det, 2, ord .queued true, [], 3, (det [ord .queued true]).onMbi fun m =>
      { m with down := { m.down with phase := .prepare }, queue := List.replicate 7 (msg .msu false) }, by decide⟩,
    ⟨.det, 0, (held (det [ord .sent true]) .doserDet .granted).onChannel .det fun r =>
      { r with watchdogLeft := some 0 }, by decide⟩,
    ⟨.det, rs, by decide⟩,
    ⟨2, 9, ord .sent true, 3, det [ord .sent true], by decide⟩,
    ⟨2, 8, det [ord .sent true], by decide, by decide, (fun o h => by cases h; decide)⟩,
    ⟨7, rs, by decide⟩,
    ⟨.ra, 3, 9, ord .sent true, lk.onDsc fun d => { d with ra := { d.ra with orders := [ord .sent true] } }, by
      decide⟩,
    ⟨rs.onDsc fun d => { d with flush := true }, by decide⟩,
    ⟨rs, by decide⟩,
    ⟨.det, 2, { ord .queued true with amount := .seconds 60 }, [], det
      [{ ord .queued true with amount := .seconds 60 }], by decide⟩⟩

/-- DoorTimersAndPusherEnd: states and operands that meet its hypotheses, clause by clause. -/
theorem test_witness_DoorTimersAndPusherEnd :
    (∃ (s : State) (left : Nat), s.on = true ∧ s.dvc.releaseLeft = some left ∧ s.dvc.vent.step ≠ .unlatch) ∧ (∃
    (s : State) (left : Nat), s.on = true ∧ s.dvc.releaseLeft = some left ∧ s.dvc.vent.step = .unlatch) ∧ (∃ (s
    : State), s.dvc.releaseLeft = none) ∧ (∃ (s : State) (left : Nat), s.on = true ∧ s.dvc.vent.step = .fan ∧
    s.dvc.vent.timerLeft = some left) ∧ (∃ (s : State) (left : Nat), s.on = true ∧ s.dvc.vent.step = .fan ∧
    s.dvc.vent.coolingLeft = some left) ∧ (∃ (s : State), s.dvc.vent.step ≠ .fan) ∧ (∃ (s : State), (s.claimOf
    .ventFan).state = .idle ∧ s.csq.phase ≠ .vent) ∧ (∃ (s : State), s.on = true ∧ s.dvc.task = .none ∧
    s.dvc.owed = true ∧ s.dvc.latch = false ∧ s.linked .door = true ∧ s.hasFault .doorObstructed 0 = false ∧
    s.locked = false ∧ (s.claimOf .doorDrive).state = .idle ∧ s.loadUnfit .doorDrive = false) ∧ (∃ (s : State),
    s.on = true ∧ (s.dvc.task ≠ .none ∨ s.dvc.owed = false ∨ s.dvc.latch = true ∨ s.linked .door = false ∨
    s.hasFault .doorObstructed 0 = true ∨ s.locked = true)) ∧ (∃ (s : State), s.retractReady = true ∧ (s.claimOf
    .doorDrive).state = .idle ∧ s.loadUnfit .doorDrive = true) ∧ (∃ (s : State), s.retractReady = true ∧
    s.dvc.retractHeld = false) ∧ (∃ (s : State), s.retractReady = true ∧ s.dvc.retractHeld = true) ∧ (∃ (s :
    State), s.retractReady = false) ∧ (∃ (s : State) (left : Nat), s.on = true ∧ s.dvc.task = .retract left ∧
    s.dvc.vent.step ≠ .retract) ∧ (∃ (s : State), s.dvc.task = .none) ∧ (∃ (a : Addr) (reason : Octet) (o :
    PushOrigin) (target : Nat) (s : State), s.on = true ∧ s.moduleOf .door = some a ∧ (s.dvc.task = .push o
    target .queued ∨ s.dvc.task = .push o target .delivered) ∧ s.dvc.vent.step ≠ .push ∧ reason ≠ 1#8 ∧
    reason.toNat ≤ 3 ∧ s.dvc.latch = true) ∧ (∃ (a : Addr) (s : State), s.on = true ∧ s.moduleOf .door = some a
    ∧ s.movedTaken = false) ∧ (∃ (a : Addr) (s : State), s.on = true ∧ s.moduleOf .door ≠ some a) ∧ (∃ (s :
    State), s.linked .door = false) ∧ (∃ (s : State), s.linked .door = true ∧ s.latchEngaged = some false) ∧ (∃
    (s : State), s.linked .door = true ∧ s.latchEngaged ≠ some false) ∧ (∃ (s : State), (s.onVent fun v : Vent
    => { v with step := .push }).hasFault .doorObstructed 0 = true) ∧ (∃ (s : State), (s.onVent fun v : Vent =>
    { v with step := .push }).hasFault .doorObstructed 0 = false ∧ (s.onVent fun v : Vent => { v with step :=
    .push }).dvc.door = .opened) ∧ (∃ (s : State) (u : State), (s.onVent fun v : Vent => { v with step := .push
    }).hasFault .doorObstructed 0 = false ∧ (s.onVent fun v : Vent => { v with step := .push }).dvc.door ≠
    .opened ∧ (s.onVent fun v : Vent => { v with step := .push }).startPush .vent (min (s.onVent fun v : Vent =>
    { v with step := .push }).dvc.vent.pct ((s.onVent fun v : Vent => { v with step := .push }).caps
    .door).maxPct) = (u, true)) ∧ (∃ (s : State) (u : State), (s.onVent fun v : Vent => { v with step := .push
    }).hasFault .doorObstructed 0 = false ∧ (s.onVent fun v : Vent => { v with step := .push }).dvc.door ≠
    .opened ∧ (s.onVent fun v : Vent => { v with step := .push }).startPush .vent (min (s.onVent fun v : Vent =>
    { v with step := .push }).dvc.vent.pct ((s.onVent fun v : Vent => { v with step := .push }).caps
    .door).maxPct) = (u, false)) ∧ (∃ (s : State), ((s.onVent fun v : Vent => { v with step := .retract
    }).startRetract).retracting = true) ∧ (∃ (s : State), ((s.onVent fun v : Vent => { v with step := .retract
    }).startRetract).retracting = false) ∧ (∃ (s : State), s.dvc.vent.closedByUser = true) ∧ (∃ (s : State),
    s.dvc.vent.closedByUser = false ∧ s.dvc.vent.secs = 0) ∧ (∃ (s : State), s.dvc.vent.closedByUser = false ∧
    s.dvc.vent.secs ≠ 0) ∧ (∃ (s : State), (s.claimOf .ventFan).state = .idle ∧ s.locked = true) ∧ (∃ (s :
    State), (s.claimOf .ventFan).state = .idle ∧ s.locked = false ∧ s.loadUnfit .ventFan = false) ∧ (∃ (s :
    State), (s.claimOf .ventFan).state = .idle ∧ s.locked = false ∧ s.loadUnfit .ventFan = true) ∧ (∃ (s :
    State), s.dvc.vent.step = .fanWait) ∧ (∃ (s : State), s.dvc.vent.step ≠ .fanWait) ∧ (∃ (s : State),
    s.csq.phase = .vent) ∧ (∃ (a : Addr) (o : PushOrigin) (target : Nat) (s : State), s.on = true ∧ s.moduleOf
    .door = some a ∧ (s.dvc.task = .push o target .queued ∨ s.dvc.task = .push o target .delivered) ∧ (s.claimOf
    .doorDrive).state ≠ .idle) ∧ (∃ (s : State) (step : VentStep), s.dvc.vent.step ≠ step) ∧ (∃ (s : State)
    (confirmed : Bool), s.dvc.vent.step = .unlatch ∧ confirmed = true) ∧ (∃ (s : State) (confirmed : Bool),
    s.dvc.vent.step = .unlatch ∧ confirmed = false) ∧ (∃ (s : State), s.dvc.vent.step = .push ∧ s.dvc.door =
    .closed ∧ s.dvc.vent.fanOnly = false) ∧ (∃ (s : State) (retracted : Bool), s.dvc.vent.step = .retract ∧
    retracted = true ∧ (s.dvc.door ≠ .closed ∨ s.dvc.vent.fanOnly = true)) ∧ (∃ (s : State) (retracted : Bool),
    s.dvc.vent.step = .retract ∧ retracted = true ∧ s.dvc.door = .closed ∧ s.dvc.vent.fanOnly = false) ∧ (∃ (s :
    State), (s.dvc.vent.step = .fanWait ∨ s.dvc.vent.step = .fan) ∧ s.dvc.door = .closed ∧ s.dvc.vent.fanOnly =
    false) ∧ (∃ (s : State), (s.dvc.vent.step = .fanWait ∨ s.dvc.vent.step = .fan) ∧ (s.dvc.door ≠ .closed ∨
    s.dvc.vent.fanOnly = true)) ∧ (∃ (s : State) (a : Addr) (o : PushOrigin) (target : Nat), s.dvc.task = .push
    o target .claimed ∧ s.moduleOf .door = some a ∧ s.linkedAt a = true ∧ s.granted .doorDrive = true) :=
  ⟨⟨(rs).onDvc fun d => { d with releaseLeft := some 2000 }, 2000, by decide⟩,
    ⟨(rs).onDvc fun d => { d with releaseLeft := some 0, vent := { d.vent with step := .unlatch } }, 0, by decide⟩,
    ⟨rs, by decide⟩,
    ⟨(rs).onDvc fun d => { d with vent := { d.vent with step := .fan, timerLeft := some 5 } }, 5, by decide⟩,
    ⟨(rs).onDvc fun d => { d with vent := { d.vent with step := .fan, coolingLeft := some 5 } }, 5, by decide⟩,
    ⟨rs, by decide⟩,
    ⟨rs, by decide⟩,
    ⟨(lk).onDvc fun d => { d with owed := true }, by decide⟩,
    ⟨rs, by decide⟩,
    ⟨((lk).onDvc fun d => { d with owed := true }).onLba fun x => { x with inForce := 39 }, by decide⟩,
    ⟨(lk).onDvc fun d => { d with owed := true }, by decide⟩,
    ⟨(lk).onDvc fun d => { d with owed := true, retractHeld := true }, by decide⟩,
    ⟨rs, by decide⟩,
    ⟨(rs).onDvc fun d => { d with task := .retract 0 }, 0, by decide⟩,
    ⟨rs, by decide⟩,
    ⟨0, 3, .panel, 50, (rs).onDvc fun d => { d with task := .push .panel 50 .queued, latch := true }, by decide⟩,
    ⟨0, rs, by decide⟩,
    ⟨7, rs, by decide⟩,
    ⟨rs, by decide⟩,
    ⟨lk.onDvc fun d => { d with bits := some { latch := false, fan := false, home := true } }, by decide⟩,
    ⟨lk, by decide⟩,
    ⟨lockedPart, by decide⟩,
    ⟨(rs).onDvc fun d => { d with door := .opened }, by decide⟩,
    ⟨withFaults rs [faultOf .tankOvertemp 0 .lockout true true], (((withFaults rs [faultOf .tankOvertemp 0
      .lockout true true]).onVent fun v : Vent => { v with step := .push }).startPush .vent (min ((withFaults rs
      [faultOf .tankOvertemp 0 .lockout true true]).onVent fun v : Vent => { v with step := .push }).dvc.vent.pct
      (((withFaults rs [faultOf .tankOvertemp 0 .lockout true true]).onVent fun v : Vent =>
      { v with step := .push }).caps .door).maxPct)).1, by decide, by decide, (Prod.ext rfl (by decide))⟩,
    ⟨rs, (((rs).onVent fun v : Vent => { v with step := .push }).startPush .vent (min ((rs).onVent fun v : Vent =>
      { v with step := .push }).dvc.vent.pct (((rs).onVent fun v : Vent => { v with step := .push }).caps
      .door).maxPct)).1, by decide, by decide, (Prod.ext rfl (by decide))⟩,
    ⟨(lk).onDvc fun d => { d with owed := true, latch := false }, by decide⟩,
    ⟨rs, by decide⟩,
    ⟨(rs).onDvc fun d => { d with vent := { d.vent with closedByUser := true } }, by decide⟩,
    ⟨(rs).onDvc fun d => { d with vent := { d.vent with closedByUser := false, secs := 0 } }, by decide⟩,
    ⟨(rs).onDvc fun d => { d with vent := { d.vent with closedByUser := false, secs := 5 } }, by decide⟩,
    ⟨lockedPart, by decide⟩,
    ⟨rs, by decide⟩,
    ⟨rs.onLba fun x => { x with inForce := 39 }, by decide⟩,
    ⟨rs.onDvc fun d => { d with vent := { d.vent with step := .fanWait } }, by decide⟩,
    ⟨rs, by decide⟩,
    ⟨cyc .vent, by decide⟩,
    ⟨0, .vent, 50, ((rs).onDvc fun d =>
      { d with task := .push .vent 50 .delivered, vent := { d.vent with step := .push } }).onClaim .doorDrive fun c
      => { c with state := .granted }, by decide⟩,
    ⟨rs, .fan, by decide⟩,
    ⟨rs.onDvc fun d => { d with vent := { d.vent with step := .unlatch } }, true, by decide⟩,
    ⟨rs.onDvc fun d => { d with vent := { d.vent with step := .unlatch } }, false, by decide⟩,
    ⟨rs.onDvc fun d => { d with door := .closed, vent := { d.vent with step := .push, fanOnly := false } }, by
      decide⟩,
    ⟨rs.onDvc fun d => { d with door := .opened, vent := { d.vent with step := .retract, fanOnly := false } },
      true, by decide⟩,
    ⟨rs.onDvc fun d => { d with door := .closed, vent := { d.vent with step := .retract, fanOnly := false } },
      true, by decide⟩,
    ⟨rs.onDvc fun d => { d with door := .closed, vent := { d.vent with step := .fanWait, fanOnly := false } }, by
      decide⟩,
    ⟨rs.onDvc fun d => { d with door := .closed, vent := { d.vent with step := .fan, fanOnly := true } }, by decide⟩,
    ⟨(held lk .doorDrive .granted).onDvc fun d => { d with task := .push .panel 100 .claimed }, 0, .panel, 100, by
      decide⟩⟩

/-- FrameEndTakesEveryBayAndBuildsTheNext: states and operands that meet its hypotheses, clause by clause. -/
theorem test_witness_FrameEndTakesEveryBayAndBuildsTheNext :
    (∃ (up : UpFrame) (s : State), s.on = true ∧ s.mbi.line = .running ∧ (s.endFrame up).finish.mbi.line =
    .running) ∧ (∃ (up : UpFrame) (s : State), s.on = true ∧ s.mbi.line = .running ∧ (s.endFrame
    up).finish.mbi.line ≠ .running) ∧ (∃ (s : State) (left : Nat), s.on = true ∧ s.mbi.line = .brk left) ∧ (∃ (n
    : Nat), n < 256) ∧ (∃ (s : State) (a : Addr) (o : Octet) (n : Nat), (s.entry a).link ≠ .linked ∧ (s.bay
    a).accepted ≠ some o ∧ (s.bay a).candidate = some (o, n) ∧ (n + 1) % 256 = s.mbi.frameNo) ∧ (∃ (s : State)
    (a : Addr) (o : Octet), (s.bay a).accepted ≠ some o ∧ ((∀ n, (s.bay a).candidate = some (o, n) → (n + 1) %
    256 ≠ s.mbi.frameNo))) ∧ (∃ (up : UpFrame) (s : State) (a : Addr), State.bayGood up a = false ∧ (s.entry
    a).link = .notExpected) ∧ (∃ (s : State) (a : Addr), s.kindAt a = .door) ∧ (∃ (s : State) (a : Addr),
    s.kindAt a = .softener) ∧ (∃ (s : State) (a : Addr) (c : Column), s.kindAt a = .softener ∧ s.regenColumn =
    some c) ∧ (∃ (s : State) (a : Addr), s.kindAt a = .softener ∧ s.regenColumn = none) ∧ (∃ (s : State) (a :
    Addr), s.kindAt a = .doseDet) ∧ (∃ (s : State) (a : Addr), s.kindAt a = .doseRa) ∧ (∃ (s : State) (a : Addr)
    (o : Octet), (s.bay a).accepted = some o) ∧ (∃ (s : State) (a : Addr) (o : Octet) (n : Nat), (s.entry
    a).link = .linked ∧ (s.bay a).accepted ≠ some o ∧ (s.bay a).candidate = some (o, n) ∧ (n + 1) % 256 =
    s.mbi.frameNo ∧ s.moduleOf (s.kindAt a) = some a ∧ s.kindAt a = .door) ∧ (∃ (s : State) (a : Addr) (o :
    Octet) (n : Nat), (s.entry a).link = .linked ∧ (s.bay a).accepted ≠ some o ∧ (s.bay a).candidate = some (o,
    n) ∧ (n + 1) % 256 = s.mbi.frameNo ∧ s.moduleOf (s.kindAt a) = some a ∧ s.kindAt a = .softener) ∧ (∃ (s :
    State) (a : Addr) (o : Octet) (n : Nat), (s.entry a).link = .linked ∧ (s.bay a).accepted ≠ some o ∧ (s.bay
    a).candidate = some (o, n) ∧ (n + 1) % 256 = s.mbi.frameNo ∧ s.moduleOf (s.kindAt a) = some a ∧ (s.kindAt a
    = .doseDet ∨ s.kindAt a = .doseRa)) ∧ (∃ (up : UpFrame) (a : Addr), State.bayGood up a = true) ∧ (∃ (up :
    UpFrame) (s : State) (a : Addr), State.bayGood up a = false ∧ (s.entry a).link = .linked ∧ 16 ≤ (s.entry
    a).silent + 1) ∧ (∃ (up : UpFrame) (s : State) (a : Addr), State.bayGood up a = false ∧ (s.entry a).link =
    .linked ∧ (s.entry a).silent + 1 < 16 ∧ (s.entry a).bringUp = .count 0 ∧ (s.entry a).unpinLeft = none) ∧ (∃
    (up : UpFrame) (s : State) (a : Addr), State.bayGood up a = false ∧ ((s.entry a).link = .seeking ∨ (s.entry
    a).link = .lost) ∧ (∃ n, (s.entry a).bringUp = .count n) ∧ (s.entry a).unpinLeft = none) ∧ (∃ (s : State),
    s.dvc.vent.step = .none ∧ s.csq.phase = .idle ∧ s.retracting = false ∧ s.dvc.blockedGone = false ∧
    s.dvc.latchGone = false ∧ s.hasFault .doorBlocked 0 = false) ∧ (∃ (s : State) (o : Octet) (left : Nat),
    s.dvc.vent.step = .none ∧ s.csq.phase = .idle ∧ s.dvc.task = .retract left ∧ (doorBitsOf o).home = true ∧
    s.dvc.blockedGone = false ∧ s.dvc.latchGone = false ∧ s.hasFault .doorBlocked 0 = false) ∧ (∃ (s : State),
    s.csq.phase = .rinseWait ∧ s.latchEngaged = some true) ∧ (∃ (s : State), s.csq.phase = .rinseWait ∧
    s.latchEngaged = some false ∧ s.csq.rinseWait.confirmed = true) ∧ (∃ (s : State), s.csq.phase = .rinseWait ∧
    s.latchEngaged = some false ∧ s.csq.rinseWait.confirmed = false) ∧ (∃ (s : State), s.sfc.changeover =
    .moving ∧ s.sfc.target ≠ s.sfc.serviceCol) ∧ (∃ (s : State), s.sfc.changeover = .moving) ∧ (∃
    (previous : Option Octet) (o : Octet), isSaltLow o = true ∧ ((∀ p, previous = some p → isSaltLow p =
    false))) ∧ (∃ (previous : Option Octet) (o : Octet), isSaltLow o = true ∧ (∃ p, previous = some
    p ∧ isSaltLow p = true)) ∧ (∃ (s : State) (o : Octet), isSaltLow o = false ∧ s.sfc.saltLow = true) ∧ (∃ (s :
    State) (o : Octet), isSaltLow o = false ∧ s.sfc.saltLow = false) ∧ (∃ (s : State), s.whu.phase ≠ .opening) ∧
    (∃ (s : State) (a : Addr), s.whu.phase = .opening ∧ s.moduleOf .softener = some a ∧ ((s.mbi.dn.get ⟨2 *
    a.val, by omega⟩).getLsbD 7 = true ∨ (s.mbi.dn.get ⟨2 * a.val, by omega⟩).getLsbD 6 = true)) ∧ (∃ (s :
    State), s.whu.phase = .opening ∧ ((∀ a : Addr, s.moduleOf .softener = some a → (s.mbi.dn.get ⟨2 * a.val, by
    omega⟩).getLsbD 7 = false ∧ (s.mbi.dn.get ⟨2 * a.val, by omega⟩).getLsbD 6 = false)) ∧ s.whu.runOn = none) ∧
    (∃ (s : State) (w : RunOn), s.whu.phase = .opening ∧ ((∀ a : Addr, s.moduleOf .softener = some a →
    (s.mbi.dn.get ⟨2 * a.val, by omega⟩).getLsbD 7 = false ∧ (s.mbi.dn.get ⟨2 * a.val, by omega⟩).getLsbD 6 =
    false)) ∧ s.whu.runOn = some w) ∧ (∃ (s : State), s.lba.halt = false) ∧ (∃ (s : State), s.lba.halt = true) ∧
    (∃ (s : State), s.lba.halt = true ∧ s.lba.haltClearLeft = none ∧ s.lba.released = 0) ∧ (∃ (s : State),
    s.lba.halt = true ∧ s.lba.haltClearLeft = none ∧ s.lba.released ≠ 0) ∧ (∃ (s : State), (s.lba.halt = false ∨
    s.lba.haltClearLeft ≠ none)) ∧ (∃ (s : State), (s.raise .doorObstructed 0 .stop).dvc.task = .none) ∧ (∃ (s :
    State) (o : PushOrigin) (target : Nat), (s.raise .doorObstructed 0 .stop).dvc.task = .push o target
    .delivered) ∧ (∃ (s : State) (o : PushOrigin) (target : Nat), ((s.raise .doorObstructed 0 .stop).dvc.task =
    .push o target .claimed ∨ (s.raise .doorObstructed 0 .stop).dvc.task = .push o target .queued)) ∧ (∃ (s :
    State) (left : Nat), (s.raise .doorObstructed 0 .stop).dvc.task = .retract left) ∧ (∃ (s : State),
    s.dvc.vent.step = .push) ∧ (∃ (s : State), s.dvc.vent.step = .retract) ∧ (∃ (s : State), s.dvc.vent.step ≠
    .push ∧ s.dvc.vent.step ≠ .retract) :=
  ⟨⟨Vector.replicate 24 0xFF#8, lk, by decide⟩,
    ⟨Vector.replicate 24 0#8, lk.onMsu fun m => { m with stuckCount := 15 }, by decide⟩,
    ⟨rs, 8, by decide⟩,
    ⟨255, by decide⟩,
    ⟨rs.onBay 0 fun _ => { candidate := some (5, 255), accepted := none }, 0, 5, 255, by decide⟩,
    ⟨rs, 0, 5, by decide, (fun _ h => by cases h)⟩,
    ⟨Vector.replicate 24 0xFF#8, rs, 7, by decide⟩,
    ⟨rs, 0, by decide⟩,
    ⟨rs, 1, by decide⟩,
    ⟨(lk).onSfc fun x => { x with colB := { x.colB with state := .regenBrine } }, 1, .b, by decide⟩,
    ⟨rs, 1, by decide⟩,
    ⟨rs, 2, by decide⟩,
    ⟨rs, 3, by decide⟩,
    ⟨rs.onBay 0 fun b => { b with accepted := some 5 }, 0, 5, by decide⟩,
    ⟨(lk.onBay 0 fun _ => { candidate := some (5, 255), accepted := none }), 0, 5, 255, by decide⟩,
    ⟨(lk.onBay 1 fun _ => { candidate := some (5, 255), accepted := none }), 1, 5, 255, by decide⟩,
    ⟨(lk.onBay 3 fun _ => { candidate := some (5, 255), accepted := none }), 3, 5, 255, by decide⟩,
    ⟨Vector.replicate 24 0#8, 0, by decide⟩,
    ⟨(Vector.replicate 24 0xFF#8), lk.onEntry 0 fun e => { e with silent := 15 }, 0, by decide⟩,
    ⟨(Vector.replicate 24 0xFF#8), lk, 0, by decide⟩,
    ⟨(Vector.replicate 24 0xFF#8), rs, 0, by decide, by decide, (⟨0, by decide⟩), by decide⟩,
    ⟨rs, by decide⟩,
    ⟨(rs).onDvc fun d => { d with task := .retract 5 }, 4, 5, by decide⟩,
    ⟨(cyc .rinseWait).onDvc fun d => { d with bits := some { latch := true, fan := false, home := true } }, by
      decide⟩,
    ⟨((cyc .rinseWait).onDvc fun d =>
      { d with bits := some { latch := false, fan := false, home := true } }).onCsq fun c =>
      { c with rinseWait := { c.rinseWait with confirmed := true } }, by decide⟩,
    ⟨(cyc .rinseWait).onDvc fun d => { d with bits := some { latch := false, fan := false, home := true } }, by
      decide⟩,
    ⟨(lk).onSfc fun x => { x with changeover := .moving, target := .b }, by decide⟩,
    ⟨(lk).onSfc fun x => { x with changeover := .moving }, by decide⟩,
    ⟨none, 4, by decide, (fun _ h => by cases h)⟩,
    ⟨some 4, 4, by decide, (⟨4, by decide⟩)⟩,
    ⟨rs.onSfc fun x => { x with saltLow := true }, 0, by decide⟩,
    ⟨rs, 0, by decide⟩,
    ⟨rs, by decide⟩,
    ⟨(rs.onMbi fun m => { m with dn := m.dn.set 2 0x40#8 }).onWhu fun x =>
      { x with phase := .opening, owner := some .rinse }, 1, by decide⟩,
    ⟨whu fun x => { x with phase := .opening, owner := some .rinse }, by decide, by decide, by decide⟩,
    ⟨whu fun x =>
      { x with phase := .opening, owner := some .rinse, runOn := some { user := .rinse, outcome := .released, pulses := 7, left := 0 } },
      { user := .rinse, outcome := .released, pulses := 7, left := 0 }, by decide, by decide, by decide⟩,
    ⟨rs, by decide⟩,
    ⟨rs.onLba fun b => { b with halt := true }, by decide⟩,
    ⟨rs.onLba fun b => { b with halt := true, haltClearLeft := none, released := 0 }, by decide⟩,
    ⟨rs.onLba fun b => { b with halt := true, haltClearLeft := none, released := 1 }, by decide⟩,
    ⟨rs.onLba fun b => { b with halt := true, haltClearLeft := some 5 }, by decide⟩,
    ⟨rs, by decide⟩,
    ⟨(rs).onDvc fun d => { d with task := .push .panel 100 .delivered }, .panel, 100, by decide⟩,
    ⟨(rs).onDvc fun d => { d with task := .push .vent 5 .queued }, .vent, 5, by decide⟩,
    ⟨(rs).onDvc fun d => { d with task := .retract 1 }, 1, by decide⟩,
    ⟨rs.onDvc fun d => { d with vent := { d.vent with step := .push } }, by decide⟩,
    ⟨rs.onDvc fun d => { d with vent := { d.vent with step := .retract } }, by decide⟩,
    ⟨rs.onDvc fun d => { d with vent := { d.vent with step := .fan } }, by decide⟩⟩

/-- MessageChannelsEndTheirMessages: states and operands that meet its hypotheses, clause by clause. -/
theorem test_witness_MessageChannelsEndTheirMessages :
    (∃ (s : State) (m : DownMsg) (c : Channel) (n : Nat), s.on = true ∧ s.mbi.down.phase = .closing n ∧
    s.sendingMsg = some m ∧ m.source = .dsc c) ∧ (∃ (s : State), s.on = true ∧ s.downCloses = false) ∧ (∃ (s :
    State) (m : DownMsg), s.on = true ∧ s.downStands = true ∧ s.sendingMsg = some m ∧ m.source = .dvc) ∧ (∃ (s :
    State), s.on = true ∧ s.downStands = false) ∧ (∃ (s : State) (g : Grant), s.on = true ∧ s.mbi.grant = some g
    ∧ g.msgSeen = true) ∧ (∃ (s : State) (g : Grant), s.on = true ∧ s.mbi.grant = some g ∧ g.msgSeen = false) ∧
    (∃ (s : State), s.on = true ∧ s.mbi.grant = none) ∧ (∃ (s : State) (m : DownMsg) (n : Nat) (o : PushOrigin)
    (target : Nat), s.on = true ∧ s.mbi.down.phase = .closing n ∧ s.sendingMsg = some m ∧ m.source = .dvc ∧
    s.dvc.task = .push o target .queued) ∧ (∃ (s : State) (m : DownMsg) (n : Nat), s.on = true ∧
    s.mbi.down.phase = .closing n ∧ s.sendingMsg = some m ∧ m.source = .msu ∧ ((s.entry m.dest).link = .seeking
    ∨ (s.entry m.dest).link = .lost) ∧ (s.entry m.dest).bringUp = .query) ∧ (∃ (s : State) (m : DownMsg) (n :
    Nat), s.on = true ∧ s.mbi.down.phase = .closing n ∧ s.sendingMsg = some m ∧ m.source = .msu ∧ (s.entry
    m.dest).link = .linked) ∧ (∃ (s : State) (m : DownMsg) (c : Channel) (tag : Octet) (n : Nat), s.on = true ∧
    s.downStands = true ∧ s.sendingMsg = some m ∧ m.source = .dsc c ∧ (m.body = .dose tag n ∨ m.body = .prime
    tag n)) ∧ (∃ (s : State) (m : DownMsg), s.on = true ∧ s.downStands = true ∧ s.sendingMsg = some m ∧ m.source
    = .msu) ∧ (∃ (up : UpFrame) (s : State) (m : DownMsg), s.sendingMsg = some m ∧ s.mbi.down.phase = .prepare ∧
    State.bayGood up m.dest = true ∧ (up.get 21).getLsbD 6 = false ∧ (up.get 21).getLsbD 7 = false) ∧ (∃ (up :
    UpFrame) (s : State) (m : DownMsg) (i : Nat), s.sendingMsg = some m ∧ s.mbi.down.phase = .present i ∧
    State.bayGood up m.dest = true ∧ (up.get 21).getLsbD 6 = false ∧ (up.get 21).getLsbD 7 = decide (i % 2 = 0))
    ∧ (∃ (up : UpFrame) (s : State) (m : DownMsg) (n : Nat), s.sendingMsg = some m ∧ s.mbi.down.phase = .closing
    n ∧ State.bayGood up m.dest = true ∧ 1 ≤ n) ∧ (∃ (s : State) (m : DownMsg) (n : Nat), s.sendingMsg = some m
    ∧ s.mbi.down.phase = .closing n ∧ 49 ≤ s.mbi.down.closingFrames) ∧ (∃ (up : UpFrame) (s : State) (m :
    DownMsg) (n : Nat), s.sendingMsg = some m ∧ s.mbi.down.phase = .closing n ∧ (State.bayGood up m.dest = false
    ∨ n = 0) ∧ s.mbi.down.closingFrames < 49) ∧ (∃ (up : UpFrame) (s : State) (m : DownMsg), s.sendingMsg = some
    m ∧ (s.mbi.down.phase = .prepare ∧ (State.bayGood up m.dest = false ∨ (up.get 21).getLsbD 6 = true ∨ (up.get
    21).getLsbD 7 = true) ∨ (∃ i : Nat, s.mbi.down.phase = .present i ∧ (State.bayGood up m.dest = false ∨
    (up.get 21).getLsbD 6 = true ∨ (up.get 21).getLsbD 7 ≠ decide (i % 2 = 0))))) ∧ (∃ (up : UpFrame) (s :
    State) (g : Grant), State.upGood up g.owner = true ∧ (State.lookOf up).msg = true ∧ s.mbi.up.look = some
    (State.lookOf up) ∧ (State.lookOf up).tgl ≠ s.mbi.up.echo ∧ s.mbi.up.stop = false ∧ s.mbi.up.taken = [] ∧
    State.headerTaken (State.lookOf up).data = true) ∧ (∃ (up : UpFrame) (s : State) (g : Grant), State.upGood
    up g.owner = true ∧ (State.lookOf up).msg = true ∧ s.mbi.up.look = some (State.lookOf up) ∧ (State.lookOf
    up).tgl ≠ s.mbi.up.echo ∧ s.mbi.up.stop = false ∧ s.mbi.up.taken = [] ∧ State.headerTaken (State.lookOf
    up).data = false) ∧ (∃ (up : UpFrame) (s : State) (g : Grant) (h : Octet) (rest : List Octet), State.upGood
    up g.owner = true ∧ (State.lookOf up).msg = true ∧ s.mbi.up.look = some (State.lookOf up) ∧ (State.lookOf
    up).tgl ≠ s.mbi.up.echo ∧ s.mbi.up.stop = false ∧ s.mbi.up.taken = h :: rest ∧ rest.length < h.toNat % 16) ∧
    (∃ (up : UpFrame) (s : State) (g : Grant), State.upGood up g.owner = true ∧ (State.lookOf up).msg = true ∧
    (s.mbi.up.look ≠ some (State.lookOf up) ∨ (State.lookOf up).tgl = s.mbi.up.echo ∨ s.mbi.up.stop = true) ∧
    s.mbi.up.noProgress + 1 < 50) ∧ (∃ (up : UpFrame) (s : State) (g : Grant), State.upGood up g.owner = true ∧
    (State.lookOf up).msg = false ∧ 1 ≤ s.mbi.up.msgZero ∧ s.mbi.up.taken ≠ [] ∧ s.mbi.up.taken.length = 1 +
    (s.mbi.up.taken.headD 0#8).toNat % 16 ∧ s.mbi.up.stop = false) ∧ (∃ (up : UpFrame) (s : State) (g : Grant),
    State.upGood up g.owner = true ∧ (State.lookOf up).msg = false ∧ 1 ≤ s.mbi.up.msgZero ∧ s.mbi.up.taken ≠ []
    ∧ (s.mbi.up.taken.length ≠ 1 + (s.mbi.up.taken.headD 0#8).toNat % 16 ∨ s.mbi.up.stop = true)) ∧ (∃ (up :
    UpFrame) (s : State) (g : Grant), State.upGood up g.owner = false ∧ g.msgSeen = false ∧ s.mbi.up.noProgress
    < 50 ∧ 9 ≤ g.frames) ∧ (∃ (up : UpFrame) (s : State) (g : Grant), State.upGood up g.owner = false ∧
    g.msgSeen = false ∧ s.mbi.up.noProgress < 50 ∧ g.frames < 9) ∧ (∃ (s : State) (a : Addr) (o : Octet),
    s.mbi.grant = none ∧ o.toNat = a.val * 32 + 1) ∧ (∃ (s : State) (o : Octet), (s.mbi.grant.isSome = true ∨
    o.toNat % 32 ≠ 1)) ∧ (∃ (s : State) (a : Addr), s.moduleOf .doseDet = some a) ∧ (∃ (s : State) (a : Addr),
    s.moduleOf .door = some a) ∧ (∃ (up : UpFrame) (s : State) (g : Grant), (State.upGood up g.owner) = true ∧
    (State.lookOf up).msg = true ∧ (s.mbi.up.look ≠ some (State.lookOf up) ∨ (State.lookOf up).tgl =
    s.mbi.up.echo ∨ s.mbi.up.stop = true) ∧ 50 ≤ s.mbi.up.noProgress + 1) ∧ (∃ (up : UpFrame) (g : Grant),
    (State.upGood up g.owner) = false ∧ g.msgSeen = true) ∧ (∃ (up : UpFrame) (s : State) (g : Grant),
    (State.upGood up g.owner) = true ∧ (State.lookOf up).msg = false ∧ (s.mbi.up.msgZero = 0 ∨ s.mbi.up.taken =
    []) ∧ g.msgSeen = true) ∧ (∃ (up : UpFrame) (s : State) (g : Grant), (State.upGood up g.owner) = true ∧
    (State.lookOf up).msg = false ∧ (s.mbi.up.msgZero = 0 ∨ s.mbi.up.taken = []) ∧ g.msgSeen = false ∧
    s.mbi.up.noProgress < 50) ∧ (∃ (up : UpFrame) (s : State) (g : Grant) (h : Octet) (rest : List Octet),
    (State.upGood up g.owner) = true ∧ (State.lookOf up).msg = true ∧ s.mbi.up.look = some (State.lookOf up) ∧
    (State.lookOf up).tgl ≠ s.mbi.up.echo ∧ s.mbi.up.stop = false ∧ s.mbi.up.taken = h :: rest ∧ h.toNat % 16 ≤
    rest.length) ∧ (∃ (s : State), s.mbi.departed = true) ∧ (∃ (s : State), s.mbi.departed = false) :=
  ⟨⟨rs.onMbi fun m => { m with queue := [msg (.dsc .det) true], down := { m.down with phase := .closing 3 } },
      msg (.dsc .det) true, .det, 3, by decide⟩,
    ⟨rs, by decide⟩,
    ⟨rs.onMbi fun m => { m with queue := [msg .dvc true], down := { m.down with phase := .prepare } }, msg .dvc
      true, by decide⟩,
    ⟨rs, by decide⟩,
    ⟨rs.onMbi fun m => { m with grant := some { owner := 7, frames := 0, msgSeen := true } },
      { owner := 7, frames := 0, msgSeen := true }, by decide⟩,
    ⟨rs.onMbi fun m => { m with grant := some { owner := 7, frames := 0, msgSeen := false } },
      { owner := 7, frames := 0, msgSeen := false }, by decide⟩,
    ⟨rs, by decide⟩,
    ⟨(rs.onMbi fun m => { m with queue := [msg .dvc true], down := { m.down with phase := .closing 1 } }).onDvc
      fun d => { d with task := .push .vent 40 .queued }, msg .dvc true, 1, .vent, 40, by decide⟩,
    ⟨(rs.onMbi fun m => { m with queue := [msg .msu true], down := { m.down with phase := .closing 1 } }).onEntry
      0 fun e => { e with bringUp := .query }, msg .msu true, 1, by decide⟩,
    ⟨(rs.onMbi fun m => { m with queue := [msg .msu true], down := { m.down with phase := .closing 1 } }).onEntry
      0 fun e => { e with link := .linked }, msg .msu true, 1, by decide⟩,
    ⟨rs.onMbi fun m =>
      { m with queue := [{ dest := 2, body := .dose 9 3, source := .dsc .det, sending := true }], down := { m.down with phase := .prepare } },
      { dest := 2, body := .dose 9 3, source := .dsc .det, sending := true }, .det, 9, 3, by decide⟩,
    ⟨rs.onMbi fun m => { m with queue := [msg .msu true], down := { m.down with phase := .present 0 } }, msg .msu
      true, by decide⟩,
    ⟨#v[0, 0, 0, 0, 0, 0, 0, 0, 0, 0, 0, 0, 0, 0, 0, 0, 0xFF, 0xFF, 0xFF, 0, 0, 63, 0xFF, 0], rs.onMbi fun m =>
      { m with queue := [{ dest := 2, body := .dose 9 3, source := .dsc .det, sending := true }], down := { m.down with phase := .prepare } },
      { dest := 2, body := .dose 9 3, source := .dsc .det, sending := true }, by decide⟩,
    ⟨#v[0, 0, 0, 0, 0, 0, 0, 0, 0, 0, 0, 0, 0, 0, 0, 0, 0xFF, 0xFF, 0xFF, 0, 0, 63, 0xFF, 0], rs.onMbi fun m =>
      { m with queue := [{ dest := 2, body := .dose 9 3, source := .dsc .det, sending := true }], down := { m.down with phase := .present 3 } },
      { dest := 2, body := .dose 9 3, source := .dsc .det, sending := true }, 3, by decide⟩,
    ⟨#v[0, 0, 0, 0, 0, 0, 0, 0, 0, 0, 0, 0, 0, 0, 0, 0, 0xFF, 0xFF, 0xFF, 0, 0, 255, 0xFF, 0], rs.onMbi fun m =>
      { m with queue := [{ dest := 2, body := .dose 9 3, source := .dsc .det, sending := true }], down := { m.down with phase := .closing 1 } },
      { dest := 2, body := .dose 9 3, source := .dsc .det, sending := true }, 1, by decide⟩,
    ⟨rs.onMbi fun m =>
      { m with queue := [{ dest := 2, body := .dose 9 3, source := .dsc .det, sending := true }], down := { m.down with phase := .closing 0, closingFrames := 49 } },
      { dest := 2, body := .dose 9 3, source := .dsc .det, sending := true }, 0, by decide⟩,
    ⟨(Vector.replicate 24 0xFF#8), rs.onMbi fun m =>
      { m with queue := [{ dest := 2, body := .dose 9 3, source := .dsc .det, sending := true }], down := { m.down with phase := .closing 1 } },
      { dest := 2, body := .dose 9 3, source := .dsc .det, sending := true }, 1, by decide⟩,
    ⟨#v[0, 0, 0, 0, 0, 0, 0, 0, 0, 0, 0, 0, 0, 0, 0, 0, 0xFF, 0xFF, 0xFF, 0, 0, 127, 0xFF, 0], rs.onMbi fun m =>
      { m with queue := [{ dest := 2, body := .dose 9 3, source := .dsc .det, sending := true }], down := { m.down with phase := .present 0 } },
      { dest := 2, body := .dose 9 3, source := .dsc .det, sending := true }, by decide, (Or.inr ⟨0, by decide⟩)⟩,
    ⟨#v[0, 0, 0, 0, 0, 0, 0, 0, 0, 0, 0, 0, 0, 0, 0, 0, 0xFF, 0xFF, 0xFF, 148, 248, 255, 0xFF, 83], rs.onMbi fun m
      => { m with up := { m.up with look := some { msg := true, data := 0x94, tgl := true } } },
      { owner := 7, frames := 0, msgSeen := false }, by decide⟩,
    ⟨#v[0, 0, 0, 0, 0, 0, 0, 0, 0, 0, 0, 0, 0, 0, 0, 0, 0xFF, 0xFF, 0xFF, 149, 248, 255, 0xFF, 70], rs.onMbi fun m
      => { m with up := { m.up with look := some { msg := true, data := 0x95, tgl := true } } },
      { owner := 7, frames := 0, msgSeen := false }, by decide⟩,
    ⟨#v[0, 0, 0, 0, 0, 0, 0, 0, 0, 0, 0, 0, 0, 0, 0, 0, 0xFF, 0xFF, 0xFF, 7, 240, 255, 0xFF, 181], rs.onMbi fun m
      => { m with up := { m.up with look := some { msg := true, data := 7, tgl := false }, echo := true, taken := [0x94, 1, 2, 3] } },
      { owner := 7, frames := 0, msgSeen := false }, 0x94, [1, 2, 3], by decide⟩,
    ⟨#v[0, 0, 0, 0, 0, 0, 0, 0, 0, 0, 0, 0, 0, 0, 0, 0, 0xFF, 0xFF, 0xFF, 148, 248, 255, 0xFF, 83], rs,
      { owner := 7, frames := 0, msgSeen := false }, by decide⟩,
    ⟨#v[0, 0, 0, 0, 0, 0, 0, 0, 0, 0, 0, 0, 0, 0, 0, 0, 0xFF, 0xFF, 0xFF, 0, 224, 255, 0xFF, 174], rs.onMbi fun m
      => { m with up := { m.up with msgZero := 1, taken := [0x94, 1, 2, 3, 0] } },
      { owner := 7, frames := 0, msgSeen := false }, by decide⟩,
    ⟨#v[0, 0, 0, 0, 0, 0, 0, 0, 0, 0, 0, 0, 0, 0, 0, 0, 0xFF, 0xFF, 0xFF, 0, 224, 255, 0xFF, 174], rs.onMbi fun m
      => { m with up := { m.up with msgZero := 1, taken := [0x94, 1, 2] } },
      { owner := 7, frames := 0, msgSeen := false }, by decide⟩,
    ⟨(Vector.replicate 24 0xFF#8), rs, { owner := 6, frames := 9, msgSeen := false }, by decide⟩,
    ⟨(Vector.replicate 24 0xFF#8), rs, { owner := 6, frames := 0, msgSeen := false }, by decide⟩,
    ⟨rs, 7, 0xE1, by decide⟩,
    ⟨rs, 0xE0, by decide⟩,
    ⟨rs, 2, by decide⟩,
    ⟨rs, 0, by decide⟩,
    ⟨#v[0, 0, 0, 0, 0, 0, 0, 0, 0, 0, 0, 0, 0, 0, 0, 0, 0xFF, 0xFF, 0xFF, 148, 248, 255, 0xFF, 83], rs.onMbi fun m
      => { m with up := { m.up with noProgress := 49 } }, { owner := 7, frames := 9, msgSeen := true }, by decide⟩,
    ⟨(Vector.replicate 24 0xFF#8), { owner := 6, frames := 0, msgSeen := true }, by decide⟩,
    ⟨#v[0, 0, 0, 0, 0, 0, 0, 0, 0, 0, 0, 0, 0, 0, 0, 0, 0xFF, 0xFF, 0xFF, 0, 224, 255, 0xFF, 174], rs.onMbi fun m
      => { m with up := { m.up with taken := [0x94], noProgress := 48 } },
      { owner := 7, frames := 9, msgSeen := true }, by decide⟩,
    ⟨#v[0, 0, 0, 0, 0, 0, 0, 0, 0, 0, 0, 0, 0, 0, 0, 0, 0xFF, 0xFF, 0xFF, 0, 224, 255, 0xFF, 174], rs.onMbi fun m
      => { m with up := { m.up with noProgress := 49 } }, { owner := 7, frames := 9, msgSeen := false }, by decide⟩,
    ⟨#v[0, 0, 0, 0, 0, 0, 0, 0, 0, 0, 0, 0, 0, 0, 0, 0, 0xFF, 0xFF, 0xFF, 7, 248, 255, 0xFF, 141], rs.onMbi fun m
      => { m with up := { m.up with look := some { msg := true, data := 7, tgl := true }, taken := [0xA2, 1, 2] } },
      { owner := 7, frames := 9, msgSeen := true }, 0xA2, [1, 2], by decide⟩,
    ⟨rs.onMbi fun m => { m with departed := true }, by decide⟩,
    ⟨rs, by decide⟩⟩

/-- BringUpLinksAndLoses: states and operands that meet its hypotheses, clause by clause. -/
theorem test_witness_BringUpLinksAndLoses :
    (∃ (a : Addr) (n : Nat) (s : State), s.on = true ∧ ((s.entry a).link = .seeking ∨ (s.entry a).link = .lost) ∧
    (s.entry a).bringUp = .count n) ∧ (∃ (a : Addr) (s : State), s.on = true ∧ s.countsGood a = false) ∧ (∃ (a :
    Addr) (n : Nat) (s : State), s.on = true ∧ ((s.entry a).link = .seeking ∨ (s.entry a).link = .lost) ∧ (s.entry
    a).bringUp = .answer n) ∧ (∃ (a : Addr) (s : State), s.on = true ∧ (s.entry a).link = .linked) ∧ (∃ (a : Addr)
    (s : State), s.on = true ∧ (s.entry a).link = .notExpected) ∧ (∃ (a : Addr) (body : Vector Octet 6) (c :
    CapRecord) (s : State), s.on = true ∧ ((s.entry a).link = .seeking ∨ (s.entry a).link = .lost) ∧ ((s.entry
    a).bringUp = .query ∨ ∃ n, (s.entry a).bringUp = .answer n) ∧ State.readCaps (s.kindAt a) body = some c ∧
    (s.entry a).pinned = true) ∧ (∃ (a : Addr) (body : Vector Octet 6) (c : CapRecord) (s : State), s.on = true ∧
    ((s.entry a).link = .seeking ∨ (s.entry a).link = .lost) ∧ ((s.entry a).bringUp = .query ∨ ∃ n, (s.entry
    a).bringUp = .answer n) ∧ State.readCaps (s.kindAt a) body = some c ∧ (s.entry a).pinned = false ∧ (s.setCaps a
    c).linkedAt a = false) ∧ (∃ (a : Addr) (body : Vector Octet 6) (s : State), s.on = true ∧ ((s.entry a).link =
    .seeking ∨ (s.entry a).link = .lost) ∧ ((s.entry a).bringUp = .query ∨ ∃ n, (s.entry a).bringUp = .answer n) ∧
    State.readCaps (s.kindAt a) body = none) ∧ (∃ (a : Addr) (s : State), s.on = true ∧ s.takesCaps a = false) ∧ (∃
    (a : Addr) (s : State), s.on = true ∧ ((s.entry a).link = .seeking ∨ (s.entry a).link = .lost) ∧ (∀ n, (s.entry
    a).bringUp ≠ .count n)) ∧ (∃ (a : Addr) (body : Vector Octet 6) (s : State), s.on = true ∧ (s.entry a).link =
    .linked ∧ State.readCaps (s.kindAt a) body = none) ∧ (∃ (a : Addr) (body : Vector Octet 6) (c : CapRecord) (s :
    State), s.on = true ∧ (s.entry a).link = .linked ∧ State.readCaps (s.kindAt a) body = some c ∧ (s.entry
    a).pinned = true) ∧ (∃ (a : Addr) (body : Vector Octet 6) (c : CapRecord) (s : State), s.on = true ∧ (s.entry
    a).link = .linked ∧ State.readCaps (s.kindAt a) body = some c ∧ (s.entry a).pinned = false ∧ (s.setCaps a
    c).linkedAt a = true) ∧ (∃ (s : State) (a : Addr), (s.entry a).unpinLeft = none ∧ (s.entry a).link =
    .notExpected) ∧ (∃ (s : State) (a : Addr) (b : StatusBits), (s.entry a).unpinLeft = none ∧ (s.entry a).link =
    .linked ∧ b.ready = false) ∧ (∃ (s : State) (a : Addr) (b : StatusBits), (s.entry a).unpinLeft = none ∧ (s.entry
    a).link = .linked ∧ b.ready = true ∧ (s.entry a).bringUp = .count 0 ∧ b.mfault = false) ∧ (∃ (s : State) (a :
    Addr) (b : StatusBits), (s.entry a).unpinLeft = none ∧ (s.entry a).link = .linked ∧ b.ready = true ∧ (s.entry
    a).bringUp = .count 0 ∧ b.mfault = true ∧ (s.entry a).linkMfault ≠ some true) ∧ (∃ (s : State) (a : Addr) (b :
    StatusBits), (s.entry a).unpinLeft = none ∧ (s.entry a).link = .linked ∧ b.ready = true ∧ (s.entry a).bringUp =
    .count 0 ∧ b.mfault = true ∧ (s.entry a).linkMfault = some true) ∧ (∃ (s : State) (a : Addr) (b : StatusBits) (n
    : Nat), (s.entry a).unpinLeft = none ∧ ((s.entry a).link = .seeking ∨ (s.entry a).link = .lost) ∧ (s.entry
    a).bringUp = .count n ∧ b.ready = false) ∧ (∃ (s : State) (a : Addr) (b : StatusBits) (n : Nat), (s.entry
    a).unpinLeft = none ∧ ((s.entry a).link = .seeking ∨ (s.entry a).link = .lost) ∧ (s.entry a).bringUp = .count n
    ∧ b.ready = true ∧ n + 1 < 8) ∧ (∃ (s : State) (a : Addr) (b : StatusBits) (n : Nat), (s.entry a).unpinLeft =
    none ∧ ((s.entry a).link = .seeking ∨ (s.entry a).link = .lost) ∧ (s.entry a).bringUp = .count n ∧ b.ready =
    true ∧ 8 ≤ n + 1) ∧ (∃ (s : State) (a : Addr) (b : StatusBits), (s.entry a).unpinLeft = none ∧ ((s.entry a).link
    = .seeking ∨ (s.entry a).link = .lost) ∧ b.ready = true ∧ ((s.entry a).bringUp = .query ∨ (s.entry a).bringUp =
    .mismatch)) ∧ (∃ (s : State) (a : Addr) (b : StatusBits), (s.entry a).unpinLeft = none ∧ ((s.entry a).link =
    .seeking ∨ (s.entry a).link = .lost) ∧ b.ready = false ∧ ((s.entry a).bringUp = .query ∨ (s.entry a).bringUp =
    .mismatch ∨ ∃ n, (s.entry a).bringUp = .answer n)) ∧ (∃ (s : State) (a : Addr) (l : LinkState), (s.entry a).link
    = .linked ∧ l ≠ .linked) ∧ (∃ (s : State) (a : Addr), (s.kindAt a = .none ∨ s.moduleOf (s.kindAt a) ≠ some a)) ∧
    (∃ (s : State) (a : Addr), s.moduleOf .door = some a) ∧ (∃ (s : State) (a : Addr), s.moduleOf .softener = some
    a) ∧ (∃ (s : State) (a : Addr), s.moduleOf .doseDet = some a) ∧ (∃ (s : State) (a : Addr), s.moduleOf .doseRa =
    some a) ∧ (∃ (s : State), s.sfc.changeover = .pending) ∧ (∃ (s : State), s.sfc.changeover = .claimed) ∧ (∃ (s :
    State), s.sfc.changeover = .aligning ∧ s.sfc.keptTrigger = false) ∧ (∃ (s : State), (s.sfc.changeover = .none ∨
    s.sfc.changeover = .due ∨ s.sfc.changeover = .moving ∨ s.sfc.changeover = .returning)) ∧ (∃ (s : State) (c :
    Channel), (s.channel c).orders = []) ∧ (∃ (s : State) (c : Channel) (o : Order) (rest : List Order), (s.channel
    c).orders = o :: rest ∧ o.state = .queued ∧ o.started = false) ∧ (∃ (s : State) (c : Channel) (o : Order) (rest
    : List Order), (s.channel c).orders = o :: rest ∧ o.state = .queued ∧ o.started = true) ∧ (∃ (s : State) (c :
    Channel) (o : Order) (rest : List Order), (s.channel c).orders = o :: rest ∧ o.state = .sent ∧ c = .det) ∧ (∃ (s
    : State) (c : Channel) (o : Order) (rest : List Order), (s.channel c).orders = o :: rest ∧ o.state = .sent ∧ c =
    .ra) ∧ (∃ (s : State), s.dvc.vent.step = .none) ∧ (∃ (s : State), s.dvc.vent.step ≠ .none) ∧ (∃ (s : State) (a :
    Addr) (b : StatusBits) (n : Nat), ((s.entry a).link = .seeking ∨ (s.entry a).link = .lost) ∧ (s.entry a).bringUp
    = .answer n ∧ b.ready = true) ∧ (∃ (up : UpFrame) (s : State) (a : Addr), State.bayGood up a = false ∧ ((s.entry
    a).link = .seeking ∨ (s.entry a).link = .lost) ∧ ((s.entry a).bringUp = .query ∨ (s.entry a).bringUp =
    .mismatch) ∧ (s.entry a).unpinLeft = none) ∧ (∃ (up : UpFrame) (s : State) (a : Addr) (n : Nat), State.bayGood
    up a = false ∧ ((s.entry a).link = .seeking ∨ (s.entry a).link = .lost) ∧ (s.entry a).bringUp = .answer n) ∧ (∃
    (s : State) (a : Addr), (s.entry a).link ≠ .linked) :=
  ⟨⟨0, 0, rs, by decide⟩,
    ⟨0, lk, by decide⟩,
    ⟨0, 250, seek (.answer 250) false, by decide⟩,
    ⟨0, lk, by decide⟩,
    ⟨7, rs, by decide⟩,
    ⟨0, #v[1, 7, 40, 60, 40, 100], { fields := .door 40 60 40 100, revision := 7 }, seek .query true, by decide,
      by decide, (Or.inl (by decide)), by decide, by decide⟩,
    ⟨0, #v[1, 7, 40, 60, 40, 100], { fields := .door 40 60 40 100, revision := 7 }, seek .query false, by decide,
      by decide, (Or.inl (by decide)), by decide, by decide, by decide⟩,
    ⟨0, #v[2, 7, 40, 60, 40, 100], seek (.answer 250) false, by decide, by decide, (Or.inr ⟨250, by decide⟩), by
      decide⟩,
    ⟨7, rs, by decide⟩,
    ⟨0, seek .mismatch false, by decide, by decide, (fun _ h => by cases h)⟩,
    ⟨0, #v[2, 7, 40, 60, 40, 100], lk, by decide⟩,
    ⟨0, #v[1, 7, 40, 60, 40, 100], { fields := .door 40 60 40 100, revision := 7 }, lk.onEntry 0 fun e =>
      { e with pinned := true }, by decide⟩,
    ⟨0, #v[1, 7, 40, 60, 40, 100], { fields := .door 40 60 40 100, revision := 7 }, lk, by decide⟩,
    ⟨rs, 7, by decide⟩,
    ⟨lk, 0, { ready := false, mfault := true, orderBusy := false }, by decide⟩,
    ⟨lk, 0, { ready := true, mfault := false, orderBusy := false }, by decide⟩,
    ⟨lk, 0, { ready := true, mfault := true, orderBusy := false }, by decide⟩,
    ⟨lk.onEntry 0 fun e => { e with linkMfault := some true }, 0,
      { ready := true, mfault := true, orderBusy := false }, by decide⟩,
    ⟨seek (.count 7) false, 0, { ready := false, mfault := false, orderBusy := false }, 7, by decide⟩,
    ⟨seek (.count 6) false, 0, { ready := true, mfault := false, orderBusy := false }, 6, by decide⟩,
    ⟨seek (.count 7) false, 0, { ready := true, mfault := false, orderBusy := false }, 7, by decide⟩,
    ⟨seek .mismatch false, 0, { ready := true, mfault := false, orderBusy := false }, by decide⟩,
    ⟨seek .query false, 0, { ready := false, mfault := false, orderBusy := false }, by decide, by decide, by
      decide, (Or.inl (by decide))⟩,
    ⟨lk, 0, .lost, by decide⟩,
    ⟨rs, 7, by decide⟩,
    ⟨rs, 0, by decide⟩,
    ⟨rs, 1, by decide⟩,
    ⟨rs, 2, by decide⟩,
    ⟨rs, 3, by decide⟩,
    ⟨(lk).onSfc fun x => { x with changeover := .pending }, by decide⟩,
    ⟨(lk).onSfc fun x => { x with changeover := .claimed }, by decide⟩,
    ⟨(lk).onSfc fun x => { x with changeover := .aligning }, by decide⟩,
    ⟨(lk).onSfc fun x => { x with changeover := .returning }, by decide⟩,
    ⟨rs, .det, by decide⟩,
    ⟨det [ord .queued false], .det, ord .queued false, [], by decide⟩,
    ⟨det [ord .queued true], .det, ord .queued true, [], by decide⟩,
    ⟨det [ord .sent true, ord .queued false], .det, ord .sent true, [ord .queued false], by decide⟩,
    ⟨lk.onDsc fun d => { d with ra := { d.ra with orders := [ord .sent true] } }, .ra, ord .sent true, [], by
      decide⟩,
    ⟨rs, by decide⟩,
    ⟨rs.onDvc fun d => { d with vent := { d.vent with step := .fan } }, by decide⟩,
    ⟨seek (.answer 1) false, 0, { ready := true, mfault := false, orderBusy := false }, 1, by decide⟩,
    ⟨(Vector.replicate 24 0xFF#8), (seek .mismatch false).onEntry 0 fun e => { e with silent := 15 }, 0, by
      decide, by decide, (Or.inr (by decide)), by decide⟩,
    ⟨(Vector.replicate 24 0xFF#8), (seek (.answer 1) false).onEntry 0 fun e => { e with silent := 14 }, 0, 1, by
      decide⟩,
    ⟨seek .query false, 0, by decide⟩⟩

/-- StuckLineIsBrokenAndWatched: states and operands that meet its hypotheses, clause by clause. -/
theorem test_witness_StuckLineIsBrokenAndWatched :
    (∃ (s : State), s.on = true ∧ s.msu.watch = .off) ∧ (∃ (n : Nat) (s : State), s.on = true ∧ s.msu.watch = .watch
    n) ∧ (∃ (n : Nat) (good : Nat) (s : State), s.on = true ∧ s.msu.watch = .stuck n good) ∧ (∃ (left : Nat) (s :
    State), s.on = true ∧ s.mbi.line = .brk left) ∧ (∃ (s : State), s.mbi.line = .running) ∧ (∃ (s : State),
    s.msu.watch = .off ∧ s.msu.stuckCount + 1 < 16) ∧ (∃ (s : State), s.msu.watch = .off ∧ 16 ≤ s.msu.stuckCount +
    1) ∧ (∃ (s : State), s.msu.watch = .off) ∧ (∃ (s : State) (n : Nat), s.msu.watch = .watch n ∧ n + 1 < 64) ∧ (∃
    (s : State) (n : Nat), s.msu.watch = .watch n ∧ 64 ≤ n + 1) ∧ (∃ (s : State) (n : Nat), s.msu.watch = .watch n)
    ∧ (∃ (s : State) (n : Nat) (good : Nat), s.msu.watch = .stuck n good ∧ 16 ≤ good + 1) ∧ (∃ (s : State) (n : Nat)
    (good : Nat), s.msu.watch = .stuck n good ∧ good + 1 < 16 ∧ 1 < n) ∧ (∃ (s : State) (n : Nat) (good : Nat),
    s.msu.watch = .stuck n good ∧ 1 < n) ∧ (∃ (s : State) (n : Nat) (good : Nat), s.msu.watch = .stuck n good ∧ n ≤
    1) ∧ (∃ (s : State) (n : Nat) (good : Nat), s.msu.watch = .stuck n good ∧ good + 1 < 16 ∧ n ≤ 1) :=
  ⟨⟨rs, by decide⟩,
    ⟨5, rs.onMsu fun m => { m with watch := .watch 5 }, by decide⟩,
    ⟨2500, 0, rs.onMsu fun m => { m with watch := .stuck 2500 0 }, by decide⟩,
    ⟨8, rs, by decide⟩,
    ⟨lk, by decide⟩,
    ⟨rs.onMsu fun m => { m with watch := .off, stuckCount := 14 }, by decide⟩,
    ⟨rs.onMsu fun m => { m with watch := .off, stuckCount := 15 }, by decide⟩,
    ⟨rs, by decide⟩,
    ⟨rs.onMsu fun m => { m with watch := .watch 62 }, 62, by decide⟩,
    ⟨rs.onMsu fun m => { m with watch := .watch 63 }, 63, by decide⟩,
    ⟨rs.onMsu fun m => { m with watch := .watch 0 }, 0, by decide⟩,
    ⟨rs.onMsu fun m => { m with watch := .stuck 1 15 }, 1, 15, by decide⟩,
    ⟨rs.onMsu fun m => { m with watch := .stuck 2 14 }, 2, 14, by decide⟩,
    ⟨rs.onMsu fun m => { m with watch := .stuck 2 15 }, 2, 15, by decide⟩,
    ⟨rs.onMsu fun m => { m with watch := .stuck 1 0 }, 1, 0, by decide⟩,
    ⟨rs.onMsu fun m => { m with watch := .stuck 1 14 }, 1, 14, by decide⟩⟩

/-- FaultListTakesARaise: states and operands that meet its hypotheses, clause by clause. -/
theorem test_witness_FaultListTakesARaise :
    (∃ (s : State) (code : FaultCode) (d : Nat), s.faultRec code d = none ∧ s.flu.list.length < 40) ∧ (∃ (s : State)
    (code : FaultCode) (d : Nat) (cls : FaultClass) (r : FaultRec), s.faultRec code d = some r ∧ r.cls.worse cls =
    r.cls) ∧ (∃ (s : State) (code : FaultCode) (d : Nat) (r : FaultRec), s.faultRec code d = some r ∧ r.ack = true)
    ∧ (∃ (s : State) (code : FaultCode) (d : Nat) (r : FaultRec), s.faultRec code d = some r ∧ r.ack = false) ∧ (∃
    (s : State) (code : FaultCode) (d : Nat), s.faultRec code d = none) ∧ (∃ (a : Nat) (c : Nat), a ≤ c) ∧ (∃ (s :
    State) (code : FaultCode) (d : Nat) (cls : FaultClass) (r : FaultRec), s.faultRec code d = some r ∧ r.cls.worse
    cls ≠ r.cls) ∧ (∃ (s : State) (code : FaultCode) (d : Nat) (cls : FaultClass) (r : FaultRec), s.faultRec code d
    = none ∧ 40 ≤ s.flu.list.length ∧ ((s.flu.list.find? fun x : FaultRec => x.cls = .warning ∧ x.present = false) =
    some r ∨ ((s.flu.list.find? fun x : FaultRec => x.cls = .warning ∧ x.present = false) = none ∧ cls ≠ .warning ∧
    (s.flu.list.find? fun x : FaultRec => x.cls = .warning) = some r)) ∧ s.faultRec r.code r.detail = some r) ∧ (∃
    (s : State) (code : FaultCode) (d : Nat) (cls : FaultClass), s.faultRec code d = none ∧ 40 ≤ s.flu.list.length ∧
    (s.flu.list.find? fun x : FaultRec => x.cls = .warning ∧ x.present = false) = none ∧ (cls = .warning ∨
    (s.flu.list.find? fun x : FaultRec => x.cls = .warning) = none)) ∧ (∃ (s : State) (code : FaultCode) (d : Nat)
    (cls : FaultClass) (r : FaultRec), s.faultRec code d = some r ∧ (cls = .stop ∨ r.cls = .stop) ∧ escalates
    (pushHistory s.flu.history code d s.csq.counter) code d = false) ∧ (∃ (s : State) (code : FaultCode) (d : Nat)
    (cls : FaultClass) (r : FaultRec), s.faultRec code d = some r ∧ (cls = .stop ∨ r.cls = .stop) ∧ escalates
    (pushHistory s.flu.history code d s.csq.counter) code d = true ∧ r.cls ≠ .lockout) ∧ (∃ (s : State) (code :
    FaultCode) (d : Nat) (cls : FaultClass) (r : FaultRec), s.faultRec code d = some r ∧ cls ≠ .stop ∧ r.cls ≠
    .stop) ∧ (∃ (s : State) (code : FaultCode) (d : Nat) (cls : FaultClass), (s.enterFault code d cls).2 = false) ∧
    (∃ (s : State) (code : FaultCode) (d : Nat) (cls : FaultClass), (s.enterFault code d cls).2 = true ∧
    ((((s.enterFault code d cls).1).escalate code d cls).wake .fault).locked = true ∧ s.locked = false) ∧ (∃ (s :
    State) (code : FaultCode) (d : Nat) (cls : FaultClass), (s.enterFault code d cls).2 = true ∧ (((((s.enterFault
    code d cls).1).escalate code d cls).wake .fault).locked = false ∨ s.locked = true)) ∧ (∃ (s : State) (code :
    FaultCode) (d : Nat) (r : FaultRec), s.faultRec code d = some r ∧ r.cls = .warning) ∧ (∃ (s : State) (code :
    FaultCode) (d : Nat) (r : FaultRec), s.faultRec code d = some r ∧ r.cls = .stop ∧ (s.csq.phase = .armed ∨
    s.csq.phase = .wash ∨ s.csq.phase = .held ∨ s.csq.phase = .purge ∨ s.csq.phase = .rinseWait)) ∧ (∃ (s : State)
    (code : FaultCode) (d : Nat) (r : FaultRec), s.faultRec code d = some r ∧ r.cls = .stop ∧ (s.csq.phase = .idle ∨
    s.csq.phase = .rinse ∨ s.csq.phase = .dwell ∨ s.csq.phase = .vent)) ∧ (∃ (s : State) (code : FaultCode) (d :
    Nat) (r : FaultRec), s.faultRec code d = some r ∧ r.cls = .lockout) :=
  ⟨⟨rs, .saltLow, 0, by decide⟩,
    ⟨rs, .detEmpty, 0, .warning, faultOf .detEmpty 0 .warning false true, by decide⟩,
    ⟨stopped, .inletNoFlow, 0, faultOf .inletNoFlow 0 .stop true false, by decide⟩,
    ⟨rs, .detEmpty, 0, faultOf .detEmpty 0 .warning false true, by decide⟩,
    ⟨rs, .saltLow, 0, by decide⟩,
    ⟨4, 4, by decide⟩,
    ⟨withFaults rs [faultOf .saltLow 0 .warning false true], .saltLow, 0, .stop, faultOf .saltLow 0 .warning false
      true, by decide⟩,
    ⟨withFaults rs (List.replicate 40 (faultOf .saltLow 0 .warning true false)), .detEmpty, 0, .warning, faultOf
      .saltLow 0 .warning true false, by decide⟩,
    ⟨withFaults rs (List.replicate 40 (faultOf .inletNoFlow 0 .stop true true)), .detEmpty, 0, .stop, by decide⟩,
    ⟨stopped, .inletNoFlow, 0, .stop, faultOf .inletNoFlow 0 .stop true false, by decide⟩,
    ⟨stopped.onFlu fun u => { u with history := [{ code := .inletNoFlow, detail := 0, cycles := [0, 0] }] },
      .inletNoFlow, 0, .stop, faultOf .inletNoFlow 0 .stop true false, by decide⟩,
    ⟨withFaults rs [faultOf .saltLow 0 .warning false true], .saltLow, 0, .warning, faultOf .saltLow 0 .warning
      false true, by decide⟩,
    ⟨withFaults rs (List.replicate 40 (faultOf .inletNoFlow 0 .stop true true)), .detEmpty, 0, .stop, by decide⟩,
    ⟨rs, .tankOvertemp, 0, .lockout, by decide⟩,
    ⟨rs, .saltLow, 0, .warning, by decide⟩,
    ⟨withFaults rs [faultOf .saltLow 0 .warning false true], .saltLow, 0, faultOf .saltLow 0 .warning false true,
      by decide⟩,
    ⟨withFaults (cyc .wash) [faultOf .inletNoFlow 0 .stop true false], .inletNoFlow, 0, faultOf .inletNoFlow 0
      .stop true false, by decide⟩,
    ⟨withFaults (cyc .vent) [faultOf .inletNoFlow 0 .stop true false], .inletNoFlow, 0, faultOf .inletNoFlow 0
      .stop true false, by decide⟩,
    ⟨lockedPart, .doorObstructed, 0, faultOf .doorObstructed 0 .lockout true true, by decide⟩⟩

/-- A list of 40 records, one of them a WARNING of another key. -/
def fullList : List FaultRec :=
  faultOf .saltLow 0 .warning false true :: List.replicate 39 (faultOf .doorBlocked 0 .stop true true)

/-- LockoutStopsTheMachine: states and operands that meet its hypotheses, clause by clause: a LOCKOUT by a new record, by
a class that rises, by displacement in a full list, and by escalation of a STOP raise and of a WARNING raise of a STOP. -/
theorem test_witness_LockoutStopsTheMachine :
    (∃ (s : State) (code : FaultCode) (d : Nat), s.locked = false ∧ s.faultRec code d = none ∧ s.flu.list.length < 40 ∧
    ((s.enterFault code d .lockout).1.escalate code d .lockout).locked = true ∧ (s.whu.owner.isSome = true ∨ s.whu.phase
    = .closed)) ∧ (∃ (s : State) (code : FaultCode) (d : Nat), s.locked = false ∧ (s.faultRec code d).isSome = true ∧
    ((s.enterFault code d .lockout).1.escalate code d .lockout).locked = true) ∧ (∃ (s : State) (code : FaultCode) (d :
    Nat), s.locked = false ∧ s.faultRec code d = none ∧ 40 ≤ s.flu.list.length ∧ ((s.enterFault code d
    .lockout).1.escalate code d .lockout).locked = true) ∧ (∃ (s : State) (code : FaultCode) (d : Nat), s.locked = false
    ∧ ((s.enterFault code d .stop).1.escalate code d .stop).locked = true) ∧ (∃ (s : State) (code : FaultCode) (d :
    Nat), s.locked = false ∧ ((s.enterFault code d .warning).1.escalate code d .warning).locked = true) ∧ (∃ (s : State)
    (code : FaultCode) (d : Nat), s.locked = false ∧ ((s.enterFault code d .stop).1.escalate code d .stop).locked =
    false) :=
  ⟨⟨(held rs .rinsePump .granted).onWhu fun x => { x with owner := some .tankFill, phase := .opened },
      .boosterOvertemp, 0, by decide⟩,
    ⟨withFaults rs [faultOf .doorLatchFail 0 .stop true true], .doorLatchFail, 0, by decide⟩,
    ⟨withFaults rs fullList, .tankOvertemp, 0, by decide⟩,
    ⟨rs.onFlu fun u => { u with history := [{ code := .inletNoFlow, detail := 0, cycles := [0, 0] }] }, .inletNoFlow, 0,
      by decide⟩,
    ⟨stopped.onFlu fun u => { u with history := [{ code := .inletNoFlow, detail := 0, cycles := [0, 0] }] },
      .inletNoFlow, 0, by decide⟩,
    ⟨stopped, .inletNoFlow, 0, by decide⟩⟩

/-- EveryStepKeepsTheBounds: states and operands that meet its hypotheses, clause by clause. -/
theorem test_witness_EveryStepKeepsTheBounds :
    (∃ (s : State) (t : State), s.Bounded ∧ step s = .next t) :=
  ⟨rs, rs.advance 1, (by unfold State.Bounded; decide), rfl⟩

/-- EveryStepKeepsTheBudgetLaw: states and operands that meet its hypotheses, clause by clause. -/
theorem test_witness_EveryStepKeepsTheBudgetLaw :
    (∃ (s : State) (t : State), s.sumGranted + s.sumSettling ≤ s.lba.inForce ∧ s.mains ≤ s.lba.inForce ∧ step s =
    .next t) ∧ (∃ (s : State) (l : Load), s.sumGranted + s.sumSettling ≤ s.lba.inForce ∧ (s.claimOf l).state =
    .waiting) ∧ (∃ (s : State) (l : Load), s.sumGranted + s.sumSettling ≤ s.lba.inForce ∧ s.lba.inForce = s.mains ∧
    s.watts l ≤ s.lba.inForce - (s.sumGranted + s.sumSettling)) ∧ (∃ (s : State) (l : Load), (s.claimOf l).state =
    .waiting ∧ s.fits l = true) :=
  ⟨⟨rs, rs.advance 1, by decide, by decide, rfl⟩,
    ⟨held rs .rinsePump .waiting, .rinsePump, by decide⟩,
    ⟨rs, .rinsePump, by decide⟩,
    ⟨held rs .rinsePump .waiting, .rinsePump, by decide⟩⟩

/-- EveryStepKeepsTheLockoutSafe: states and operands that meet its hypotheses, clause by clause. -/
theorem test_witness_EveryStepKeepsTheLockoutSafe :
    (∃ (s : State) (t : State), s.LockoutSafe ∧ step s = .next t) :=
  ⟨rs, rs.advance 1, (⟨by decide, by decide, fun h => by cases h⟩), rfl⟩

end Sys2Proof.Tests
end

section
/-! PROOFS. The budget law (R50): what decides it, what every operation of the model does to it, and with that O58.

The law rests on the claim records, the settling list, the budget in force and setting 8. First come the operations that change
these, with their arithmetic; then one lemma per operation of the model, in the model's order, which says that the operation
keeps `State.InBudget`; last the commands and the step. -/

namespace Sys2Proof.Machine

open Sys2Proof

/-! ### The budget law with its second half

`InBudget` is what one step keeps: G + S lies within the budget in force, and mains_budget_w is not above it. Only the claims,
the settling list, the budget in force and setting 8 decide it. -/

/-- The budget law, and mains_budget_w not above the budget in force (R50, R58). -/
def State.InBudget (s : State) : Prop := s.BudgetLaw ∧ s.mains ≤ s.lba.inForce

/-- What a load counts in G: its counted wattage while its claim is GRANTED (R50). -/
def State.drawn (s : State) (l : Load) : Nat := if s.granted l then (s.claimOf l).counted else 0

theorem mem_allLoads (l : Load) : l ∈ allLoads := by cases l <;> decide

theorem allLoads_nodup : allLoads.Nodup := by decide

theorem foldl_counted (g : Load → Bool) (c : Load → Nat) (ls : List Load) (n : Nat) :
    ls.foldl (fun n l => if g l then n + c l else n) n = n + (ls.map fun l => if g l then c l else 0).sum := by
  induction ls generalizing n with
  | nil => simp
  | cons l ls ih =>
    rw [List.foldl_cons, ih, List.map_cons, List.sum_cons]
    split <;> omega

theorem State.sumGranted_eq_sum (s : State) : s.sumGranted = (allLoads.map s.drawn).sum := by
  unfold State.sumGranted
  rw [foldl_counted, Nat.zero_add]
  rfl

/-- G with one load's share apart. -/
theorem State.sumGranted_eq_drawn_add (s : State) (l : Load) :
    s.sumGranted = s.drawn l + ((allLoads.erase l).map s.drawn).sum := by
  rw [s.sumGranted_eq_sum, List.sum_map_erase s.drawn (mem_allLoads l)]

theorem State.drawn_of_claimOf_eq {s t : State} {l : Load} (h : t.claimOf l = s.claimOf l) : t.drawn l = s.drawn l := by
  simp [State.drawn, State.granted, h]

/-- G depends on the claim records alone. -/
theorem State.sumGranted_congr {s t : State} (h : t.lba.claims = s.lba.claims) : t.sumGranted = s.sumGranted := by
  unfold State.sumGranted State.granted State.claimOf
  rw [h]

/-- mains_budget_w depends on the settings alone. -/
theorem State.mains_congr {s t : State} (h : t.settings = s.settings) : t.mains = s.mains := by
  simp [State.mains, State.num, State.val, h]

/-- A change of one claim record moves G by the change of that load's share. -/
theorem State.sumGranted_onClaim (s : State) (l : Load) (f : Claim → Claim) :
    (s.onClaim l f).sumGranted + s.drawn l = s.sumGranted + (s.onClaim l f).drawn l := by
  have hrest : (allLoads.erase l).map (s.onClaim l f).drawn = (allLoads.erase l).map s.drawn := by
    refine List.map_congr_left fun k hk => State.drawn_of_claimOf_eq ?_
    have hne : k ≠ l := (allLoads_nodup.mem_erase_iff.mp hk).1
    simp [hne]
  rw [(s.onClaim l f).sumGranted_eq_drawn_add l, s.sumGranted_eq_drawn_add l, hrest]
  omega

@[simp] theorem State.drawn_onClaim_self (s : State) (l : Load) (f : Claim → Claim) :
    (s.onClaim l f).drawn l = if (f (s.claimOf l)).state = .granted then (f (s.claimOf l)).counted else 0 := by
  simp [State.drawn, State.granted]

theorem State.drawn_of_granted {s : State} {l : Load} (h : s.granted l = true) : s.drawn l = (s.claimOf l).counted := by
  simp [State.drawn, h]

theorem State.drawn_of_not_granted {s : State} {l : Load} (h : s.granted l = false) : s.drawn l = 0 := by
  simp [State.drawn, h]

@[simp] theorem State.sumSettling_onClaim (s : State) (l : Load) (f : Claim → Claim) :
    (s.onClaim l f).sumSettling = s.sumSettling := rfl

@[simp] theorem State.inForce_onClaim (s : State) (l : Load) (f : Claim → Claim) :
    (s.onClaim l f).lba.inForce = s.lba.inForce := rfl

theorem foldl_watts (es : List Settling) (n : Nat) :
    es.foldl (fun n e => n + e.watts) n = n + (es.map Settling.watts).sum := by
  induction es generalizing n with
  | nil => simp
  | cons e es ih =>
    rw [List.foldl_cons, ih, List.map_cons, List.sum_cons]
    omega

theorem State.sumSettling_eq_sum (s : State) : s.sumSettling = (s.lba.settling.map Settling.watts).sum := by
  unfold State.sumSettling
  rw [foldl_watts, Nat.zero_add]

@[simp] theorem State.sumSettling_settle (s : State) (l : Load) (w : Nat) :
    (s.settle l w).sumSettling = s.sumSettling + w := by
  simp [State.sumSettling_eq_sum, State.settle]

@[simp] theorem State.sumGranted_settle (s : State) (l : Load) (w : Nat) : (s.settle l w).sumGranted = s.sumGranted := rfl

@[simp] theorem State.drawn_settle (s : State) (l k : Load) (w : Nat) : (s.settle l w).drawn k = s.drawn k := rfl

@[simp] theorem State.inForce_settle (s : State) (l : Load) (w : Nat) : (s.settle l w).lba.inForce = s.lba.inForce := rfl

/-! ### What leaves the budget alone -/

namespace State.InBudget

/-- A state with the same claims, budget in force and mains_budget_w, and no more in its settling list. -/
theorem congr {s t : State} (h : s.InBudget) (hc : t.lba.claims = s.lba.claims) (hs : t.sumSettling ≤ s.sumSettling)
    (hf : t.lba.inForce = s.lba.inForce) (hm : t.mains = s.mains) : t.InBudget := by
  obtain ⟨hlaw, hmains⟩ := h
  have hG := State.sumGranted_congr hc
  unfold State.BudgetLaw at hlaw
  refine ⟨?_, ?_⟩
  · unfold State.BudgetLaw
    omega
  · omega

/-- An operation that changes neither LBA nor the settings. -/
theorem of_frame {s t : State} (h : s.InBudget) (hl : t.lba = s.lba) (hs : t.settings = s.settings) : t.InBudget :=
  h.congr (by rw [hl]) (by simp [State.sumSettling, hl]) (by rw [hl]) (State.mains_congr hs)

/-- The first of a pair, taken apart by a match. -/
theorem fst_of_eq {α : Type} {p : State × α} (h : p.1.InBudget) {t : State} {x : α} (e : p = (t, x)) : t.InBudget := by
  subst e; exact h

theorem ite {c : Prop} {d : Decidable c} {s t : State} (hs : s.InBudget) (ht : t.InBudget) :
    (if c then s else t).InBudget := by
  split
  · exact hs
  · exact ht

/-- An operation that is made under a condition alone. -/
theorem cond {c : Prop} {d : Decidable c} {s t : State} (hs : s.InBudget) (hf : s.InBudget → t.InBudget) :
    (if c then t else s).InBudget :=
  .ite (hf hs) hs

theorem fst_ite {α : Type} {c : Prop} {d : Decidable c} {p q : State × α} (hp : p.1.InBudget) (hq : q.1.InBudget) :
    (if c then p else q).1.InBudget := by
  split
  · exact hp
  · exact hq

theorem foldl {α : Type} {f : State → α → State} {s : State} (h : s.InBudget)
    {as : List α}
    (hf : ∀ {t : State} {a : α}, t.InBudget → (f t a).InBudget) : (as.foldl f s).InBudget := by
  induction as generalizing s with
  | nil => exact h
  | cons a as ih => exact ih (hf h)

theorem fst_foldl {α β : Type} {f : State × β → α → State × β} {p : State × β} (h : p.1.InBudget)
    {as : List α}
    (hf : ∀ {q : State × β} {a : α}, q.1.InBudget → (f q a).1.InBudget) : (as.foldl f p).1.InBudget := by
  induction as generalizing p with
  | nil => exact h
  | cons a as ih => exact ih (hf h)

variable {s : State}

theorem onPlk {f : Plk → Plk} (h : s.InBudget) : (s.onPlk f).InBudget := h.of_frame rfl rfl

theorem onWhu {f : Whu → Whu} (h : s.InBudget) : (s.onWhu f).InBudget := h.of_frame rfl rfl

theorem onCsq {f : Csq → Csq} (h : s.InBudget) : (s.onCsq f).InBudget := h.of_frame rfl rfl

theorem onSfc {f : Sfc → Sfc} (h : s.InBudget) : (s.onSfc f).InBudget := h.of_frame rfl rfl

theorem onDsc {f : Dsc → Dsc} (h : s.InBudget) : (s.onDsc f).InBudget := h.of_frame rfl rfl

theorem onDvc {f : Dvc → Dvc} (h : s.InBudget) : (s.onDvc f).InBudget := h.of_frame rfl rfl

theorem onMbi {f : Mbi → Mbi} (h : s.InBudget) : (s.onMbi f).InBudget := h.of_frame rfl rfl

theorem onMsu {f : Msu → Msu} (h : s.InBudget) : (s.onMsu f).InBudget := h.of_frame rfl rfl

theorem onFlu {f : Flu → Flu} (h : s.InBudget) : (s.onFlu f).InBudget := h.of_frame rfl rfl

theorem onSto {f : Sto → Sto} (h : s.InBudget) : (s.onSto f).InBudget := h.of_frame rfl rfl

/-- A change of LBA's marks, of its halt fields or of its count of grants. -/
theorem onMarks {f : Lba → Lba} (h : s.InBudget) (hc : (f s.lba).claims = s.lba.claims)
    (hs : (f s.lba).settling = s.lba.settling) (hf : (f s.lba).inForce = s.lba.inForce) : (s.onLba f).InBudget :=
  h.congr hc (by simp [State.sumSettling, hs]) hf rfl

/-- A change of a claim record that does not raise the load's share of G. -/
theorem onClaim_of_le {l : Load} {f : Claim → Claim} (h : s.InBudget) (hle : (s.onClaim l f).drawn l ≤ s.drawn l) :
    (s.onClaim l f).InBudget := by
  obtain ⟨hlaw, hmains⟩ := h
  have hsum := s.sumGranted_onClaim l f
  refine ⟨?_, hmains⟩
  simp only [State.BudgetLaw, State.sumSettling_onClaim, State.inForce_onClaim] at hlaw ⊢
  omega

end State.InBudget

/-! ### Settling, claims that end, and revocation (R49, R53, R55) -/

section
variable {s : State} {l : Load}

/-- A GRANTED claim that gives its wattage to the settling list leaves G + S as it was (R49). -/
theorem State.InBudget.settle_onClaim {f : Claim → Claim} (h : s.InBudget) (hg : s.granted l = true)
    (hf : (f (s.claimOf l)).state ≠ .granted) : ((s.settle l (s.claimOf l).counted).onClaim l f).InBudget := by
  obtain ⟨hlaw, hmains⟩ := h
  have hsum := (s.settle l (s.claimOf l).counted).sumGranted_onClaim l f
  have hdrawn := State.drawn_of_granted hg
  rw [State.drawn_onClaim_self, State.claimOf_settle, if_neg hf, State.drawn_settle, State.sumGranted_settle] at hsum
  refine ⟨?_, hmains⟩
  simp only [State.BudgetLaw, State.sumSettling_onClaim, State.sumSettling_settle, State.inForce_onClaim,
    State.inForce_settle] at hlaw ⊢
  omega

theorem State.InBudget.endClaim (h : s.InBudget) : (s.endClaim l).InBudget := by
  unfold State.endClaim
  split
  · exact h
  · exact h.onClaim_of_le (by simp)
  · next hst => exact h.settle_onClaim (by simp [State.granted, hst]) (by simp)

theorem State.InBudget.revoke (h : s.InBudget) (hg : s.granted l = true) : (s.revoke l).InBudget :=
  h.settle_onClaim hg (by simp)

/-- A revocation changes no other claim. -/
theorem State.granted_revoke_of_ne {k : Load} (hne : k ≠ l) : (s.revoke l).granted k = s.granted k := by
  simp [State.revoke, State.granted, hne]

end

theorem insertBy_perm (le : Load → Load → Bool) (l : Load) (ls : List Load) : (insertBy le l ls).Perm (l :: ls) := by
  induction ls with
  | nil => exact .refl _
  | cons x xs ih =>
    unfold insertBy
    split
    · exact .refl _
    · exact (ih.cons x).trans (.swap ..)

theorem foldr_insertBy_perm (le : Load → Load → Bool) (ls : List Load) : (ls.foldr (insertBy le) []).Perm ls := by
  induction ls with
  | nil => exact .refl _
  | cons l ls ih => exact (insertBy_perm le l _).trans (ih.cons l)

/-- The candidates for revocation are GRANTED loads (R52). -/
theorem State.granted_of_mem_candidates {s : State} {l : Load} (h : l ∈ s.candidates) : s.granted l = true :=
  List.of_mem_filter ((foldr_insertBy_perm _ _).mem_iff.mp h)

theorem State.candidates_nodup (s : State) : s.candidates.Nodup :=
  (foldr_insertBy_perm _ _).nodup_iff.mpr (List.Nodup.filter _ (by decide))

/-- Revoking distinct GRANTED loads in turn finds each of them still GRANTED. -/
theorem State.InBudget.revokeUntil {s : State} {w limit : Nat} {ls : List Load} (h : s.InBudget)
    (hg : ∀ l ∈ ls, s.granted l = true) (hn : ls.Nodup) : (State.revokeUntil w limit ls s).InBudget := by
  induction ls generalizing s with
  | nil => exact h
  | cons l ls ih =>
    obtain ⟨hl, hn⟩ := List.nodup_cons.mp hn
    unfold State.revokeUntil
    split
    · exact h
    · refine ih (h.revoke (hg l (List.mem_cons_self ..))) (fun k hk => ?_) hn
      rw [State.granted_revoke_of_ne (ne_of_mem_of_not_mem hk hl)]
      exact hg k (List.mem_cons_of_mem _ hk)

theorem State.InBudget.revokeCandidates {s : State} {w limit : Nat} (h : s.InBudget) :
    (State.revokeUntil w limit s.candidates s).InBudget :=
  h.revokeUntil (fun _ => State.granted_of_mem_candidates) s.candidates_nodup

/-! ### Grants (R50, R51, R57) -/

theorem State.askMove_budget (s : State) : s.askMove.lba = s.lba ∧ s.askMove.settings = s.settings := by
  unfold State.askMove
  split
  · next origin target a ht hm =>
    have h := s.enqueue_frame a (.move target) .dvc
    split
    · split <;> next e => simp_all
    · simp
  · simp

/-- What a grant sets off at its claimant changes neither LBA nor the settings. -/
@[simp] theorem State.granteeEvent_budget (s : State) (l : Load) :
    (s.granteeEvent l).lba = s.lba ∧ (s.granteeEvent l).settings = s.settings := by
  unfold State.granteeEvent
  split
  · exact s.askMove_budget
  · unfold State.fanGranted
    split <;> simp
  · unfold State.valveGranted
    dsimp only
    split <;> simp
  all_goals simp

/-- A grant raises G by no more than the wattage the claim asks for, and changes nothing else of the budget. -/
theorem State.grant_budget (s : State) (l : Load) :
    (s.grant l).sumGranted ≤ s.sumGranted + s.wanted l ∧ (s.grant l).sumSettling = s.sumSettling ∧
      (s.grant l).lba.inForce = s.lba.inForce ∧ (s.grant l).mains = s.mains := by
  unfold State.grant State.wanted
  split
  · next hg =>
    have hsum := s.sumGranted_onClaim l fun c => { c with counted := s.watts l }
    have hst : (s.claimOf l).state = .granted := by simpa [State.granted] using hg
    rw [State.drawn_of_granted hg, State.drawn_onClaim_self] at hsum
    simp only [hst, if_true] at hsum
    refine ⟨?_, rfl, rfl, rfl⟩
    omega
  · next hg =>
    obtain ⟨hl, hs⟩ := State.granteeEvent_budget ((s.onLba fun b => { b with grants := b.grants + 1 }).onClaim l fun c =>
      { c with state := .granted, counted := s.watts l, grantOrder := s.lba.grants + 1 }) l
    have hsum := (s.onLba fun b => { b with grants := b.grants + 1 }).sumGranted_onClaim l fun c =>
      { c with state := .granted, counted := s.watts l, grantOrder := s.lba.grants + 1 }
    have hdrawn : (s.onLba fun b => { b with grants := b.grants + 1 }).drawn l = 0 :=
      State.drawn_of_not_granted (show s.granted l = false by simpa using hg)
    have hG : (s.onLba fun b => { b with grants := b.grants + 1 }).sumGranted = s.sumGranted := rfl
    rw [hdrawn, State.drawn_onClaim_self, hG] at hsum
    simp only [if_true] at hsum
    refine ⟨?_, ?_, by rw [hl]; rfl, State.mains_congr hs⟩
    · rw [State.sumGranted_congr (congrArg Lba.claims hl)]
      omega
    · simp only [State.sumSettling_eq_sum, hl]
      rfl

/-- A claim fits when its wattage lies within the headroom and within mains_budget_w, and its load, unless GRANTED, does not
settle (R50). -/
theorem State.fits_iff (s : State) (l : Load) :
    s.fits l = true ↔
      s.sumGranted + s.sumSettling + s.wanted l ≤ s.lba.inForce ∧ s.sumGranted + s.wanted l ≤ s.mains ∧
        (s.granted l = true ∨ s.settles l = false) := by
  simp [State.fits, and_assoc]

/-- A claim that fits leaves the law in force and G within mains_budget_w once granted. -/
theorem State.grant_within {s : State} {l : Load} (hf : s.fits l = true) :
    (s.grant l).sumGranted ≤ s.mains ∧ (s.grant l).sumGranted + (s.grant l).sumSettling ≤ s.lba.inForce := by
  obtain ⟨hforce, hmains, -⟩ := s.fits_iff l |>.mp hf
  obtain ⟨hG, hS, -, -⟩ := s.grant_budget l
  omega

theorem State.InBudget.grant {s : State} {l : Load} (h : s.InBudget) (hf : s.fits l = true) : (s.grant l).InBudget := by
  obtain ⟨-, -, hforce, hmains⟩ := s.grant_budget l
  refine ⟨?_, by rw [hforce, hmains]; exact h.2⟩
  unfold State.BudgetLaw
  rw [hforce]
  exact (State.grant_within hf).2

/-! ### The walk (R51 to R53) -/

namespace State.InBudget

variable {s : State} {l : Load}

theorem makeRoom (h : s.InBudget) : (s.makeRoom l).InBudget := by
  unfold State.makeRoom
  split
  · exact h.revokeCandidates
  · split
    · next hc => exact h.revoke hc.2.1
    · exact h

theorem walkThrough {ls : List Load} (h : s.InBudget) : (State.walkThrough ls s).1.InBudget := by
  induction ls generalizing s with
  | nil => exact h
  | cons l ls ih =>
    unfold State.walkThrough
    split
    · next hf => exact ih (h.grant hf)
    · exact h.makeRoom

theorem walkAgain {n : Nat} (h : s.InBudget) : (State.walkAgain n s).InBudget := by
  induction n generalizing s with
  | zero => exact h
  | succ n ih =>
    unfold State.walkAgain
    split
    · next t e => exact ih (h.walkThrough.fst_of_eq e)
    · next t e => exact h.walkThrough.fst_of_eq e

theorem walk (h : s.InBudget) : s.walk.InBudget := .ite h h.walkAgain

end State.InBudget

namespace State.InBudget

variable {s before : State}

/-! ### Shared operations -/

theorem onEntry {a : Addr} {f : Entry → Entry} (h : s.InBudget) : (s.onEntry a f).InBudget := h.onMsu

theorem onBay {a : Addr} {f : Bay → Bay} (h : s.InBudget) : (s.onBay a f).InBudget := h.onMbi

theorem onColumn {c : Column} {f : ColumnRec → ColumnRec} (h : s.InBudget) : (s.onColumn c f).InBudget := by
  unfold State.onColumn
  split <;> exact h.onSfc

theorem onChannel {c : Channel} {f : ChannelRec → ChannelRec} (h : s.InBudget) : (s.onChannel c f).InBudget := by
  unfold State.onChannel
  split <;> exact h.onDsc

theorem onVent {f : Vent → Vent} (h : s.InBudget) : (s.onVent f).InBudget := h.onDvc

theorem chooseTx (h : s.InBudget) : s.chooseTx.InBudget := by
  unfold State.chooseTx
  split
  · exact h
  · exact h.onPlk
  · exact h.onPlk
  · exact h.onPlk
  · exact h

theorem kickTx (h : s.InBudget) : s.kickTx.InBudget := .ite h h.chooseTx

theorem place {n : Notice} (h : s.InBudget) : (s.place n).InBudget := .ite h.onPlk h.onPlk

theorem reply {kind tag : Octet} {status : Status} {fields : List Octet} (h : s.InBudget) :
    (s.reply kind tag status fields).InBudget :=
  h.onPlk

theorem linkError (h : s.InBudget) : s.linkError.InBudget := h.onPlk

theorem startWrite {image : ImageId} (h : s.InBudget) : (s.startWrite image).InBudget := by
  unfold State.startWrite
  split <;> exact h.onSto

theorem kickStore (h : s.InBudget) : s.kickStore.InBudget := by
  unfold State.kickStore
  refine .ite h (.ite h ?_)
  split
  · exact h
  · exact .ite h.startWrite (h.cond startWrite)

theorem saveCounters (h : s.InBudget) : s.saveCounters.InBudget := h.onSto.kickStore

theorem endWrite (h : s.InBudget) : s.endWrite.InBudget := by
  unfold State.endWrite
  split
  · exact h
  all_goals exact h.onSto

theorem wake {cause : StandbyCause} (h : s.InBudget) : (s.wake cause).InBudget := h.cond onSto

theorem setPower {p : Power} {cause : StandbyCause} (h : s.InBudget) : (s.setPower p cause).InBudget := h.onSto.place

theorem endPendingStandby (h : s.InBudget) : s.endPendingStandby.InBudget := h.cond setPower

theorem onFault {code : FaultCode} {detail : Nat} {f : FaultRec → FaultRec} (h : s.InBudget) :
    (s.onFault code detail f).InBudget :=
  h.onFlu

theorem faultNotice {event : FaultEvent} {r : FaultRec} (h : s.InBudget) : (s.faultNotice event r).InBudget := h.place

theorem noteFault {event : FaultEvent} {code : FaultCode} {detail : Nat} (h : s.InBudget) :
    (s.noteFault event code detail).InBudget := by
  unfold State.noteFault
  split
  · exact h.faultNotice
  · exact h

theorem removeFault {code : FaultCode} {detail : Nat} (h : s.InBudget) : (s.removeFault code detail).InBudget := by
  unfold State.removeFault
  split
  · exact h.onFlu.faultNotice
  · exact h

theorem createFault {code : FaultCode} {detail : Nat} {cls : FaultClass} (h : s.InBudget) :
    (s.createFault code detail cls).InBudget :=
  h.onFlu.faultNotice

theorem enterFault {code : FaultCode} {detail : Nat} {cls : FaultClass} (h : s.InBudget) :
    (s.enterFault code detail cls).1.InBudget := by
  unfold State.enterFault
  split
  · exact .ite h.onFault h.onFault.noteFault
  · refine .fst_ite h.createFault ?_
    split
    · exact h.removeFault.createFault
    · exact h.onFlu

theorem escalate {code : FaultCode} {detail : Nat} {cls : FaultClass} (h : s.InBudget) :
    (s.escalate code detail cls).InBudget := by
  unfold State.escalate
  split
  · exact h
  · exact .ite (.ite (.ite h.onFlu.onFlu h.onFlu.onFlu.onFault.noteFault) h.onFlu) h

theorem raiseList {code : FaultCode} {detail : Nat} {cls : FaultClass} (h : s.InBudget) :
    (s.raiseList code detail cls).1.InBudget := by
  unfold State.raiseList
  split
  · next t _ e => exact .fst_ite (h.enterFault.fst_of_eq e).escalate.wake (h.enterFault.fst_of_eq e)

theorem warn {code : FaultCode} {detail : Nat} (h : s.InBudget) : (s.warn code detail).InBudget := h.raiseList

theorem endCondition {code : FaultCode} {detail : Nat} (h : s.InBudget) : (s.endCondition code detail).InBudget := by
  unfold State.endCondition
  split
  · exact h
  · exact .ite h.onFault h.removeFault

theorem countDosing {f : Dosing → Dosing} (h : s.InBudget) : (s.countDosing f).InBudget := h.onCsq

theorem countSteps {c : Channel} {n : Nat} (h : s.InBudget) : (s.countSteps c n).InBudget := h.countDosing

theorem countDrop {n : Nat} (h : s.InBudget) : (s.countDrop n).InBudget := .ite h h.countDosing

theorem countDose {ul : Nat} {hard : Bool} (h : s.InBudget) : (s.countDose ul hard).InBudget := h.countDosing

/-! ### The downstream queue -/

theorem choose (h : s.InBudget) : s.choose.InBudget := by
  unfold State.choose
  refine .ite ?_ h
  split
  · exact h.onMbi
  · exact h

theorem enqueue {dest : Addr} {body : DownBody} {source : Enqueuer} (h : s.InBudget) :
    (s.enqueue dest body source).1.InBudget :=
  .fst_ite h.onMbi.choose h

theorem askOrder {c : Channel} (h : s.InBudget) : (s.askOrder c).InBudget := by
  unfold State.askOrder
  split
  · refine .ite ?_ h
    split
    · next t e => exact (h.enqueue.fst_of_eq e).onChannel
    · next t e => exact h.enqueue.fst_of_eq e
  · exact h

theorem askMove (h : s.InBudget) : s.askMove.InBudget := by
  unfold State.askMove
  split
  · refine .ite ?_ h
    split
    · next t e => exact (h.enqueue.fst_of_eq e).onDvc
    · next t e => exact h.enqueue.fst_of_eq e
  · exact h

theorem askQuery {a : Addr} (h : s.InBudget) : (s.askQuery a).InBudget := by
  unfold State.askQuery
  split
  · next t e => exact (h.enqueue.fst_of_eq e).onEntry
  · next t e => exact (h.enqueue.fst_of_eq e).onEntry

theorem askQueries (h : s.InBudget) : s.askQueries.InBudget := h.foldl fun ht => ht.cond askQuery

theorem dequeued (h : s.InBudget) : s.dequeued.InBudget := h.onMbi

theorem askWaiting (h : s.InBudget) : s.askWaiting.InBudget :=
  .ite h.onMbi.choose.askOrder.askOrder.askMove.askQueries h

theorem dropSending (h : s.InBudget) : s.dropSending.InBudget := h.onMbi

theorem removeMsgs {p : DownMsg → Bool} (h : s.InBudget) : (s.removeMsgs p).InBudget := .ite h.onMbi.dequeued h

/-! ### Claims, releases, and changes of wattage and budget (R47, R48, R55 to R58) -/

theorem fanGranted (h : s.InBudget) : s.fanGranted.InBudget := .ite h.onVent.onDvc h

theorem tellUnfit {l : Load} (h : s.InBudget) : (s.tellUnfit l).InBudget := (h.onMarks rfl rfl rfl).warn

/-- A claim taken WAITS first, with no share of G, and the walk runs (R47). -/
theorem claim {l : Load} (h : s.InBudget) : (s.claim l).1.InBudget :=
  .fst_ite h (.fst_ite h (.fst_ite h (.fst_ite h.tellUnfit (h.onClaim_of_le (by simp)).walk)))

theorem release {l : Load} (h : s.InBudget) : (s.release l).InBudget := .ite h h.endClaim.walk

theorem freeRetract (h : s.InBudget) : s.freeRetract.InBudget := h.onDvc

theorem fitEvent {l : Load} (h : s.InBudget) : (s.fitEvent l).InBudget := by
  unfold State.fitEvent
  split
  · exact h.onChannel
  · exact h.onChannel
  · exact h.cond claim
  · exact h.cond claim
  · exact h.cond claim
  · exact h.freeRetract
  all_goals exact h

theorem retestOne {p : State × List Load} {l : Load} (h : p.1.InBudget) : (State.retestOne p l).1.InBudget :=
  .fst_ite (.fst_ite h h.endClaim.tellUnfit) (.fst_ite (h.onMarks rfl rfl rfl).endCondition.fitEvent h)

theorem retest (h : s.InBudget) : s.retest.1.InBudget := h.fst_foldl fun ht => ht.retestOne

theorem clearBreakers (h : s.InBudget) : s.clearBreakers.InBudget := .ite (h.onMarks rfl rfl rfl) h

/-- A decrease takes force only once G + S lies within it (R58). -/
theorem takeForce (h : s.InBudget) : s.takeForce.1.InBudget := by
  unfold State.takeForce
  split
  · next hc => exact ⟨hc.2, Nat.le_refl _⟩
  · exact h

/-- A new mains_budget_w above the budget in force takes force at once, and one below it waits: either way it is not above
the budget in force any more, whatever it was before (R58). -/
theorem budgetSet (h : s.BudgetLaw) : s.budgetSet.1.InBudget := by
  have hclear : s.clearBreakers.BudgetLaw := by
    unfold State.clearBreakers
    split <;> exact h
  unfold State.budgetSet
  extract_lets t u
  split
  · next hle =>
    have hforce : (t.onLba fun b => { b with inForce := t.mains }).InBudget :=
      ⟨Nat.le_trans hclear hle, Nat.le_refl _⟩
    split
    next v ended e => exact (hforce.retest.fst_of_eq e).walk
  · next hlt =>
    have hwait : t.InBudget := ⟨hclear, by omega⟩
    have hforce : u.takeForce.1.InBudget := hwait.revokeCandidates.takeForce
    split
    next v ended e => exact (hforce.retest.fst_of_eq e).walk

/-- An increase of a GRANTED claim that fits is taken as a grant takes it; any other increase revokes or waits (R57). -/
theorem wattsOne {l : Load} (h : s.InBudget) : (State.wattsOne before s l).InBudget := by
  unfold State.wattsOne
  refine .ite h (.ite h.endClaim ?_)
  split
  · next hg =>
    have hst : (s.claimOf l).state = .granted := by simpa [State.granted] using hg
    split
    · next hle => exact h.onClaim_of_le (by simpa [hst, State.drawn_of_granted hg] using hle)
    · refine .ite (.ite h ?_) (.ite h h.revokeCandidates)
      split
      · next hfit =>
        have hfits : s.fits l = true := s.fits_iff l |>.mpr (by simpa [State.wanted, hg] using hfit)
        simpa [State.grant, hg] using h.grant hfits
      · exact h.revoke hg
  · exact h

theorem markBreakers (h : s.InBudget) : (State.markBreakers before s).InBudget :=
  .ite (h.foldl fun ht => .ite (ht.onMarks rfl rfl rfl) ht) h

theorem rederiveOne {p : State × Nat} {l : Load} (h : p.1.InBudget) : (State.rederiveOne p l).1.InBudget :=
  .ite (h.onMarks rfl rfl rfl) h

theorem rederiveBreakers (h : s.InBudget) : s.rederiveBreakers.InBudget := h.fst_foldl fun ht => ht.rederiveOne

theorem wattsChanged (h : s.InBudget) : (State.wattsChanged before s).1.InBudget := by
  unfold State.wattsChanged
  refine .fst_ite h ?_
  extract_lets t u
  have ht : t.InBudget := h.markBreakers.clearBreakers
  have hu : u.InBudget := ht.foldl fun hv => hv.wattsOne
  split
  next v ended e => exact (hu.retest.fst_of_eq e).walk

/-- An entry that leaves the settling list lowers S (R49). -/
theorem dropSettling (h : s.InBudget) : (s.onLba fun b => { b with settling := b.settling.drop 1 }).InBudget := by
  refine h.congr rfl ?_ rfl rfl
  simp only [State.sumSettling_eq_sum]
  exact ((List.drop_sublist 1 s.lba.settling).map Settling.watts).sum_le_sum fun _ _ => Nat.zero_le _

theorem settlingEnds (h : s.InBudget) : s.settlingEnds.1.InBudget := by
  unfold State.settlingEnds
  dsimp only
  split
  · exact h.dropSettling.takeForce.retest.walk
  · exact h.dropSettling.takeForce.walk

theorem endAllClaims (h : s.InBudget) : s.endAllClaims.InBudget := h.foldl fun ht => ht.endClaim

theorem promote (h : s.InBudget) : s.promote.InBudget :=
  (h.onClaim_of_le (by simp [State.drawn, State.granted])).walk

/-! ### The softener -/

theorem becomeDue (h : s.InBudget) : s.becomeDue.InBudget := h.onSfc.warn

theorem startChangeover (h : s.InBudget) : s.startChangeover.InBudget := by
  unfold State.startChangeover
  refine .ite ?_ h
  split
  · next t e => exact (h.onSfc.claim.fst_of_eq e).becomeDue
  · next t e => exact (h.onSfc.claim.fst_of_eq e).onSfc
  · next t e => exact h.onSfc.claim.fst_of_eq e
  · next t e => exact h.onSfc.claim.fst_of_eq e
  · next t e => exact h.onSfc.claim.fst_of_eq e

theorem becomePending (h : s.InBudget) : s.becomePending.InBudget := h.onSfc.startChangeover

theorem placeChangeover (h : s.InBudget) : s.placeChangeover.InBudget := .ite h.onSfc.becomePending h.onSfc.becomeDue

theorem changeoverTrigger (h : s.InBudget) : s.changeoverTrigger.InBudget := by
  unfold State.changeoverTrigger
  split
  · exact h.placeChangeover
  · exact h.onSfc
  all_goals exact h

theorem retestDue (h : s.InBudget) : s.retestDue.InBudget := h.cond becomePending

theorem noteSoftener {event : SoftenerEvent} {c : Column} (h : s.InBudget) : (s.noteSoftener event c).InBudget :=
  h.place

theorem beginRegen {c : Column} (h : s.InBudget) : (s.beginRegen c).InBudget := h.onColumn.onSfc.noteSoftener

theorem startRegen (h : s.InBudget) : s.startRegen.InBudget := h.cond beginRegen

theorem nextPhase {c : Column} {state : ColumnState} {seconds : Nat} (h : s.InBudget) :
    (s.nextPhase c state seconds).InBudget :=
  h.onColumn.noteSoftener

theorem noBrine {c : Column} (h : s.InBudget) : (s.noBrine c).InBudget := .ite h h.onColumn.warn

theorem endRegen {c : Column} (h : s.InBudget) : (s.endRegen c).InBudget :=
  h.onColumn.saveCounters.noteSoftener.retestDue.startRegen

theorem endPhase {c : Column} (h : s.InBudget) : (s.endPhase c).InBudget := by
  unfold State.endPhase
  split
  · exact h.noBrine.nextPhase
  · exact h.nextPhase
  · exact h.endRegen
  all_goals exact h

theorem endAlignment (h : s.InBudget) : s.endAlignment.InBudget := .ite h.onSfc.becomeDue.retestDue h.onSfc

theorem holdAlignment (h : s.InBudget) : s.holdAlignment.InBudget := h.endAlignment.onSfc

theorem startAlignment (h : s.InBudget) : s.startAlignment.InBudget := by
  unfold State.startAlignment
  refine .ite ?_ h
  split
  · next t e => exact (h.onSfc.claim.fst_of_eq e).holdAlignment
  · next t e => exact (h.onSfc.claim.fst_of_eq e).holdAlignment
  · next t e => exact h.onSfc.claim.fst_of_eq e
  · next t e => exact h.onSfc.claim.fst_of_eq e
  · next t e => exact h.onSfc.claim.fst_of_eq e

theorem freeAlignment (h : s.InBudget) : s.freeAlignment.InBudget := h.onSfc

theorem testAlignment (h : s.InBudget) : s.testAlignment.InBudget := .ite h h.startAlignment

theorem failMove (h : s.InBudget) : s.failMove.InBudget := h.onSfc.warn

theorem endReturning (h : s.InBudget) : s.endReturning.InBudget := h.onSfc.release.noteSoftener.becomeDue

theorem failAlignment (h : s.InBudget) : s.failAlignment.InBudget := h.warn.release.endAlignment

theorem swapColumns (h : s.InBudget) : s.swapColumns.InBudget := h.onColumn.onColumn.onSfc

theorem completeMove (h : s.InBudget) : s.completeMove.InBudget := h.swapColumns.release.noteSoftener.startRegen

theorem endMoveTimer (h : s.InBudget) : s.endMoveTimer.InBudget := by
  unfold State.endMoveTimer
  split
  · exact h.failMove
  · exact h.endReturning
  · exact h.failAlignment
  all_goals exact h

theorem accountPulse (h : s.InBudget) : s.accountPulse.InBudget :=
  h.onSfc.onColumn.cond fun ht => ht.onColumn.changeoverTrigger

theorem breakthrough {previous : Option Octet} {o : Octet} (h : s.InBudget) : (s.breakthrough previous o).InBudget := by
  unfold State.breakthrough
  split
  · exact .ite h.onColumn.changeoverTrigger h
  · exact h

theorem followSalt {previous : Option Octet} {o : Octet} (h : s.InBudget) : (s.followSalt previous o).InBudget := by
  unfold State.followSalt
  extract_lets t
  have ht : t.InBudget := by
    unfold t
    split
    · exact .ite h.onColumn h
    · exact h
  exact .ite (.ite ht ht.onSfc.warn.noteSoftener) (.ite h.onSfc.endCondition.noteSoftener h.endCondition)

theorem followBrine {o : Octet} (h : s.InBudget) : (s.followBrine o).InBudget := by
  unfold State.followBrine
  split
  · exact h.cond onSfc
  · exact h

theorem followValve {v : Valve} (h : s.InBudget) : (s.followValve v).InBudget := by
  unfold State.followValve
  split
  · exact h.cond completeMove
  · exact h.failMove
  · exact h
  · exact h.cond endReturning
  · exact h
  · exact h
  · exact .ite h.release.endAlignment h
  · exact h.failAlignment
  · exact h
  · exact h.release.warn.becomeDue
  · exact h.warn
  · exact h.warn
  · exact h.warn
  all_goals exact h

theorem followServe {v : Valve} (h : s.InBudget) : (s.followServe v).InBudget := h.cond endCondition

theorem recallStuck {v : Valve} (h : s.InBudget) : (s.recallStuck v).InBudget := .ite (.ite h.onSfc h.onSfc.warn) h

theorem softenerAccepted {previous : Option Octet} {o : Octet} (h : s.InBudget) :
    (s.softenerAccepted previous o).InBudget :=
  h.breakthrough.followSalt.followBrine.followValve.recallStuck.followServe.retestDue.freeAlignment

theorem softenerLinked (h : s.InBudget) : s.softenerLinked.InBudget := h.retestDue.startRegen.freeAlignment

theorem softenerLost (h : s.InBudget) : s.softenerLost.InBudget := by
  unfold State.softenerLost
  dsimp only
  split
  · exact h.freeAlignment.becomeDue
  · exact h.freeAlignment.release.becomeDue
  · exact h.freeAlignment.release.endAlignment
  all_goals exact h.freeAlignment

theorem softenerLockout (h : s.InBudget) : s.softenerLockout.InBudget := by
  unfold State.softenerLockout
  dsimp only
  split
  · exact h.freeAlignment.onSfc
  · exact h.freeAlignment.endAlignment
  all_goals exact h.freeAlignment

theorem valveUnfit (h : s.InBudget) : s.valveUnfit.InBudget := by
  unfold State.valveUnfit
  split
  · exact h.becomeDue
  · exact h.holdAlignment
  all_goals exact h

theorem regenRequest {code : Octet} (h : s.InBudget) : (s.regenRequest code).1.InBudget := by
  unfold State.regenRequest
  split
  · exact h
  · refine .fst_ite h ?_
    split
    · exact h
    · exact h
    · exact h
    · exact h.beginRegen
    · exact h.beginRegen
    · exact h
    · exact h
    · exact h
    · exact .fst_ite h.onSfc.becomePending h
    all_goals exact h

theorem clampColumns (h : s.InBudget) : s.clampColumns.InBudget := h.onColumn.onColumn

theorem zeroAccumulators (h : s.InBudget) : s.zeroAccumulators.InBudget := h.onSfc.onDsc

/-! ### Dosing -/

theorem markHead {c : Channel} {b : Bool} (h : s.InBudget) : (s.markHead c b).InBudget := h.onChannel

theorem startOrder {c : Channel} (h : s.InBudget) : (s.startOrder c).InBudget := by
  unfold State.startOrder
  refine .ite ?_ h
  split
  · next t e => exact (h.claim.fst_of_eq e).onChannel
  · next t e => exact (h.claim.fst_of_eq e).markHead.askOrder
  · next t e => exact (h.claim.fst_of_eq e).markHead.askOrder
  · next t e => exact h.claim.fst_of_eq e
  · next t e => exact h.claim.fst_of_eq e

theorem createOrder {c : Channel} {origin : Origin} {amount : Amount} (h : s.InBudget) :
    (s.createOrder c origin amount).InBudget :=
  h.onChannel

theorem placeSteps {c : Channel} {origin : Origin} {n : Nat} (h : s.InBudget) : (s.placeSteps c origin n).InBudget := by
  unfold State.placeSteps
  refine .ite h (.ite h.countDrop ?_)
  refine .ite h.createOrder.countSteps.startOrder (.ite ?_ h.countDrop)
  split
  · exact h.onChannel.countSteps.countDrop
  · exact h.countDrop

theorem dose {origin : Origin} {ml soil : Nat} (h : s.InBudget) : (s.dose origin ml soil).InBudget :=
  h.onChannel.placeSteps.countDose

theorem placeOwed (h : s.InBudget) : s.placeOwed.InBudget := h.onDsc.placeSteps

theorem flushTest (h : s.InBudget) : s.flushTest.InBudget := h.cond placeOwed

theorem rinseEndStep (h : s.InBudget) : s.rinseEndStep.InBudget := .ite h.onDsc.flushTest h

theorem accruePulse (h : s.InBudget) : s.accruePulse.InBudget := h.onDsc.cond placeOwed

theorem evalLow {c : Channel} (h : s.InBudget) : (s.evalLow c).InBudget := h.onChannel

theorem noteStock {c : Channel} (h : s.InBudget) : (State.noteStock before s c).InBudget := .ite h h.place

theorem lowEvent {c : Channel} (h : s.InBudget) : (State.lowEvent before s c).InBudget := h.evalLow.noteStock

theorem dropQueued {c : Channel} (h : s.InBudget) : (s.dropQueued c).InBudget := h.onChannel.countDrop

theorem becomeEmpty {c : Channel} (h : s.InBudget) : (s.becomeEmpty c).InBudget := h.onChannel.dropQueued.warn

theorem doneReason {c : Channel} {reason : Octet} (h : s.InBudget) : (s.doneReason c reason).InBudget :=
  .ite h (.ite h.becomeEmpty h.warn)

theorem removeHead {c : Channel} (h : s.InBudget) : (s.removeHead c).InBudget := h.onChannel.release

theorem afterRemoval {c : Channel} (h : s.InBudget) : (s.afterRemoval c).InBudget := by
  unfold State.afterRemoval
  split
  · exact h.startOrder
  · exact h.startOrder.flushTest

theorem takeDone {c : Channel} {tag : Octet} {delivered : Nat} {reason : Octet} (h : s.InBudget) :
    (s.takeDone c tag delivered reason).InBudget := by
  unfold State.takeDone
  split
  · exact h
  · exact .ite h h.onChannel.countDrop.doneReason.removeHead.lowEvent.afterRemoval

theorem channelLost {c : Channel} (h : s.InBudget) : (s.channelLost c).InBudget := by
  unfold State.channelLost
  split
  · exact h
  · exact .ite h.countDrop.removeHead.removeMsgs.afterRemoval (.ite h.markHead.release h)

theorem doserUnfit {c : Channel} (h : s.InBudget) : (s.doserUnfit c).InBudget :=
  .ite h.onChannel.onChannel h.onChannel.markHead

theorem channelLockout {c : Channel} (h : s.InBudget) : (s.channelLockout c).InBudget := by
  unfold State.channelLockout
  dsimp only
  split
  · exact h.dropQueued.cond onChannel
  · exact (h.dropQueued.cond onChannel).flushTest

theorem watchdogExpires {c : Channel} (h : s.InBudget) : (s.watchdogExpires c).InBudget := h.onChannel.warn

theorem stockRequest {code : Octet} {ml : Nat} (h : s.InBudget) : (s.stockRequest code ml).1.InBudget := by
  unfold State.stockRequest
  split
  · exact h
  · exact (h.onChannel.cond endCondition).lowEvent

theorem manualRequest {code : Octet} {ul : Nat} (h : s.InBudget) : (s.manualRequest code ul).1.InBudget := by
  unfold State.manualRequest
  split
  · exact h
  · refine .fst_ite h ?_
    split
    · exact h
    · exact h.onChannel.placeSteps

theorem primeRequest {code : Octet} {seconds : Nat} (h : s.InBudget) : (s.primeRequest code seconds).1.InBudget := by
  unfold State.primeRequest
  split
  · exact h
  · refine .fst_ite h ?_
    split
    · exact h
    · exact h.createOrder.startOrder

theorem containerChanged {c : Channel} (h : s.InBudget) : (s.containerChanged c).InBudget := h.onChannel.lowEvent

theorem lowChanged (h : s.InBudget) : s.lowChanged.InBudget := h.lowEvent.lowEvent

theorem clampCarries (h : s.InBudget) : (State.clampCarries before s).InBudget := by
  unfold State.clampCarries
  extract_lets one
  have hone : ∀ {t : State} {c : Channel}, t.InBudget → (one t c).InBudget := fun ht => .ite ht ht.onChannel
  exact hone (hone h)

/-! ### The door -/

theorem noteDoor {moved : Option (Octet × Nat)} (h : s.InBudget) : (s.noteDoor moved).InBudget := h.place

theorem withdrawMove (h : s.InBudget) : s.withdrawMove.InBudget := h.removeMsgs

theorem abandonPush (h : s.InBudget) : s.abandonPush.InBudget := h.onDvc.release.withdrawMove

theorem abandonRetract (h : s.InBudget) : s.abandonRetract.InBudget := h.onDvc.release

theorem breakRetract (h : s.InBudget) : s.breakRetract.InBudget := h.abandonRetract.noteDoor

theorem abandonTask (h : s.InBudget) : s.abandonTask.InBudget := by
  unfold State.abandonTask
  split
  · exact h
  · exact h.abandonPush
  · exact h.breakRetract

theorem holdRetract (h : s.InBudget) : s.holdRetract.InBudget := h.onDvc

theorem startRetract (h : s.InBudget) : s.startRetract.InBudget := by
  unfold State.startRetract
  refine .ite ?_ h
  split
  · next t e => exact (h.claim.fst_of_eq e).holdRetract.noteDoor
  · next t e => exact h.claim.fst_of_eq e
  · next t e => exact (h.claim.fst_of_eq e).onDvc
  · next t e => exact (h.claim.fst_of_eq e).onDvc
  · next t e => exact h.claim.fst_of_eq e

theorem testRetract (h : s.InBudget) : s.testRetract.InBudget := .ite (.ite h h.startRetract) h.freeRetract

theorem yieldRetract (h : s.InBudget) : s.yieldRetract.InBudget := .ite h.onDvc.noteDoor h

theorem startPush {origin : PushOrigin} {target : Nat} (h : s.InBudget) : (s.startPush origin target).1.InBudget := by
  unfold State.startPush
  split
  · next t e => exact h.yieldRetract.onDvc.claim.fst_of_eq e
  · next t e => exact (h.yieldRetract.onDvc.claim.fst_of_eq e).askMove
  · next t e => exact (h.yieldRetract.onDvc.claim.fst_of_eq e).onDvc.freeRetract
  · next t e => exact (h.yieldRetract.onDvc.claim.fst_of_eq e).onDvc.freeRetract
  · next t e => exact h.yieldRetract.onDvc.claim.fst_of_eq e

theorem doorBlocked (h : s.InBudget) : s.doorBlocked.InBudget := (InBudget.ite h h.onVent).warn

theorem limitRetract (h : s.InBudget) : s.limitRetract.InBudget := h.onDvc.release.doorBlocked.noteDoor

theorem takeMoved {reached : Nat} {reason : Octet} (h : s.InBudget) : (s.takeMoved reached reason).InBudget := by
  unfold State.takeMoved
  extract_lets t u v
  have hu : u.InBudget := h.onDvc.cond doorBlocked
  have hv : v.InBudget := .ite hu.startRetract hu.release
  exact hv.noteDoor

theorem askLatch (h : s.InBudget) : s.askLatch.InBudget := h.abandonTask.onDvc

theorem clearLatch (h : s.InBudget) : s.clearLatch.InBudget := h.onDvc

theorem dropVent (h : s.InBudget) : s.dropVent.InBudget := .ite h h.abandonTask.withdrawMove.onDvc.release.onVent

theorem doorCycleEnd {numbered : Bool} (h : s.InBudget) : (s.doorCycleEnd numbered).InBudget :=
  ((h.dropVent.cond clearLatch).cond onDvc).startRetract

theorem doorLockout (h : s.InBudget) : s.doorLockout.InBudget := h.abandonTask.cond onVent

/-! ### The water path -/

theorem handOver (h : s.InBudget) : s.handOver.InBudget := .ite (.ite h.onWhu (h.cond onWhu)) h

theorem closeInlet {outcome : DrawOutcome} (h : s.InBudget) : (s.closeInlet outcome).InBudget := by
  unfold State.closeInlet
  split
  · exact h
  · exact h.onWhu.freeAlignment

theorem openInlet (h : s.InBudget) : s.openInlet.1.InBudget := h.onWhu

theorem endRunOn (h : s.InBudget) : s.endRunOn.1.InBudget := h.onWhu

theorem takeDrain {u : DrainUser} (h : s.InBudget) : (s.takeDrain u).InBudget := h.onWhu.claim

theorem dropDrain (h : s.InBudget) : s.dropDrain.InBudget := h.onWhu.release

theorem startPurge {ml : Nat} (h : s.InBudget) : (s.startPurge ml).InBudget := h.onWhu.takeDrain

theorem endPurge (h : s.InBudget) : s.endPurge.InBudget := h.onWhu.dropDrain

theorem levelKeep {code : LevelCode} (h : s.InBudget) : (s.levelKeep code).InBudget := by
  unfold State.levelKeep
  split
  · exact h.cond takeDrain
  · exact h.cond dropDrain
  · exact h.cond dropDrain
  · exact h

theorem endCycleDrain (h : s.InBudget) : s.endCycleDrain.InBudget := by
  unfold State.endCycleDrain
  split
  · exact h.endPurge
  · exact h.dropDrain
  · exact h
  · exact h.onWhu

theorem recomputeTank (h : s.InBudget) : s.recomputeTank.InBudget := h.onWhu

theorem closeFill (h : s.InBudget) : s.closeFill.InBudget := by
  unfold State.closeFill
  split
  · exact h
  · exact .ite h.onWhu.onWhu (.ite (.ite h.onWhu.closeInlet.onWhu h.onWhu.closeInlet.dose) h.onWhu.onWhu)

theorem endFill (h : s.InBudget) : s.endFill.InBudget := h.closeFill.recomputeTank

theorem startFill {kind : FillKind} (h : s.InBudget) : (s.startFill kind).InBudget := h.onWhu.cond endFill

theorem armFill (h : s.InBudget) : s.armFill.InBudget := h.cond startFill

theorem reportFill {pulses : Nat} (h : s.InBudget) : (s.reportFill pulses).InBudget := by
  unfold State.reportFill
  split
  · exact h.onWhu.recomputeTank.dose
  · exact h

theorem tankReport {r : DrawReport} (h : s.InBudget) : (s.tankReport r).InBudget := by
  unfold State.tankReport
  split
  · exact h.onWhu.dose
  · exact h.reportFill

theorem drainRequest (h : s.InBudget) : s.drainRequest.1.InBudget :=
  .fst_ite h (.fst_ite h (h.closeFill.onWhu.release.takeDrain.cond onWhu))

theorem finishDrain (h : s.InBudget) : s.finishDrain.InBudget := h.dropDrain.onWhu.armFill

theorem prepareRequest (h : s.InBudget) : s.prepareRequest.1.InBudget := by
  unfold State.prepareRequest
  refine .fst_ite h ?_
  split
  · exact h
  · exact h.startFill
  all_goals exact h

theorem onThermostat {l : Load} {f : Thermostat → Thermostat} (h : s.InBudget) : (s.onThermostat l f).InBudget := by
  unfold State.onThermostat
  split
  · exact h.onWhu
  · exact h.onWhu
  · exact h.onWhu
  · exact h

theorem heatClaim {l : Load} (h : s.InBudget) : (s.heatClaim l).InBudget := by
  unfold State.heatClaim
  split
  · next t e => exact (h.claim.fst_of_eq e).onThermostat
  · next t e => exact (h.claim.fst_of_eq e).onThermostat
  · next t e => exact h.claim.fst_of_eq e
  · next t e => exact h.claim.fst_of_eq e
  · next t e => exact h.claim.fst_of_eq e

theorem heatOff {l : Load} (h : s.InBudget) : (s.heatOff l).InBudget := h.onThermostat.release

theorem evalHeat {l : Load} (h : s.InBudget) : (s.evalHeat l).InBudget := by
  unfold State.evalHeat
  split
  · exact h.heatOff
  · exact .ite h.heatOff (.ite h.heatOff ((h.cond onThermostat).cond heatClaim))

theorem evalHeats (h : s.InBudget) : s.evalHeats.InBudget := h.evalHeat.evalHeat.evalHeat

theorem retryHeat {l : Load} (h : s.InBudget) : (State.retryHeat before s l).InBudget :=
  .ite (.ite h.heatClaim h.onThermostat) h

theorem retryHeats {ls : List Load} (h : s.InBudget) : (State.retryHeats before s ls).InBudget :=
  h.foldl fun ht => ht.retryHeat

theorem countPulse (h : s.InBudget) : s.countPulse.InBudget := by
  unfold State.countPulse
  split
  · exact h.onWhu
  · exact h.onWhu
  · exact h

theorem waterLockout (h : s.InBudget) : s.waterLockout.InBudget :=
  (h.closeInlet.cond reportFill).onWhu.cond recomputeTank

/-! ### The wash cycle -/

theorem notePhase (h : s.InBudget) : s.notePhase.InBudget := h.place

theorem enterState {p : CycleState} (h : s.InBudget) : (s.enterState p).InBudget := h.onCsq.notePhase

theorem onRecord {f : CycleRecord → CycleRecord} (h : s.InBudget) : (s.onRecord f).InBudget := h.onCsq

theorem arm {recipe : Nat} {queuedAt : BitVec 32} (h : s.InBudget) : (s.arm recipe queuedAt).InBudget :=
  h.onCsq.enterState.armFill

theorem startWash (h : s.InBudget) : s.startWash.InBudget := by
  unfold State.startWash
  split
  · exact h
  · exact h.onCsq.saveCounters.endCondition.enterState.claim

theorem addHold {r : State.HoldReason} (h : s.InBudget) : (s.addHold r).InBudget := by
  unfold State.addHold
  split
  · exact h.onCsq.release.enterState
  · exact h.onCsq.onWhu.release.enterState
  · exact .ite h h.onCsq.notePhase
  all_goals exact h

theorem resume (h : s.InBudget) : s.resume.InBudget := by
  unfold State.resume
  dsimp only
  split
  · exact h.onCsq.enterState.claim
  · exact h.onCsq.enterState.takeDrain
  · exact h.onCsq

theorem dropHold {r : State.HoldReason} (h : s.InBudget) : (s.dropHold r).InBudget :=
  .ite (.ite h.onCsq.notePhase h.onCsq.resume) h

theorem afterFill (h : s.InBudget) : s.afterFill.InBudget := h.armFill.cond dropHold

theorem fillEnds (h : s.InBudget) : s.fillEnds.InBudget := .ite h.endFill.afterFill h

theorem enterRinseWait (h : s.InBudget) : s.enterRinseWait.InBudget := h.onCsq.enterState.claim.askLatch

theorem endWash (h : s.InBudget) : s.endWash.InBudget :=
  .ite h.onRecord.release.enterState.startPurge h.onRecord.release.enterRinseWait

theorem leavePurge (h : s.InBudget) : s.leavePurge.InBudget := h.endPurge.enterRinseWait

theorem rinseHeat {t : Int} (h : s.InBudget) : (s.rinseHeat t).InBudget := .ite h.onCsq (h.cond onCsq)

theorem expireRinseHold (h : s.InBudget) : s.expireRinseHold.InBudget := h.onCsq.onRecord.warn

theorem startRinse (h : s.InBudget) : s.startRinse.InBudget := h.onCsq.enterState.onWhu.cond levelKeep

theorem retarget (h : s.InBudget) : s.retarget.InBudget := h.cond onCsq

theorem rinsePulse (h : s.InBudget) : s.rinsePulse.InBudget := h.cond onCsq

theorem reachTarget (h : s.InBudget) : s.reachTarget.InBudget := h.onCsq.closeInlet.release

theorem enterDwell (h : s.InBudget) : s.enterDwell.InBudget := h.onCsq.enterState

theorem stopOutputs (h : s.InBudget) : s.stopOutputs.InBudget := (h.release.release.onWhu.cond closeInlet).endCycleDrain

theorem shiftQueue (h : s.InBudget) : s.shiftQueue.InBudget := by
  unfold State.shiftQueue
  split
  · exact h.onCsq.arm
  · exact h.onCsq.notePhase

theorem endCycle {outcome : CycleOutcome} (h : s.InBudget) : (s.endCycle outcome).InBudget := by
  unfold State.endCycle
  split
  · exact h
  · exact h.stopOutputs.doorCycleEnd.onCsq.place.onCsq.saveCounters.shiftQueue

theorem rinseReport {r : DrawReport} (h : s.InBudget) : (s.rinseReport r).InBudget :=
  .ite (.ite h.onRecord.rinseEndStep.endCycle h.onRecord.dose.rinseEndStep.enterDwell) h

theorem deliverReport {x : Option DrawReport} (h : s.InBudget) : (s.deliverReport x).InBudget := by
  unfold State.deliverReport
  split
  · exact h
  · split
    · exact h.tankReport.afterFill
    · exact h.rinseReport

theorem markCut (h : s.InBudget) : s.markCut.InBudget := h.onCsq.release

theorem doorForced (h : s.InBudget) : s.doorForced.InBudget := h.warn.endCondition

theorem forceRinse (h : s.InBudget) : s.forceRinse.InBudget :=
  .ite h (.ite h.markCut.doorForced.onWhu.rinseReport
    (.ite (.ite h.markCut.doorForced.closeInlet h.markCut.doorForced.closeInlet.rinseReport) h.markCut.doorForced))

theorem forceDwell (h : s.InBudget) : s.forceDwell.InBudget := h.doorForced.onRecord.endCycle

theorem cycleDoor (h : s.InBudget) : s.cycleDoor.InBudget := by
  unfold State.cycleDoor
  split
  · exact .ite h h.addHold
  · exact .ite h h.addHold
  · exact .ite h.dropHold h.addHold
  · exact h.cond forceRinse
  · exact h.cond forceDwell
  all_goals exact h

theorem confirmLatch (h : s.InBudget) : s.confirmLatch.InBudget := h.cond onCsq

theorem addLevel (h : s.InBudget) : s.addLevel.InBudget := h.cond addHold

theorem acceptDry (h : s.InBudget) : s.acceptDry.InBudget := by
  unfold State.acceptDry
  split
  · exact h.onWhu
  · exact .ite h.leavePurge h.addLevel
  all_goals
    split
    · exact h.startFill.addHold
    · exact h.startFill.addHold
    · exact h.onWhu.leavePurge
    all_goals exact h.onWhu.armFill

theorem acceptWet {code : LevelCode} (h : s.InBudget) : (s.acceptWet code).InBudget := h.onWhu.cond fillEnds

theorem acceptLevel {code : LevelCode} (h : s.InBudget) : (s.acceptLevel code).InBudget := by
  unfold State.acceptLevel
  extract_lets first t u v
  have hu : u.InBudget := h.onWhu.cond fun ht => ht.recomputeTank.armFill
  have hv : v.InBudget := .ite hu.acceptDry hu.acceptWet
  exact hv.cond levelKeep

/-! ### Raises and the first LOCKOUT -/

theorem cycleLockout (h : s.InBudget) : s.cycleLockout.InBudget := (h.onCsq.cond rinseEndStep).endCycle

theorem enterLockout (h : s.InBudget) : s.enterLockout.InBudget :=
  h.endAllClaims.waterLockout.channelLockout.channelLockout.doorLockout.softenerLockout.cycleLockout

theorem handOn {code : FaultCode} {detail : Nat} (h : s.InBudget) : (s.handOn code detail).InBudget := by
  unfold State.handOn
  split
  · exact h
  · split
    · exact h
    · exact h.cond endCycle
    · exact h.cycleLockout

theorem raise {code : FaultCode} {detail : Nat} {cls : FaultClass} (h : s.InBudget) :
    (s.raise code detail cls).InBudget := by
  unfold State.raise
  split
  · next t e => exact .ite (h.raiseList.fst_of_eq e).enterLockout (h.raiseList.fst_of_eq e).handOn
  · next t e => exact h.raiseList.fst_of_eq e

theorem stallInlet (h : s.InBudget) : s.stallInlet.InBudget := (h.closeInlet.cond markCut).raise.endCondition

theorem limitFill (h : s.InBudget) : s.limitFill.InBudget := h.raise.endCondition.fillEnds

theorem levelImplausible (h : s.InBudget) : s.levelImplausible.InBudget := h.raise.fillEnds

theorem overTemp {code : FaultCode} {previous : Option Int} {t limit : Int} (h : s.InBudget) :
    (s.overTemp code previous t limit).InBudget :=
  .ite h.raise (h.cond endCondition)

theorem tankReady {t : Int} (h : s.InBudget) : (s.tankReady t).InBudget := by
  unfold State.tankReady
  split
  · exact h.cond onWhu
  · exact h.cond onWhu
  all_goals exact h

theorem tankFailed (h : s.InBudget) : s.tankFailed.InBudget := (h.cond onWhu).raise

theorem readTank {t : Int} (h : s.InBudget) : (s.readTank t).InBudget :=
  .ite (h.onWhu.onWhu.endCondition.overTemp.tankReady.cond onRecord) (h.onWhu.cond tankFailed)

theorem readBooster {t : Int} (h : s.InBudget) : (s.readBooster t).InBudget :=
  .ite (h.onWhu.onWhu.endCondition.overTemp.rinseHeat.cond onRecord) (h.onWhu.cond raise)

theorem sampleBooster {wasOn closed : Bool} (h : s.InBudget) : (s.sampleBooster wasOn closed).InBudget :=
  .ite h.onWhu.endCondition (h.onWhu.heatOff.heatOff.cond raise)

/-! ### The vent, and claims made unfit -/

theorem reportVent (h : s.InBudget) : s.reportVent.InBudget :=
  h.onDvc.release.onVent.cond fun ht => ht.onRecord.endCycle

theorem cutVent (h : s.InBudget) : s.cutVent.InBudget := h.abandonTask.withdrawMove.onVent.reportVent

theorem waitFan (h : s.InBudget) : s.waitFan.InBudget := by
  unfold State.waitFan
  split
  · next t e => exact h.onVent.claim.fst_of_eq e
  · next t e => exact (h.onVent.claim.fst_of_eq e).cond fanGranted
  · next t e => exact (h.onVent.claim.fst_of_eq e).cutVent
  · next t e => exact (h.onVent.claim.fst_of_eq e).cutVent
  · next t e => exact h.onVent.claim.fst_of_eq e

theorem afterRetract (h : s.InBudget) : s.afterRetract.InBudget := .ite h.cutVent (.ite h.reportVent h.waitFan)

theorem ventRetract (h : s.InBudget) : s.ventRetract.InBudget :=
  .ite h.onVent.startRetract h.onVent.startRetract.afterRetract

theorem fanOnly (h : s.InBudget) : s.fanOnly.InBudget := h.onVent.ventRetract

theorem ventPush (h : s.InBudget) : s.ventPush.InBudget := by
  unfold State.ventPush
  dsimp only
  refine .ite h.onVent.fanOnly (.ite h.onVent.ventRetract ?_)
  split
  · next t e => exact (h.onVent.startPush.fst_of_eq e).fanOnly
  · next t e => exact h.onVent.startPush.fst_of_eq e

theorem enterVent (h : s.InBudget) : s.enterVent.InBudget :=
  .ite h.enterState.onVent.clearLatch.cutVent (h.enterState.onVent.clearLatch.cond ventPush)

theorem endDwell (h : s.InBudget) : s.endDwell.InBudget := .ite h.endCycleDrain.enterVent h.endCycleDrain.endCycle

theorem expireRelease (h : s.InBudget) : s.expireRelease.InBudget := h.onDvc.warn.cond cutVent

theorem moved {reached : Nat} {reason : Octet} (h : s.InBudget) : (s.moved reached reason).InBudget :=
  .ite (.ite (h.takeMoved.cond onVent).ventRetract h.takeMoved) h

theorem ventGoesOn (h : s.InBudget) : s.ventGoesOn.InBudget := by
  unfold State.ventGoesOn
  split
  · exact h.fanOnly
  · exact h.afterRetract
  all_goals exact h

theorem retractLimit (h : s.InBudget) : s.retractLimit.InBudget := h.limitRetract.cond afterRetract

theorem haltDoor (h : s.InBudget) : s.haltDoor.InBudget := by
  unfold State.haltDoor
  dsimp only
  split
  · exact h.raise
  · exact h.raise.abandonPush.ventGoesOn
  · exact h.raise.abandonPush.ventGoesOn
  · exact h.raise.breakRetract.ventGoesOn
  · exact h.raise

theorem readHalt {asserted : Bool} (h : s.InBudget) : (s.readHalt asserted).InBudget :=
  .ite (.ite (h.onMarks rfl rfl rfl) (h.onMarks rfl rfl rfl).haltDoor)
    (.ite (.ite (h.onMarks rfl rfl rfl) (h.onMarks rfl rfl rfl)) h)

theorem clearHalt (h : s.InBudget) : s.clearHalt.InBudget := (h.onMarks rfl rfl rfl).endCondition

theorem driveUnfit (h : s.InBudget) : s.driveUnfit.InBudget := by
  unfold State.driveUnfit
  split
  · exact h.abandonPush.ventGoesOn
  · exact h.breakRetract.holdRetract.ventGoesOn
  · exact h

theorem fanUnfit (h : s.InBudget) : s.fanUnfit.InBudget := by
  unfold State.fanUnfit
  split
  · exact h.cutVent
  · exact h.cutVent
  all_goals exact h

theorem toldEnded {l : Load} (h : s.InBudget) : (s.toldEnded l).InBudget := by
  unfold State.toldEnded
  split
  · exact h.driveUnfit
  · exact h.fanUnfit
  · exact h.valveUnfit
  · exact h.doserUnfit
  · exact h.doserUnfit
  · exact h.onThermostat
  · exact h.onThermostat
  · exact h.onThermostat
  all_goals exact h

theorem tellEnded {ls : List Load} (h : s.InBudget) : (s.tellEnded ls).InBudget := h.foldl fun ht => ht.toldEnded

theorem rewatt (h : s.InBudget) : (State.rewatt before s).InBudget := h.wattsChanged.tellEnded.retryHeats

theorem rebudget (h : s.BudgetLaw) : s.rebudget.InBudget :=
  .ite (InBudget.budgetSet h).tellEnded (InBudget.budgetSet h).tellEnded.retryHeats

theorem endSettling (h : s.InBudget) : s.endSettling.InBudget := by
  unfold State.endSettling
  split
  · next t _ e => exact (h.settlingEnds.fst_of_eq e).tellEnded.retryHeats
  · next t _ e => exact (h.settlingEnds.fst_of_eq e).tellEnded

theorem recordDoor {previous : Option Octet} {o : Octet} (h : s.InBudget) : (s.recordDoor previous o).InBudget :=
  h.onDvc

theorem homeRetract {home : Bool} (h : s.InBudget) : (s.homeRetract home).InBudget := h.cond abandonRetract

theorem endBlocked {home : Bool} (h : s.InBudget) : (s.endBlocked home).InBudget := h.cond endCondition

theorem ventDoor {step : VentStep} {confirmed retracted : Bool} (h : s.InBudget) :
    (s.ventDoor step confirmed retracted).InBudget := by
  unfold State.ventDoor
  dsimp only
  refine .ite h ?_
  split
  · exact h
  · exact h.cond ventPush
  · exact h.cond onVent
  · exact (h.cond onVent).cond afterRetract
  all_goals exact h.cond cutVent

theorem recallDoor {home : Bool} (h : s.InBudget) : (s.recallDoor home).InBudget := (h.onDvc.cond warn).cond warn

theorem latchDoor (h : s.InBudget) : s.latchDoor.InBudget := .ite h.raise h.confirmLatch

theorem doorAccepted {previous : Option Octet} {o : Octet} (h : s.InBudget) : (s.doorAccepted previous o).InBudget :=
  ((h.wake.recordDoor.homeRetract.endBlocked.recallDoor.cond noteDoor).cond raise).ventDoor.cycleDoor.latchDoor

theorem doorUnknown (h : s.InBudget) : s.doorUnknown.InBudget :=
  ((h.cond abandonRetract).onDvc.cond noteDoor).cycleDoor.cond raise

theorem doorGone (h : s.InBudget) : s.doorGone.InBudget := .ite h.abandonTask.onDvc.release h.cutVent

theorem coolVent {t : Int} (h : s.InBudget) : (s.coolVent t).InBudget := h.cond onVent

theorem readVapour {t : Int} (h : s.InBudget) : (s.readVapour t).InBudget :=
  .ite h.onWhu.endCondition.coolVent (h.onWhu.cond fun ht => ht.onVent.warn)

/-! ### Module supervision -/

theorem capsChange (h : s.InBudget) : (State.capsChange before s).InBudget := h.rewatt.clampCarries

theorem setCaps {a : Addr} {c : CapRecord} (h : s.InBudget) : (s.setCaps a c).InBudget := h.onEntry.capsChange

theorem ownerUnknown {x : Kind} (h : s.InBudget) : (s.ownerUnknown x).InBudget := by
  unfold State.ownerUnknown
  split
  · exact h.doorUnknown
  all_goals exact h

theorem ownerGone {x : Kind} (h : s.InBudget) : (s.ownerGone x).InBudget := by
  unfold State.ownerGone
  split
  · exact h.doorGone
  · exact h.softenerLost
  · exact h.channelLost
  · exact h.channelLost
  · exact h

theorem ownerLinked {x : Kind} (h : s.InBudget) : (s.ownerLinked x).InBudget := by
  unfold State.ownerLinked
  split
  · exact h.softenerLinked
  all_goals exact h

theorem noteModule {a : Addr} {reported : Option Octet} (h : s.InBudget) : (s.noteModule a reported).InBudget := h.place

theorem putLink {a : Addr} {l : LinkState} (h : s.InBudget) : (s.putLink a l).InBudget := h.onEntry.cond onBay

theorem setLink {a : Addr} {l : LinkState} {reported : Option Octet} (h : s.InBudget) :
    (s.setLink a l reported).InBudget :=
  .ite h h.putLink.noteModule

theorem withdrawQuery {a : Addr} (h : s.InBudget) : (s.withdrawQuery a).InBudget := h.onEntry.removeMsgs

theorem restartBringUp {a : Addr} (h : s.InBudget) : (s.restartBringUp a).InBudget := h.onEntry.withdrawQuery

theorem returnToCount {a : Addr} (h : s.InBudget) : (s.returnToCount a).InBudget := h.restartBringUp.endCondition

theorem dropLink {a : Addr} {l : LinkState} {phase : BringUp} {reported : Option Octet} (h : s.InBudget) :
    (s.dropLink a l phase reported).InBudget :=
  h.restartBringUp.onEntry.setLink

theorem takeLoss {a : Addr} (h : s.InBudget) : (s.takeLoss a).InBudget :=
  (h.endCondition.cond ownerUnknown).raise.cond ownerGone

theorem lose {a : Addr} {l : LinkState} {phase : BringUp} {reported : Option Octet} (h : s.InBudget) :
    (s.lose a l phase reported).InBudget :=
  h.dropLink.takeLoss

theorem link {a : Addr} (h : s.InBudget) : (s.link a).InBudget := h.onEntry.setLink.endCondition.choose.cond ownerLinked

theorem bringUpQuery {a : Addr} (h : s.InBudget) : (s.bringUpQuery a).InBudget := h.onEntry.askQuery

theorem silentBay {a : Addr} (h : s.InBudget) : (s.silentBay a).InBudget := .ite h.returnToCount h.onEntry

theorem missBay {a : Addr} (h : s.InBudget) : (s.missBay a).InBudget := by
  unfold State.missBay
  split
  · exact h.onEntry
  all_goals exact h.silentBay

theorem seeBay {a : Addr} {ready : Bool} (h : s.InBudget) : (s.seeBay a ready).InBudget := by
  unfold State.seeBay
  split
  · exact .ite h.bringUpQuery h.onEntry
  · exact h.onEntry
  · exact h.onEntry
  · exact h.onEntry
  · exact h.onEntry
  all_goals exact h.returnToCount

theorem expireAnswer {a : Addr} (h : s.InBudget) : (s.expireAnswer a).InBudget := by
  unfold State.expireAnswer
  split
  · exact h.onEntry
  · exact h.returnToCount
  · exact h.returnToCount
  · exact h

theorem countAnswer {a : Addr} (h : s.InBudget) : (s.countAnswer a).InBudget := by
  unfold State.countAnswer
  split
  · exact .ite h.expireAnswer h.onEntry
  · exact .ite h.expireAnswer h.onEntry
  · exact h

theorem silentLimit {a : Addr} (h : s.InBudget) : (s.silentLimit a).InBudget := by
  unfold State.silentLimit
  split
  · exact h.lose
  · exact h
  · exact h
  · exact h
  all_goals exact h.returnToCount

theorem readMfault {a : Addr} {mfault : Bool} (h : s.InBudget) : (s.readMfault a mfault).InBudget :=
  .ite h.onEntry.warn (.ite h.onEntry h.onEntry.endCondition)

theorem goodBay {a : Addr} {b : StatusBits} (h : s.InBudget) : (s.goodBay a b).InBudget := by
  unfold State.goodBay
  dsimp only
  split
  · exact h.onEntry
  · exact h.onEntry.seeBay.countAnswer
  · exact h.onEntry.seeBay.countAnswer
  · exact .ite h.onEntry.onEntry.readMfault.countAnswer h.onEntry.lose

theorem badBay {a : Addr} (h : s.InBudget) : (s.badBay a).InBudget := by
  unfold State.badBay
  dsimp only
  split
  · exact h.onEntry
  · exact h.onEntry.missBay.countAnswer
  · exact h.onEntry.missBay.countAnswer
  · exact .ite h.onEntry.lose h.onEntry.onEntry.countAnswer

theorem mismatch {a : Addr} {reported : Octet} (h : s.InBudget) : (s.mismatch a reported).InBudget := by
  unfold State.mismatch
  split
  · exact h.warn.lose
  all_goals exact h.warn.withdrawQuery.onEntry.setLink

theorem takeCaps {a : Addr} {c : CapRecord} (h : s.InBudget) : (s.takeCaps a c).InBudget := by
  unfold State.takeCaps
  extract_lets t
  have ht : t.InBudget := .ite h h.setCaps
  exact .ite ht.onEntry ht.link

theorem capsMessage {a : Addr} {body : Vector Octet 6} (h : s.InBudget) : (s.capsMessage a body).InBudget := by
  unfold State.capsMessage
  refine .ite ?_ h
  split
  · exact h.takeCaps
  · exact h.mismatch

theorem pinRequest {address : Octet} {fields : List Octet} (h : s.InBudget) :
    (s.pinRequest address fields).1.InBudget := by
  unfold State.pinRequest
  split
  · exact h
  · refine .fst_ite h ?_
    split
    · exact h
    · exact h.setCaps.onEntry

theorem unpinRequest {address : Octet} (h : s.InBudget) : (s.unpinRequest address).1.InBudget := by
  unfold State.unpinRequest
  split
  · exact h
  · exact .fst_ite (.ite h.onEntry.askQuery h.onEntry.setCaps) h

theorem clearCounts {a : Addr} (h : s.InBudget) : (s.clearCounts a).InBudget := h.onEntry

theorem clearRequest {address : Octet} (h : s.InBudget) : (s.clearRequest address).1.InBudget := by
  unfold State.clearRequest
  refine .fst_ite (h.foldl fun ht => ht.clearCounts) ?_
  split
  · exact h
  · exact h.clearCounts

theorem countAbort {a : Addr} (h : s.InBudget) : (s.countAbort a).InBudget := h.onEntry

theorem rehome {kind : Kind} (h : s.InBudget) : (State.rehome before s kind).InBudget := by
  unfold State.rehome
  extract_lets same t u
  have ht : t.InBudget := h.cond fun hs => hs.ownerUnknown.ownerGone
  have hu : u.InBudget := ht.cond freeRetract
  exact .ite h (hu.cond ownerLinked)

/-- A setting other than mains_budget_w. -/
theorem putSetting {i : SettingIx} {v : Int} (h : s.InBudget) (hi : i ≠ SettingIx.mainsBudget) :
    (s.putSetting i v).InBudget := by
  refine h.congr rfl (Nat.le_refl _) rfl ?_
  have hne : i.val ≠ SettingIx.mainsBudget.val := fun e => hi (Fin.ext e)
  simp [State.mains, State.num, State.val, Vector.get_eq_getElem, Vector.getElem_set_ne _ _ hne]

/-- An expected kind stands at another place of the settings than mains_budget_w. -/
theorem kindIx_ne_mainsBudget (a : Addr) : kindIx a ≠ SettingIx.mainsBudget := by
  intro e
  have hv := congrArg Fin.val e
  simp [kindIx, SettingIx.mainsBudget] at hv
  omega

theorem takeKind {a : Addr} {code : Int} (h : s.InBudget) : (s.takeKind a code).InBudget := by
  unfold State.takeKind
  extract_lets kind l changes t u v w
  have hu : u.InBudget := h.returnToCount.putLink.onEntry.endCondition
  have hv : v.InBudget := hu.putSetting (v := code) (kindIx_ne_mainsBudget a)
  have hw : w.InBudget := .ite hv.noteModule hv
  exact (hw.foldl fun hx => hx.rehome).capsChange

theorem stopLine (h : s.InBudget) : s.stopLine.InBudget := h.onMbi.onMarks rfl rfl rfl

theorem unlink {l : LinkState} {a : Addr} (h : s.InBudget) : (State.unlink l s a).InBudget := by
  unfold State.unlink
  split
  · exact h.dropLink
  · exact h
  all_goals exact h.returnToCount.setLink

theorem unlinkAll {l : LinkState} (h : s.InBudget) : (s.unlinkAll l).InBudget :=
  (h.foldl fun ht => ht.unlink).foldl fun ht => ht.takeLoss

theorem breakLine {l : LinkState} (h : s.InBudget) : (s.breakLine l).InBudget := (h.stopLine.cond moved).unlinkAll

theorem foreignBreak (h : s.InBudget) : s.foreignBreak.InBudget := h.onMsu

theorem busReset (h : s.InBudget) : s.busReset.InBudget := h.breakLine.foreignBreak

theorem watchLine (h : s.InBudget) : s.watchLine.InBudget := h.breakLine.onMsu

theorem setStuck (h : s.InBudget) : s.setStuck.InBudget := h.raise.unlinkAll.onMsu

theorem rebreakLine (h : s.InBudget) : s.rebreakLine.InBudget := h.breakLine.onMsu

theorem clearStuck (h : s.InBudget) : s.clearStuck.InBudget := h.onMsu.endCondition

theorem watchFrame {zero : Bool} (h : s.InBudget) : (s.watchFrame zero).InBudget := by
  unfold State.watchFrame
  split
  · exact .ite (.ite h.watchLine h.onMsu) h.onMsu
  · exact .ite (.ite h.setStuck h.onMsu) h.onMsu
  · exact .ite h.clearStuck (.ite h.onMsu.rebreakLine h.onMsu)

/-! ### The frame end -/

theorem buildFrame {number : Nat} (h : s.InBudget) : (s.buildFrame number).InBudget := h.onMbi

theorem deliverOctet {a : Addr} {previous : Option Octet} {o : Octet} (h : s.InBudget) :
    (s.deliverOctet a previous o).InBudget := by
  unfold State.deliverOctet
  refine .ite ?_ h
  split
  · exact h.doorAccepted
  · exact h.softenerAccepted
  all_goals exact h

theorem lookBay {a : Addr} {o : Octet} (h : s.InBudget) : (s.lookBay a o).InBudget :=
  .ite h.onBay (.ite h.onBay.deliverOctet h.onBay)

theorem takeBay {up : UpFrame} {a : Addr} (h : s.InBudget) : (State.takeBay up s a).InBudget :=
  .ite h.lookBay.goodBay h.onBay.badBay

theorem takeBays {up : UpFrame} (h : s.InBudget) : (s.takeBays up).InBudget := h.foldl fun ht => ht.takeBay

theorem toldDelivered {m : DownMsg} (h : s.InBudget) : (s.toldDelivered m).InBudget := by
  unfold State.toldDelivered
  split
  · exact h
  · split
    · exact h.onDvc
    all_goals exact h
  · split
    · exact h.onEntry
    · exact h.onEntry
    all_goals exact h

theorem deliverDown (h : s.InBudget) : s.deliverDown.InBudget := by
  unfold State.deliverDown
  split
  · exact h.dropSending.toldDelivered.dequeued
  · exact h

theorem toldAbandoned {m : DownMsg} (h : s.InBudget) : (s.toldAbandoned m).InBudget := by
  unfold State.toldAbandoned
  split
  · exact h.takeDone
  · exact h.takeDone
  · exact h
  · exact h
  · exact h.moved
  · exact h.cond returnToCount

theorem abandonDown (h : s.InBudget) : s.abandonDown.InBudget := by
  unfold State.abandonDown
  split
  · exact h.dropSending.countAbort.toldAbandoned.dequeued
  · exact h

theorem downPhase {p : DownPhase} (h : s.InBudget) : (s.downPhase p).InBudget := h.onMbi

theorem downWaits {good stop : Bool} (h : s.InBudget) : (s.downWaits good stop).InBudget := .ite h.abandonDown h.onMbi

theorem downFrame {up : UpFrame} (h : s.InBudget) : (s.downFrame up).InBudget := by
  unfold State.downFrame
  split
  · exact h
  · exact h
  · exact .ite h.downPhase h.downWaits
  · exact .ite (.ite h.downPhase h.downPhase) h.downWaits
  · exact .ite h.deliverDown (.ite h.deliverDown h.onMbi)

theorem endGrant (h : s.InBudget) : s.endGrant.InBudget := h.onMbi

theorem doneMessage {a : Addr} {tag : Octet} {delivered : Nat} {reason : Octet} (h : s.InBudget) :
    (s.doneMessage a tag delivered reason).InBudget :=
  .ite h.takeDone (h.cond takeDone)

theorem movedMessage {a : Addr} {reached : Nat} {reason : Octet} (h : s.InBudget) :
    (s.movedMessage a reached reason).InBudget :=
  h.cond moved

theorem deliverUp {from' : Addr} {os : List Octet} (h : s.InBudget) : (s.deliverUp from' os).InBudget := by
  unfold State.deliverUp
  split
  · exact h.capsMessage
  · exact h.doneMessage
  · exact h.movedMessage
  · exact h

theorem finishUp {owner : Addr} (h : s.InBudget) : (s.finishUp owner).InBudget :=
  .ite h.endGrant.deliverUp h.endGrant.countAbort

theorem abandonUp (h : s.InBudget) : s.abandonUp.InBudget := by
  unfold State.abandonUp
  split
  · exact h.endGrant.countAbort
  · exact h

theorem withdrawGrant (h : s.InBudget) : s.withdrawGrant.InBudget := by
  unfold State.withdrawGrant
  split
  · exact h.endGrant.onEntry
  · exact h

theorem takeUpOctet {owner : Addr} {o : Octet} {tgl : Bool} (h : s.InBudget) :
    (s.takeUpOctet owner o tgl).InBudget := by
  unfold State.takeUpOctet
  dsimp only
  split
  · exact .ite h.onMbi h.onMbi.countAbort
  · exact .ite h.onMbi h.onMbi

theorem goodUpFrame {owner : Addr} {l : Look} (h : s.InBudget) : (s.goodUpFrame owner l).InBudget :=
  (h.cond takeUpOctet).onMbi

theorem upFrame {up : UpFrame} {g : Grant} (h : s.InBudget) : (s.upFrame up g).InBudget := by
  unfold State.upFrame
  extract_lets good l seen t u
  have ht : t.InBudget := h.onMbi
  have hu : u.InBudget := .ite ht.goodUpFrame ht.onMbi
  exact .ite hu.finishUp (.ite hu.abandonUp (hu.cond withdrawGrant))

theorem readRequest {o : Octet} (h : s.InBudget) : (s.readRequest o).InBudget := h.cond onMbi

theorem takeUp {up : UpFrame} (h : s.InBudget) : (s.takeUp up).InBudget := by
  refine readRequest ?_
  split
  · exact h.upFrame
  · exact h

theorem inletFrame (h : s.InBudget) : s.inletFrame.InBudget := .ite h.openInlet.deliverReport h

theorem endFrame {up : UpFrame} (h : s.InBudget) : (s.endFrame up).InBudget :=
  (h.inletFrame.readHalt.takeBays.cond downFrame).takeUp.watchFrame

theorem nextFrame (h : s.InBudget) : s.nextFrame.InBudget := h.cond buildFrame

theorem startLine (h : s.InBudget) : s.startLine.InBudget := h.onMbi

/-! ### The end of an event -/

theorem reportReturn {k : FaultCode × Nat × FaultClass} (h : s.InBudget) : (s.reportReturn k).InBudget := by
  unfold State.reportReturn
  split
  · exact h.cond raise
  · exact h

theorem reportEnd {r : FaultRec} (h : s.InBudget) : (s.reportEnd r).InBudget := h.cond endCondition

theorem reportEnds (h : s.InBudget) : s.reportEnds.InBudget := h.foldl fun ht => ht.reportEnd

theorem reportConditions (h : s.InBudget) : s.reportConditions.InBudget :=
  (h.foldl fun ht => ht.reportReturn).reportEnds

theorem enterStandby {cause : StandbyCause} (h : s.InBudget) : (s.enterStandby cause).InBudget := h.setPower

theorem testStandby (h : s.InBudget) : s.testStandby.InBudget := h.cond enterStandby

theorem startSoftener (h : s.InBudget) : s.startSoftener.InBudget :=
  h.retestDue.startChangeover.testAlignment.startRegen

theorem startJobs (h : s.InBudget) : s.startJobs.InBudget := h.startSoftener.startOrder.startOrder.testRetract

theorem finish (h : s.InBudget) : s.finish.InBudget :=
  h.reportConditions.startJobs.reportEnds.testStandby.evalHeats.askWaiting.kickTx

theorem event {f : State → State} (h : s.InBudget) (hf : ∀ {t : State}, t.InBudget → (f t).InBudget) :
    (s.event f).InBudget :=
  .ite (hf h).finish h

/-! ### The passing of time -/

theorem passWhu {n : Nat} (h : s.InBudget) : (s.passWhu n).InBudget := h.onWhu

theorem passCsq {n : Nat} (h : s.InBudget) : (s.passCsq n).InBudget := h.onCsq

theorem passLba {n : Nat} (h : s.InBudget) : (s.passLba n).InBudget := by
  have hrun : (s.onLba fun b =>
      { b with
        settling := b.settling.map fun e => { e with left := e.left - n }
        haltClearLeft := runDown n b.haltClearLeft }).InBudget :=
    h.congr rfl (by simp [State.sumSettling_eq_sum, Function.comp_def]) rfl rfl
  refine hrun.onClaim_of_le (Nat.le_of_eq ?_)
  rw [State.drawn_onClaim_self]
  split <;> simp [State.drawn, State.granted]

theorem passSfc {n : Nat} (h : s.InBudget) : (s.passSfc n).InBudget := h.onSfc

theorem passDsc {n : Nat} (h : s.InBudget) : (s.passDsc n).InBudget := h.onDsc

theorem passDvc {n : Nat} (h : s.InBudget) : (s.passDvc n).InBudget := h.onDvc

theorem passMbi {n : Nat} (h : s.InBudget) : (s.passMbi n).InBudget := h.onMbi

theorem passSto {n : Nat} (h : s.InBudget) : (s.passSto n).InBudget := h.onSto

theorem passPlk {n : Nat} (h : s.InBudget) : (s.passPlk n).InBudget := h.onPlk

theorem advance {n : Nat} (h : s.InBudget) : (s.advance n).InBudget := by
  have hnow : ({ s with now := s.now + BitVec.ofNat 32 n } : State).InBudget := h.of_frame rfl rfl
  unfold State.advance
  split
  · exact h
  · exact h.onSto
  all_goals exact hnow.passWhu.passCsq.passLba.passSfc.passDsc.passDvc.passMbi.passSto.passPlk

theorem expire {left : Option Nat} {f : State → State} (h : s.InBudget)
    (hf : ∀ {t : State}, t.InBudget → (f t).InBudget) : (s.expire left f).InBudget := by
  unfold State.expire
  split
  · exact h.event fun ht => hf ht.advance
  · exact h

theorem reach {runs : Bool} {count limit : Nat} {f : State → State} (h : s.InBudget)
    (hf : ∀ {t : State}, t.InBudget → (f t).InBudget) : (s.reach runs count limit f).InBudget :=
  h.expire hf

/-! ### Loading and resets -/

theorem raiseEmpty {c : Channel} (h : s.InBudget) : (s.raiseEmpty c).InBudget := h.cond warn

theorem raiseExhausted (h : s.InBudget) : s.raiseExhausted.InBudget := h.cond warn

theorem raiseLost (h : s.InBudget) : s.raiseLost.InBudget := .ite h.warn.endCondition h

theorem reportPowerLost (h : s.InBudget) : s.reportPowerLost.InBudget := .ite h.place.onCsq.saveCounters h

/-- Right after a reset LBA has no claim and no settling entry, and mains_budget_w is in force (R62). -/
theorem of_idle (hc : s.lba.claims = Vector.replicate 11 Claim.idle) (hs : s.lba.settling = [])
    (hf : s.lba.inForce = s.mains) : s.InBudget := by
  have hdrawn : s.drawn = fun _ => 0 := by
    funext l
    simp [State.drawn, State.granted, State.claimOf, hc, Vector.get_eq_getElem, Claim.idle]
  have hG : s.sumGranted = 0 := by simp [s.sumGranted_eq_sum, hdrawn]
  have hS : s.sumSettling = 0 := by simp [s.sumSettling_eq_sum, hs]
  refine ⟨?_, hf.ge⟩
  unfold State.BudgetLaw
  omega

/-- A start-up meets both laws whatever came before it: LBA is reset with the mains_budget_w loaded. -/
theorem loaded {img : SettingsImage × LoadResult} {cnt : CountersImage × LoadResult} : (s.loaded img cnt).InBudget := by
  unfold State.loaded
  exact (rederiveBreakers (of_idle rfl rfl rfl)).of_frame rfl rfl

theorem startUp {kind : ResetKind} : (s.startUp kind).InBudget :=
  loaded.place.raiseEmpty.raiseEmpty.raiseExhausted.raiseLost.reportPowerLost

theorem riseSupply (h : s.InBudget) : s.riseSupply.InBudget := by
  unfold State.riseSupply
  split
  · exact h.onSto
  all_goals exact h

theorem settleOscillator (h : s.InBudget) : s.settleOscillator.InBudget := by
  unfold State.settleOscillator
  split
  · exact startUp
  all_goals exact h

theorem fullReset : s.fullReset.InBudget := startUp

/-- A SOFT reset resets LBA with the mains_budget_w of working memory (R62). -/
theorem softened : s.softened.InBudget := of_idle rfl rfl rfl

theorem reportReset (h : s.InBudget) : (State.reportReset before s).InBudget := by
  unfold State.reportReset
  split
  · exact h.place.notePhase.saveCounters
  · exact h

theorem reportAbort (h : s.InBudget) : (State.reportAbort before s).InBudget := by
  unfold State.reportAbort
  split
  · exact h.noteSoftener
  · exact h

theorem reportDoor (h : s.InBudget) : (State.reportDoor before s).InBudget := h.cond noteDoor

theorem reportLink {a : Addr} (h : s.InBudget) : (State.reportLink before s a).InBudget := .ite h h.noteModule

theorem retellUnfit {l : Load} (h : s.InBudget) : (State.retellUnfit before s l).InBudget := h.cond tellUnfit

theorem softReset : s.softReset.InBudget := by
  unfold State.softReset
  extract_lets t u v w x
  have hu : u.InBudget := softened.place.reportReset.reportAbort.reportDoor
  have hv : v.InBudget := hu.foldl fun hy => hy.reportLink
  have hx : x.InBudget := hv.noteStock.noteStock.raiseEmpty.raiseEmpty.raiseExhausted
  exact hx.foldl fun hy => hy.retellUnfit

/-! ### Requests and their owners -/

theorem fst_bare {p : State × Status} (h : p.1.InBudget) : (bare p).1.InBudget := h

theorem serveIdent (h : s.InBudget) : s.serveIdent.1.InBudget := h

theorem serveStatus {sect : Octet} (h : s.InBudget) : (State.serveStatus sect s).1.InBudget := by
  unfold State.serveStatus
  split <;> exact h

theorem serveGet {number : Octet} (h : s.InBudget) : (State.serveGet number s).1.InBudget := by
  unfold State.serveGet
  split <;> exact h

theorem retestStarve (h : s.InBudget) : s.retestStarve.InBudget := h.cond promote

/-- A new mains_budget_w restores its law; any other setting has not touched it (R58). -/
theorem applySetting {i : SettingIx} (hlaw : s.BudgetLaw) (h : i ≠ SettingIx.mainsBudget → s.InBudget) :
    (State.applySetting before s i).InBudget := by
  unfold State.applySetting
  split
  · exact rebudget hlaw
  · next hi =>
    have ht := h hi
    exact .ite ht.rewatt (.ite ht.retestStarve (.ite ht.zeroAccumulators.retarget (.ite ht.clampColumns
      (.ite ht.containerChanged (.ite ht.containerChanged (.ite ht.lowChanged ht))))))

theorem setClamped {i : SettingIx} {v : Int} (h : s.InBudget) : (s.setClamped i v).1.InBudget :=
  .fst_ite h (.fst_ite h (.fst_ite h (applySetting (s := s.putSetting i (clampSetting i v)) h.1 h.putSetting)))

theorem setKind {i : SettingIx} {v : Int} (h : s.InBudget) : (s.setKind i v).1.InBudget := by
  unfold State.setKind
  refine .fst_ite h (.fst_ite h ?_)
  refine .fst_ite h ?_
  split
  · exact h.takeKind
  · exact h

theorem serveSet {number : Octet} {value : BitVec 32} (h : s.InBudget) :
    (State.serveSet number value s).1.InBudget := by
  unfold State.serveSet
  split
  · exact h
  · exact .fst_ite h.setClamped h.setKind

theorem serveSave (h : s.InBudget) : s.serveSave.1.InBudget := .fst_ite h h.onSto.kickStore

theorem serveReset {mode : ResetMode} (h : s.InBudget) : (State.serveReset mode s).1.InBudget := h.onSto

theorem serveSleep {mask : Octet} (h : s.InBudget) : (State.serveSleep mask s).1.InBudget :=
  .fst_ite h (.fst_ite h (.fst_ite (.ite h.onSto h.onSto.setPower) h.onSto.enterStandby))

theorem serveRecipeGet {number : Octet} (h : s.InBudget) : (State.serveRecipeGet number s).1.InBudget := by
  unfold State.serveRecipeGet
  split <;> exact h

theorem serveRecipeSet {number : Octet} {r : Recipe} (h : s.InBudget) : (State.serveRecipeSet number r s).1.InBudget := by
  unfold State.serveRecipeSet
  split
  · exact .fst_ite h.onCsq h
  · exact h

theorem serveRun {number : Octet} (h : s.InBudget) : (State.serveRun number s).1.InBudget := by
  unfold State.serveRun
  refine .fst_ite h (.fst_ite h ?_)
  split
  · exact h
  · exact h.onCsq.endPendingStandby
  · exact h.arm.endPendingStandby

theorem dropWaiting (h : s.InBudget) : s.dropWaiting.InBudget := h.onCsq

theorem serveCancelPending (h : s.InBudget) : s.serveCancelPending.1.InBudget := .fst_ite h.dropWaiting h

theorem serveCancelActive (h : s.InBudget) : s.serveCancelActive.1.InBudget := .fst_ite h (.fst_ite h.endCycle h)

theorem serveCancelAll (h : s.InBudget) : s.serveCancelAll.1.InBudget :=
  .fst_ite h (.fst_ite h.dropWaiting.endCycle h.dropWaiting)

theorem accepting {p : State × Status} (h : p.1.InBudget) : (State.accepting p).1.InBudget :=
  .fst_ite h.endPendingStandby h

theorem servePrepare (h : s.InBudget) : s.servePrepare.1.InBudget := h.prepareRequest.accepting.fst_bare

theorem serveDrain (h : s.InBudget) : s.serveDrain.1.InBudget := h.drainRequest.accepting.fst_bare

theorem serveDoseManual {channel : Octet} {ul : BitVec 16} (h : s.InBudget) :
    (State.serveDoseManual channel ul s).1.InBudget := by
  unfold State.serveDoseManual
  split
  · next t _ e => exact h.manualRequest.fst_of_eq e
  · next t _ _ e => exact h.manualRequest.fst_of_eq e

theorem serveDosePrime {channel : Octet} {seconds : BitVec 16} (h : s.InBudget) :
    (State.serveDosePrime channel seconds s).1.InBudget := by
  unfold State.serveDosePrime
  split
  · next t _ e => exact h.primeRequest.fst_of_eq e
  · next t _ _ e => exact h.primeRequest.fst_of_eq e

theorem serveStock {channel : Octet} {ml : BitVec 16} (h : s.InBudget) : (State.serveStock channel ml s).1.InBudget :=
  h.stockRequest.fst_bare

theorem serveRegen {column : Octet} (h : s.InBudget) : (State.serveRegen column s).1.InBudget := h.regenRequest.fst_bare

theorem serveDoorOpen {percent : Octet} (h : s.InBudget) : (State.serveDoorOpen percent s).1.InBudget :=
  .fst_ite h (.fst_ite h (.fst_ite h (.fst_ite h h.startPush)))

theorem serveDoorRetract (h : s.InBudget) : s.serveDoorRetract.1.InBudget :=
  .fst_ite h (.fst_ite h (.fst_ite h (.fst_ite h h.onDvc.startRetract)))

theorem serveFaults {first : Octet} (h : s.InBudget) : (State.serveFaults first s).1.InBudget := .fst_ite h h

theorem serveAckFault {code detail : Octet} (h : s.InBudget) : (State.serveAckFault code detail s).1.InBudget := by
  unfold State.serveAckFault
  split
  · exact h
  · split
    · exact h
    · exact .fst_ite h.removeFault h

theorem serveAckFaultAll (h : s.InBudget) : s.serveAckFaultAll.1.InBudget :=
  .fst_ite h (h.foldl fun ht => ht.removeFault)

theorem serveModuleRead {address : Octet} (h : s.InBudget) : (State.serveModuleRead address s).1.InBudget := by
  unfold State.serveModuleRead
  split <;> exact h

theorem serveModulePin {address : Octet} {fields : List Octet} (h : s.InBudget) :
    (State.serveModulePin address fields s).1.InBudget :=
  h.pinRequest.fst_bare

theorem serveModuleUnpin {address : Octet} (h : s.InBudget) : (State.serveModuleUnpin address s).1.InBudget :=
  h.unpinRequest.fst_bare

theorem serveModuleClear {address : Octet} (h : s.InBudget) : (State.serveModuleClear address s).1.InBudget :=
  h.clearRequest.fst_bare

theorem serveBusReset (h : s.InBudget) : s.serveBusReset.1.InBudget := h.busReset

/-! ### Requests by their row of the catalogue -/

theorem serveOf {i : Instr} (h : s.InBudget) : (Machine.serveOf i s).1.InBudget := by
  unfold Machine.serveOf
  split
  · exact h.serveIdent
  · exact h.serveStatus
  · exact h.serveGet
  · exact h.serveSet
  · exact h.serveRecipeGet
  · exact h.serveRecipeSet
  · exact h.serveRun
  · exact h.serveCancelPending
  · exact h.serveCancelActive
  · exact h.serveCancelAll
  · exact h.servePrepare
  · exact h.serveDrain
  · exact h.serveDoseManual
  · exact h.serveDosePrime
  · exact h.serveStock
  · exact h.serveRegen
  · exact h.serveDoorOpen
  · exact h.serveDoorRetract
  · exact h.serveFaults
  · exact h.serveAckFault
  · exact h.serveAckFaultAll
  · exact h.serveModuleRead
  · exact h.serveModulePin
  · exact h.serveModuleUnpin
  · exact h.serveModuleClear
  · exact h.serveBusReset
  · exact h.serveSave
  · exact h.serveReset
  · exact h.serveReset
  · exact h.serveSleep
  · exact h

/-! ### The Panel Link -/

theorem turnAway {kind tag : Octet} (h : s.InBudget) : (s.turnAway kind tag).InBudget := .ite h.linkError h.onPlk

theorem answer {f : ReqFrame} {form : Option Status} {serve : State → Answer} (h : s.InBudget)
    (hf : ∀ {t : State}, t.InBudget → (serve t).1.InBudget) : (s.answer f form serve).InBudget := by
  unfold State.answer
  refine .ite h.turnAway ?_
  split
  · exact h.reply
  · exact .ite h.reply (hf h).reply

theorem answerFrame {f : ReqFrame} (h : s.InBudget) : (s.answerFrame f).InBudget := by
  unfold State.answerFrame
  split
  · exact h.answer fun ht => ht.serveOf
  all_goals exact h.answer fun ht => ht

theorem hold {f : ReqFrame} (h : s.InBudget) : (s.hold f).InBudget := h.onSto

theorem takeFrame {f : ReqFrame} (h : s.InBudget) : (s.takeFrame f).InBudget := .ite h.hold h.answerFrame

theorem request {f : ReqFrame} {form : Option Status} {serve : State → Answer} (h : s.InBudget)
    (hf : ∀ {t : State}, t.InBudget → (serve t).1.InBudget) : (s.request f form serve).InBudget :=
  h.event fun ht => .ite ht.wake.hold (ht.wake.answer hf)

theorem takeRequest {i : Instr} (h : s.InBudget) : (s.takeRequest i).InBudget := by
  unfold State.takeRequest
  split
  · exact h.request fun ht => ht.serveOf
  · exact h

theorem discard (h : s.InBudget) : s.discard.InBudget := h.onPlk.linkError

theorem completeFrame {os : List Octet} (h : s.InBudget) : (s.completeFrame os).InBudget := by
  unfold State.completeFrame
  split
  · exact h.onPlk.takeFrame
  · exact h.discard

theorem frameOctet {os : List Octet} {o : Octet} (h : s.InBudget) : (s.frameOctet os o).InBudget := by
  unfold State.frameOctet
  split
  · exact .ite h.onPlk h.discard
  · exact .ite h.completeFrame h.onPlk

theorem assembleOctet {o : Octet} {stopBit overrun : Bool} (h : s.InBudget) :
    (s.assembleOctet o stopBit overrun).InBudget := by
  unfold State.assembleOctet
  split
  · exact h.cond onPlk
  · exact .ite h.frameOctet h.discard

theorem receive {o : Octet} {stopBit overrun : Bool} (h : s.InBudget) : (s.receive o stopBit overrun).InBudget :=
  h.wake.assembleOctet

theorem sendEnds (h : s.InBudget) : s.sendEnds.InBudget := by
  unfold State.sendEnds
  split
  · exact h
  · dsimp only
    split
    · exact h.onPlk.onPlk.onSto
    · exact h.onPlk.onPlk
    · exact h.onPlk.onPlk
    · exact h.onPlk

theorem endSettle (h : s.InBudget) : s.endSettle.InBudget := h.onSto.setPower.foldl fun ht => ht.answerFrame

/-! ### Events of the store -/

theorem writeEnds (h : s.InBudget) : s.writeEnds.InBudget := h.endWrite.kickStore

theorem abandonSettings (h : s.InBudget) : s.abandonSettings.InBudget := h.onSto

theorem assertPfw (h : s.InBudget) : s.assertPfw.InBudget := by
  unfold State.assertPfw
  refine .ite h ?_
  dsimp only
  split
  · exact h.onSto.startWrite
  · exact h.onSto.startWrite
  · exact h.onSto.abandonSettings.startWrite

theorem releasePfw (h : s.InBudget) : s.releasePfw.InBudget := h.onSto.kickStore

theorem loseSupply (h : s.InBudget) : s.loseSupply.InBudget := .ite h.endWrite.onSto h

/-! ### Events of the water path -/

theorem pulse (h : s.InBudget) : s.pulse.InBudget := h.countPulse.accountPulse.cond fun ht => ht.rinsePulse.accruePulse

theorem sampleLevel {code : LevelCode} (h : s.InBudget) : (s.sampleLevel code).InBudget := h.onWhu.cond acceptLevel

theorem sampleSwitches {low high full : Bool} (h : s.InBudget) : (s.sampleSwitches low high full).InBudget :=
  h.sampleLevel.sampleBooster

theorem readSensors {tank booster vapour : Int} (h : s.InBudget) : (s.readSensors tank booster vapour).InBudget :=
  h.readTank.readBooster.readVapour

theorem expireImplausible (h : s.InBudget) : s.expireImplausible.InBudget := h.onWhu.levelImplausible

theorem finishRunOn (h : s.InBudget) : s.finishRunOn.InBudget := h.endRunOn.deliverReport

/-! ### Events of the cycle -/

theorem expireConfirm (h : s.InBudget) : s.expireConfirm.InBudget := h.onCsq.raise

/-! ### Events of the softener -/

theorem endRegenPhase (h : s.InBudget) : s.endRegenPhase.InBudget := by
  unfold State.endRegenPhase
  split
  · exact h.endPhase
  · exact h

/-! ### Events of the bus -/

theorem onlyIf {b : Bool} {f : State → State} (h : s.InBudget) (hf : ∀ {t : State}, t.InBudget → (f t).InBudget) :
    (s.onlyIf b f).InBudget :=
  .ite (hf h) h

end State.InBudget

/-! ### One command, one step -/

namespace State.InBudget

variable {s : State}

/-- Every command answers a next state, and one in which both laws hold. -/
theorem exec (h : s.InBudget) (i : Instr) : ∃ t, Machine.exec i s = .next t ∧ t.InBudget := by
  cases i with
  | ident | status | get | set | recipeGet | recipeSet | run | cancelPending | cancelActive | cancelAll | prepare | drain
  | doseManual | dosePrime | stock | regen | doorOpen | doorRetract | faults | ackFault | ackFaultAll | moduleRead
  | modulePin | moduleUnpin | moduleClearCounters | moduleBusReset | save | resetSoft | resetFull | sleep | unknownKind =>
    exact ⟨_, rfl, h.takeRequest⟩
  | panelOctetReceived => exact ⟨_, rfl, h.event fun ht => ht.receive⟩
  | octetGapTimeout => exact ⟨_, rfl, h.expire fun ht => ht.discard⟩
  | transmitDone => exact ⟨_, rfl, h.event fun ht => ht.sendEnds⟩
  | softResetTaken => exact ⟨_, rfl, h.event fun ht => .ite softReset ht⟩
  | fullResetTaken => exact ⟨_, rfl, h.event fun ht => .ite fullReset ht⟩
  | supplyRise => exact ⟨_, rfl, h.riseSupply⟩
  | oscillatorSettled =>
    refine ⟨_, rfl, ?_⟩
    split
    · exact h.advance.settleOscillator.finish
    · exact h
  | storeWriteEnd => exact ⟨_, rfl, h.expire fun ht => ht.writeEnds⟩
  | pfwAssert => exact ⟨_, rfl, h.event fun ht => ht.assertPfw⟩
  | pfwRelease => exact ⟨_, rfl, h.event fun ht => ht.releasePfw⟩
  | settleEnd => exact ⟨_, rfl, h.expire fun ht => ht.endSettle⟩
  | wakePulseEnd => exact ⟨_, rfl, h.expire fun ht => ht.onSto⟩
  | supplyFail => exact ⟨_, rfl, h.loseSupply⟩
  | flowPulse => exact ⟨_, rfl, h.event fun ht => ht.pulse⟩
  | rinseTargetReached => exact ⟨_, rfl, h.event fun ht => .ite ht.reachTarget ht⟩
  | inletHandover => exact ⟨_, rfl, h.event fun ht => ht.handOver⟩
  | quietWindowExpiry => exact ⟨_, rfl, h.expire fun ht => ht.stallInlet⟩
  | runOnEnd => exact ⟨_, rfl, h.expire fun ht => ht.finishRunOn⟩
  | levelSample => exact ⟨_, rfl, h.event fun ht => ht.sampleSwitches⟩
  | implausibleTimerExpiry => exact ⟨_, rfl, h.expire fun ht => ht.expireImplausible⟩
  | fillTimeLimit => exact ⟨_, rfl, h.reach fun ht => ht.limitFill⟩
  | drainOutTimer => exact ⟨_, rfl, h.reach fun ht => ht.finishDrain⟩
  | sensorReading => exact ⟨_, rfl, h.event fun ht => ht.readSensors⟩
  | purgeDone => exact ⟨_, rfl, h.reach fun ht => ht.leavePurge⟩
  | washStart => exact ⟨_, rfl, h.event fun ht => .ite ht.startWash ht⟩
  | washEnd => exact ⟨_, rfl, h.reach fun ht => ht.endWash⟩
  | holdLimit => exact ⟨_, rfl, h.reach fun ht => ht.endCycle⟩
  | latchConfirmTimeout => exact ⟨_, rfl, h.expire fun ht => ht.expireConfirm⟩
  | rinseHoldExpiry => exact ⟨_, rfl, h.expire fun ht => ht.expireRinseHold⟩
  | rinseStart => exact ⟨_, rfl, h.event fun ht => .ite ht.startRinse ht⟩
  | dwellEnd => exact ⟨_, rfl, h.reach fun ht => ht.endDwell⟩
  | settlingEnd => exact ⟨_, rfl, h.expire fun ht => ht.endSettling⟩
  | agingPromotion => exact ⟨_, rfl, h.reach fun ht => ht.promote⟩
  | haltClearTimer => exact ⟨_, rfl, h.expire fun ht => ht.clearHalt⟩
  | changeoverStart => exact ⟨_, rfl, h.event fun ht => ht.startChangeover⟩
  | moveTimerExpiry => exact ⟨_, rfl, h.expire fun ht => ht.endMoveTimer⟩
  | alignmentStart => exact ⟨_, rfl, h.event fun ht => ht.startAlignment⟩
  | regenStart => exact ⟨_, rfl, h.event fun ht => ht.startRegen⟩
  | regenPhaseEnd => exact ⟨_, rfl, h.expire fun ht => ht.endRegenPhase⟩
  | orderStart => exact ⟨_, rfl, h.event fun ht => ht.startOrder⟩
  | orderWatchdogExpiry => exact ⟨_, rfl, h.expire fun ht => ht.watchdogExpires⟩
  | done => exact ⟨_, rfl, h.event fun ht => ht.doneMessage⟩
  | latchReleaseTimeout => exact ⟨_, rfl, h.expire fun ht => ht.expireRelease⟩
  | moved => exact ⟨_, rfl, h.event fun ht => ht.movedMessage⟩
  | retractStart => exact ⟨_, rfl, h.event fun ht => ht.startRetract⟩
  | retractTimeLimit => exact ⟨_, rfl, h.expire fun ht => ht.retractLimit⟩
  | ventTimerExpiry => exact ⟨_, rfl, h.expire fun ht => ht.reportVent⟩
  | coolingWindowEnd => exact ⟨_, rfl, h.expire fun ht => ht.reportVent⟩
  | frameEnd => exact ⟨_, rfl, .ite (h.event fun ht => ht.endFrame).nextFrame (h.event id)⟩
  | messageDelivered => exact ⟨_, rfl, h.event fun ht => ht.onlyIf fun hu => hu.deliverDown⟩
  | closingLimit => exact ⟨_, rfl, h.event fun ht => .ite ht.deliverDown ht⟩
  | downstreamNoProgress => exact ⟨_, rfl, h.event fun ht => ht.onlyIf fun hu => hu.abandonDown⟩
  | upstreamNoProgress => exact ⟨_, rfl, h.event fun ht => ht.onlyIf fun hu => hu.abandonUp⟩
  | grantWithdrawal => exact ⟨_, rfl, h.event fun ht => ht.onlyIf fun hu => hu.withdrawGrant⟩
  | lineBreakEnd => exact ⟨_, rfl, .ite (h.expire fun ht => ht.startLine).buildFrame h⟩
  | bringUpQuery => exact ⟨_, rfl, h.event fun ht => ht.onlyIf fun hu => hu.bringUpQuery⟩
  | answerTimeout => exact ⟨_, rfl, h.event fun ht => ht.expireAnswer⟩
  | caps => exact ⟨_, rfl, h.event fun ht => ht.capsMessage⟩
  | silentCountLimit => exact ⟨_, rfl, h.event fun ht => ht.silentLimit⟩
  | stuckLineBreak => exact ⟨_, rfl, h.event fun ht => ht.onlyIf fun hu => hu.watchLine⟩
  | busStuck => exact ⟨_, rfl, h.event fun ht => ht.onlyIf fun hu => hu.setStuck⟩
  | stuckRepeatBreak => exact ⟨_, rfl, h.event fun ht => ht.onlyIf fun hu => hu.rebreakLine⟩
  | busStuckClear => exact ⟨_, rfl, h.event fun ht => ht.onlyIf fun hu => hu.clearStuck⟩

/-- A step runs the command in front, the event that is due, or one millisecond. -/
theorem step (h : s.InBudget) : ∃ t, Machine.step s = .next t ∧ t.InBudget := by
  unfold Machine.step
  split
  · next c rest _ =>
    have hrest : ({ s with pending := rest } : State).InBudget := h.of_frame rfl rfl
    exact hrest.exec c
  · unfold Machine.idleStep
    split
    · exact h.exec _
    · exact ⟨_, rfl, h.advance⟩

end State.InBudget

/-! ### When a claim fits (R50) -/

/-- A load without a settling entry. -/
theorem State.settles_eq_false_iff (s : State) (l : Load) :
    s.settles l = false ↔ ∀ e ∈ s.lba.settling, e.load ≠ l := by
  simp [State.settles]

/-- Under the budget law a WAITING claim fits by three tests: headroom, mains_budget_w, no settling entry of its load. -/
theorem State.BudgetLaw.fits_iff {s : State} {l : Load} (h : s.BudgetLaw) (hw : (s.claimOf l).state = .waiting) :
    s.fits l = true ↔
      s.watts l ≤ s.lba.inForce - (s.sumGranted + s.sumSettling) ∧ s.sumGranted + s.watts l ≤ s.mains ∧
        ∀ e ∈ s.lba.settling, e.load ≠ l := by
  have hg : s.granted l = false := by simp [State.granted, hw]
  have hwanted : s.wanted l = s.watts l := by simp [State.wanted, hg]
  unfold State.BudgetLaw at h
  rw [State.fits_iff, hwanted, hg, ← State.settles_eq_false_iff, Nat.le_sub_iff_add_le' h]
  simp

/-- Settles O58: every operation of the model keeps `State.InBudget`, so a step does; the tests of a fitting claim are
`State.BudgetLaw.fits_iff`, and a grant that fits stays within both bounds by `State.grant_within`. -/
theorem everyStepKeepsTheBudgetLaw : Obligations.EveryStepKeepsTheBudgetLaw := by
  refine ⟨fun s t hlaw hmains hstep => ?_, fun s l hlaw hw => State.BudgetLaw.fits_iff hlaw hw,
    fun s l hlaw hforce hroom => ?_, fun s l _ hf => State.grant_within hf⟩
  · obtain ⟨u, hu, hin⟩ := State.InBudget.step (s := s) ⟨hlaw, hmains⟩
    rw [hstep] at hu
    cases hu
    exact hin
  · omega

end Sys2Proof.Machine
end

section
/-! PROOFS. The arithmetic of chapter 5 over any run (R87 to R90, R94), the purge time through the cycle (R98), and with
that O36.

A pulse charged and a volume dosed are the same step: an amount joins a carry, whole units leave it. First come the laws of
that step over a list of amounts, then the rounded quotients, then what a claim and a release leave alone, and last the
operations of the cycle that touch the purge time. -/

namespace Sys2Proof.Machine

open Sys2Proof

/-! ### Runs of whole steps with a carry (R89, R94) -/

/-- One amount dosed: the whole steps join those ordered before, the rest is the new carry (R94). -/
def doseOne (ulPerStep : Nat) (p : Nat × Nat) (volume : Nat) : Nat × Nat :=
  (p.1 + (stepsAndCarry volume p.2 ulPerStep).1, (stepsAndCarry volume p.2 ulPerStep).2)

/-- A pulse charged is the hardness dosed in steps of K with the accumulator as carry (R89). -/
theorem accumulatorStep_eq_stepsAndCarry (acc h k : Nat) : accumulatorStep acc h k = stepsAndCarry h acc k := by
  simp [accumulatorStep, stepsAndCarry, Nat.add_comm]

theorem stepsAndCarry_conserves (volume carry ul : Nat) :
    (stepsAndCarry volume carry ul).1 * ul + (stepsAndCarry volume carry ul).2 = volume + carry :=
  Nat.add_sub_of_le (Nat.div_mul_le_self ..)

theorem stepsAndCarry_carry_lt {ul : Nat} (hul : 0 < ul) (volume carry : Nat) :
    (stepsAndCarry volume carry ul).2 < ul := by
  have hmod : (stepsAndCarry volume carry ul).2 = (volume + carry) % ul := by
    rw [Nat.mod_eq_sub_div_mul]
    rfl
  rw [hmod]
  exact Nat.mod_lt _ hul

theorem foldl_doseOne_conserves (ul : Nat) (vs : List Nat) (p : Nat × Nat) :
    (vs.foldl (doseOne ul) p).1 * ul + (vs.foldl (doseOne ul) p).2 = p.1 * ul + p.2 + vs.sum := by
  induction vs generalizing p with
  | nil => rfl
  | cons v vs ih =>
    have hstep : (doseOne ul p v).1 * ul + (doseOne ul p v).2 = p.1 * ul + (v + p.2) := by
      rw [← stepsAndCarry_conserves v p.2 ul, ← Nat.add_assoc, ← Nat.add_mul]
      rfl
    rw [List.foldl_cons, ih, hstep, List.sum_cons]
    omega

/-- The carry is below one step from the start, or from the first amount dosed on. -/
theorem foldl_doseOne_carry_lt {ul : Nat} (hul : 0 < ul) {vs : List Nat} {p : Nat × Nat} (h : p.2 < ul ∨ vs ≠ []) :
    (vs.foldl (doseOne ul) p).2 < ul := by
  induction vs generalizing p with
  | nil => simpa using h
  | cons v vs ih => exact ih (.inl (stepsAndCarry_carry_lt hul v p.2))

/-- Pulses charged one after the other are that many hardnesses dosed in steps of K. -/
theorem foldl_accumulatorStep_eq (n h k : Nat) (p : Nat × Nat) :
    (List.range n).foldl (fun p _ => (p.1 + (accumulatorStep p.2 h k).1, (accumulatorStep p.2 h k).2)) p =
      (List.replicate n h).foldl (doseOne k) p := by
  have hrep : List.replicate n h = (List.range n).map fun _ => h := by simp
  rw [hrep, List.foldl_map]
  simp only [accumulatorStep_eq_stepsAndCarry]
  rfl

/-! ### Rounded quotients (R87, R88, R98) -/

theorem ceilDiv_le_iff {b : Nat} (hb : 0 < b) (a q : Nat) : ceilDiv a b ≤ q ↔ a ≤ q * b := by
  unfold ceilDiv
  rw [← Nat.lt_succ_iff, Nat.div_lt_iff_lt_mul hb, Nat.succ_mul]
  omega

theorem pulseTarget_le_iff (ml k p : Nat) : pulseTarget ml k ≤ p ↔ ml * k ≤ p * 1000 :=
  ceilDiv_le_iff (by decide) ..

theorem purgeMsOf_le_iff {rate : Nat} (hrate : 0 < rate) (ml t : Nat) : purgeMsOf ml rate ≤ t ↔ ml * 1000 ≤ t * rate :=
  ceilDiv_le_iff hrate ..

theorem le_meteredMl_iff {k : Nat} (hk : 0 < k) (pulses v : Nat) : v ≤ meteredMl pulses k ↔ v * k ≤ pulses * 1000 :=
  Nat.le_div_iff_mul_le hk

/-- The pulses of the target meter at least the volume asked for. -/
theorem le_meteredMl_pulseTarget {k : Nat} (hk : 0 < k) (ml : Nat) : ml ≤ meteredMl (pulseTarget ml k) k :=
  (le_meteredMl_iff hk ..).2 ((pulseTarget_le_iff ..).1 le_rfl)

theorem purgeMsOf_pos {ml rate : Nat} (hml : 0 < ml) (hrate : 0 < rate) : 0 < purgeMsOf ml rate := by
  by_contra hzero
  have hle := (purgeMsOf_le_iff hrate ml 0).1 (by omega)
  omega

/-- 5000 mL at 50 mL/s is the longest purge. -/
theorem purgeMsOf_le_of_range {ml rate : Nat} (hml : ml ≤ 5000) (hrate : 50 ≤ rate) : purgeMsOf ml rate ≤ 100000 := by
  rw [purgeMsOf_le_iff (by omega)]
  omega

/-! ### What a claim and a release leave alone (R47, R48) -/

namespace State

/-- Asking for a MOVE leaves WHU and CSQ alone (R127). -/
@[simp] theorem askMove_whu_csq (s : State) : s.askMove.whu = s.whu ∧ s.askMove.csq = s.csq := by
  unfold askMove
  split
  · next origin target a _ _ =>
    have h := s.enqueue_frame a (.move target) .dvc
    split
    · split <;> next e => simp_all
    · simp
  · simp

/-- What a grant sets off at its claimant leaves WHU and CSQ alone. -/
@[simp] theorem granteeEvent_whu_csq (s : State) (l : Load) :
    (s.granteeEvent l).whu = s.whu ∧ (s.granteeEvent l).csq = s.csq := by
  unfold granteeEvent
  split
  · exact s.askMove_whu_csq
  · unfold fanGranted
    split <;> simp
  · unfold valveGranted
    dsimp only
    split <;> simp
  all_goals simp

/-- A grant leaves WHU, CSQ and the settings alone (R51, R57). -/
@[simp] theorem grant_whu_csq_settings (s : State) (l : Load) :
    (s.grant l).whu = s.whu ∧ (s.grant l).csq = s.csq ∧ (s.grant l).settings = s.settings := by
  unfold grant
  split <;> simp

/-- The walk leaves WHU, CSQ and the settings alone (R51 to R53). -/
@[simp] theorem walk_whu_csq_settings (s : State) : s.walk.whu = s.whu ∧ s.walk.csq = s.csq ∧ s.walk.settings = s.settings :=
  walk_keeps (P := fun t => t.whu = s.whu ∧ t.csq = s.csq ∧ t.settings = s.settings)
    (fun t l _ h => by simpa using h) (fun t l h => by simpa using h) ⟨rfl, rfl, rfl⟩

/-- A claim leaves WHU, CSQ and the settings alone (R47). -/
@[simp] theorem claim_whu_csq_settings (s : State) (l : Load) :
    (s.claim l).1.whu = s.whu ∧ (s.claim l).1.csq = s.csq ∧ (s.claim l).1.settings = s.settings := by
  unfold claim
  repeat' split
  all_goals simp [tellUnfit]

/-- A release leaves WHU, CSQ and the settings alone (R48). -/
@[simp] theorem release_whu_csq_settings (s : State) (l : Load) :
    (s.release l).whu = s.whu ∧ (s.release l).csq = s.csq ∧ (s.release l).settings = s.settings := by
  unfold release
  split <;> simp

/-! ### The purge time through the cycle (R98) -/

/-- A change of cycle state changes the phase alone outside the Panel Link (R26). -/
@[simp] theorem enterState_whu_csq_settings (s : State) (p : CycleState) :
    (s.enterState p).whu = s.whu ∧ (s.enterState p).csq = { s.csq with phase := p } ∧
      (s.enterState p).settings = s.settings := by
  simp [enterState, notePhase]

/-- The drain pump taken: its user alone changes in WHU (R20). -/
@[simp] theorem takeDrain_whu (s : State) (u : DrainUser) : (s.takeDrain u).whu = { s.whu with drainUser := some u } := by
  simp [takeDrain]

theorem recipe_of_active {s : State} {e : ActiveEntry} (h : s.csq.active = some e) : s.recipe = e.copy := by
  simp [recipe, h]

/-- The purge is asked for with the drain rate in force (R20, R98). -/
theorem startPurge_eq {s t : State} (h : t.settings = s.settings) (ml : Nat) :
    t.startPurge ml =
      (t.onWhu fun w =>
        { w with
          purgeTime := (ml * 1000 + s.num SettingIx.drainRate - 1) / s.num SettingIx.drainRate
          purgeMs := 0 }).takeDrain .purge := by
  have hrate : t.num SettingIx.drainRate = s.num SettingIx.drainRate := by simp [num, val, h]
  rw [startPurge, hrate]
  rfl

/-- The end of WASH: the wash time recorded, the pump released, then PURGE or RINSE_WAIT by the copy's purge_ml (R29). -/
theorem endWash_eq {s : State} {e : ActiveEntry} (h : s.csq.active = some e) :
    s.endWash =
      let t := (s.onRecord fun r => { r with washS := s.csq.washMs / 1000 }).release .washPump
      if 0 < e.copy.purgeMl then (t.enterState .purge).startPurge e.copy.purgeMl else t.enterRinseWait := by
  have hcopy : ((s.onRecord fun r => { r with washS := s.csq.washMs / 1000 }).release .washPump).recipe = e.copy :=
    recipe_of_active (by simpa [onRecord] using h)
  simp only [endWash, hcopy]

/-- A hold in PURGE takes the drain pump's user and leaves the rest of WHU (R30). -/
theorem addHold_purge_whu {s : State} (h : s.csq.phase = .purge) (r : HoldReason) :
    (s.addHold r).whu = { s.whu with drainUser := none } := by
  simp [addHold, h]

/-- The resume of PURGE gives it the drain pump again and leaves the rest of WHU (R31). -/
theorem resume_purge_whu {s : State} (h : s.csq.hold.left = some .purge) :
    s.resume.whu = { s.whu with drainUser := some .purge } := by
  simp [resume, h]

/-! ### SET of drain_rate (R98, R189) -/

theorem putSetting_val_self (s : State) (i : SettingIx) : s.putSetting i (s.val i) = s := by
  simp [putSetting, val, Vector.get_eq_getElem]

/-- A SET of drain_rate within its range changes the setting alone, whether or not the value is a new one. -/
theorem setClamped_drainRate (s : State) {v : Int} (hlo : 50 ≤ v) (hhi : v ≤ 1000) :
    s.setClamped SettingIx.drainRate v = (s.putSetting SettingIx.drainRate v, .ok, eValue v) := by
  have hrange : settingRange.get SettingIx.drainRate = (50, 1000) := by decide
  have hclamp : clampSetting SettingIx.drainRate v = v := by
    have hne : SettingIx.drainRate ≠ SettingIx.boosterBW := by decide
    simp only [clampSetting, hrange, hne, false_and, if_false]
    omega
  have happly (t : State) : applySetting s t SettingIx.drainRate = t := by rfl
  have hunsummed : summed SettingIx.drainRate = false := by decide
  have hne : SettingIx.drainRate ≠ SettingIx.kFactor := by decide
  by_cases hv : v = s.val SettingIx.drainRate
  · subst hv
    simp [setClamped, hclamp, hne, putSetting_val_self]
  · simp [setClamped, hclamp, hne, hv, hunsummed, happly]

theorem serveSet_drainRate (s : State) {v : BitVec 32} (hlo : 50 ≤ v.toInt) (hhi : v.toInt ≤ 1000) :
    s.serveSet 27#8 v = (s.putSetting SettingIx.drainRate v.toInt, .ok, eValue v.toInt) :=
  s.setClamped_drainRate hlo hhi

end State

/-- A SET that its owner takes: what `serveSet` makes of it, placed as the reply (R183, R189). -/
theorem exec_set_of_serves {s : State} (h : s.serves = true) (tag number : Octet) (v : BitVec 32) :
    exec (.set tag number v) s = .next
      ((s.serveSet number v).1.reply 0x04#8 tag (s.serveSet number v).2.1 (s.serveSet number v).2.2).finish := by
  have hframe : encodeRequest (.set tag number v) = some ⟨0x04#8, tag, number :: valueOctets v⟩ := rfl
  have hform : s.formOf (.set tag number v) = none := rfl
  rw [exec_request hframe, hform, State.request_serves h]
  rfl

/-- Settles O36, part by part: the two runs are folds of `doseOne`, the rounded quotients are `ceilDiv_le_iff` and its
uses, and the purge time is followed through WASH, PURGE, a hold and its resume. -/
theorem arithmeticLosesNothing : Obligations.ArithmeticLosesNothing := by
  refine ⟨fun n h k acc hk => ?_, fun vs carry ul hlt => ?_, ⟨fun _ _ _ => (pulseTarget_le_iff ..).symm,
    fun _ _ _ hrate => (purgeMsOf_le_iff hrate ..).symm, fun _ _ _ hk => (le_meteredMl_iff hk ..).symm,
    fun ml k hk => le_meteredMl_pulseTarget hk ml⟩, fun ml rate hml1 hml hrate hrate1 => ?_, fun s e he => ?_,
    fun s r hp => ?_, fun s hl => ?_, fun tag v s hs hlo hhi => ?_⟩
  · intro run
    have hrun : run n = (List.replicate n h).foldl (doseOne k) (0, acc) := foldl_accumulatorStep_eq n h k (0, acc)
    rw [hrun]
    refine ⟨by simpa using foldl_doseOne_conserves k (List.replicate n h) (0, acc), fun hn => ?_⟩
    exact foldl_doseOne_carry_lt hk (.inr (by simpa using hn.ne'))
  · intro r
    have hrun : r = vs.foldl (doseOne ul) (0, carry) := rfl
    rw [hrun]
    exact ⟨by simpa using foldl_doseOne_conserves ul vs (0, carry),
      foldl_doseOne_carry_lt (Nat.zero_lt_of_lt hlt) (.inl hlt)⟩
  · have hpos : 0 < rate := by omega
    exact ⟨rfl, by omega, purgeMsOf_pos hml1 hpos, purgeMsOf_le_of_range hml hrate, by decide, by decide,
      (purgeMsOf_le_iff hpos ..).1 le_rfl⟩
  · intro t
    have hend : s.endWash =
        if 0 < e.copy.purgeMl then (t.enterState .purge).startPurge e.copy.purgeMl else t.enterRinseWait :=
      State.endWash_eq he
    refine ⟨fun hzero => by simp [hend, hzero], fun hpos => ?_⟩
    rw [hend, if_pos hpos]
    exact State.startPurge_eq (by simp [t]) _
  · simp [State.addHold_purge_whu hp]
  · simp [State.resume_purge_whu hl]
  · rw [exec_set_of_serves hs, State.serveSet_drainRate s hlo hhi]
    rfl

end Sys2Proof.Machine
end

section
-- The proofs are elaborated one after the other: each of the many threads of a parallel run holds a stack of its own.
set_option Elab.async false
/-! PROOFS. What every operation of the model upholds: the queue of waiting commands stays, every queue and list stays within
its length, and a LOCKOUT keeps the machine stopped. With that O57, O59 and O2.

`State.Upholds` says all three of a state and the one it comes from. First come the fault list and the operations that
change what the three rest on; then one lemma per operation of the model, in the model's order; last the commands and the
step. -/

namespace Sys2Proof.Machine

open Sys2Proof

/-! ### What the invariants rest on -/

/-- The commands waiting are the same, and the bounds and the safety under a LOCKOUT hold if they held before. -/
structure State.Upholds (t s : State) : Prop where
  pending : t.pending = s.pending
  bounded : s.Bounded → t.Bounded
  safe : s.LockoutSafe → t.LockoutSafe

/-- Every key that is only ever raised as WARNING is held as WARNING (10.1). -/
def State.HoldsWarnings (s : State) : Prop :=
  ∀ r ∈ s.flu.list, State.warningKey r.code r.detail = true → r.cls = .warning

theorem State.locked_iff (s : State) : s.locked = true ↔ ∃ r ∈ s.flu.list, r.cls = .lockout := by
  simp [State.locked, State.hasClass]

theorem State.locked_congr {s t : State} (h : t.flu = s.flu) : t.locked = s.locked := by
  simp [State.locked, State.hasClass, h]

theorem State.faultRec_mem {s : State} {code : FaultCode} {detail : Nat} {r : FaultRec}
    (h : s.faultRec code detail = some r) : r ∈ s.flu.list ∧ r.code = code ∧ r.detail = detail := by
  have hk := List.find?_some h
  exact ⟨List.mem_of_find?_eq_some h, by simpa using hk⟩

/-- Under a LOCKOUT a safe machine has no claim. -/
theorem State.LockoutSafe.idle {s : State} (h : s.LockoutSafe) (hl : s.locked = true) (l : Load) :
    (s.claimOf l).state = .idle :=
  (h.2.2 hl).1 l

/-- Under a LOCKOUT a safe machine has no grant. -/
theorem State.LockoutSafe.not_granted {s : State} (h : s.LockoutSafe) (hl : s.locked = true) (l : Load) :
    s.granted l = false := by
  simp [State.granted, h.idle hl l]

/-! ### The fault list (R173 to R177) -/

section
variable {s : State} {code : FaultCode} {detail : Nat} {cls : FaultClass}

@[simp] theorem State.onFlu_list_mem {f : Flu → Flu} {r : FaultRec} :
    r ∈ (s.onFlu f).flu.list ↔ r ∈ (f s.flu).list := Iff.rfl

theorem State.mem_onFault {f : FaultRec → FaultRec} {r : FaultRec} :
    r ∈ (s.onFault code detail f).flu.list ↔
      ∃ x ∈ s.flu.list, (if x.keyed code detail then f x else x) = r := by
  simp [State.onFault]

theorem State.mem_removeFault {r : FaultRec} (h : r ∈ (s.removeFault code detail).flu.list) : r ∈ s.flu.list := by
  unfold State.removeFault at h
  split at h
  · simp at h; exact h.1
  · exact h

theorem State.mem_createFault {r : FaultRec} (h : r ∈ (s.createFault code detail cls).flu.list) :
    r ∈ s.flu.list ∨ (r.code = code ∧ r.detail = detail ∧ r.cls = cls) := by
  unfold State.createFault at h
  simp at h
  rcases h with h | h
  · exact .inl h
  · subst h; exact .inr ⟨rfl, rfl, rfl⟩

theorem FaultRec.keyed_iff {r : FaultRec} : r.keyed code detail = true ↔ r.code = code ∧ r.detail = detail := by
  simp [FaultRec.keyed]

/-- A record after the list has taken a raise: one that stood before, or one of the key with the class that the raise gives
it. -/
theorem State.mem_enterFault {r : FaultRec} (h : r ∈ (s.enterFault code detail cls).1.flu.list) :
    r ∈ s.flu.list ∨ (r.code = code ∧ r.detail = detail ∧
      (r.cls = cls ∨ ∃ x ∈ s.flu.list, x.code = code ∧ x.detail = detail ∧ r.cls = x.cls.worse cls)) := by
  unfold State.enterFault at h
  split at h
  · next x hx =>
    obtain ⟨hmem, hcode, hdetail⟩ := State.faultRec_mem hx
    have hon : r ∈ (s.onFault code detail fun y =>
        { y with count := satAdd 255 y.count 1, present := true, cls := x.cls.worse cls,
                 ack := y.ack || decide (x.cls.worse cls = .lockout) }).flu.list := by
      dsimp only at h
      split at h
      · exact h
      · simpa using h
    obtain ⟨y, hy, hyr⟩ := State.mem_onFault.mp hon
    split at hyr
    · next hk =>
      obtain ⟨hyc, hyd⟩ := FaultRec.keyed_iff.mp hk
      subst hyr
      exact .inr ⟨hyc, hyd, .inr ⟨x, hmem, hcode, hdetail, rfl⟩⟩
    · subst hyr; exact .inl hy
  · have key : ∀ t : State, r ∈ (t.createFault code detail cls).flu.list →
        (∀ y ∈ t.flu.list, y ∈ s.flu.list) → r ∈ s.flu.list ∨ (r.code = code ∧ r.detail = detail ∧ r.cls = cls) :=
      fun t ht hsub => (State.mem_createFault ht).imp_left (hsub r)
    have weaken : r ∈ s.flu.list ∨ (r.code = code ∧ r.detail = detail ∧ r.cls = cls) →
        r ∈ s.flu.list ∨ (r.code = code ∧ r.detail = detail ∧
          (r.cls = cls ∨ ∃ x ∈ s.flu.list, x.code = code ∧ x.detail = detail ∧ r.cls = x.cls.worse cls)) := by
      rintro (hm | ⟨hc, hd, hcls⟩)
      · exact .inl hm
      · exact .inr ⟨hc, hd, .inl hcls⟩
    split at h
    · exact weaken (key s h fun _ hy => hy)
    · split at h
      · exact weaken (key _ h fun _ hy => State.mem_removeFault hy)
      · exact .inl h

/-- A WARNING raise of a key that is only ever raised as WARNING brings no record of another class. -/
theorem State.HoldsWarnings.enterFault (h : s.HoldsWarnings) (hk : State.warningKey code detail = true → cls = .warning) :
    (s.enterFault code detail cls).1.HoldsWarnings := by
  intro r hr hkey
  rcases State.mem_enterFault hr with hm | ⟨hc, hd, hcls⟩
  · exact h r hm hkey
  · rw [hc, hd] at hkey
    rcases hcls with hcls | ⟨x, hx, hxc, hxd, hcls⟩
    · rw [hcls, hk hkey]
    · rw [hcls, hk hkey, h x hx (by rw [hxc, hxd]; exact hkey)]
      rfl

/-- Escalation touches STOP raises and STOP records alone, so it passes a WARNING of such a key by. -/
theorem State.HoldsWarnings.escalate_eq (h : s.HoldsWarnings) (hk : State.warningKey code detail = true)
    (hcls : cls = .warning) : s.escalate code detail cls = s := by
  unfold State.escalate
  split
  · rfl
  · next r hr =>
    obtain ⟨hmem, hc, hd⟩ := State.faultRec_mem hr
    have hw : r.cls = .warning := h r hmem (by rw [hc, hd]; exact hk)
    simp [hw, hcls]

/-- What an escalation test leaves in the list: the records before it, one of the key perhaps as LOCKOUT. -/
theorem State.mem_escalate {r : FaultRec} (h : r ∈ (s.escalate code detail cls).flu.list) :
    r ∈ s.flu.list ∨ (r.code = code ∧ r.detail = detail) := by
  unfold State.escalate at h
  split at h
  · exact .inl h
  · split at h
    · dsimp only at h
      split at h
      · split at h
        · exact .inl h
        · have hm : r ∈ ((s.onFlu fun u => { u with history := pushHistory u.history code detail s.csq.counter }).onFault
              code detail fun r => { r with cls := .lockout, ack := true, escalated := true }).flu.list := by
            simpa [State.onFault] using h
          obtain ⟨y, hy, hyr⟩ := State.mem_onFault.mp hm
          split at hyr
          · next hk =>
            obtain ⟨hyc, hyd⟩ := FaultRec.keyed_iff.mp hk
            subst hyr
            exact .inr ⟨hyc, hyd⟩
          · subst hyr; exact .inl hy
      · exact .inl h
    · exact .inl h

theorem State.HoldsWarnings.escalate (h : s.HoldsWarnings) (hk : State.warningKey code detail = true → cls = .warning) :
    (s.escalate code detail cls).HoldsWarnings := by
  by_cases hkey : State.warningKey code detail = true
  · rw [h.escalate_eq hkey (hk hkey)]
    exact h
  · intro r hr hrk
    rcases State.mem_escalate hr with hm | ⟨hc, hd⟩
    · exact h r hm hrk
    · rw [hc, hd] at hrk
      exact absurd hrk hkey

theorem State.HoldsWarnings.congr {s t : State} (h : s.HoldsWarnings) (hf : t.flu = s.flu) : t.HoldsWarnings := by
  intro r hr
  rw [hf] at hr
  exact h r hr

/-- The list's part of a raise, said of its state alone: the list takes it, tests the escalation and wakes, or counts it. -/
theorem State.raiseList_cases (s : State) (code : FaultCode) (detail : Nat) (cls : FaultClass) :
    ((s.enterFault code detail cls).2 = true ∧
        s.raiseList code detail cls = (((s.enterFault code detail cls).1.escalate code detail cls).wake .fault, true)) ∨
      ((s.enterFault code detail cls).2 = false ∧ s.raiseList code detail cls = ((s.enterFault code detail cls).1, false)) := by
  unfold State.raiseList
  rcases s.enterFault code detail cls with ⟨t, b⟩
  cases b
  · exact .inr ⟨rfl, rfl⟩
  · exact .inl ⟨rfl, rfl⟩

theorem State.HoldsWarnings.raiseList (h : s.HoldsWarnings) (hk : State.warningKey code detail = true → cls = .warning) :
    (s.raiseList code detail cls).1.HoldsWarnings := by
  rcases s.raiseList_cases code detail cls with ⟨-, e⟩ | ⟨-, e⟩
  · rw [e]
    exact ((h.enterFault hk).escalate hk).congr (by simp)
  · rw [e]
    exact h.enterFault hk

/-- A WARNING of a key that is only ever raised as WARNING brings no LOCKOUT. -/
theorem State.locked_of_warn (h : s.HoldsWarnings) (hk : State.warningKey code detail = true)
    (hl : (s.raiseList code detail .warning).1.locked = true) : s.locked = true := by
  have henter : (s.enterFault code detail .warning).1.locked = true := by
    rcases s.raiseList_cases code detail .warning with ⟨-, e⟩ | ⟨-, e⟩
    · rw [e, (h.enterFault fun _ => rfl).escalate_eq hk rfl] at hl
      have hwake := State.locked_congr (s := (s.enterFault code detail .warning).1)
        (t := (s.enterFault code detail .warning).1.wake .fault) (by simp)
      exact hwake.symm.trans hl
    · rwa [e] at hl
  obtain ⟨r, hr, hcls⟩ := (State.locked_iff _).mp henter
  refine (State.locked_iff _).mpr ⟨r, ?_, hcls⟩
  rcases State.mem_enterFault hr with hm | ⟨hc, hd, -⟩
  · exact hm
  · have hw := h.enterFault (code := code) (detail := detail) (fun _ => rfl) r hr (by rw [hc, hd]; exact hk)
    rw [hw] at hcls
    cases hcls

end

/-! ### Lengths of lists and queues -/

theorem pushHistory_length {rows : List HistoryRow} (h : rows.length ≤ Config.historyLimit) (code : FaultCode)
    (detail cycle : Nat) : (pushHistory rows code detail cycle).length ≤ Config.historyLimit := by
  unfold pushHistory
  extract_lets mine rest cycles row
  have hrest : rest.length ≤ rows.length := List.length_filter_le _ _
  split
  · next hc =>
    have hlim : 0 < Config.historyLimit := by decide
    simp only [List.length_append, List.length_drop, List.length_cons, List.length_nil]
    omega
  · next hc =>
    have hlt : rest.length < Config.historyLimit := by
      cases hm : mine with
      | none =>
        rw [hm] at hc
        simpa using hc
      | some r =>
        have hmem : r ∈ rows := List.mem_of_find?_eq_some hm
        have hkey := List.find?_some hm
        have : rest.length < rows.length :=
          List.length_filter_lt_length_iff_exists.2 ⟨r, hmem, by simpa using hkey⟩
        omega
    simp only [List.length_append, List.length_cons, List.length_nil]
    omega

theorem mergeLast_length {n ul : Nat} {os : List Order} {p : List Order × Nat} (h : mergeLast n ul os = some p) :
    p.1.length = os.length := by
  induction os generalizing p with
  | nil => cases h
  | cons o os ih =>
    cases os with
    | nil =>
      unfold mergeLast at h
      split at h
      · split at h
        · cases h; rfl
        · cases h
      · cases h
    | cons o' os' =>
      simp only [mergeLast, Option.map_eq_some_iff] at h
      obtain ⟨q, hq, rfl⟩ := h
      simp [ih hq]

namespace State.Bounded

variable {s : State} {code : FaultCode} {detail : Nat} {cls : FaultClass}

/-- A state whose queues and lists are no longer than those of a bounded one. -/
theorem of_le {t : State} (h : s.Bounded) (hn : t.plk.notices.length ≤ s.plk.notices.length)
    (hq : t.mbi.queue.length ≤ s.mbi.queue.length) (hd : t.dsc.det.orders.length ≤ s.dsc.det.orders.length)
    (hr : t.dsc.ra.orders.length ≤ s.dsc.ra.orders.length) (hl : t.flu.list.length ≤ s.flu.list.length)
    (hh : t.flu.history.length ≤ s.flu.history.length) : t.Bounded := by
  obtain ⟨h1, h2, h3, h4, h5, h6⟩ := h
  exact ⟨hn.trans h1, hq.trans h2, hd.trans h3, hr.trans h4, hl.trans h5, hh.trans h6⟩

theorem place {n : Notice} (h : s.Bounded) : (s.place n).Bounded := by
  obtain ⟨hn, hrest⟩ := h
  exact ⟨State.place_bound hn n, by simpa using hrest⟩

/-- A change of the fault list that lengthens neither the list nor the history past its limit. -/
theorem onFlu {f : Flu → Flu} (h : s.Bounded) (hl : (f s.flu).list.length ≤ Config.faultLimit)
    (hh : (f s.flu).history.length ≤ Config.historyLimit) : (s.onFlu f).Bounded := by
  obtain ⟨h1, h2, h3, h4, -, -⟩ := h
  exact ⟨h1, h2, h3, h4, hl, hh⟩

theorem list (h : s.Bounded) : s.flu.list.length ≤ Config.faultLimit := h.2.2.2.2.1

theorem history (h : s.Bounded) : s.flu.history.length ≤ Config.historyLimit := h.2.2.2.2.2

theorem onFault {f : FaultRec → FaultRec} (h : s.Bounded) : (s.onFault code detail f).Bounded :=
  h.onFlu (by simpa using h.list) h.history

theorem noteFault {event : FaultEvent} (h : s.Bounded) : (s.noteFault event code detail).Bounded := by
  unfold State.noteFault
  split
  · exact h.place
  · exact h

theorem removeFault (h : s.Bounded) : (s.removeFault code detail).Bounded := by
  unfold State.removeFault
  split
  · exact (h.onFlu ((List.length_filter_le _ _).trans h.list) h.history).place
  · exact h

theorem createFault (h : s.Bounded) (hroom : s.flu.list.length < Config.faultLimit) :
    (s.createFault code detail cls).Bounded :=
  (h.onFlu (by simpa using hroom) h.history).place

/-- A full list makes room before it takes a new record (R174). -/
theorem enterFault (h : s.Bounded) : (s.enterFault code detail cls).1.Bounded := by
  unfold State.enterFault
  split
  · dsimp only
    split
    · exact h.onFault
    · exact h.onFault.noteFault
  · split
    · next hroom => exact h.createFault hroom
    · split
      · next r hr =>
        have hmem : r ∈ s.flu.list := by
          unfold State.displaceable at hr
          split at hr
          · next x hx =>
            cases hr
            exact List.mem_of_find?_eq_some hx
          · split at hr
            · cases hr
            · exact List.mem_of_find?_eq_some hr
        have hfound : (s.faultRec r.code r.detail).isSome := by
          simp only [State.faultRec, List.find?_isSome]
          exact ⟨r, hmem, by simp⟩
        obtain ⟨x, hx⟩ := Option.isSome_iff_exists.mp hfound
        exact h.removeFault.createFault ((State.removeFault_shorter hx).trans_le h.list)
      · exact h.onFlu h.list h.history

theorem escalate (h : s.Bounded) : (s.escalate code detail cls).Bounded := by
  have hpush : (s.onFlu fun u => { u with history := pushHistory u.history code detail s.csq.counter }).Bounded :=
    h.onFlu h.list (pushHistory_length h.history ..)
  unfold State.escalate
  split
  · exact h
  · split
    · dsimp only
      split
      · have hempty := hpush.onFlu (f := fun u =>
          { u with
            history := u.history.map fun x => if x.code = code ∧ x.detail = detail then { x with cycles := [] } else x })
          hpush.list (by simpa using hpush.history)
        split
        · exact hempty
        · exact hempty.onFault.noteFault
      · exact hpush
    · exact h

theorem raiseList (h : s.Bounded) : (s.raiseList code detail cls).1.Bounded := by
  rcases s.raiseList_cases code detail cls with ⟨-, e⟩ | ⟨-, e⟩
  · rw [e]
    have hlist : ((s.enterFault code detail cls).1.escalate code detail cls).Bounded := h.enterFault.escalate
    exact hlist.of_le (by simp) (by simp) (by simp) (by simp) (by simp) (by simp)
  · rw [e]
    exact h.enterFault

end State.Bounded

/-- What a grant sets off raises no fault. -/
theorem State.granteeEvent_flu (s : State) (l : Load) : (s.granteeEvent l).flu = s.flu := by
  unfold State.granteeEvent
  split
  · unfold State.askMove
    split
    · next origin target a _ _ =>
      have h := s.enqueue_frame a (.move target) .dvc
      split
      · split <;> next e => simp_all
      · rfl
    · rfl
  · unfold State.fanGranted
    split <;> rfl
  · unfold State.valveGranted
    dsimp only
    split <;> simp
  all_goals rfl

theorem State.grant_flu (s : State) (l : Load) : (s.grant l).flu = s.flu := by
  unfold State.grant
  split
  · rfl
  · rw [State.granteeEvent_flu]
    rfl

namespace State.Upholds

/-! ### Updates that change nothing the invariants rest on -/

variable {s₀ s t before : State}

theorem refl (s : State) : s.Upholds s := ⟨rfl, id, id⟩

/-- A state with the same commands waiting, faults and claim states and the same hold on the inlet, and queues and lists no
longer. -/
theorem congr (h : s.Upholds s₀) (hp : t.pending = s.pending) (hn : t.plk.notices.length ≤ s.plk.notices.length)
    (hq : t.mbi.queue.length ≤ s.mbi.queue.length) (hd : t.dsc.det.orders.length ≤ s.dsc.det.orders.length)
    (hr : t.dsc.ra.orders.length ≤ s.dsc.ra.orders.length) (hf : t.flu = s.flu) (ho : t.whu.owner = s.whu.owner)
    (hph : t.whu.phase = s.whu.phase) (hc : ∀ l, (t.claimOf l).state = (s.claimOf l).state) : t.Upholds s₀ where
  pending := hp.trans h.pending
  bounded hb := (h.bounded hb).of_le hn hq hd hr (by rw [hf]) (by rw [hf])
  safe hs := by
    obtain ⟨hclosed, hwarn, hlock⟩ := h.safe hs
    refine ⟨by rw [ho, hph]; exact hclosed, by rw [hf]; exact hwarn, fun hl => ?_⟩
    rw [State.locked_congr hf] at hl
    exact ⟨fun l => (hc l).trans ((hlock hl).1 l), hph.trans (hlock hl).2⟩

/-- The first of a pair, taken apart by a match. -/
theorem fst_of_eq {α : Type} {p : State × α} (h : p.1.Upholds s₀) {x : α} (e : p = (t, x)) : t.Upholds s₀ := by
  subst e; exact h

theorem ite {c : Prop} {d : Decidable c} (hs : s.Upholds s₀) (ht : t.Upholds s₀) : (if c then s else t).Upholds s₀ := by
  split
  · exact hs
  · exact ht

/-- An operation that is made under a condition alone. -/
theorem cond {c : Prop} {d : Decidable c} (hs : s.Upholds s₀) (hf : s.Upholds s₀ → t.Upholds s₀) :
    (if c then t else s).Upholds s₀ :=
  .ite (hf hs) hs

theorem fst_ite {α : Type} {c : Prop} {d : Decidable c} {p q : State × α} (hp : p.1.Upholds s₀) (hq : q.1.Upholds s₀) :
    (if c then p else q).1.Upholds s₀ := by
  split
  · exact hp
  · exact hq

/-- An operation for each of a list, in turn. -/
theorem foldl {α : Type} {f : State → α → State} (h : s.Upholds s₀) {as : List α}
    (hf : ∀ {t : State} {a : α}, a ∈ as → t.Upholds s₀ → (f t a).Upholds s₀) : (as.foldl f s).Upholds s₀ := by
  induction as generalizing s with
  | nil => exact h
  | cons a as ih => exact ih (hf (List.mem_cons_self ..) h) fun hm => hf (List.mem_cons_of_mem _ hm)

theorem fst_foldl {α β : Type} {f : State × β → α → State × β} {p : State × β} (h : p.1.Upholds s₀) {as : List α}
    (hf : ∀ {q : State × β} {a : α}, q.1.Upholds s₀ → (f q a).1.Upholds s₀) : (as.foldl f p).1.Upholds s₀ := by
  induction as generalizing p with
  | nil => exact h
  | cons a as ih => exact ih (hf h)

theorem onPlk {f : Plk → Plk} (h : s.Upholds s₀)
    (hn : (f s.plk).notices.length ≤ s.plk.notices.length := by exact Nat.le_refl _) : (s.onPlk f).Upholds s₀ :=
  h.congr rfl hn (Nat.le_refl _) (Nat.le_refl _) (Nat.le_refl _) rfl rfl rfl fun _ => rfl

theorem onWhu {f : Whu → Whu} (h : s.Upholds s₀) (ho : (f s.whu).owner = s.whu.owner := by rfl)
    (hp : (f s.whu).phase = s.whu.phase := by rfl) : (s.onWhu f).Upholds s₀ :=
  h.congr rfl (Nat.le_refl _) (Nat.le_refl _) (Nat.le_refl _) (Nat.le_refl _) rfl ho hp fun _ => rfl

theorem onCsq {f : Csq → Csq} (h : s.Upholds s₀) : (s.onCsq f).Upholds s₀ :=
  h.congr rfl (Nat.le_refl _) (Nat.le_refl _) (Nat.le_refl _) (Nat.le_refl _) rfl rfl rfl fun _ => rfl

theorem onSfc {f : Sfc → Sfc} (h : s.Upholds s₀) : (s.onSfc f).Upholds s₀ :=
  h.congr rfl (Nat.le_refl _) (Nat.le_refl _) (Nat.le_refl _) (Nat.le_refl _) rfl rfl rfl fun _ => rfl

theorem onDsc {f : Dsc → Dsc} (h : s.Upholds s₀)
    (hd : (f s.dsc).det.orders.length ≤ s.dsc.det.orders.length := by exact Nat.le_refl _)
    (hr : (f s.dsc).ra.orders.length ≤ s.dsc.ra.orders.length := by exact Nat.le_refl _) : (s.onDsc f).Upholds s₀ :=
  h.congr rfl (Nat.le_refl _) (Nat.le_refl _) hd hr rfl rfl rfl fun _ => rfl

theorem onDvc {f : Dvc → Dvc} (h : s.Upholds s₀) : (s.onDvc f).Upholds s₀ :=
  h.congr rfl (Nat.le_refl _) (Nat.le_refl _) (Nat.le_refl _) (Nat.le_refl _) rfl rfl rfl fun _ => rfl

theorem onMbi {f : Mbi → Mbi} (h : s.Upholds s₀)
    (hq : (f s.mbi).queue.length ≤ s.mbi.queue.length := by exact Nat.le_refl _) : (s.onMbi f).Upholds s₀ :=
  h.congr rfl (Nat.le_refl _) hq (Nat.le_refl _) (Nat.le_refl _) rfl rfl rfl fun _ => rfl

theorem onMsu {f : Msu → Msu} (h : s.Upholds s₀) : (s.onMsu f).Upholds s₀ :=
  h.congr rfl (Nat.le_refl _) (Nat.le_refl _) (Nat.le_refl _) (Nat.le_refl _) rfl rfl rfl fun _ => rfl

theorem onSto {f : Sto → Sto} (h : s.Upholds s₀) : (s.onSto f).Upholds s₀ :=
  h.congr rfl (Nat.le_refl _) (Nat.le_refl _) (Nat.le_refl _) (Nat.le_refl _) rfl rfl rfl fun _ => rfl

/-- A change of LBA's settling list, marks, budget in force, halt fields or count of grants. -/
theorem onLba {f : Lba → Lba} (h : s.Upholds s₀) (hc : (f s.lba).claims = s.lba.claims := by rfl) :
    (s.onLba f).Upholds s₀ :=
  h.congr rfl (Nat.le_refl _) (Nat.le_refl _) (Nat.le_refl _) (Nat.le_refl _) rfl rfl rfl fun l =>
    congrArg (fun v => Claim.state (v.get l.ix)) hc

/-- The working settings, or the count of milliseconds. -/
theorem onSettings {v : Vector Int 40} (h : s.Upholds s₀) : ({ s with settings := v } : State).Upholds s₀ :=
  h.congr rfl (Nat.le_refl _) (Nat.le_refl _) (Nat.le_refl _) (Nat.le_refl _) rfl rfl rfl fun _ => rfl

theorem onNow {n : BitVec 32} (h : s.Upholds s₀) : ({ s with now := n } : State).Upholds s₀ :=
  h.congr rfl (Nat.le_refl _) (Nat.le_refl _) (Nat.le_refl _) (Nat.le_refl _) rfl rfl rfl fun _ => rfl

/-! ### Claims

Under a LOCKOUT no claim stands, so a claim record may change to IDLE alone; what only a grant can bring about does not
happen at all. -/

/-- A change of a claim record that leaves it IDLE under a LOCKOUT. -/
theorem onClaim {l : Load} {f : Claim → Claim} (h : s.Upholds s₀)
    (hi : s.LockoutSafe → s.locked = true → (f (s.claimOf l)).state = .idle) : (s.onClaim l f).Upholds s₀ where
  pending := h.pending
  bounded := h.bounded
  safe hs := by
    have hsafe := h.safe hs
    refine ⟨hsafe.1, hsafe.2.1, fun hl => ⟨fun k => ?_, (hsafe.2.2 hl).2⟩⟩
    rw [State.claimOf_onClaim]
    split
    · exact hi hsafe hl
    · exact hsafe.idle hl k

/-- A change of a claim record that keeps its state. -/
theorem onClaim_state {l : Load} {f : Claim → Claim} (h : s.Upholds s₀)
    (hst : (f (s.claimOf l)).state = (s.claimOf l).state := by rfl) : (s.onClaim l f).Upholds s₀ :=
  h.onClaim fun hs hl => hst.trans (hs.idle hl l)

/-- A change of a claim record while no LOCKOUT stands. -/
theorem onClaim_unlocked {l : Load} {f : Claim → Claim} (h : s.Upholds s₀) (hl : s.locked = false) :
    (s.onClaim l f).Upholds s₀ :=
  h.onClaim fun _ hl' => by simp [hl] at hl'

theorem settle {l : Load} {w : Nat} (h : s.Upholds s₀) : (s.settle l w).Upholds s₀ := h.onLba

theorem endClaim {l : Load} (h : s.Upholds s₀) : (s.endClaim l).Upholds s₀ := by
  unfold State.endClaim
  split
  · exact h
  · exact h.onClaim fun _ _ => rfl
  · exact h.settle.onClaim fun _ _ => rfl

/-- Only a GRANTED claim is revoked, and under a LOCKOUT there is none. -/
theorem revoke {l : Load} (h : s.Upholds s₀) (hg : s.granted l = true) : (s.revoke l).Upholds s₀ :=
  h.settle.onClaim fun hs hl => by
    have hnot : s.granted l = false := hs.not_granted hl l
    rw [hg] at hnot
    cases hnot

theorem revokeUntil {w limit : Nat} {ls : List Load} (h : s.Upholds s₀) (hg : ∀ l ∈ ls, s.granted l = true)
    (hn : ls.Nodup) : (State.revokeUntil w limit ls s).Upholds s₀ := by
  induction ls generalizing s with
  | nil => exact h
  | cons l ls ih =>
    obtain ⟨hl, hn⟩ := List.nodup_cons.mp hn
    unfold State.revokeUntil
    split
    · exact h
    · refine ih (h.revoke (hg l (List.mem_cons_self ..))) (fun k hk => ?_) hn
      rw [State.granted_revoke_of_ne (ne_of_mem_of_not_mem hk hl)]
      exact hg k (List.mem_cons_of_mem _ hk)

theorem revokeCandidates {w limit : Nat} (h : s.Upholds s₀) : (State.revokeUntil w limit s.candidates s).Upholds s₀ :=
  h.revokeUntil (fun _ => State.granted_of_mem_candidates) s.candidates_nodup

/-! ### Shared operations -/

theorem onEntry {a : Addr} {f : Entry → Entry} (h : s.Upholds s₀) : (s.onEntry a f).Upholds s₀ := h.onMsu

theorem onBay {a : Addr} {f : Bay → Bay} (h : s.Upholds s₀) : (s.onBay a f).Upholds s₀ := h.onMbi

theorem onColumn {c : Column} {f : ColumnRec → ColumnRec} (h : s.Upholds s₀) : (s.onColumn c f).Upholds s₀ := by
  unfold State.onColumn
  split <;> exact h.onSfc

/-- A change of a channel record that does not lengthen its order list. -/
theorem onChannel {c : Channel} {f : ChannelRec → ChannelRec} (h : s.Upholds s₀)
    (hl : (f (s.channel c)).orders.length ≤ (s.channel c).orders.length := by exact Nat.le_refl _) :
    (s.onChannel c f).Upholds s₀ := by
  cases c
  · exact h.onDsc (f := fun d => { d with det := f d.det }) hl
  · exact h.onDsc (f := fun d => { d with ra := f d.ra }) (Nat.le_refl _) hl

theorem onVent {f : Vent → Vent} (h : s.Upholds s₀) : (s.onVent f).Upholds s₀ := h.onDvc

theorem chooseTx (h : s.Upholds s₀) : s.chooseTx.Upholds s₀ := by
  unfold State.chooseTx
  split
  · exact h
  · exact h.onPlk
  · exact h.onPlk
  · exact h.onPlk
  · exact h

theorem kickTx (h : s.Upholds s₀) : s.kickTx.Upholds s₀ := .ite h h.chooseTx

/-- A change of the notices alone, within their limit. -/
theorem of_notices (h : s.Upholds s₀) (hb : s.Bounded → t.Bounded) (hp : t.pending = s.pending) (hf : t.flu = s.flu)
    (hw : t.whu = s.whu) (hl : t.lba = s.lba) : t.Upholds s₀ where
  pending := hp.trans h.pending
  bounded hb₀ := hb (h.bounded hb₀)
  safe hs := by
    have hclaim : ∀ l, t.claimOf l = s.claimOf l := fun l => by simp [State.claimOf, hl]
    simpa [State.LockoutSafe, State.locked_congr hf, hf, hw, hclaim] using h.safe hs

theorem place {n : Notice} (h : s.Upholds s₀) : (s.place n).Upholds s₀ :=
  h.of_notices State.Bounded.place (by simp) (by simp) (by simp) (by simp)

theorem reply {kind tag : Octet} {status : Status} {fields : List Octet} (h : s.Upholds s₀) :
    (s.reply kind tag status fields).Upholds s₀ :=
  h.onPlk

theorem linkError (h : s.Upholds s₀) : s.linkError.Upholds s₀ := h.onPlk

theorem startWrite {image : ImageId} (h : s.Upholds s₀) : (s.startWrite image).Upholds s₀ := by
  unfold State.startWrite
  split <;> exact h.onSto

theorem kickStore (h : s.Upholds s₀) : s.kickStore.Upholds s₀ := by
  unfold State.kickStore
  refine .ite h (.ite h ?_)
  split
  · exact h
  · exact .ite h.startWrite (h.cond startWrite)

theorem saveCounters (h : s.Upholds s₀) : s.saveCounters.Upholds s₀ := h.onSto.kickStore

theorem endWrite (h : s.Upholds s₀) : s.endWrite.Upholds s₀ := by
  unfold State.endWrite
  split
  · exact h
  all_goals exact h.onSto

theorem wake {cause : StandbyCause} (h : s.Upholds s₀) : (s.wake cause).Upholds s₀ := h.cond onSto

theorem setPower {p : Power} {cause : StandbyCause} (h : s.Upholds s₀) : (s.setPower p cause).Upholds s₀ := h.onSto.place

theorem endPendingStandby (h : s.Upholds s₀) : s.endPendingStandby.Upholds s₀ := h.cond setPower

/-- A change of the fault list, and the notices about it, that brings no LOCKOUT. -/
theorem of_faults (h : s.Upholds s₀) (hb : s.Bounded → t.Bounded) (hw : s.HoldsWarnings → t.HoldsWarnings)
    (hl : s.HoldsWarnings → t.locked = true → s.locked = true) (hp : t.pending = s.pending) (hwhu : t.whu = s.whu)
    (hlba : t.lba = s.lba) : t.Upholds s₀ where
  pending := hp.trans h.pending
  bounded hb₀ := hb (h.bounded hb₀)
  safe hs := by
    obtain ⟨hclosed, hwarn, hlock⟩ := h.safe hs
    have hclaim : ∀ l, t.claimOf l = s.claimOf l := fun l => by simp [State.claimOf, hlba]
    refine ⟨by rw [hwhu]; exact hclosed, hw hwarn, fun hlt => ?_⟩
    rw [hwhu]
    exact ⟨fun l => by rw [hclaim]; exact (hlock (hl hwarn hlt)).1 l, (hlock (hl hwarn hlt)).2⟩

theorem removeFault {code : FaultCode} {detail : Nat} (h : s.Upholds s₀) : (s.removeFault code detail).Upholds s₀ :=
  h.of_faults State.Bounded.removeFault (fun hw r hr => hw r (State.mem_removeFault hr))
    (fun _ hl => by
      obtain ⟨r, hr, hc⟩ := (State.locked_iff _).mp hl
      exact (State.locked_iff _).mpr ⟨r, State.mem_removeFault hr, hc⟩)
    (by simp) (by simp) (by simp)

/-- A change of the present mark. -/
theorem clearPresent {code : FaultCode} {detail : Nat} (h : s.Upholds s₀) :
    (s.onFault code detail fun r => { r with present := false }).Upholds s₀ := by
  have hmem : ∀ r ∈ (s.onFault code detail fun r => { r with present := false }).flu.list,
      ∃ x ∈ s.flu.list, r.code = x.code ∧ r.detail = x.detail ∧ r.cls = x.cls := by
    intro r hr
    obtain ⟨x, hx, hxr⟩ := State.mem_onFault.mp hr
    refine ⟨x, hx, ?_⟩
    split at hxr <;> subst hxr <;> exact ⟨rfl, rfl, rfl⟩
  refine h.of_faults State.Bounded.onFault (fun hw r hr hk => ?_) (fun _ hl => ?_) rfl rfl rfl
  · obtain ⟨x, hx, hc, hd, hcls⟩ := hmem r hr
    rw [hcls]
    exact hw x hx (by rw [← hc, ← hd]; exact hk)
  · obtain ⟨r, hr, hc⟩ := (State.locked_iff _).mp hl
    obtain ⟨x, hx, -, -, hcls⟩ := hmem r hr
    exact (State.locked_iff _).mpr ⟨x, hx, hcls ▸ hc⟩

theorem endCondition {code : FaultCode} {detail : Nat} (h : s.Upholds s₀) : (s.endCondition code detail).Upholds s₀ := by
  unfold State.endCondition
  split
  · exact h
  · exact .ite h.clearPresent h.removeFault

/-- A raise by `warn` is of a key that is only ever raised as WARNING, so it brings no LOCKOUT. -/
theorem warn {code : FaultCode} {detail : Nat} (h : s.Upholds s₀)
    (hk : State.warningKey code detail = true := by rfl) : (s.warn code detail).Upholds s₀ :=
  h.of_faults State.Bounded.raiseList (fun hw => hw.raiseList fun _ => rfl) (fun hw => State.locked_of_warn hw hk)
    (by simp) (by simp) (by simp)

theorem countDosing {f : Dosing → Dosing} (h : s.Upholds s₀) : (s.countDosing f).Upholds s₀ := h.onCsq

theorem countSteps {c : Channel} {n : Nat} (h : s.Upholds s₀) : (s.countSteps c n).Upholds s₀ := h.countDosing

theorem countDrop {n : Nat} (h : s.Upholds s₀) : (s.countDrop n).Upholds s₀ := .ite h h.countDosing

theorem countDose {ul : Nat} {hard : Bool} (h : s.Upholds s₀) : (s.countDose ul hard).Upholds s₀ := h.countDosing

/-! ### The downstream queue -/

/-- A change of MBI that keeps the queue within its limit. -/
theorem of_queue (h : s.Upholds s₀) (hq : s.mbi.queue.length ≤ Config.queueLimit → t.mbi.queue.length ≤ Config.queueLimit)
    (hp : t.pending = s.pending) (hplk : t.plk = s.plk) (hdsc : t.dsc = s.dsc) (hf : t.flu = s.flu) (hw : t.whu = s.whu)
    (hl : t.lba = s.lba) : t.Upholds s₀ := by
  refine h.of_notices (fun hb => ?_) hp hf hw hl
  obtain ⟨h1, h2, hrest⟩ := hb
  exact ⟨by rw [hplk]; exact h1, hq h2, by rw [hdsc, hf]; exact hrest⟩

theorem choose (h : s.Upholds s₀) : s.choose.Upholds s₀ :=
  h.of_queue (by simp) (by simp) (by simp) (by simp) (by simp) (by simp) (by simp)

theorem enqueue {dest : Addr} {body : DownBody} {source : Enqueuer} (h : s.Upholds s₀) :
    (s.enqueue dest body source).1.Upholds s₀ :=
  h.of_queue (fun hq => State.enqueue_bound hq ..) (by simp) (by simp) (by simp) (by simp) (by simp) (by simp)

theorem askOrder {c : Channel} (h : s.Upholds s₀) : (s.askOrder c).Upholds s₀ := by
  unfold State.askOrder
  split
  · next o rest a ho _ =>
    refine .ite ?_ h
    split
    · next t e =>
      have hdsc : t.dsc = s.dsc := by
        have hframe := s.enqueue_frame a (orderBody o) (.dsc c)
        simp_all
      have horders : (t.channel c).orders = o :: rest := by
        rw [← ho]
        cases c <;> simp [State.channel, hdsc]
      exact (h.enqueue.fst_of_eq e).onChannel (by simp [horders])
    · next t e => exact h.enqueue.fst_of_eq e
  · exact h

theorem askMove (h : s.Upholds s₀) : s.askMove.Upholds s₀ := by
  unfold State.askMove
  split
  · refine .ite ?_ h
    split
    · next t e => exact (h.enqueue.fst_of_eq e).onDvc
    · next t e => exact h.enqueue.fst_of_eq e
  · exact h

theorem askQuery {a : Addr} (h : s.Upholds s₀) : (s.askQuery a).Upholds s₀ := by
  unfold State.askQuery
  split
  · next t e => exact (h.enqueue.fst_of_eq e).onEntry
  · next t e => exact (h.enqueue.fst_of_eq e).onEntry

theorem askQueries (h : s.Upholds s₀) : s.askQueries.Upholds s₀ := h.foldl fun _ ht => ht.cond askQuery

theorem dequeued (h : s.Upholds s₀) : s.dequeued.Upholds s₀ := h.onMbi

theorem askWaiting (h : s.Upholds s₀) : s.askWaiting.Upholds s₀ :=
  .ite h.onMbi.choose.askOrder.askOrder.askMove.askQueries h

theorem dropSending (h : s.Upholds s₀) : s.dropSending.Upholds s₀ := h.onMbi (List.length_filter_le _ _)

theorem removeMsgs {p : DownMsg → Bool} (h : s.Upholds s₀) : (s.removeMsgs p).Upholds s₀ :=
  .ite (h.onMbi (List.length_filter_le _ _)).dequeued h

/-! ### Grants and the walk (R51 to R53) -/

theorem fanGranted (h : s.Upholds s₀) : s.fanGranted.Upholds s₀ := .ite h.onVent.onDvc h

theorem valveGranted (h : s.Upholds s₀) : s.valveGranted.Upholds s₀ := by
  unfold State.valveGranted
  dsimp only
  split
  · exact h.onSfc.place
  · exact h.onSfc
  all_goals exact h

theorem granteeEvent {l : Load} (h : s.Upholds s₀) : (s.granteeEvent l).Upholds s₀ := by
  unfold State.granteeEvent
  split
  · exact h.askMove
  · exact h.fanGranted
  · exact h.valveGranted
  all_goals exact h

theorem grant {l : Load} (h : s.Upholds s₀) (hl : s.locked = false) : (s.grant l).Upholds s₀ :=
  .ite (h.onClaim_unlocked hl) (h.onLba.onClaim_unlocked hl).granteeEvent

/-- A walk grants and revokes while no LOCKOUT stands, and does nothing under one. -/
theorem walk (h : s.Upholds s₀) : s.walk.Upholds s₀ := by
  by_cases hl : s.locked = true
  · simpa [State.walk, hl] using h
  · have hkeep : s.walk.Upholds s₀ ∧ s.walk.locked = false := by
      refine State.walk_keeps (P := fun t => t.Upholds s₀ ∧ t.locked = false) ?_ ?_ ⟨h, by simpa using hl⟩
      · rintro t l - ⟨ht, hlt⟩
        exact ⟨ht.grant hlt, by rw [State.locked_congr (t.grant_flu l)]; exact hlt⟩
      · rintro t l ⟨ht, hlt⟩
        have hflu : (t.revoke l).flu = t.flu := by simp
        exact ⟨ht.settle.onClaim_unlocked hlt, (State.locked_congr hflu).trans hlt⟩
    exact hkeep.1

/-! ### Claims, releases, and changes of wattage and budget (R47, R48, R55 to R58) -/

theorem tellUnfit {l : Load} (h : s.Upholds s₀) : (s.tellUnfit l).Upholds s₀ := h.onLba.warn

/-- A claim is withheld under a LOCKOUT; else it WAITS and the walk runs (R47). -/
theorem claim {l : Load} (h : s.Upholds s₀) : (s.claim l).1.Upholds s₀ := by
  unfold State.claim
  refine .fst_ite h ?_
  split
  · exact h
  · next hl => exact .fst_ite h (.fst_ite h.tellUnfit (h.onClaim_unlocked (by simpa using hl)).walk)

theorem release {l : Load} (h : s.Upholds s₀) : (s.release l).Upholds s₀ := .ite h h.endClaim.walk

theorem freeRetract (h : s.Upholds s₀) : s.freeRetract.Upholds s₀ := h.onDvc

theorem fitEvent {l : Load} (h : s.Upholds s₀) : (s.fitEvent l).Upholds s₀ := by
  unfold State.fitEvent
  split
  · exact h.onChannel
  · exact h.onChannel
  · exact h.cond claim
  · exact h.cond claim
  · exact h.cond claim
  · exact h.freeRetract
  all_goals exact h

theorem retestOne {p : State × List Load} {l : Load} (h : p.1.Upholds s₀) : (State.retestOne p l).1.Upholds s₀ :=
  .fst_ite (.fst_ite h h.endClaim.tellUnfit) (.fst_ite h.onLba.endCondition.fitEvent h)

theorem retest (h : s.Upholds s₀) : s.retest.1.Upholds s₀ := h.fst_foldl fun ht => ht.retestOne

theorem clearBreakers (h : s.Upholds s₀) : s.clearBreakers.Upholds s₀ := .ite h.onLba h

theorem takeForce (h : s.Upholds s₀) : s.takeForce.1.Upholds s₀ := by
  unfold State.takeForce
  split
  · dsimp only
    exact h.onLba
  · exact h

theorem budgetSet (h : s.Upholds s₀) : s.budgetSet.1.Upholds s₀ := by
  unfold State.budgetSet
  extract_lets t u
  have ht : t.Upholds s₀ := h.clearBreakers
  split
  · split
    next v ended e => exact (ht.onLba.retest.fst_of_eq e).walk
  · split
    next v ended e => exact (ht.revokeCandidates.takeForce.retest.fst_of_eq e).walk

theorem wattsOne {l : Load} (h : s.Upholds s₀) : (State.wattsOne before s l).Upholds s₀ := by
  unfold State.wattsOne
  refine .ite h (.ite h.endClaim ?_)
  split
  · next hg =>
    exact .ite h.onClaim_state (.ite (.ite h (.ite h.onClaim_state (h.revoke hg))) (.ite h h.revokeCandidates))
  · exact h

theorem markBreakers (h : s.Upholds s₀) : (State.markBreakers before s).Upholds s₀ :=
  .ite (h.foldl fun _ ht => .ite ht.onLba ht) h

theorem rederiveOne {p : State × Nat} {l : Load} (h : p.1.Upholds s₀) : (State.rederiveOne p l).1.Upholds s₀ :=
  .ite h.onLba h

theorem rederiveBreakers (h : s.Upholds s₀) : s.rederiveBreakers.Upholds s₀ := h.fst_foldl fun ht => ht.rederiveOne

theorem wattsChanged (h : s.Upholds s₀) : (State.wattsChanged before s).1.Upholds s₀ := by
  unfold State.wattsChanged
  refine .fst_ite h ?_
  extract_lets t u
  have ht : t.Upholds s₀ := h.markBreakers.clearBreakers
  have hu : u.Upholds s₀ := ht.foldl fun _ hv => hv.wattsOne
  split
  next v ended e => exact (hu.retest.fst_of_eq e).walk

theorem settlingEnds (h : s.Upholds s₀) : s.settlingEnds.1.Upholds s₀ := by
  unfold State.settlingEnds
  dsimp only
  split
  · exact h.onLba.takeForce.retest.walk
  · exact h.onLba.takeForce.walk

theorem promote (h : s.Upholds s₀) : s.promote.Upholds s₀ := h.onClaim_state.walk


end State.Upholds


theorem State.enterFault_refused {s : State} {code : FaultCode} {detail : Nat} {cls : FaultClass}
    (h : (s.enterFault code detail cls).2 = false) : (s.enterFault code detail cls).1.flu.list = s.flu.list := by
  unfold State.enterFault at h ⊢
  split
  · next r hr => simp [hr] at h
  · next hr =>
    simp only [hr] at h
    split
    · next hroom => simp [hroom] at h
    · next hfull =>
      simp only [hfull, if_false] at h
      split
      · next x hx => simp [hx] at h
      · rfl

/-- A raise that is counted as an overflow leaves the list as it was (R174). -/
theorem State.raiseList_refused {s : State} {code : FaultCode} {detail : Nat} {cls : FaultClass}
    (h : (s.raiseList code detail cls).2 = false) : (s.raiseList code detail cls).1.flu.list = s.flu.list := by
  rcases s.raiseList_cases code detail cls with ⟨-, e⟩ | ⟨hno, e⟩
  · rw [e] at h
    cases h
  · rw [e]
    exact State.enterFault_refused hno

theorem State.endAllClaims_frame (s : State) :
    s.endAllClaims.plk = s.plk ∧ s.endAllClaims.whu = s.whu ∧ s.endAllClaims.dsc = s.dsc ∧ s.endAllClaims.mbi = s.mbi ∧
      s.endAllClaims.flu = s.flu ∧ s.endAllClaims.pending = s.pending := by
  have fold : ∀ (ls : List Load) (t : State), (ls.foldl State.endClaim t).plk = t.plk ∧
      (ls.foldl State.endClaim t).whu = t.whu ∧ (ls.foldl State.endClaim t).dsc = t.dsc ∧
      (ls.foldl State.endClaim t).mbi = t.mbi ∧ (ls.foldl State.endClaim t).flu = t.flu ∧
      (ls.foldl State.endClaim t).pending = t.pending := by
    intro ls
    induction ls with
    | nil => simp
    | cons l ls ih =>
      intro t
      simpa using ih (t.endClaim l)
  exact fold allLoads s

@[simp] theorem State.claimOf_endClaim_self (s : State) (l : Load) : ((s.endClaim l).claimOf l).state = .idle := by
  unfold State.endClaim
  split
  · assumption
  · simp
  · simp

@[simp] theorem State.claimOf_endClaim_ne {s : State} {l k : Load} (h : k ≠ l) :
    (s.endClaim l).claimOf k = s.claimOf k := by
  unfold State.endClaim
  split
  · rfl
  · simp [h]
  · simp [h]

/-- No claim stands once every claim has ended (R61). -/
theorem State.endAllClaims_idle (s : State) (l : Load) : (s.endAllClaims.claimOf l).state = .idle := by
  have fold : ∀ (ls : List Load) (t : State), l ∈ ls ∨ (t.claimOf l).state = .idle →
      ((ls.foldl State.endClaim t).claimOf l).state = .idle := by
    intro ls
    induction ls with
    | nil => intro t h; simpa using h
    | cons k ls ih =>
      intro t h
      refine ih _ ?_
      by_cases hk : l = k
      · subst hk; exact .inr (t.claimOf_endClaim_self l)
      · rw [State.claimOf_endClaim_ne hk]
        exact h.imp_left fun hm => (List.mem_cons.mp hm).resolve_left hk
  exact fold allLoads s (.inl (mem_allLoads l))

theorem State.closeInlet_frame (s : State) (outcome : DrawOutcome) :
    (s.closeInlet outcome).plk = s.plk ∧ (s.closeInlet outcome).dsc = s.dsc ∧ (s.closeInlet outcome).lba = s.lba ∧
      (s.closeInlet outcome).mbi = s.mbi ∧ (s.closeInlet outcome).flu = s.flu ∧
      (s.closeInlet outcome).pending = s.pending := by
  unfold State.closeInlet
  split <;> simp

/-- A closed inlet is CLOSED, if one without an owner was (R3). -/
theorem State.closeInlet_phase {s : State} (h : s.whu.owner = none → s.whu.phase = .closed) (outcome : DrawOutcome) :
    (s.closeInlet outcome).whu.phase = .closed := by
  unfold State.closeInlet
  split
  · next ho => exact h ho
  · simp

/-- A DOSE request that is not refused finds room in the list (R115). -/
theorem State.orders_room_of_doseRefusal {s : State} {c : Channel} {manual : Bool} (h : s.doseRefusal c manual = none) :
    (s.channel c).orders.length < Config.orderLimit := by
  unfold State.doseRefusal at h
  split_ifs at h with h1 h2 h3 h4
  omega

namespace State.Upholds

variable {s₀ s t before : State}

/-! ### The softener -/

theorem becomeDue (h : s.Upholds s₀) : s.becomeDue.Upholds s₀ := h.onSfc.warn

theorem startChangeover (h : s.Upholds s₀) : s.startChangeover.Upholds s₀ := by
  unfold State.startChangeover
  refine .ite ?_ h
  split
  · next t e => exact (h.onSfc.claim.fst_of_eq e).becomeDue
  · next t e => exact (h.onSfc.claim.fst_of_eq e).onSfc
  · next t e => exact h.onSfc.claim.fst_of_eq e
  · next t e => exact h.onSfc.claim.fst_of_eq e
  · next t e => exact h.onSfc.claim.fst_of_eq e

theorem becomePending (h : s.Upholds s₀) : s.becomePending.Upholds s₀ := h.onSfc.startChangeover

theorem placeChangeover (h : s.Upholds s₀) : s.placeChangeover.Upholds s₀ := .ite h.onSfc.becomePending h.onSfc.becomeDue

theorem changeoverTrigger (h : s.Upholds s₀) : s.changeoverTrigger.Upholds s₀ := by
  unfold State.changeoverTrigger
  split
  · exact h.placeChangeover
  · exact h.onSfc
  all_goals exact h

theorem retestDue (h : s.Upholds s₀) : s.retestDue.Upholds s₀ := h.cond becomePending

theorem noteSoftener {event : SoftenerEvent} {c : Column} (h : s.Upholds s₀) : (s.noteSoftener event c).Upholds s₀ :=
  h.place

theorem beginRegen {c : Column} (h : s.Upholds s₀) : (s.beginRegen c).Upholds s₀ := h.onColumn.onSfc.noteSoftener

theorem startRegen (h : s.Upholds s₀) : s.startRegen.Upholds s₀ := h.cond beginRegen

theorem nextPhase {c : Column} {state : ColumnState} {seconds : Nat} (h : s.Upholds s₀) :
    (s.nextPhase c state seconds).Upholds s₀ :=
  h.onColumn.noteSoftener

theorem noBrine {c : Column} (h : s.Upholds s₀) : (s.noBrine c).Upholds s₀ := .ite h h.onColumn.warn

theorem endRegen {c : Column} (h : s.Upholds s₀) : (s.endRegen c).Upholds s₀ :=
  h.onColumn.saveCounters.noteSoftener.retestDue.startRegen

theorem endPhase {c : Column} (h : s.Upholds s₀) : (s.endPhase c).Upholds s₀ := by
  unfold State.endPhase
  split
  · exact h.noBrine.nextPhase
  · exact h.nextPhase
  · exact h.endRegen
  all_goals exact h

theorem endAlignment (h : s.Upholds s₀) : s.endAlignment.Upholds s₀ := .ite h.onSfc.becomeDue.retestDue h.onSfc

theorem holdAlignment (h : s.Upholds s₀) : s.holdAlignment.Upholds s₀ := h.endAlignment.onSfc

theorem startAlignment (h : s.Upholds s₀) : s.startAlignment.Upholds s₀ := by
  unfold State.startAlignment
  refine .ite ?_ h
  split
  · next t e => exact (h.onSfc.claim.fst_of_eq e).holdAlignment
  · next t e => exact (h.onSfc.claim.fst_of_eq e).holdAlignment
  · next t e => exact h.onSfc.claim.fst_of_eq e
  · next t e => exact h.onSfc.claim.fst_of_eq e
  · next t e => exact h.onSfc.claim.fst_of_eq e

theorem freeAlignment (h : s.Upholds s₀) : s.freeAlignment.Upholds s₀ := h.onSfc

theorem testAlignment (h : s.Upholds s₀) : s.testAlignment.Upholds s₀ := .ite h h.startAlignment

theorem failMove (h : s.Upholds s₀) : s.failMove.Upholds s₀ := h.onSfc.warn

theorem endReturning (h : s.Upholds s₀) : s.endReturning.Upholds s₀ := h.onSfc.release.noteSoftener.becomeDue

theorem failAlignment (h : s.Upholds s₀) : s.failAlignment.Upholds s₀ := h.warn.release.endAlignment

theorem swapColumns (h : s.Upholds s₀) : s.swapColumns.Upholds s₀ := h.onColumn.onColumn.onSfc

theorem completeMove (h : s.Upholds s₀) : s.completeMove.Upholds s₀ := h.swapColumns.release.noteSoftener.startRegen

theorem endMoveTimer (h : s.Upholds s₀) : s.endMoveTimer.Upholds s₀ := by
  unfold State.endMoveTimer
  split
  · exact h.failMove
  · exact h.endReturning
  · exact h.failAlignment
  all_goals exact h

theorem accountPulse (h : s.Upholds s₀) : s.accountPulse.Upholds s₀ :=
  h.onSfc.onColumn.cond fun ht => ht.onColumn.changeoverTrigger

theorem breakthrough {previous : Option Octet} {o : Octet} (h : s.Upholds s₀) : (s.breakthrough previous o).Upholds s₀ := by
  unfold State.breakthrough
  split
  · exact .ite h.onColumn.changeoverTrigger h
  · exact h

theorem followSalt {previous : Option Octet} {o : Octet} (h : s.Upholds s₀) : (s.followSalt previous o).Upholds s₀ := by
  unfold State.followSalt
  extract_lets t
  have ht : t.Upholds s₀ := by
    unfold t
    split
    · exact .ite h.onColumn h
    · exact h
  exact .ite (.ite ht ht.onSfc.warn.noteSoftener) (.ite h.onSfc.endCondition.noteSoftener h.endCondition)

theorem followBrine {o : Octet} (h : s.Upholds s₀) : (s.followBrine o).Upholds s₀ := by
  unfold State.followBrine
  split
  · exact h.cond onSfc
  · exact h

theorem followValve {v : Valve} (h : s.Upholds s₀) : (s.followValve v).Upholds s₀ := by
  unfold State.followValve
  split
  · exact h.cond completeMove
  · exact h.failMove
  · exact h
  · exact h.cond endReturning
  · exact h
  · exact h
  · exact .ite h.release.endAlignment h
  · exact h.failAlignment
  · exact h
  · exact h.release.warn.becomeDue
  · exact h.warn
  · exact h.warn
  · exact h.warn
  all_goals exact h

theorem followServe {v : Valve} (h : s.Upholds s₀) : (s.followServe v).Upholds s₀ := h.cond endCondition

theorem recallStuck {v : Valve} (h : s.Upholds s₀) : (s.recallStuck v).Upholds s₀ := .ite (.ite h.onSfc h.onSfc.warn) h

theorem softenerAccepted {previous : Option Octet} {o : Octet} (h : s.Upholds s₀) :
    (s.softenerAccepted previous o).Upholds s₀ :=
  h.breakthrough.followSalt.followBrine.followValve.recallStuck.followServe.retestDue.freeAlignment

theorem softenerLinked (h : s.Upholds s₀) : s.softenerLinked.Upholds s₀ := h.retestDue.startRegen.freeAlignment

theorem softenerLost (h : s.Upholds s₀) : s.softenerLost.Upholds s₀ := by
  unfold State.softenerLost
  dsimp only
  split
  · exact h.freeAlignment.becomeDue
  · exact h.freeAlignment.release.becomeDue
  · exact h.freeAlignment.release.endAlignment
  all_goals exact h.freeAlignment

theorem softenerLockout (h : s.Upholds s₀) : s.softenerLockout.Upholds s₀ := by
  unfold State.softenerLockout
  dsimp only
  split
  · exact h.freeAlignment.onSfc
  · exact h.freeAlignment.endAlignment
  all_goals exact h.freeAlignment

theorem valveUnfit (h : s.Upholds s₀) : s.valveUnfit.Upholds s₀ := by
  unfold State.valveUnfit
  split
  · exact h.becomeDue
  · exact h.holdAlignment
  all_goals exact h

theorem regenRequest {code : Octet} (h : s.Upholds s₀) : (s.regenRequest code).1.Upholds s₀ := by
  unfold State.regenRequest
  split
  · exact h
  · refine .fst_ite h ?_
    split
    · exact h
    · exact h
    · exact h
    · exact h.beginRegen
    · exact h.beginRegen
    · exact h
    · exact h
    · exact h
    · exact .fst_ite h.onSfc.becomePending h
    all_goals exact h

theorem clampColumns (h : s.Upholds s₀) : s.clampColumns.Upholds s₀ := by
  unfold State.clampColumns
  dsimp only
  exact h.onColumn.onColumn

theorem zeroAccumulators (h : s.Upholds s₀) : s.zeroAccumulators.Upholds s₀ := h.onSfc.onDsc

/-! ### Dosing -/

theorem markHead {c : Channel} {b : Bool} (h : s.Upholds s₀) : (s.markHead c b).Upholds s₀ :=
  h.onChannel (by dsimp only; split <;> simp_all)

theorem startOrder {c : Channel} (h : s.Upholds s₀) : (s.startOrder c).Upholds s₀ := by
  unfold State.startOrder
  refine .ite ?_ h
  split
  · next t e => exact (h.claim.fst_of_eq e).onChannel
  · next t e => exact (h.claim.fst_of_eq e).markHead.askOrder
  · next t e => exact (h.claim.fst_of_eq e).markHead.askOrder
  · next t e => exact h.claim.fst_of_eq e
  · next t e => exact h.claim.fst_of_eq e

/-- A list with room takes a new order (R102). -/
theorem createOrder {c : Channel} {origin : Origin} {amount : Amount} (h : s.Upholds s₀)
    (hroom : (s.channel c).orders.length < Config.orderLimit) : (s.createOrder c origin amount).Upholds s₀ := by
  refine h.of_notices (fun hb => ?_) (by simp [State.createOrder]) (by simp [State.createOrder])
    (by simp [State.createOrder]) (by simp [State.createOrder])
  obtain ⟨hn, hq, hd, hr, hf⟩ := hb
  have hlen : ((s.createOrder c origin amount).channel c).orders.length ≤ Config.orderLimit := by
    simpa [State.createOrder] using hroom
  cases c
  · exact ⟨hn, hq, hlen, hr, hf⟩
  · exact ⟨hn, hq, hd, hlen, hf⟩

theorem placeSteps {c : Channel} {origin : Origin} {n : Nat} (h : s.Upholds s₀) : (s.placeSteps c origin n).Upholds s₀ := by
  unfold State.placeSteps
  refine .ite h (.ite h.countDrop ?_)
  split
  · next hroom => exact (h.createOrder hroom).countSteps.startOrder
  · refine .ite ?_ h.countDrop
    split
    · next os lost hm => exact (h.onChannel (mergeLast_length hm).le).countSteps.countDrop
    · exact h.countDrop

theorem dose {origin : Origin} {ml soil : Nat} (h : s.Upholds s₀) : (s.dose origin ml soil).Upholds s₀ :=
  h.onChannel.placeSteps.countDose

theorem placeOwed (h : s.Upholds s₀) : s.placeOwed.Upholds s₀ := h.onDsc.placeSteps

theorem flushTest (h : s.Upholds s₀) : s.flushTest.Upholds s₀ := h.cond placeOwed

theorem rinseEndStep (h : s.Upholds s₀) : s.rinseEndStep.Upholds s₀ := .ite h.onDsc.flushTest h

theorem accruePulse (h : s.Upholds s₀) : s.accruePulse.Upholds s₀ := h.onDsc.cond placeOwed

theorem evalLow {c : Channel} (h : s.Upholds s₀) : (s.evalLow c).Upholds s₀ := h.onChannel

theorem noteStock {c : Channel} (h : s.Upholds s₀) : (State.noteStock before s c).Upholds s₀ := .ite h h.place

theorem lowEvent {c : Channel} (h : s.Upholds s₀) : (State.lowEvent before s c).Upholds s₀ := h.evalLow.noteStock

theorem dropQueued {c : Channel} (h : s.Upholds s₀) : (s.dropQueued c).Upholds s₀ := 
  (h.onChannel (List.length_filter_le _ _)).countDrop

theorem becomeEmpty {c : Channel} (h : s.Upholds s₀) : (s.becomeEmpty c).Upholds s₀ :=
  h.onChannel.dropQueued.warn (by cases c <;> rfl)

theorem doneReason {c : Channel} {reason : Octet} (h : s.Upholds s₀) : (s.doneReason c reason).Upholds s₀ :=
  .ite h (.ite h.becomeEmpty h.warn)

theorem removeHead {c : Channel} (h : s.Upholds s₀) : (s.removeHead c).Upholds s₀ :=
  (h.onChannel (by simp)).release

theorem afterRemoval {c : Channel} (h : s.Upholds s₀) : (s.afterRemoval c).Upholds s₀ := by
  unfold State.afterRemoval
  split
  · exact h.startOrder
  · exact h.startOrder.flushTest

theorem takeDone {c : Channel} {tag : Octet} {delivered : Nat} {reason : Octet} (h : s.Upholds s₀) :
    (s.takeDone c tag delivered reason).Upholds s₀ := by
  unfold State.takeDone
  split
  · exact h
  · exact .ite h h.onChannel.countDrop.doneReason.removeHead.lowEvent.afterRemoval

theorem channelLost {c : Channel} (h : s.Upholds s₀) : (s.channelLost c).Upholds s₀ := by
  unfold State.channelLost
  split
  · exact h
  · exact .ite h.countDrop.removeHead.removeMsgs.afterRemoval (.ite h.markHead.release h)

theorem doserUnfit {c : Channel} (h : s.Upholds s₀) : (s.doserUnfit c).Upholds s₀ :=
  .ite h.onChannel.onChannel h.onChannel.markHead

theorem channelLockout {c : Channel} (h : s.Upholds s₀) : (s.channelLockout c).Upholds s₀ := by
  unfold State.channelLockout
  dsimp only
  split
  · exact h.dropQueued.cond onChannel
  · exact (h.dropQueued.cond onChannel).flushTest

theorem watchdogExpires {c : Channel} (h : s.Upholds s₀) : (s.watchdogExpires c).Upholds s₀ := h.onChannel.warn

theorem stockRequest {code : Octet} {ml : Nat} (h : s.Upholds s₀) : (s.stockRequest code ml).1.Upholds s₀ := by
  unfold State.stockRequest
  split
  · exact h
  · exact (h.onChannel.cond endCondition).lowEvent

theorem manualRequest {code : Octet} {ul : Nat} (h : s.Upholds s₀) : (s.manualRequest code ul).1.Upholds s₀ := by
  unfold State.manualRequest
  split
  · exact h
  · refine .fst_ite h ?_
    split
    · exact h
    · exact h.onChannel.placeSteps

theorem primeRequest {code : Octet} {seconds : Nat} (h : s.Upholds s₀) : (s.primeRequest code seconds).1.Upholds s₀ := by
  unfold State.primeRequest
  split
  · exact h
  · refine .fst_ite h ?_
    split
    · exact h
    · next hfree => exact (h.createOrder (State.orders_room_of_doseRefusal hfree)).startOrder

theorem containerChanged {c : Channel} (h : s.Upholds s₀) : (s.containerChanged c).Upholds s₀ := h.onChannel.lowEvent

theorem lowChanged (h : s.Upholds s₀) : s.lowChanged.Upholds s₀ := h.lowEvent.lowEvent

theorem clampCarries (h : s.Upholds s₀) : (State.clampCarries before s).Upholds s₀ := by
  unfold State.clampCarries
  extract_lets one
  have hone : ∀ {t : State} {c : Channel}, t.Upholds s₀ → (one t c).Upholds s₀ := fun ht => .ite ht ht.onChannel
  exact hone (hone h)

/-! ### The door -/

theorem noteDoor {moved : Option (Octet × Nat)} (h : s.Upholds s₀) : (s.noteDoor moved).Upholds s₀ := h.place

theorem withdrawMove (h : s.Upholds s₀) : s.withdrawMove.Upholds s₀ := h.removeMsgs

theorem abandonPush (h : s.Upholds s₀) : s.abandonPush.Upholds s₀ := h.onDvc.release.withdrawMove

theorem abandonRetract (h : s.Upholds s₀) : s.abandonRetract.Upholds s₀ := h.onDvc.release

theorem breakRetract (h : s.Upholds s₀) : s.breakRetract.Upholds s₀ := h.abandonRetract.noteDoor

theorem abandonTask (h : s.Upholds s₀) : s.abandonTask.Upholds s₀ := by
  unfold State.abandonTask
  split
  · exact h
  · exact h.abandonPush
  · exact h.breakRetract

theorem holdRetract (h : s.Upholds s₀) : s.holdRetract.Upholds s₀ := h.onDvc

theorem startRetract (h : s.Upholds s₀) : s.startRetract.Upholds s₀ := by
  unfold State.startRetract
  refine .ite ?_ h
  split
  · next t e => exact (h.claim.fst_of_eq e).holdRetract.noteDoor
  · next t e => exact h.claim.fst_of_eq e
  · next t e => exact (h.claim.fst_of_eq e).onDvc
  · next t e => exact (h.claim.fst_of_eq e).onDvc
  · next t e => exact h.claim.fst_of_eq e

theorem testRetract (h : s.Upholds s₀) : s.testRetract.Upholds s₀ := .ite (.ite h h.startRetract) h.freeRetract

theorem yieldRetract (h : s.Upholds s₀) : s.yieldRetract.Upholds s₀ := .ite h.onDvc.noteDoor h

theorem startPush {origin : PushOrigin} {target : Nat} (h : s.Upholds s₀) : (s.startPush origin target).1.Upholds s₀ := by
  unfold State.startPush
  split
  · next t e => exact h.yieldRetract.onDvc.claim.fst_of_eq e
  · next t e => exact (h.yieldRetract.onDvc.claim.fst_of_eq e).askMove
  · next t e => exact (h.yieldRetract.onDvc.claim.fst_of_eq e).onDvc.freeRetract
  · next t e => exact (h.yieldRetract.onDvc.claim.fst_of_eq e).onDvc.freeRetract
  · next t e => exact h.yieldRetract.onDvc.claim.fst_of_eq e

theorem doorBlocked (h : s.Upholds s₀) : s.doorBlocked.Upholds s₀ := (Upholds.ite h h.onVent).warn

theorem limitRetract (h : s.Upholds s₀) : s.limitRetract.Upholds s₀ := h.onDvc.release.doorBlocked.noteDoor

theorem takeMoved {reached : Nat} {reason : Octet} (h : s.Upholds s₀) : (s.takeMoved reached reason).Upholds s₀ := by
  unfold State.takeMoved
  extract_lets t u v
  have hu : u.Upholds s₀ := h.onDvc.cond doorBlocked
  have hv : v.Upholds s₀ := .ite hu.startRetract hu.release
  exact hv.noteDoor

theorem askLatch (h : s.Upholds s₀) : s.askLatch.Upholds s₀ := h.abandonTask.onDvc

theorem clearLatch (h : s.Upholds s₀) : s.clearLatch.Upholds s₀ := h.onDvc

theorem dropVent (h : s.Upholds s₀) : s.dropVent.Upholds s₀ := .ite h h.abandonTask.withdrawMove.onDvc.release.onVent

theorem doorCycleEnd {numbered : Bool} (h : s.Upholds s₀) : (s.doorCycleEnd numbered).Upholds s₀ :=
  ((h.dropVent.cond clearLatch).cond onDvc).startRetract

theorem doorLockout (h : s.Upholds s₀) : s.doorLockout.Upholds s₀ := h.abandonTask.cond onVent

/-! ### The water path -/

/-- A change of the hold on the inlet: without an owner it is closed, and under a LOCKOUT too. -/
theorem onInlet {f : Whu → Whu} (h : s.Upholds s₀)
    (hc : s.LockoutSafe → (f s.whu).owner = none → (f s.whu).phase = .closed)
    (hl : s.LockoutSafe → s.locked = true → (f s.whu).phase = .closed) : (s.onWhu f).Upholds s₀ where
  pending := h.pending
  bounded := h.bounded
  safe hs := by
    have hsafe := h.safe hs
    exact ⟨hc hsafe, hsafe.2.1, fun hlock => ⟨hsafe.idle hlock, hl hsafe hlock⟩⟩

/-- The inlet is handed over while no LOCKOUT stands (R1). -/
theorem handOver (h : s.Upholds s₀) : s.handOver.Upholds s₀ := by
  unfold State.handOver
  split
  · next hob =>
    have hl : s.locked = false := by
      simp only [State.obtainable, Bool.and_eq_true, Bool.not_eq_true'] at hob
      exact hob.2
    have take : ∀ {f : Whu → Whu}, (f s.whu).owner ≠ none → (s.onWhu f).Upholds s₀ := fun hf =>
      h.onInlet (fun _ ho => absurd ho hf) (fun _ hlock => by simp [hl] at hlock)
    exact .ite (take (by simp)) (.ite (take (by simp)) h)
  · exact h

theorem closeInlet {outcome : DrawOutcome} (h : s.Upholds s₀) : (s.closeInlet outcome).Upholds s₀ := by
  unfold State.closeInlet
  split
  · exact h
  · exact (h.onInlet (fun _ _ => rfl) (fun _ _ => rfl)).freeAlignment

/-- An inlet in OPENING has an owner, and no LOCKOUT stands (R2, R3). -/
theorem openInlet (h : s.Upholds s₀) (hp : s.whu.phase = .opening) : s.openInlet.1.Upholds s₀ := by
  unfold State.openInlet
  dsimp only
  refine h.onInlet (fun hs ho => ?_) (fun hs hl => ?_)
  · have hclosed := hs.1 ho
    rw [hp] at hclosed
    cases hclosed
  · have hclosed := (hs.2.2 hl).2
    rw [hp] at hclosed
    cases hclosed

theorem endRunOn (h : s.Upholds s₀) : s.endRunOn.1.Upholds s₀ := by
  unfold State.endRunOn
  dsimp only
  exact h.onWhu

theorem takeDrain {u : DrainUser} (h : s.Upholds s₀) : (s.takeDrain u).Upholds s₀ := h.onWhu.claim

theorem dropDrain (h : s.Upholds s₀) : s.dropDrain.Upholds s₀ := h.onWhu.release

theorem startPurge {ml : Nat} (h : s.Upholds s₀) : (s.startPurge ml).Upholds s₀ := h.onWhu.takeDrain

theorem endPurge (h : s.Upholds s₀) : s.endPurge.Upholds s₀ := h.onWhu.dropDrain

theorem levelKeep {code : LevelCode} (h : s.Upholds s₀) : (s.levelKeep code).Upholds s₀ := by
  unfold State.levelKeep
  split
  · exact h.cond takeDrain
  · exact h.cond dropDrain
  · exact h.cond dropDrain
  · exact h

theorem endCycleDrain (h : s.Upholds s₀) : s.endCycleDrain.Upholds s₀ := by
  unfold State.endCycleDrain
  split
  · exact h.endPurge
  · exact h.dropDrain
  · exact h
  · exact h.onWhu

theorem recomputeTank (h : s.Upholds s₀) : s.recomputeTank.Upholds s₀ := h.onWhu

theorem closeFill (h : s.Upholds s₀) : s.closeFill.Upholds s₀ := by
  unfold State.closeFill
  split
  · exact h
  · exact .ite h.onWhu.onWhu (.ite (.ite h.onWhu.closeInlet.onWhu h.onWhu.closeInlet.dose) h.onWhu.onWhu)

theorem endFill (h : s.Upholds s₀) : s.endFill.Upholds s₀ := h.closeFill.recomputeTank

theorem startFill {kind : FillKind} (h : s.Upholds s₀) : (s.startFill kind).Upholds s₀ := h.onWhu.cond endFill

theorem armFill (h : s.Upholds s₀) : s.armFill.Upholds s₀ := h.cond startFill

theorem reportFill {pulses : Nat} (h : s.Upholds s₀) : (s.reportFill pulses).Upholds s₀ := by
  unfold State.reportFill
  split
  · exact h.onWhu.recomputeTank.dose
  · exact h

theorem tankReport {r : DrawReport} (h : s.Upholds s₀) : (s.tankReport r).Upholds s₀ := by
  unfold State.tankReport
  split
  · exact h.onWhu.dose
  · exact h.reportFill

theorem drainRequest (h : s.Upholds s₀) : s.drainRequest.1.Upholds s₀ :=
  .fst_ite h (.fst_ite h (h.closeFill.onWhu.release.takeDrain.cond onWhu))

theorem finishDrain (h : s.Upholds s₀) : s.finishDrain.Upholds s₀ := h.dropDrain.onWhu.armFill

theorem prepareRequest (h : s.Upholds s₀) : s.prepareRequest.1.Upholds s₀ := by
  unfold State.prepareRequest
  refine .fst_ite h ?_
  split
  · exact h
  · exact h.startFill
  all_goals exact h

theorem onThermostat {l : Load} {f : Thermostat → Thermostat} (h : s.Upholds s₀) : (s.onThermostat l f).Upholds s₀ := by
  unfold State.onThermostat
  split
  · exact h.onWhu
  · exact h.onWhu
  · exact h.onWhu
  · exact h

theorem heatClaim {l : Load} (h : s.Upholds s₀) : (s.heatClaim l).Upholds s₀ := by
  unfold State.heatClaim
  split
  · next t e => exact (h.claim.fst_of_eq e).onThermostat
  · next t e => exact (h.claim.fst_of_eq e).onThermostat
  · next t e => exact h.claim.fst_of_eq e
  · next t e => exact h.claim.fst_of_eq e
  · next t e => exact h.claim.fst_of_eq e

theorem heatOff {l : Load} (h : s.Upholds s₀) : (s.heatOff l).Upholds s₀ := h.onThermostat.release

theorem evalHeat {l : Load} (h : s.Upholds s₀) : (s.evalHeat l).Upholds s₀ := by
  unfold State.evalHeat
  split
  · exact h.heatOff
  · exact .ite h.heatOff (.ite h.heatOff ((h.cond onThermostat).cond heatClaim))

theorem evalHeats (h : s.Upholds s₀) : s.evalHeats.Upholds s₀ := h.evalHeat.evalHeat.evalHeat

theorem retryHeat {l : Load} (h : s.Upholds s₀) : (State.retryHeat before s l).Upholds s₀ :=
  .ite (.ite h.heatClaim h.onThermostat) h

theorem retryHeats {ls : List Load} (h : s.Upholds s₀) : (State.retryHeats before s ls).Upholds s₀ :=
  h.foldl fun _ ht => ht.retryHeat

theorem countPulse (h : s.Upholds s₀) : s.countPulse.Upholds s₀ := by
  unfold State.countPulse
  split
  · exact h.onWhu
  · exact h.onWhu
  · exact h

theorem waterLockout (h : (s.closeInlet .cut).Upholds s₀) : s.waterLockout.Upholds s₀ :=
  (h.cond reportFill).onWhu.cond recomputeTank

/-! ### The wash cycle -/

theorem notePhase (h : s.Upholds s₀) : s.notePhase.Upholds s₀ := h.place

theorem enterState {p : CycleState} (h : s.Upholds s₀) : (s.enterState p).Upholds s₀ := h.onCsq.notePhase

theorem onRecord {f : CycleRecord → CycleRecord} (h : s.Upholds s₀) : (s.onRecord f).Upholds s₀ := h.onCsq

theorem arm {recipe : Nat} {queuedAt : BitVec 32} (h : s.Upholds s₀) : (s.arm recipe queuedAt).Upholds s₀ :=
  h.onCsq.enterState.armFill

theorem startWash (h : s.Upholds s₀) : s.startWash.Upholds s₀ := by
  unfold State.startWash
  split
  · exact h
  · exact h.onCsq.saveCounters.endCondition.enterState.claim

theorem addHold {r : State.HoldReason} (h : s.Upholds s₀) : (s.addHold r).Upholds s₀ := by
  unfold State.addHold
  split
  · exact h.onCsq.release.enterState
  · exact h.onCsq.onWhu.release.enterState
  · exact .ite h h.onCsq.notePhase
  all_goals exact h

theorem resume (h : s.Upholds s₀) : s.resume.Upholds s₀ := by
  unfold State.resume
  dsimp only
  split
  · exact h.onCsq.enterState.claim
  · exact h.onCsq.enterState.takeDrain
  · exact h.onCsq

theorem dropHold {r : State.HoldReason} (h : s.Upholds s₀) : (s.dropHold r).Upholds s₀ :=
  .ite (.ite h.onCsq.notePhase h.onCsq.resume) h

theorem afterFill (h : s.Upholds s₀) : s.afterFill.Upholds s₀ := h.armFill.cond dropHold

theorem fillEnds (h : s.Upholds s₀) : s.fillEnds.Upholds s₀ := .ite h.endFill.afterFill h

theorem enterRinseWait (h : s.Upholds s₀) : s.enterRinseWait.Upholds s₀ := h.onCsq.enterState.claim.askLatch

theorem endWash (h : s.Upholds s₀) : s.endWash.Upholds s₀ :=
  .ite h.onRecord.release.enterState.startPurge h.onRecord.release.enterRinseWait

theorem leavePurge (h : s.Upholds s₀) : s.leavePurge.Upholds s₀ := h.endPurge.enterRinseWait

theorem rinseHeat {t : Int} (h : s.Upholds s₀) : (s.rinseHeat t).Upholds s₀ := .ite h.onCsq (h.cond onCsq)

theorem expireRinseHold (h : s.Upholds s₀) : s.expireRinseHold.Upholds s₀ := h.onCsq.onRecord.warn

theorem startRinse (h : s.Upholds s₀) : s.startRinse.Upholds s₀ := h.onCsq.enterState.onWhu.cond levelKeep

theorem retarget (h : s.Upholds s₀) : s.retarget.Upholds s₀ := h.cond onCsq

theorem rinsePulse (h : s.Upholds s₀) : s.rinsePulse.Upholds s₀ := h.cond onCsq

theorem reachTarget (h : s.Upholds s₀) : s.reachTarget.Upholds s₀ := h.onCsq.closeInlet.release

theorem enterDwell (h : s.Upholds s₀) : s.enterDwell.Upholds s₀ := h.onCsq.enterState

theorem stopOutputs (h : s.Upholds s₀) : s.stopOutputs.Upholds s₀ := (h.release.release.onWhu.cond closeInlet).endCycleDrain

theorem shiftQueue (h : s.Upholds s₀) : s.shiftQueue.Upholds s₀ := by
  unfold State.shiftQueue
  split
  · exact h.onCsq.arm
  · exact h.onCsq.notePhase

theorem endCycle {outcome : CycleOutcome} (h : s.Upholds s₀) : (s.endCycle outcome).Upholds s₀ := by
  unfold State.endCycle
  split
  · exact h
  · exact h.stopOutputs.doorCycleEnd.onCsq.place.onCsq.saveCounters.shiftQueue

theorem rinseReport {r : DrawReport} (h : s.Upholds s₀) : (s.rinseReport r).Upholds s₀ :=
  .ite (.ite h.onRecord.rinseEndStep.endCycle h.onRecord.dose.rinseEndStep.enterDwell) h

theorem deliverReport {x : Option DrawReport} (h : s.Upholds s₀) : (s.deliverReport x).Upholds s₀ := by
  unfold State.deliverReport
  split
  · exact h
  · split
    · exact h.tankReport.afterFill
    · exact h.rinseReport

theorem markCut (h : s.Upholds s₀) : s.markCut.Upholds s₀ := h.onCsq.release

theorem doorForced (h : s.Upholds s₀) : s.doorForced.Upholds s₀ := h.warn.endCondition

theorem forceRinse (h : s.Upholds s₀) : s.forceRinse.Upholds s₀ :=
  .ite h (.ite h.markCut.doorForced.onWhu.rinseReport
    (.ite (.ite h.markCut.doorForced.closeInlet h.markCut.doorForced.closeInlet.rinseReport) h.markCut.doorForced))

theorem forceDwell (h : s.Upholds s₀) : s.forceDwell.Upholds s₀ := h.doorForced.onRecord.endCycle

theorem cycleDoor (h : s.Upholds s₀) : s.cycleDoor.Upholds s₀ := by
  unfold State.cycleDoor
  split
  · exact .ite h h.addHold
  · exact .ite h h.addHold
  · exact .ite h.dropHold h.addHold
  · exact h.cond forceRinse
  · exact h.cond forceDwell
  all_goals exact h

theorem confirmLatch (h : s.Upholds s₀) : s.confirmLatch.Upholds s₀ := h.cond onCsq

theorem addLevel (h : s.Upholds s₀) : s.addLevel.Upholds s₀ := h.cond addHold

theorem acceptDry (h : s.Upholds s₀) : s.acceptDry.Upholds s₀ := by
  unfold State.acceptDry
  split
  · exact h.onWhu
  · exact .ite h.leavePurge h.addLevel
  all_goals
    split
    · exact h.startFill.addHold
    · exact h.startFill.addHold
    · exact h.onWhu.leavePurge
    all_goals exact h.onWhu.armFill

theorem acceptWet {code : LevelCode} (h : s.Upholds s₀) : (s.acceptWet code).Upholds s₀ := h.onWhu.cond fillEnds

theorem acceptLevel {code : LevelCode} (h : s.Upholds s₀) : (s.acceptLevel code).Upholds s₀ := by
  unfold State.acceptLevel
  extract_lets first t u v
  have hu : u.Upholds s₀ := h.onWhu.cond fun ht => ht.recomputeTank.armFill
  have hv : v.Upholds s₀ := .ite hu.acceptDry hu.acceptWet
  exact hv.cond levelKeep

/-! ### Raises and the first LOCKOUT -/

theorem cycleLockout (h : s.Upholds s₀) : s.cycleLockout.Upholds s₀ := (h.onCsq.cond rinseEndStep).endCycle

/-- Every claim has ended and the inlet has closed: whatever the list now holds, that is safe. -/
theorem stopped (hp : s.pending = s₀.pending) (hb : s₀.Bounded → s.Bounded)
    (hw : s₀.LockoutSafe → (s.whu.owner = none → s.whu.phase = .closed) ∧ s.HoldsWarnings) :
    (s.endAllClaims.closeInlet .cut).Upholds s₀ := by
  have hall := s.endAllClaims_frame
  have hclose := s.endAllClaims.closeInlet_frame .cut
  refine ⟨?_, fun hs => ?_, fun hs => ?_⟩
  · simp [hclose, hall, hp]
  · exact (hb hs).of_le (by simp [hclose, hall]) (by simp [hclose, hall]) (by simp [hclose, hall]) (by simp [hclose, hall])
      (by simp [hclose, hall]) (by simp [hclose, hall])
  · obtain ⟨hclosed, hwarn⟩ := hw hs
    have hphase : (s.endAllClaims.closeInlet .cut).whu.phase = .closed :=
      State.closeInlet_phase (by simpa [hall] using hclosed) .cut
    have hflu : (s.endAllClaims.closeInlet .cut).flu = s.flu := by simp [hclose, hall]
    refine ⟨fun _ => hphase, hwarn.congr hflu, fun _ => ⟨fun l => ?_, hphase⟩⟩
    have hclaim : (s.endAllClaims.closeInlet .cut).claimOf l = s.endAllClaims.claimOf l := by
      simp [State.claimOf, hclose]
    rw [hclaim]
    exact s.endAllClaims_idle l

/-- The first LOCKOUT: the list is not safe any more when it has taken the raise, and is again once the blocks have acted. -/
theorem enterLockout (hp : s.pending = s₀.pending) (hb : s₀.Bounded → s.Bounded)
    (hw : s₀.LockoutSafe → (s.whu.owner = none → s.whu.phase = .closed) ∧ s.HoldsWarnings) :
    s.enterLockout.Upholds s₀ :=
  (stopped hp hb hw).waterLockout.channelLockout.channelLockout.doorLockout.softenerLockout.cycleLockout

theorem handOn {code : FaultCode} {detail : Nat} (h : s.Upholds s₀) : (s.handOn code detail).Upholds s₀ := by
  unfold State.handOn
  split
  · exact h
  · split
    · exact h
    · exact h.cond endCycle
    · exact h.cycleLockout

/-- A raise: one that brings no LOCKOUT is handed on; one that does is followed by the stop of every block (R173, R179). -/
theorem raise {code : FaultCode} {detail : Nat} {cls : FaultClass} (h : s.Upholds s₀)
    (hk : State.warningKey code detail = true → cls = .warning := by simp [State.warningKey]) :
    (s.raise code detail cls).Upholds s₀ := by
  have hframe := s.raiseList_frame code detail cls
  have hbound : s.Bounded → (s.raiseList code detail cls).1.Bounded := State.Bounded.raiseList
  have hwarn : s.HoldsWarnings → (s.raiseList code detail cls).1.HoldsWarnings := fun hw => hw.raiseList hk
  have listed : ((s.raiseList code detail cls).1.locked = true → s.locked = true) →
      (s.raiseList code detail cls).1.Upholds s₀ := fun hl =>
    h.of_faults hbound hwarn (fun _ => hl) (by simp) (by simp) (by simp)
  unfold State.raise
  split
  · next t e =>
    rw [e] at hframe hbound hwarn listed
    split
    · have hwhu : t.whu = s.whu := by simp_all
      have hpending : t.pending = s.pending := by simp_all
      refine enterLockout (hpending.trans h.pending) (fun hs => hbound (h.bounded hs)) fun hs => ?_
      have hsafe := h.safe hs
      exact ⟨by rw [hwhu]; exact hsafe.1, hwarn hsafe.2.1⟩
    · next hno => exact (listed (by simpa using hno)).handOn
  · next t e =>
    have hlist := State.raiseList_refused (congrArg Prod.snd e)
    rw [e] at listed hlist
    refine listed fun hl => ?_
    rw [State.locked_iff] at hl ⊢
    rwa [hlist] at hl

theorem stallInlet (h : s.Upholds s₀) : s.stallInlet.Upholds s₀ := (h.closeInlet.cond markCut).raise.endCondition

theorem limitFill (h : s.Upholds s₀) : s.limitFill.Upholds s₀ := h.raise.endCondition.fillEnds

theorem levelImplausible (h : s.Upholds s₀) : s.levelImplausible.Upholds s₀ := h.raise.fillEnds

theorem overTemp {code : FaultCode} {previous : Option Int} {t limit : Int} (h : s.Upholds s₀)
    (hk : State.warningKey code 0 = false := by rfl) : (s.overTemp code previous t limit).Upholds s₀ :=
  .ite (h.raise (by simp [hk])) (h.cond endCondition)

theorem tankReady {t : Int} (h : s.Upholds s₀) : (s.tankReady t).Upholds s₀ := by
  unfold State.tankReady
  split
  · exact h.cond onWhu
  · exact h.cond onWhu
  all_goals exact h

theorem tankFailed (h : s.Upholds s₀) : s.tankFailed.Upholds s₀ := (h.cond onWhu).raise

theorem readTank {t : Int} (h : s.Upholds s₀) : (s.readTank t).Upholds s₀ :=
  .ite (h.onWhu.onWhu.endCondition.overTemp.tankReady.cond onRecord) (h.onWhu.cond tankFailed)

theorem readBooster {t : Int} (h : s.Upholds s₀) : (s.readBooster t).Upholds s₀ :=
  .ite (h.onWhu.onWhu.endCondition.overTemp.rinseHeat.cond onRecord) (h.onWhu.cond raise)

theorem sampleBooster {wasOn closed : Bool} (h : s.Upholds s₀) : (s.sampleBooster wasOn closed).Upholds s₀ :=
  .ite h.onWhu.endCondition (h.onWhu.heatOff.heatOff.cond raise)

/-! ### The vent, and claims made unfit -/

theorem reportVent (h : s.Upholds s₀) : s.reportVent.Upholds s₀ :=
  h.onDvc.release.onVent.cond fun ht => ht.onRecord.endCycle

theorem cutVent (h : s.Upholds s₀) : s.cutVent.Upholds s₀ := h.abandonTask.withdrawMove.onVent.reportVent

theorem waitFan (h : s.Upholds s₀) : s.waitFan.Upholds s₀ := by
  unfold State.waitFan
  split
  · next t e => exact h.onVent.claim.fst_of_eq e
  · next t e => exact (h.onVent.claim.fst_of_eq e).cond fanGranted
  · next t e => exact (h.onVent.claim.fst_of_eq e).cutVent
  · next t e => exact (h.onVent.claim.fst_of_eq e).cutVent
  · next t e => exact h.onVent.claim.fst_of_eq e

theorem afterRetract (h : s.Upholds s₀) : s.afterRetract.Upholds s₀ := .ite h.cutVent (.ite h.reportVent h.waitFan)

theorem ventRetract (h : s.Upholds s₀) : s.ventRetract.Upholds s₀ :=
  .ite h.onVent.startRetract h.onVent.startRetract.afterRetract

theorem fanOnly (h : s.Upholds s₀) : s.fanOnly.Upholds s₀ := h.onVent.ventRetract

theorem ventPush (h : s.Upholds s₀) : s.ventPush.Upholds s₀ := by
  unfold State.ventPush
  dsimp only
  refine .ite h.onVent.fanOnly (.ite h.onVent.ventRetract ?_)
  split
  · next t e => exact (h.onVent.startPush.fst_of_eq e).fanOnly
  · next t e => exact h.onVent.startPush.fst_of_eq e

theorem enterVent (h : s.Upholds s₀) : s.enterVent.Upholds s₀ :=
  .ite h.enterState.onVent.clearLatch.cutVent (h.enterState.onVent.clearLatch.cond ventPush)

theorem endDwell (h : s.Upholds s₀) : s.endDwell.Upholds s₀ := .ite h.endCycleDrain.enterVent h.endCycleDrain.endCycle

theorem expireRelease (h : s.Upholds s₀) : s.expireRelease.Upholds s₀ := h.onDvc.warn.cond cutVent

theorem moved {reached : Nat} {reason : Octet} (h : s.Upholds s₀) : (s.moved reached reason).Upholds s₀ :=
  .ite (.ite (h.takeMoved.cond onVent).ventRetract h.takeMoved) h

theorem ventGoesOn (h : s.Upholds s₀) : s.ventGoesOn.Upholds s₀ := by
  unfold State.ventGoesOn
  split
  · exact h.fanOnly
  · exact h.afterRetract
  all_goals exact h

theorem retractLimit (h : s.Upholds s₀) : s.retractLimit.Upholds s₀ := h.limitRetract.cond afterRetract

theorem haltDoor (h : s.Upholds s₀) : s.haltDoor.Upholds s₀ := by
  unfold State.haltDoor
  dsimp only
  split
  · exact h.raise
  · exact h.raise.abandonPush.ventGoesOn
  · exact h.raise.abandonPush.ventGoesOn
  · exact h.raise.breakRetract.ventGoesOn
  · exact h.raise

theorem readHalt {asserted : Bool} (h : s.Upholds s₀) : (s.readHalt asserted).Upholds s₀ :=
  .ite (.ite h.onLba h.onLba.haltDoor)
    (.ite (.ite h.onLba h.onLba) h)

theorem clearHalt (h : s.Upholds s₀) : s.clearHalt.Upholds s₀ := h.onLba.endCondition

theorem driveUnfit (h : s.Upholds s₀) : s.driveUnfit.Upholds s₀ := by
  unfold State.driveUnfit
  split
  · exact h.abandonPush.ventGoesOn
  · exact h.breakRetract.holdRetract.ventGoesOn
  · exact h

theorem fanUnfit (h : s.Upholds s₀) : s.fanUnfit.Upholds s₀ := by
  unfold State.fanUnfit
  split
  · exact h.cutVent
  · exact h.cutVent
  all_goals exact h

theorem toldEnded {l : Load} (h : s.Upholds s₀) : (s.toldEnded l).Upholds s₀ := by
  unfold State.toldEnded
  split
  · exact h.driveUnfit
  · exact h.fanUnfit
  · exact h.valveUnfit
  · exact h.doserUnfit
  · exact h.doserUnfit
  · exact h.onThermostat
  · exact h.onThermostat
  · exact h.onThermostat
  all_goals exact h

theorem tellEnded {ls : List Load} (h : s.Upholds s₀) : (s.tellEnded ls).Upholds s₀ := h.foldl fun _ ht => ht.toldEnded

theorem rewatt (h : s.Upholds s₀) : (State.rewatt before s).Upholds s₀ := h.wattsChanged.tellEnded.retryHeats

theorem rebudget (h : s.Upholds s₀) : s.rebudget.Upholds s₀ :=
  .ite h.budgetSet.tellEnded h.budgetSet.tellEnded.retryHeats

theorem endSettling (h : s.Upholds s₀) : s.endSettling.Upholds s₀ := by
  unfold State.endSettling
  split
  · next t _ e => exact (h.settlingEnds.fst_of_eq e).tellEnded.retryHeats
  · next t _ e => exact (h.settlingEnds.fst_of_eq e).tellEnded

theorem recordDoor {previous : Option Octet} {o : Octet} (h : s.Upholds s₀) : (s.recordDoor previous o).Upholds s₀ := by
  unfold State.recordDoor
  dsimp only
  exact h.onDvc

theorem homeRetract {home : Bool} (h : s.Upholds s₀) : (s.homeRetract home).Upholds s₀ := h.cond abandonRetract

theorem endBlocked {home : Bool} (h : s.Upholds s₀) : (s.endBlocked home).Upholds s₀ := h.cond endCondition

theorem ventDoor {step : VentStep} {confirmed retracted : Bool} (h : s.Upholds s₀) :
    (s.ventDoor step confirmed retracted).Upholds s₀ := by
  unfold State.ventDoor
  dsimp only
  refine .ite h ?_
  split
  · exact h
  · exact h.cond ventPush
  · exact h.cond onVent
  · exact (h.cond onVent).cond afterRetract
  all_goals exact h.cond cutVent

theorem recallDoor {home : Bool} (h : s.Upholds s₀) : (s.recallDoor home).Upholds s₀ := (h.onDvc.cond warn).cond warn

theorem latchDoor (h : s.Upholds s₀) : s.latchDoor.Upholds s₀ := .ite h.raise h.confirmLatch

theorem doorAccepted {previous : Option Octet} {o : Octet} (h : s.Upholds s₀) : (s.doorAccepted previous o).Upholds s₀ :=
  ((h.wake.recordDoor.homeRetract.endBlocked.recallDoor.cond noteDoor).cond raise).ventDoor.cycleDoor.latchDoor

theorem doorUnknown (h : s.Upholds s₀) : s.doorUnknown.Upholds s₀ :=
  ((h.cond abandonRetract).onDvc.cond noteDoor).cycleDoor.cond raise

theorem doorGone (h : s.Upholds s₀) : s.doorGone.Upholds s₀ := .ite h.abandonTask.onDvc.release h.cutVent

theorem coolVent {t : Int} (h : s.Upholds s₀) : (s.coolVent t).Upholds s₀ := h.cond onVent

theorem readVapour {t : Int} (h : s.Upholds s₀) : (s.readVapour t).Upholds s₀ :=
  .ite h.onWhu.endCondition.coolVent (h.onWhu.cond fun ht => ht.onVent.warn)

/-! ### Module supervision -/

theorem capsChange (h : s.Upholds s₀) : (State.capsChange before s).Upholds s₀ := h.rewatt.clampCarries

theorem setCaps {a : Addr} {c : CapRecord} (h : s.Upholds s₀) : (s.setCaps a c).Upholds s₀ := h.onEntry.capsChange

theorem ownerUnknown {x : Kind} (h : s.Upholds s₀) : (s.ownerUnknown x).Upholds s₀ := by
  unfold State.ownerUnknown
  split
  · exact h.doorUnknown
  all_goals exact h

theorem ownerGone {x : Kind} (h : s.Upholds s₀) : (s.ownerGone x).Upholds s₀ := by
  unfold State.ownerGone
  split
  · exact h.doorGone
  · exact h.softenerLost
  · exact h.channelLost
  · exact h.channelLost
  · exact h

theorem ownerLinked {x : Kind} (h : s.Upholds s₀) : (s.ownerLinked x).Upholds s₀ := by
  unfold State.ownerLinked
  split
  · exact h.softenerLinked
  all_goals exact h

theorem noteModule {a : Addr} {reported : Option Octet} (h : s.Upholds s₀) : (s.noteModule a reported).Upholds s₀ := h.place

theorem putLink {a : Addr} {l : LinkState} (h : s.Upholds s₀) : (s.putLink a l).Upholds s₀ := h.onEntry.cond onBay

theorem setLink {a : Addr} {l : LinkState} {reported : Option Octet} (h : s.Upholds s₀) :
    (s.setLink a l reported).Upholds s₀ :=
  .ite h h.putLink.noteModule

theorem withdrawQuery {a : Addr} (h : s.Upholds s₀) : (s.withdrawQuery a).Upholds s₀ := h.onEntry.removeMsgs

theorem restartBringUp {a : Addr} (h : s.Upholds s₀) : (s.restartBringUp a).Upholds s₀ := h.onEntry.withdrawQuery

theorem returnToCount {a : Addr} (h : s.Upholds s₀) : (s.returnToCount a).Upholds s₀ := h.restartBringUp.endCondition

theorem dropLink {a : Addr} {l : LinkState} {phase : BringUp} {reported : Option Octet} (h : s.Upholds s₀) :
    (s.dropLink a l phase reported).Upholds s₀ :=
  h.restartBringUp.onEntry.setLink

theorem takeLoss {a : Addr} (h : s.Upholds s₀) : (s.takeLoss a).Upholds s₀ :=
  (h.endCondition.cond ownerUnknown).raise.cond ownerGone

theorem lose {a : Addr} {l : LinkState} {phase : BringUp} {reported : Option Octet} (h : s.Upholds s₀) :
    (s.lose a l phase reported).Upholds s₀ :=
  h.dropLink.takeLoss

theorem link {a : Addr} (h : s.Upholds s₀) : (s.link a).Upholds s₀ := h.onEntry.setLink.endCondition.choose.cond ownerLinked

theorem bringUpQuery {a : Addr} (h : s.Upholds s₀) : (s.bringUpQuery a).Upholds s₀ := h.onEntry.askQuery

theorem silentBay {a : Addr} (h : s.Upholds s₀) : (s.silentBay a).Upholds s₀ := .ite h.returnToCount h.onEntry

theorem missBay {a : Addr} (h : s.Upholds s₀) : (s.missBay a).Upholds s₀ := by
  unfold State.missBay
  split
  · exact h.onEntry
  all_goals exact h.silentBay

theorem seeBay {a : Addr} {ready : Bool} (h : s.Upholds s₀) : (s.seeBay a ready).Upholds s₀ := by
  unfold State.seeBay
  split
  · exact .ite h.bringUpQuery h.onEntry
  · exact h.onEntry
  · exact h.onEntry
  · exact h.onEntry
  · exact h.onEntry
  all_goals exact h.returnToCount

theorem expireAnswer {a : Addr} (h : s.Upholds s₀) : (s.expireAnswer a).Upholds s₀ := by
  unfold State.expireAnswer
  split
  · exact h.onEntry
  · exact h.returnToCount
  · exact h.returnToCount
  · exact h

theorem countAnswer {a : Addr} (h : s.Upholds s₀) : (s.countAnswer a).Upholds s₀ := by
  unfold State.countAnswer
  split
  · exact .ite h.expireAnswer h.onEntry
  · exact .ite h.expireAnswer h.onEntry
  · exact h

theorem silentLimit {a : Addr} (h : s.Upholds s₀) : (s.silentLimit a).Upholds s₀ := by
  unfold State.silentLimit
  split
  · exact h.lose
  · exact h
  · exact h
  · exact h
  all_goals exact h.returnToCount

theorem readMfault {a : Addr} {mfault : Bool} (h : s.Upholds s₀) : (s.readMfault a mfault).Upholds s₀ :=
  .ite h.onEntry.warn (.ite h.onEntry h.onEntry.endCondition)

theorem goodBay {a : Addr} {b : StatusBits} (h : s.Upholds s₀) : (s.goodBay a b).Upholds s₀ := by
  unfold State.goodBay
  dsimp only
  split
  · exact h.onEntry
  · exact h.onEntry.seeBay.countAnswer
  · exact h.onEntry.seeBay.countAnswer
  · exact .ite h.onEntry.onEntry.readMfault.countAnswer h.onEntry.lose

theorem badBay {a : Addr} (h : s.Upholds s₀) : (s.badBay a).Upholds s₀ := by
  unfold State.badBay
  dsimp only
  split
  · exact h.onEntry
  · exact h.onEntry.missBay.countAnswer
  · exact h.onEntry.missBay.countAnswer
  · exact .ite h.onEntry.lose h.onEntry.onEntry.countAnswer

theorem mismatch {a : Addr} {reported : Octet} (h : s.Upholds s₀) : (s.mismatch a reported).Upholds s₀ := by
  unfold State.mismatch
  split
  · exact h.warn.lose
  all_goals exact h.warn.withdrawQuery.onEntry.setLink

theorem takeCaps {a : Addr} {c : CapRecord} (h : s.Upholds s₀) : (s.takeCaps a c).Upholds s₀ := by
  unfold State.takeCaps
  extract_lets t
  have ht : t.Upholds s₀ := .ite h h.setCaps
  exact .ite ht.onEntry ht.link

theorem capsMessage {a : Addr} {body : Vector Octet 6} (h : s.Upholds s₀) : (s.capsMessage a body).Upholds s₀ := by
  unfold State.capsMessage
  refine .ite ?_ h
  split
  · exact h.takeCaps
  · exact h.mismatch

theorem pinRequest {address : Octet} {fields : List Octet} (h : s.Upholds s₀) :
    (s.pinRequest address fields).1.Upholds s₀ := by
  unfold State.pinRequest
  split
  · exact h
  · refine .fst_ite h ?_
    split
    · exact h
    · dsimp only
      exact h.setCaps.onEntry

theorem unpinRequest {address : Octet} (h : s.Upholds s₀) : (s.unpinRequest address).1.Upholds s₀ := by
  unfold State.unpinRequest
  split
  · exact h
  · exact .fst_ite (.ite h.onEntry.askQuery h.onEntry.setCaps) h

theorem clearCounts {a : Addr} (h : s.Upholds s₀) : (s.clearCounts a).Upholds s₀ := h.onEntry

theorem clearRequest {address : Octet} (h : s.Upholds s₀) : (s.clearRequest address).1.Upholds s₀ := by
  unfold State.clearRequest
  refine .fst_ite (h.foldl fun _ ht => ht.clearCounts) ?_
  split
  · exact h
  · exact h.clearCounts

theorem countAbort {a : Addr} (h : s.Upholds s₀) : (s.countAbort a).Upholds s₀ := h.onEntry

theorem rehome {kind : Kind} (h : s.Upholds s₀) : (State.rehome before s kind).Upholds s₀ := by
  unfold State.rehome
  extract_lets same t u
  have ht : t.Upholds s₀ := h.cond fun hs => hs.ownerUnknown.ownerGone
  have hu : u.Upholds s₀ := ht.cond freeRetract
  exact .ite h (hu.cond ownerLinked)

theorem putSetting {i : SettingIx} {v : Int} (h : s.Upholds s₀) : (s.putSetting i v).Upholds s₀ := h.onSettings

theorem takeKind {a : Addr} {code : Int} (h : s.Upholds s₀) : (s.takeKind a code).Upholds s₀ := by
  unfold State.takeKind
  extract_lets kind l changes t u v w
  have hu : u.Upholds s₀ := h.returnToCount.putLink.onEntry.endCondition
  have hv : v.Upholds s₀ := hu.onSettings
  have hw : w.Upholds s₀ := .ite hv.noteModule hv
  exact (hw.foldl fun _ hx => hx.rehome).capsChange

theorem stopLine (h : s.Upholds s₀) : s.stopLine.Upholds s₀ := (h.onMbi (Nat.zero_le _)).onLba

theorem unlink {l : LinkState} {a : Addr} (h : s.Upholds s₀) : (State.unlink l s a).Upholds s₀ := by
  unfold State.unlink
  split
  · exact h.dropLink
  · exact h
  all_goals exact h.returnToCount.setLink

theorem unlinkAll {l : LinkState} (h : s.Upholds s₀) : (s.unlinkAll l).Upholds s₀ :=
  (h.foldl fun _ ht => ht.unlink).foldl fun _ ht => ht.takeLoss

theorem breakLine {l : LinkState} (h : s.Upholds s₀) : (s.breakLine l).Upholds s₀ := (h.stopLine.cond moved).unlinkAll

theorem foreignBreak (h : s.Upholds s₀) : s.foreignBreak.Upholds s₀ := h.onMsu

theorem busReset (h : s.Upholds s₀) : s.busReset.Upholds s₀ := h.breakLine.foreignBreak

theorem watchLine (h : s.Upholds s₀) : s.watchLine.Upholds s₀ := h.breakLine.onMsu

theorem setStuck (h : s.Upholds s₀) : s.setStuck.Upholds s₀ := h.raise.unlinkAll.onMsu

theorem rebreakLine (h : s.Upholds s₀) : s.rebreakLine.Upholds s₀ := h.breakLine.onMsu

theorem clearStuck (h : s.Upholds s₀) : s.clearStuck.Upholds s₀ := h.onMsu.endCondition

theorem watchFrame {zero : Bool} (h : s.Upholds s₀) : (s.watchFrame zero).Upholds s₀ := by
  unfold State.watchFrame
  split
  · exact .ite (.ite h.watchLine h.onMsu) h.onMsu
  · exact .ite (.ite h.setStuck h.onMsu) h.onMsu
  · exact .ite h.clearStuck (.ite h.onMsu.rebreakLine h.onMsu)

/-! ### The frame end -/

theorem buildFrame {number : Nat} (h : s.Upholds s₀) : (s.buildFrame number).Upholds s₀ := by
  unfold State.buildFrame
  dsimp only
  exact h.onMbi

theorem deliverOctet {a : Addr} {previous : Option Octet} {o : Octet} (h : s.Upholds s₀) :
    (s.deliverOctet a previous o).Upholds s₀ := by
  unfold State.deliverOctet
  refine .ite ?_ h
  split
  · exact h.doorAccepted
  · exact h.softenerAccepted
  all_goals exact h

theorem lookBay {a : Addr} {o : Octet} (h : s.Upholds s₀) : (s.lookBay a o).Upholds s₀ :=
  .ite h.onBay (.ite h.onBay.deliverOctet h.onBay)

theorem takeBay {up : UpFrame} {a : Addr} (h : s.Upholds s₀) : (State.takeBay up s a).Upholds s₀ :=
  .ite h.lookBay.goodBay h.onBay.badBay

theorem takeBays {up : UpFrame} (h : s.Upholds s₀) : (s.takeBays up).Upholds s₀ := h.foldl fun _ ht => ht.takeBay

theorem toldDelivered {m : DownMsg} (h : s.Upholds s₀) : (s.toldDelivered m).Upholds s₀ := by
  unfold State.toldDelivered
  split
  · exact h
  · split
    · exact h.onDvc
    all_goals exact h
  · split
    · exact h.onEntry
    · exact h.onEntry
    all_goals exact h

theorem deliverDown (h : s.Upholds s₀) : s.deliverDown.Upholds s₀ := by
  unfold State.deliverDown
  split
  · exact h.dropSending.toldDelivered.dequeued
  · exact h

theorem toldAbandoned {m : DownMsg} (h : s.Upholds s₀) : (s.toldAbandoned m).Upholds s₀ := by
  unfold State.toldAbandoned
  split
  · exact h.takeDone
  · exact h.takeDone
  · exact h
  · exact h
  · exact h.moved
  · exact h.cond returnToCount

theorem abandonDown (h : s.Upholds s₀) : s.abandonDown.Upholds s₀ := by
  unfold State.abandonDown
  split
  · exact h.dropSending.countAbort.toldAbandoned.dequeued
  · exact h

theorem downPhase {p : DownPhase} (h : s.Upholds s₀) : (s.downPhase p).Upholds s₀ := h.onMbi

theorem downWaits {good stop : Bool} (h : s.Upholds s₀) : (s.downWaits good stop).Upholds s₀ := .ite h.abandonDown h.onMbi

theorem downFrame {up : UpFrame} (h : s.Upholds s₀) : (s.downFrame up).Upholds s₀ := by
  unfold State.downFrame
  split
  · exact h
  · exact h
  · exact .ite h.downPhase h.downWaits
  · exact .ite (.ite h.downPhase h.downPhase) h.downWaits
  · exact .ite h.deliverDown (.ite h.deliverDown h.onMbi)

theorem endGrant (h : s.Upholds s₀) : s.endGrant.Upholds s₀ := h.onMbi

theorem doneMessage {a : Addr} {tag : Octet} {delivered : Nat} {reason : Octet} (h : s.Upholds s₀) :
    (s.doneMessage a tag delivered reason).Upholds s₀ :=
  .ite h.takeDone (h.cond takeDone)

theorem movedMessage {a : Addr} {reached : Nat} {reason : Octet} (h : s.Upholds s₀) :
    (s.movedMessage a reached reason).Upholds s₀ :=
  h.cond moved

theorem deliverUp {from' : Addr} {os : List Octet} (h : s.Upholds s₀) : (s.deliverUp from' os).Upholds s₀ := by
  unfold State.deliverUp
  split
  · exact h.capsMessage
  · exact h.doneMessage
  · exact h.movedMessage
  · exact h

theorem finishUp {owner : Addr} (h : s.Upholds s₀) : (s.finishUp owner).Upholds s₀ :=
  .ite h.endGrant.deliverUp h.endGrant.countAbort

theorem abandonUp (h : s.Upholds s₀) : s.abandonUp.Upholds s₀ := by
  unfold State.abandonUp
  split
  · exact h.endGrant.countAbort
  · exact h

theorem withdrawGrant (h : s.Upholds s₀) : s.withdrawGrant.Upholds s₀ := by
  unfold State.withdrawGrant
  split
  · exact h.endGrant.onEntry
  · exact h

theorem takeUpOctet {owner : Addr} {o : Octet} {tgl : Bool} (h : s.Upholds s₀) :
    (s.takeUpOctet owner o tgl).Upholds s₀ := by
  unfold State.takeUpOctet
  dsimp only
  split
  · exact .ite h.onMbi h.onMbi.countAbort
  · exact .ite h.onMbi h.onMbi

theorem goodUpFrame {owner : Addr} {l : Look} (h : s.Upholds s₀) : (s.goodUpFrame owner l).Upholds s₀ := by
  unfold State.goodUpFrame
  dsimp only
  exact (h.cond takeUpOctet).onMbi

theorem upFrame {up : UpFrame} {g : Grant} (h : s.Upholds s₀) : (s.upFrame up g).Upholds s₀ := by
  unfold State.upFrame
  extract_lets good l seen t u
  have ht : t.Upholds s₀ := h.onMbi
  have hu : u.Upholds s₀ := .ite ht.goodUpFrame ht.onMbi
  exact .ite hu.finishUp (.ite hu.abandonUp (hu.cond withdrawGrant))

theorem readRequest {o : Octet} (h : s.Upholds s₀) : (s.readRequest o).Upholds s₀ := h.cond onMbi

theorem takeUp {up : UpFrame} (h : s.Upholds s₀) : (s.takeUp up).Upholds s₀ := by
  refine readRequest ?_
  split
  · exact h.upFrame
  · exact h

theorem inletFrame (h : s.Upholds s₀) : s.inletFrame.Upholds s₀ := by
  unfold State.inletFrame
  split
  · next hc => exact (h.openInlet hc.1).deliverReport
  · exact h

theorem endFrame {up : UpFrame} (h : s.Upholds s₀) : (s.endFrame up).Upholds s₀ :=
  (h.inletFrame.readHalt.takeBays.cond downFrame).takeUp.watchFrame

theorem nextFrame (h : s.Upholds s₀) : s.nextFrame.Upholds s₀ := h.cond buildFrame

theorem startLine (h : s.Upholds s₀) : s.startLine.Upholds s₀ := h.onMbi

/-! ### The end of an event -/

/-- The conditions that return are raised with the class of the fault table (10.1). -/
theorem returningKeys_warning : ∀ k ∈ State.returningKeys, State.warningKey k.1 k.2.1 = true → k.2.2 = .warning := by decide

theorem reportReturn {k : FaultCode × Nat × FaultClass} (h : s.Upholds s₀) (hk : k ∈ State.returningKeys) :
    (s.reportReturn k).Upholds s₀ := by
  unfold State.reportReturn
  split
  · exact h.cond fun hs => hs.raise (returningKeys_warning k hk)
  · exact h

theorem reportEnd {r : FaultRec} (h : s.Upholds s₀) : (s.reportEnd r).Upholds s₀ := h.cond endCondition

theorem reportEnds (h : s.Upholds s₀) : s.reportEnds.Upholds s₀ := h.foldl fun _ ht => ht.reportEnd

theorem reportConditions (h : s.Upholds s₀) : s.reportConditions.Upholds s₀ :=
  (h.foldl fun hk ht => ht.reportReturn hk).reportEnds

theorem enterStandby {cause : StandbyCause} (h : s.Upholds s₀) : (s.enterStandby cause).Upholds s₀ := h.setPower

theorem testStandby (h : s.Upholds s₀) : s.testStandby.Upholds s₀ := h.cond enterStandby

theorem startSoftener (h : s.Upholds s₀) : s.startSoftener.Upholds s₀ :=
  h.retestDue.startChangeover.testAlignment.startRegen

theorem startJobs (h : s.Upholds s₀) : s.startJobs.Upholds s₀ := h.startSoftener.startOrder.startOrder.testRetract

theorem finish (h : s.Upholds s₀) : s.finish.Upholds s₀ :=
  h.reportConditions.startJobs.reportEnds.testStandby.evalHeats.askWaiting.kickTx

theorem event {f : State → State} (h : s.Upholds s₀) (hf : ∀ {t : State}, t.Upholds s₀ → (f t).Upholds s₀) :
    (s.event f).Upholds s₀ :=
  .ite (hf h).finish h

/-! ### The passing of time -/

theorem passWhu {n : Nat} (h : s.Upholds s₀) : (s.passWhu n).Upholds s₀ := h.onWhu

theorem passCsq {n : Nat} (h : s.Upholds s₀) : (s.passCsq n).Upholds s₀ := h.onCsq

theorem passLba {n : Nat} (h : s.Upholds s₀) : (s.passLba n).Upholds s₀ := by
  unfold State.passLba
  exact h.onLba.onClaim_state (by split <;> rfl)

theorem passSfc {n : Nat} (h : s.Upholds s₀) : (s.passSfc n).Upholds s₀ := by
  unfold State.passSfc
  dsimp only
  exact h.onSfc

theorem passDsc {n : Nat} (h : s.Upholds s₀) : (s.passDsc n).Upholds s₀ := by
  unfold State.passDsc
  dsimp only
  exact h.onDsc (by dsimp only; split <;> exact Nat.le_refl _) (by dsimp only; split <;> exact Nat.le_refl _)

theorem passDvc {n : Nat} (h : s.Upholds s₀) : (s.passDvc n).Upholds s₀ := h.onDvc

theorem passMbi {n : Nat} (h : s.Upholds s₀) : (s.passMbi n).Upholds s₀ := h.onMbi

theorem passSto {n : Nat} (h : s.Upholds s₀) : (s.passSto n).Upholds s₀ := h.onSto

theorem passPlk {n : Nat} (h : s.Upholds s₀) : (s.passPlk n).Upholds s₀ := h.onPlk

theorem advance {n : Nat} (h : s.Upholds s₀) : (s.advance n).Upholds s₀ := by
  have hnow : ({ s with now := s.now + BitVec.ofNat 32 n } : State).Upholds s₀ := h.onNow
  unfold State.advance
  split
  · exact h
  · exact h.onSto
  all_goals exact hnow.passWhu.passCsq.passLba.passSfc.passDsc.passDvc.passMbi.passSto.passPlk

theorem expire {left : Option Nat} {f : State → State} (h : s.Upholds s₀)
    (hf : ∀ {t : State}, t.Upholds s₀ → (f t).Upholds s₀) : (s.expire left f).Upholds s₀ := by
  unfold State.expire
  split
  · exact h.event fun ht => hf ht.advance
  · exact h

theorem reach {runs : Bool} {count limit : Nat} {f : State → State} (h : s.Upholds s₀)
    (hf : ∀ {t : State}, t.Upholds s₀ → (f t).Upholds s₀) : (s.reach runs count limit f).Upholds s₀ :=
  h.expire hf

/-! ### Loading and resets -/

theorem raiseEmpty {c : Channel} (h : s.Upholds s₀) : (s.raiseEmpty c).Upholds s₀ :=
  h.cond fun hs => hs.warn (by cases c <;> rfl)

theorem raiseExhausted (h : s.Upholds s₀) : s.raiseExhausted.Upholds s₀ := h.cond warn

theorem raiseLost (h : s.Upholds s₀) : s.raiseLost.Upholds s₀ := .ite h.warn.endCondition h

theorem reportPowerLost (h : s.Upholds s₀) : s.reportPowerLost.Upholds s₀ := .ite h.place.onCsq.saveCounters h

/-- Right after a reset no claim stands, the inlet is closed, and the queues and order lists are empty. -/
theorem of_reset (hp : t.pending = s₀.pending) (hn : t.plk.notices = []) (hq : t.mbi.queue = [])
    (hd : t.dsc.det.orders = []) (hr : t.dsc.ra.orders = []) (hl : s₀.Bounded → t.flu.list.length ≤ Config.faultLimit)
    (hh : s₀.Bounded → t.flu.history.length ≤ Config.historyLimit) (hw : s₀.LockoutSafe → t.HoldsWarnings)
    (hi : t.whu.phase = .closed) (hc : ∀ l, (t.claimOf l).state = .idle) : t.Upholds s₀ where
  pending := hp
  bounded hb := by
    refine ⟨?_, ?_, ?_, ?_, hl hb, hh hb⟩ <;> simp [hn, hq, hd, hr]
  safe hs := ⟨fun _ => hi, hw hs, fun _ => ⟨hc, hi⟩⟩

theorem idle_of_reset {n : Nat} {l : Load} : ((Lba.reset n).claims.get l.ix).state = .idle := by
  simp [Lba.reset, Vector.get_eq_getElem, Claim.idle]

/-- Marking the loads that break the class sum changes no claim. -/
theorem claims_rederive (s : State) : s.rederiveBreakers.lba.claims = s.lba.claims := by
  have fold : ∀ (ls : List Load) (p : State × Nat), (ls.foldl State.rederiveOne p).1.lba.claims = p.1.lba.claims := by
    intro ls
    induction ls with
    | nil => intro p; rfl
    | cons l ls ih =>
      intro p
      rw [List.foldl_cons, ih]
      unfold State.rederiveOne
      dsimp only
      split <;> rfl
  exact fold _ _

/-- A start-up makes the blocks afresh and keeps the commands that wait. -/
theorem loaded {img : SettingsImage × LoadResult} {cnt : CountersImage × LoadResult} (h : s.Upholds s₀) :
    (s.loaded img cnt).Upholds s₀ := by
  refine of_reset ?_ ?_ ?_ rfl rfl ?_ ?_ ?_ ?_ fun l => ?_ <;>
    simp only [State.loaded, State.rederiveBreakers_frame, State.HoldsWarnings, State.claimOf, claims_rederive]
  · exact h.pending
  · rfl
  · rfl
  · simp
  · simp
  · simp
  · rfl
  · exact idle_of_reset

theorem startUp {kind : ResetKind} (h : s.Upholds s₀) : (s.startUp kind).Upholds s₀ :=
  h.loaded.place.raiseEmpty.raiseEmpty.raiseExhausted.raiseLost.reportPowerLost

theorem riseSupply (h : s.Upholds s₀) : s.riseSupply.Upholds s₀ := by
  unfold State.riseSupply
  split
  · exact h.onSto
  all_goals exact h

theorem settleOscillator (h : s.Upholds s₀) : s.settleOscillator.Upholds s₀ := by
  unfold State.settleOscillator
  split
  · exact h.onSto.startUp
  all_goals exact h

theorem waitWrite (h : s.Upholds s₀) : s.waitWrite.Upholds s₀ := by
  unfold State.waitWrite
  split
  · exact h
  · exact h.advance.endWrite

theorem fullReset (h : s.Upholds s₀) : s.fullReset.Upholds s₀ :=
  (Upholds.ite h.waitWrite h.waitWrite.startWrite.endWrite).startUp

/-- A SOFT reset keeps the LOCKOUT records alone of the list, and the history (R180). -/
theorem softened (h : s.Upholds s₀) : s.softened.Upholds s₀ := by
  have hlist : s.softened.flu.list = s.flu.list.filter (fun r => r.cls = .lockout) := rfl
  refine of_reset h.pending rfl rfl rfl rfl (fun hb => ?_) (fun hb => ?_) (fun hw => ?_) rfl
    fun l => idle_of_reset (n := s.mains)
  · obtain ⟨-, -, -, -, hl, -⟩ := h.bounded hb
    exact hlist ▸ (List.length_filter_le _ _).trans hl
  · obtain ⟨-, -, -, -, -, hh⟩ := h.bounded hb
    exact hh
  · obtain ⟨-, hw, -⟩ := h.safe hw
    intro r hr
    rw [hlist] at hr
    exact hw r (List.mem_of_mem_filter hr)

theorem reportReset (h : s.Upholds s₀) : (State.reportReset before s).Upholds s₀ := by
  unfold State.reportReset
  split
  · exact h.place.notePhase.saveCounters
  · exact h

theorem reportAbort (h : s.Upholds s₀) : (State.reportAbort before s).Upholds s₀ := by
  unfold State.reportAbort
  split
  · exact h.noteSoftener
  · exact h

theorem reportDoor (h : s.Upholds s₀) : (State.reportDoor before s).Upholds s₀ := h.cond noteDoor

theorem reportLink {a : Addr} (h : s.Upholds s₀) : (State.reportLink before s a).Upholds s₀ := .ite h h.noteModule

theorem retellUnfit {l : Load} (h : s.Upholds s₀) : (State.retellUnfit before s l).Upholds s₀ := h.cond tellUnfit

theorem softReset (h : s.Upholds s₀) : s.softReset.Upholds s₀ := by
  unfold State.softReset
  extract_lets t u v w x
  have hu : u.Upholds s₀ := h.softened.place.reportReset.reportAbort.reportDoor
  have hv : v.Upholds s₀ := hu.foldl fun _ hy => hy.reportLink
  have hx : x.Upholds s₀ := hv.noteStock.noteStock.raiseEmpty.raiseEmpty.raiseExhausted
  exact hx.foldl fun _ hy => hy.retellUnfit

/-! ### Requests and their owners -/

theorem fst_bare {p : State × Status} (h : p.1.Upholds s₀) : (bare p).1.Upholds s₀ := h

theorem serveIdent (h : s.Upholds s₀) : s.serveIdent.1.Upholds s₀ := h

theorem serveStatus {sect : Octet} (h : s.Upholds s₀) : (State.serveStatus sect s).1.Upholds s₀ := by
  unfold State.serveStatus
  split <;> exact h

theorem serveGet {number : Octet} (h : s.Upholds s₀) : (State.serveGet number s).1.Upholds s₀ := by
  unfold State.serveGet
  split <;> exact h

theorem retestStarve (h : s.Upholds s₀) : s.retestStarve.Upholds s₀ := h.cond promote

theorem applySetting {i : SettingIx} (h : s.Upholds s₀) : (State.applySetting before s i).Upholds s₀ :=
  .ite h.rebudget (.ite h.rewatt (.ite h.retestStarve (.ite h.zeroAccumulators.retarget (.ite h.clampColumns
    (.ite h.containerChanged (.ite h.containerChanged (.ite h.lowChanged h)))))))

theorem setClamped {i : SettingIx} {v : Int} (h : s.Upholds s₀) : (s.setClamped i v).1.Upholds s₀ :=
  .fst_ite h (.fst_ite h (.fst_ite h h.putSetting.applySetting))

theorem setKind {i : SettingIx} {v : Int} (h : s.Upholds s₀) : (s.setKind i v).1.Upholds s₀ := by
  unfold State.setKind
  refine .fst_ite h (.fst_ite h ?_)
  refine .fst_ite h ?_
  split
  · exact h.takeKind
  · exact h

theorem serveSet {number : Octet} {value : BitVec 32} (h : s.Upholds s₀) :
    (State.serveSet number value s).1.Upholds s₀ := by
  unfold State.serveSet
  split
  · exact h
  · exact .fst_ite h.setClamped h.setKind

theorem serveSave (h : s.Upholds s₀) : s.serveSave.1.Upholds s₀ := .fst_ite h h.onSto.kickStore

theorem serveReset {mode : ResetMode} (h : s.Upholds s₀) : (State.serveReset mode s).1.Upholds s₀ := by
  unfold State.serveReset
  dsimp only
  exact h.onSto

theorem serveSleep {mask : Octet} (h : s.Upholds s₀) : (State.serveSleep mask s).1.Upholds s₀ :=
  .fst_ite h (.fst_ite h (.fst_ite (.ite h.onSto h.onSto.setPower) h.onSto.enterStandby))

theorem serveRecipeGet {number : Octet} (h : s.Upholds s₀) : (State.serveRecipeGet number s).1.Upholds s₀ := by
  unfold State.serveRecipeGet
  split <;> exact h

theorem serveRecipeSet {number : Octet} {r : Recipe} (h : s.Upholds s₀) : (State.serveRecipeSet number r s).1.Upholds s₀ := by
  unfold State.serveRecipeSet
  split
  · split
    · dsimp only
      exact h.onCsq
    · exact h
  · exact h

theorem serveRun {number : Octet} (h : s.Upholds s₀) : (State.serveRun number s).1.Upholds s₀ := by
  unfold State.serveRun
  refine .fst_ite h (.fst_ite h ?_)
  split
  · exact h
  · exact h.onCsq.endPendingStandby
  · exact h.arm.endPendingStandby

theorem dropWaiting (h : s.Upholds s₀) : s.dropWaiting.Upholds s₀ := h.onCsq

theorem serveCancelPending (h : s.Upholds s₀) : s.serveCancelPending.1.Upholds s₀ := .fst_ite h.dropWaiting h

theorem serveCancelActive (h : s.Upholds s₀) : s.serveCancelActive.1.Upholds s₀ := .fst_ite h (.fst_ite h.endCycle h)

theorem serveCancelAll (h : s.Upholds s₀) : s.serveCancelAll.1.Upholds s₀ :=
  .fst_ite h (.fst_ite h.dropWaiting.endCycle h.dropWaiting)

theorem accepting {p : State × Status} (h : p.1.Upholds s₀) : (State.accepting p).1.Upholds s₀ :=
  .fst_ite h.endPendingStandby h

theorem servePrepare (h : s.Upholds s₀) : s.servePrepare.1.Upholds s₀ := h.prepareRequest.accepting.fst_bare

theorem serveDrain (h : s.Upholds s₀) : s.serveDrain.1.Upholds s₀ := h.drainRequest.accepting.fst_bare

theorem serveDoseManual {channel : Octet} {ul : BitVec 16} (h : s.Upholds s₀) :
    (State.serveDoseManual channel ul s).1.Upholds s₀ := by
  unfold State.serveDoseManual
  split
  · next t _ e => exact h.manualRequest.fst_of_eq e
  · next t _ _ e => exact h.manualRequest.fst_of_eq e

theorem serveDosePrime {channel : Octet} {seconds : BitVec 16} (h : s.Upholds s₀) :
    (State.serveDosePrime channel seconds s).1.Upholds s₀ := by
  unfold State.serveDosePrime
  split
  · next t _ e => exact h.primeRequest.fst_of_eq e
  · next t _ _ e => exact h.primeRequest.fst_of_eq e

theorem serveStock {channel : Octet} {ml : BitVec 16} (h : s.Upholds s₀) : (State.serveStock channel ml s).1.Upholds s₀ :=
  h.stockRequest.fst_bare

theorem serveRegen {column : Octet} (h : s.Upholds s₀) : (State.serveRegen column s).1.Upholds s₀ := h.regenRequest.fst_bare

theorem serveDoorOpen {percent : Octet} (h : s.Upholds s₀) : (State.serveDoorOpen percent s).1.Upholds s₀ :=
  .fst_ite h (.fst_ite h (.fst_ite h (.fst_ite h h.startPush)))

theorem serveDoorRetract (h : s.Upholds s₀) : s.serveDoorRetract.1.Upholds s₀ :=
  .fst_ite h (.fst_ite h (.fst_ite h (.fst_ite h h.onDvc.startRetract)))

theorem serveFaults {first : Octet} (h : s.Upholds s₀) : (State.serveFaults first s).1.Upholds s₀ := .fst_ite h h

theorem serveAckFault {code detail : Octet} (h : s.Upholds s₀) : (State.serveAckFault code detail s).1.Upholds s₀ := by
  unfold State.serveAckFault
  split
  · exact h
  · split
    · exact h
    · exact .fst_ite h.removeFault h

theorem serveAckFaultAll (h : s.Upholds s₀) : s.serveAckFaultAll.1.Upholds s₀ :=
  .fst_ite h (h.foldl fun _ ht => ht.removeFault)

theorem serveModuleRead {address : Octet} (h : s.Upholds s₀) : (State.serveModuleRead address s).1.Upholds s₀ := by
  unfold State.serveModuleRead
  split <;> exact h

theorem serveModulePin {address : Octet} {fields : List Octet} (h : s.Upholds s₀) :
    (State.serveModulePin address fields s).1.Upholds s₀ :=
  h.pinRequest.fst_bare

theorem serveModuleUnpin {address : Octet} (h : s.Upholds s₀) : (State.serveModuleUnpin address s).1.Upholds s₀ :=
  h.unpinRequest.fst_bare

theorem serveModuleClear {address : Octet} (h : s.Upholds s₀) : (State.serveModuleClear address s).1.Upholds s₀ :=
  h.clearRequest.fst_bare

theorem serveBusReset (h : s.Upholds s₀) : s.serveBusReset.1.Upholds s₀ := h.busReset

/-! ### Requests by their row of the catalogue -/

theorem serveOf {i : Instr} (h : s.Upholds s₀) : (Machine.serveOf i s).1.Upholds s₀ := by
  unfold Machine.serveOf
  split
  · exact h.serveIdent
  · exact h.serveStatus
  · exact h.serveGet
  · exact h.serveSet
  · exact h.serveRecipeGet
  · exact h.serveRecipeSet
  · exact h.serveRun
  · exact h.serveCancelPending
  · exact h.serveCancelActive
  · exact h.serveCancelAll
  · exact h.servePrepare
  · exact h.serveDrain
  · exact h.serveDoseManual
  · exact h.serveDosePrime
  · exact h.serveStock
  · exact h.serveRegen
  · exact h.serveDoorOpen
  · exact h.serveDoorRetract
  · exact h.serveFaults
  · exact h.serveAckFault
  · exact h.serveAckFaultAll
  · exact h.serveModuleRead
  · exact h.serveModulePin
  · exact h.serveModuleUnpin
  · exact h.serveModuleClear
  · exact h.serveBusReset
  · exact h.serveSave
  · exact h.serveReset
  · exact h.serveReset
  · exact h.serveSleep
  · exact h

/-! ### The Panel Link -/

theorem turnAway {kind tag : Octet} (h : s.Upholds s₀) : (s.turnAway kind tag).Upholds s₀ := .ite h.linkError h.onPlk

theorem answer {f : ReqFrame} {form : Option Status} {serve : State → Answer} (h : s.Upholds s₀)
    (hf : ∀ {t : State}, t.Upholds s₀ → (serve t).1.Upholds s₀) : (s.answer f form serve).Upholds s₀ := by
  unfold State.answer
  refine .ite h.turnAway ?_
  split
  · exact h.reply
  · exact .ite h.reply (hf h).reply

theorem answerFrame {f : ReqFrame} (h : s.Upholds s₀) : (s.answerFrame f).Upholds s₀ := by
  unfold State.answerFrame
  split
  · exact h.answer fun ht => ht.serveOf
  all_goals exact h.answer fun ht => ht

theorem hold {f : ReqFrame} (h : s.Upholds s₀) : (s.hold f).Upholds s₀ := h.onSto

theorem takeFrame {f : ReqFrame} (h : s.Upholds s₀) : (s.takeFrame f).Upholds s₀ := .ite h.hold h.answerFrame

theorem request {f : ReqFrame} {form : Option Status} {serve : State → Answer} (h : s.Upholds s₀)
    (hf : ∀ {t : State}, t.Upholds s₀ → (serve t).1.Upholds s₀) : (s.request f form serve).Upholds s₀ :=
  h.event fun ht => .ite ht.wake.hold (ht.wake.answer hf)

theorem takeRequest {i : Instr} (h : s.Upholds s₀) : (s.takeRequest i).Upholds s₀ := by
  unfold State.takeRequest
  split
  · exact h.request fun ht => ht.serveOf
  · exact h

theorem discard (h : s.Upholds s₀) : s.discard.Upholds s₀ := h.onPlk.linkError

theorem completeFrame {os : List Octet} (h : s.Upholds s₀) : (s.completeFrame os).Upholds s₀ := by
  unfold State.completeFrame
  split
  · exact h.onPlk.takeFrame
  · exact h.discard

theorem frameOctet {os : List Octet} {o : Octet} (h : s.Upholds s₀) : (s.frameOctet os o).Upholds s₀ := by
  unfold State.frameOctet
  split
  · exact .ite h.onPlk h.discard
  · exact .ite h.completeFrame h.onPlk

theorem assembleOctet {o : Octet} {stopBit overrun : Bool} (h : s.Upholds s₀) :
    (s.assembleOctet o stopBit overrun).Upholds s₀ := by
  unfold State.assembleOctet
  split
  · exact h.cond onPlk
  · exact .ite h.frameOctet h.discard

theorem receive {o : Octet} {stopBit overrun : Bool} (h : s.Upholds s₀) : (s.receive o stopBit overrun).Upholds s₀ :=
  h.wake.assembleOctet

theorem sendEnds (h : s.Upholds s₀) : s.sendEnds.Upholds s₀ := by
  unfold State.sendEnds
  split
  · exact h
  · dsimp only
    split
    · exact h.onPlk.onPlk.onSto
    · exact h.onPlk.onPlk
    · exact h.onPlk.onPlk (by simp)
    · exact h.onPlk

theorem endSettle (h : s.Upholds s₀) : s.endSettle.Upholds s₀ := h.onSto.setPower.foldl fun _ ht => ht.answerFrame

/-! ### Events of the store -/

theorem writeEnds (h : s.Upholds s₀) : s.writeEnds.Upholds s₀ := h.endWrite.kickStore

theorem abandonSettings (h : s.Upholds s₀) : s.abandonSettings.Upholds s₀ := h.onSto

theorem assertPfw (h : s.Upholds s₀) : s.assertPfw.Upholds s₀ := by
  unfold State.assertPfw
  refine .ite h ?_
  dsimp only
  split
  · exact h.onSto.startWrite
  · exact h.onSto.startWrite
  · exact h.onSto.abandonSettings.startWrite

theorem releasePfw (h : s.Upholds s₀) : s.releasePfw.Upholds s₀ := h.onSto.kickStore

theorem loseSupply (h : s.Upholds s₀) : s.loseSupply.Upholds s₀ := .ite h.endWrite.onSto h

/-! ### Events of the water path -/

theorem pulse (h : s.Upholds s₀) : s.pulse.Upholds s₀ := h.countPulse.accountPulse.cond fun ht => ht.rinsePulse.accruePulse

theorem sampleLevel {code : LevelCode} (h : s.Upholds s₀) : (s.sampleLevel code).Upholds s₀ := h.onWhu.cond acceptLevel

theorem sampleSwitches {low high full : Bool} (h : s.Upholds s₀) : (s.sampleSwitches low high full).Upholds s₀ :=
  h.sampleLevel.sampleBooster

theorem readSensors {tank booster vapour : Int} (h : s.Upholds s₀) : (s.readSensors tank booster vapour).Upholds s₀ :=
  h.readTank.readBooster.readVapour

theorem expireImplausible (h : s.Upholds s₀) : s.expireImplausible.Upholds s₀ := h.onWhu.levelImplausible

theorem finishRunOn (h : s.Upholds s₀) : s.finishRunOn.Upholds s₀ := h.endRunOn.deliverReport

/-! ### Events of the cycle -/

theorem expireConfirm (h : s.Upholds s₀) : s.expireConfirm.Upholds s₀ := h.onCsq.raise

/-! ### Events of the softener -/

theorem endRegenPhase (h : s.Upholds s₀) : s.endRegenPhase.Upholds s₀ := by
  unfold State.endRegenPhase
  split
  · exact h.endPhase
  · exact h

/-! ### Events of the bus -/

theorem onlyIf {b : Bool} {f : State → State} (h : s.Upholds s₀) (hf : ∀ {t : State}, t.Upholds s₀ → (f t).Upholds s₀) :
    (s.onlyIf b f).Upholds s₀ :=
  .ite (hf h) h

end State.Upholds

/-! ### One command, one step -/

namespace State.Upholds

variable {s : State}

/-- Every command answers a next state, and one that upholds the state it runs in. -/
theorem exec (h : s.Upholds s₀) (i : Instr) : ∃ t, Machine.exec i s = .next t ∧ t.Upholds s₀ := by
  cases i with
  | ident | status | get | set | recipeGet | recipeSet | run | cancelPending | cancelActive | cancelAll | prepare | drain
  | doseManual | dosePrime | stock | regen | doorOpen | doorRetract | faults | ackFault | ackFaultAll | moduleRead
  | modulePin | moduleUnpin | moduleClearCounters | moduleBusReset | save | resetSoft | resetFull | sleep | unknownKind =>
    exact ⟨_, rfl, h.takeRequest⟩
  | panelOctetReceived => exact ⟨_, rfl, h.event fun ht => ht.receive⟩
  | octetGapTimeout => exact ⟨_, rfl, h.expire fun ht => ht.discard⟩
  | transmitDone => exact ⟨_, rfl, h.event fun ht => ht.sendEnds⟩
  | softResetTaken => exact ⟨_, rfl, h.event fun ht => .ite ht.softReset ht⟩
  | fullResetTaken => exact ⟨_, rfl, h.event fun ht => .ite ht.fullReset ht⟩
  | supplyRise => exact ⟨_, rfl, h.riseSupply⟩
  | oscillatorSettled =>
    refine ⟨_, rfl, ?_⟩
    split
    · exact h.advance.settleOscillator.finish
    · exact h
  | storeWriteEnd => exact ⟨_, rfl, h.expire fun ht => ht.writeEnds⟩
  | pfwAssert => exact ⟨_, rfl, h.event fun ht => ht.assertPfw⟩
  | pfwRelease => exact ⟨_, rfl, h.event fun ht => ht.releasePfw⟩
  | settleEnd => exact ⟨_, rfl, h.expire fun ht => ht.endSettle⟩
  | wakePulseEnd => exact ⟨_, rfl, h.expire fun ht => ht.onSto⟩
  | supplyFail => exact ⟨_, rfl, h.loseSupply⟩
  | flowPulse => exact ⟨_, rfl, h.event fun ht => ht.pulse⟩
  | rinseTargetReached => exact ⟨_, rfl, h.event fun ht => .ite ht.reachTarget ht⟩
  | inletHandover => exact ⟨_, rfl, h.event fun ht => ht.handOver⟩
  | quietWindowExpiry => exact ⟨_, rfl, h.expire fun ht => ht.stallInlet⟩
  | runOnEnd => exact ⟨_, rfl, h.expire fun ht => ht.finishRunOn⟩
  | levelSample => exact ⟨_, rfl, h.event fun ht => ht.sampleSwitches⟩
  | implausibleTimerExpiry => exact ⟨_, rfl, h.expire fun ht => ht.expireImplausible⟩
  | fillTimeLimit => exact ⟨_, rfl, h.reach fun ht => ht.limitFill⟩
  | drainOutTimer => exact ⟨_, rfl, h.reach fun ht => ht.finishDrain⟩
  | sensorReading => exact ⟨_, rfl, h.event fun ht => ht.readSensors⟩
  | purgeDone => exact ⟨_, rfl, h.reach fun ht => ht.leavePurge⟩
  | washStart => exact ⟨_, rfl, h.event fun ht => .ite ht.startWash ht⟩
  | washEnd => exact ⟨_, rfl, h.reach fun ht => ht.endWash⟩
  | holdLimit => exact ⟨_, rfl, h.reach fun ht => ht.endCycle⟩
  | latchConfirmTimeout => exact ⟨_, rfl, h.expire fun ht => ht.expireConfirm⟩
  | rinseHoldExpiry => exact ⟨_, rfl, h.expire fun ht => ht.expireRinseHold⟩
  | rinseStart => exact ⟨_, rfl, h.event fun ht => .ite ht.startRinse ht⟩
  | dwellEnd => exact ⟨_, rfl, h.reach fun ht => ht.endDwell⟩
  | settlingEnd => exact ⟨_, rfl, h.expire fun ht => ht.endSettling⟩
  | agingPromotion => exact ⟨_, rfl, h.reach fun ht => ht.promote⟩
  | haltClearTimer => exact ⟨_, rfl, h.expire fun ht => ht.clearHalt⟩
  | changeoverStart => exact ⟨_, rfl, h.event fun ht => ht.startChangeover⟩
  | moveTimerExpiry => exact ⟨_, rfl, h.expire fun ht => ht.endMoveTimer⟩
  | alignmentStart => exact ⟨_, rfl, h.event fun ht => ht.startAlignment⟩
  | regenStart => exact ⟨_, rfl, h.event fun ht => ht.startRegen⟩
  | regenPhaseEnd => exact ⟨_, rfl, h.expire fun ht => ht.endRegenPhase⟩
  | orderStart => exact ⟨_, rfl, h.event fun ht => ht.startOrder⟩
  | orderWatchdogExpiry => exact ⟨_, rfl, h.expire fun ht => ht.watchdogExpires⟩
  | done => exact ⟨_, rfl, h.event fun ht => ht.doneMessage⟩
  | latchReleaseTimeout => exact ⟨_, rfl, h.expire fun ht => ht.expireRelease⟩
  | moved => exact ⟨_, rfl, h.event fun ht => ht.movedMessage⟩
  | retractStart => exact ⟨_, rfl, h.event fun ht => ht.startRetract⟩
  | retractTimeLimit => exact ⟨_, rfl, h.expire fun ht => ht.retractLimit⟩
  | ventTimerExpiry => exact ⟨_, rfl, h.expire fun ht => ht.reportVent⟩
  | coolingWindowEnd => exact ⟨_, rfl, h.expire fun ht => ht.reportVent⟩
  | frameEnd => exact ⟨_, rfl, .ite (h.event fun ht => ht.endFrame).nextFrame (h.event id)⟩
  | messageDelivered => exact ⟨_, rfl, h.event fun ht => ht.onlyIf fun hu => hu.deliverDown⟩
  | closingLimit => exact ⟨_, rfl, h.event fun ht => .ite ht.deliverDown ht⟩
  | downstreamNoProgress => exact ⟨_, rfl, h.event fun ht => ht.onlyIf fun hu => hu.abandonDown⟩
  | upstreamNoProgress => exact ⟨_, rfl, h.event fun ht => ht.onlyIf fun hu => hu.abandonUp⟩
  | grantWithdrawal => exact ⟨_, rfl, h.event fun ht => ht.onlyIf fun hu => hu.withdrawGrant⟩
  | lineBreakEnd => exact ⟨_, rfl, .ite (h.expire fun ht => ht.startLine).buildFrame h⟩
  | bringUpQuery => exact ⟨_, rfl, h.event fun ht => ht.onlyIf fun hu => hu.bringUpQuery⟩
  | answerTimeout => exact ⟨_, rfl, h.event fun ht => ht.expireAnswer⟩
  | caps => exact ⟨_, rfl, h.event fun ht => ht.capsMessage⟩
  | silentCountLimit => exact ⟨_, rfl, h.event fun ht => ht.silentLimit⟩
  | stuckLineBreak => exact ⟨_, rfl, h.event fun ht => ht.onlyIf fun hu => hu.watchLine⟩
  | busStuck => exact ⟨_, rfl, h.event fun ht => ht.onlyIf fun hu => hu.setStuck⟩
  | stuckRepeatBreak => exact ⟨_, rfl, h.event fun ht => ht.onlyIf fun hu => hu.rebreakLine⟩
  | busStuckClear => exact ⟨_, rfl, h.event fun ht => ht.onlyIf fun hu => hu.clearStuck⟩


/-- A step runs the command in front, the event that is due, or one millisecond; it upholds the state whose queue it runs. -/
theorem step (s : State) : ∃ t, Machine.step s = .next t ∧ t.Upholds { s with pending := s.pending.tail } := by
  unfold Machine.step
  split
  · next c rest hp => exact hp ▸ (refl _).exec c
  · next hp =>
    have hs : s = { s with pending := s.pending.tail } := by rw [hp]; cases s; simp_all
    unfold idleStep
    split
    · next c hc =>
      obtain ⟨t, ht, hu⟩ := (refl s).exec c
      exact ⟨t, ht, hs ▸ hu⟩
    · exact ⟨_, rfl, hs ▸ (refl s).advance⟩

end State.Upholds

/-! ### What every step keeps -/

/-- Settles O57. -/
theorem everyStepKeepsTheBounds : Obligations.EveryStepKeepsTheBounds := by
  unfold Obligations.EveryStepKeepsTheBounds
  intro s t hb hst
  obtain ⟨u, hu, hup⟩ := State.Upholds.step s
  cases hst.symm.trans hu
  exact hup.bounded hb

/-- Settles O59. -/
theorem everyStepKeepsTheLockoutSafe : Obligations.EveryStepKeepsTheLockoutSafe := by
  unfold Obligations.EveryStepKeepsTheLockoutSafe
  intro s t hs hst
  obtain ⟨u, hu, hup⟩ := State.Upholds.step s
  cases hst.symm.trans hu
  exact hup.safe hs

/-! ### A part that does not run -/

section
variable {s : State}

/-- A timer of a part that does not run has no event. -/
theorem State.expire_off (h : s.on = false) (left : Option Nat) (f : State → State) : s.expire left f = s := by
  cases left with
  | none => rfl
  | some n => exact State.event_off h fun s => f (s.advance n)

/-- An accumulated time of a part that does not run has no event. -/
theorem State.reach_off (h : s.on = false) (runs : Bool) (count limit : Nat) (f : State → State) :
    s.reach runs count limit f = s := State.expire_off h _ _

/-- A request finds no receiver in a part that does not run. -/
theorem State.takeRequest_off (h : s.on = false) (i : Instr) : s.takeRequest i = s := by
  unfold State.takeRequest
  split
  · unfold State.request
    exact State.event_off h _
  · rfl

/-- A part that does not run takes no command but those of its supply and its oscillator (R192). -/
theorem exec_off (h : s.on = false) {i : Instr} (hr : i ≠ .supplyRise) (ho : i ≠ .oscillatorSettled) :
    exec i s = .next s := by
  cases i with
  | supplyRise => exact absurd rfl hr
  | oscillatorSettled => exact absurd rfl ho
  | ident | status | get | set | recipeGet | recipeSet | run | cancelPending | cancelActive | cancelAll | prepare | drain
  | doseManual | dosePrime | stock | regen | doorOpen | doorRetract | faults | ackFault | ackFaultAll | moduleRead
  | modulePin | moduleUnpin | moduleClearCounters | moduleBusReset | save | resetSoft | resetFull | sleep | unknownKind =>
    exact congrArg Host.Outcome.next (State.takeRequest_off h _)
  | octetGapTimeout | storeWriteEnd | settleEnd | wakePulseEnd | quietWindowExpiry | runOnEnd | implausibleTimerExpiry
  | latchConfirmTimeout | rinseHoldExpiry | settlingEnd | haltClearTimer | moveTimerExpiry | regenPhaseEnd
  | orderWatchdogExpiry | latchReleaseTimeout | retractTimeLimit | ventTimerExpiry | coolingWindowEnd =>
    exact congrArg Host.Outcome.next (State.expire_off h _ _)
  | fillTimeLimit | drainOutTimer | purgeDone | washEnd | holdLimit | dwellEnd | agingPromotion =>
    exact congrArg Host.Outcome.next (State.reach_off h _ _ _ _)
  | supplyFail => simp [exec, execSupplyFail, State.loseSupply, h]
  | frameEnd => simp [exec, execFrameEnd, h, State.event_off h]
  | lineBreakEnd => simp [exec, execLineBreakEnd, h]
  | panelOctetReceived | transmitDone | softResetTaken | fullResetTaken | pfwAssert | pfwRelease | flowPulse | inletHandover
  | levelSample | sensorReading | rinseTargetReached | washStart | rinseStart | changeoverStart | alignmentStart | regenStart
  | orderStart | done | moved | retractStart | messageDelivered | closingLimit | downstreamNoProgress | upstreamNoProgress
  | grantWithdrawal | bringUpQuery | answerTimeout | caps | silentCountLimit | stuckLineBreak | busStuck | stuckRepeatBreak
  | busStuckClear =>
    exact congrArg Host.Outcome.next (State.event_off h _)

end

/-- Settles O2: the commands waiting stay by `State.Upholds`, and a part that does not run has no event. -/
theorem everyCommandAnswersANextState : Obligations.EveryCommandAnswersANextState := by
  unfold Obligations.EveryCommandAnswersANextState
  refine ⟨fun c s => ?_, fun c s h hr ho => exec_off h hr ho⟩
  obtain ⟨t, ht, hup⟩ := (State.Upholds.refl s).exec c
  exact ⟨t, ht, hup.pending⟩

/-- Settles O1. -/
theorem stepRunsTheCommandInFront : Obligations.StepRunsTheCommandInFront := by
  unfold Obligations.StepRunsTheCommandInFront
  refine ⟨⟨fun c s => ?_, fun c rest s h => ?_⟩, fun c s h hd => ?_, fun s h hd => ?_, fun s h hp => ?_⟩
  · simp [step, State.push]
  · simp [step, h]
  · simp [step, h, idleStep, hd]
  · simp [step, h, idleStep, hd]
  · have hd : s.dueEvent = none := by simp [State.dueEvent, State.on, State.oscillatorLeft, hp, ranOut]
    simp [step, h, idleStep, hd, State.advance, hp]

/-- Settles O3. -/
theorem supplyRisesAndFails : Obligations.SupplyRisesAndFails := by
  unfold Obligations.SupplyRisesAndFails
  refine ⟨fun s h => ?_, fun s h => ?_, fun s copy left ho hp hw hc => ?_, fun s copy left ho hp hw hc => ?_,
    fun s hp => ?_, fun s ho hp hw => ?_⟩
  · simp [exec, execSupplyRise, State.riseSupply, h, State.onSto]
  · have hs : s.riseSupply = s := by
      unfold State.riseSupply
      split
      · next hp => exact absurd hp h
      all_goals rfl
    exact congrArg Host.Outcome.next hs
  · simp [exec, execSupplyFail, State.loseSupply, ho, hp, State.endWrite, hw, hc, State.sealCopy, State.onSto]
  · simp [exec, execSupplyFail, State.loseSupply, ho, hp, State.endWrite, hw, hc, State.sealCopy, State.onSto]
  · simp [exec, execSupplyFail, State.loseSupply, hp]
  · simp [exec, execSupplyFail, State.loseSupply, ho, hp, State.endWrite, hw, State.onSto]

/-- Settles O60: every queue is empty but the notices and the fault list of a blank store, and no record is a LOCKOUT. -/
theorem resetMeetsTheInvariants : Obligations.ResetMeetsTheInvariants := by
  unfold Obligations.ResetMeetsTheInvariants
  have hl : State.reset.locked = false := by decide
  refine ⟨?_, ?_, ⟨fun _ => rfl, ?_, fun h => absurd (hl.symm.trans h) Bool.false_ne_true⟩, ?_⟩
  · unfold State.Bounded; decide
  · unfold State.BudgetLaw; decide
  · decide
  · decide

end Sys2Proof.Machine
end

section
-- The proofs are elaborated one after the other: each of the many threads of a parallel run holds a stack of its own.
set_option Elab.async false
/-! PROOFS. The start of the part after POWER-ON, FULL and SOFT reset: O4, O5, O7 and O8.

A start makes the blocks afresh and then only tells: it places notices, raises faults and has the counters written
(`State.OnlyTells`). In a state made afresh (`State.Fresh`) no start has its conditions, so what an event settles only tells
too. -/

namespace Sys2Proof.Machine

open Sys2Proof

/-! ### Changes that only tell -/

/-- `t` is `s` but for what only tells: notices, fault records, the told marks of the budget, and writes of the store. -/
structure State.OnlyTells (t s : State) : Prop where
  now : t.now = s.now
  settings : t.settings = s.settings
  whu : t.whu = s.whu
  csq : t.csq = s.csq
  claims : t.lba.claims = s.lba.claims
  inForce : t.lba.inForce = s.lba.inForce
  settling : t.lba.settling = s.lba.settling
  sfc : t.sfc = s.sfc
  dsc : t.dsc = s.dsc
  dvc : t.dvc = s.dvc
  mbi : t.mbi = s.mbi
  msu : t.msu = s.msu
  pending : t.pending = s.pending
  power : t.sto.power = s.sto.power
  loads : t.sto.settingsLoad = s.sto.settingsLoad ∧ t.sto.countersLoad = s.sto.countersLoad

section
variable {s t u : State} {code : FaultCode} {detail : Nat}

/-- A write of the store that starts leaves the power state and the load results. -/
theorem State.kickStore_loads (s : State) :
    s.kickStore.sto.power = s.sto.power ∧ s.kickStore.sto.settingsLoad = s.sto.settingsLoad ∧
      s.kickStore.sto.countersLoad = s.sto.countersLoad := by
  unfold State.kickStore State.startWrite
  repeat' split
  all_goals simp

/-- A raise leaves the power state and the load results: it may begin the settle of a wake (R194). -/
theorem State.raiseList_loads (s : State) (code : FaultCode) (detail : Nat) (cls : FaultClass) :
    (s.raiseList code detail cls).1.sto.power = s.sto.power ∧
      (s.raiseList code detail cls).1.sto.settingsLoad = s.sto.settingsLoad ∧
      (s.raiseList code detail cls).1.sto.countersLoad = s.sto.countersLoad := by
  have hwake : ∀ x : State, (x.wake .fault).sto.power = x.sto.power ∧
      (x.wake .fault).sto.settingsLoad = x.sto.settingsLoad ∧ (x.wake .fault).sto.countersLoad = x.sto.countersLoad := by
    intro x
    unfold State.wake
    split <;> simp
  have hsto : (s.enterFault code detail cls).1.sto = s.sto := by simp
  unfold State.raiseList
  dsimp only
  split
  · have h := hwake ((s.enterFault code detail cls).1.escalate code detail cls)
    simpa [hsto] using h
  · simp

namespace State.OnlyTells

theorem refl (s : State) : s.OnlyTells s := by constructor <;> simp

theorem trans (h : u.OnlyTells t) (h' : t.OnlyTells s) : u.OnlyTells s where
  now := h.now.trans h'.now
  settings := h.settings.trans h'.settings
  whu := h.whu.trans h'.whu
  csq := h.csq.trans h'.csq
  claims := h.claims.trans h'.claims
  inForce := h.inForce.trans h'.inForce
  settling := h.settling.trans h'.settling
  sfc := h.sfc.trans h'.sfc
  dsc := h.dsc.trans h'.dsc
  dvc := h.dvc.trans h'.dvc
  mbi := h.mbi.trans h'.mbi
  msu := h.msu.trans h'.msu
  pending := h.pending.trans h'.pending
  power := h.power.trans h'.power
  loads := ⟨h.loads.1.trans h'.loads.1, h.loads.2.trans h'.loads.2⟩

theorem ite {c : Prop} [Decidable c] (ht : t.OnlyTells s) (hu : u.OnlyTells s) : (if c then t else u).OnlyTells s := by
  split <;> assumption

theorem foldl {α : Type} {f : State → α → State} (hf : ∀ (x : State) (a : α), (f x a).OnlyTells x) (l : List α) (s : State) :
    (l.foldl f s).OnlyTells s := by
  induction l generalizing s with
  | nil => exact refl s
  | cons a l ih => exact (ih (f s a)).trans (hf s a)

theorem place {n : Notice} (h : t.OnlyTells s) : (t.place n).OnlyTells s :=
  trans (by constructor <;> simp) h

theorem saveCounters (h : t.OnlyTells s) : t.saveCounters.OnlyTells s := by
  obtain ⟨hp, hs, hc⟩ := (t.onSto fun x => { x with countersMark := true }).kickStore_loads
  exact trans (by constructor <;> simp [State.saveCounters, hp, hs, hc]) h

theorem warn (h : t.OnlyTells s) : (t.warn code detail).OnlyTells s := by
  obtain ⟨hp, hs, hc⟩ := t.raiseList_loads code detail .warning
  exact trans (by constructor <;> simp [State.warn, hp, hs, hc]) h

theorem endCondition (h : t.OnlyTells s) : (t.endCondition code detail).OnlyTells s :=
  trans (by constructor <;> simp) h

theorem onFlu {f : Flu → Flu} (h : t.OnlyTells s) : (t.onFlu f).OnlyTells s := trans (by constructor <;> simp) h

theorem tellUnfit {l : Load} (h : t.OnlyTells s) : (t.tellUnfit l).OnlyTells s :=
  warn (trans (by constructor <;> simp) h)

theorem kickTx (h : t.OnlyTells s) : t.kickTx.OnlyTells s := trans (by constructor <;> simp) h

theorem reportEnds (h : t.OnlyTells s) : t.reportEnds.OnlyTells s :=
  trans (foldl (fun _ _ => ite (refl _).endCondition (refl _)) _ _) h

theorem claimOf {l : Load} (h : t.OnlyTells s) : t.claimOf l = s.claimOf l := by
  simp [State.claimOf, h.claims]

end State.OnlyTells

end

/-! ### A state made afresh -/

/-- Nothing is read, linked, claimed, ordered or owed, as after a reset: no start has its conditions. -/
structure State.Fresh (s : State) : Prop where
  whu : s.whu = Whu.reset
  mbi : s.mbi = Mbi.reset
  unlinked : ∀ a, s.linkedAt a = false
  idle : ∀ l, (s.claimOf l).state = .idle
  detOrders : s.dsc.det.orders = []
  raOrders : s.dsc.ra.orders = []
  changeover : s.sfc.changeover ≠ .pending
  bits : s.dvc.bits = none
  owed : s.dvc.owed = false
  retractHeld : s.dvc.retractHeld = false
  power : s.sto.power = .running

namespace State.Fresh

variable {s t : State}

theorem of_onlyTells (hs : s.Fresh) (h : t.OnlyTells s) : t.Fresh where
  whu := h.whu.trans hs.whu
  mbi := h.mbi.trans hs.mbi
  unlinked a := by rw [State.linkedAt, State.entry, h.msu]; exact hs.unlinked a
  idle l := by rw [h.claimOf]; exact hs.idle l
  detOrders := by rw [h.dsc]; exact hs.detOrders
  raOrders := by rw [h.dsc]; exact hs.raOrders
  changeover := by rw [h.sfc]; exact hs.changeover
  bits := by rw [h.dvc]; exact hs.bits
  owed := by rw [h.dvc]; exact hs.owed
  retractHeld := by rw [h.dvc]; exact hs.retractHeld
  power := h.power.trans hs.power

theorem linked (hs : s.Fresh) (kind : Kind) : s.linked kind = false := by
  unfold State.linked
  split
  · exact hs.unlinked _
  · rfl

theorem indication (hs : s.Fresh) (kind : Kind) : s.indication kind = none := by
  unfold State.indication
  split
  · simp [hs.unlinked]
  · rfl

/-- No ended condition comes back: the blocks hold no value yet (R175). -/
theorem not_returns (hs : s.Fresh) {k : FaultCode × Nat × FaultClass} (hk : k ∈ State.returningKeys) :
    s.returns k.1 k.2.1 = false := by
  simp only [State.returningKeys, List.mem_cons, List.not_mem_nil, or_false] at hk
  rcases hk with rfl | rfl | rfl | rfl | rfl | rfl
  · simp [State.returns, hs.whu, Whu.reset]
  · simp [State.returns, State.holds, State.valveStuck, State.acceptedValve, hs.indication]
  · simp [State.returns, State.holds, State.pumpStalled, hs.indication]
  · simp [State.returns, State.holds, State.pumpStalled, hs.indication]
  · simp [State.returns, State.holds, State.latchEngaged, hs.bits]
  · simp [State.returns, State.holds, State.latchEngaged, hs.bits]

theorem reportConditions (hs : s.Fresh) : s.reportConditions = s.reportEnds := by
  have fold : ∀ ks : List (FaultCode × Nat × FaultClass), (∀ k ∈ ks, s.returns k.1 k.2.1 = false) →
      ks.foldl State.reportReturn s = s := by
    intro ks
    induction ks with
    | nil => intro _; rfl
    | cons k ks ih =>
      intro h
      have hk : s.reportReturn k = s := by
        unfold State.reportReturn
        split
        · simp [h k (List.mem_cons_self ..)]
        · rfl
      rw [List.foldl_cons, hk]
      exact ih fun x hx => h x (List.mem_cons_of_mem _ hx)
  rw [State.reportConditions, fold _ fun k hk => hs.not_returns hk]

theorem startOrder (hs : s.Fresh) (c : Channel) : s.startOrder c = s := by
  have ho : (s.channel c).orders = [] := by
    cases c with
    | det => exact hs.detOrders
    | ra => exact hs.raOrders
  simp [State.startOrder, State.orderReady, ho]

theorem startSoftener (hs : s.Fresh) : s.startSoftener = s := by
  have hdue : s.retestDue = s := by simp [State.retestDue, State.changeoverFree, hs.linked]
  have hstart : s.startChangeover = s := by simp [State.startChangeover, State.changeoverReady, hs.changeover]
  have halign : s.testAlignment = s := by
    simp [State.testAlignment, State.startAlignment, State.alignmentReady, hs.linked]
  have hregen : s.startRegen = s := by simp [State.startRegen, State.regenReady, hs.linked]
  rw [State.startSoftener, hdue, hstart, halign, hregen]

theorem testRetract (hs : s.Fresh) : s.testRetract = s := by
  have hr : s.retractReady = false := by simp [State.retractReady, State.retractFree, hs.owed]
  have hd : { s.dvc with retractHeld := false } = s.dvc := by rw [← hs.retractHeld]
  simp [State.testRetract, hr, State.freeRetract, State.onDvc, hd]

theorem startJobs (hs : s.Fresh) : s.startJobs = s := by
  rw [State.startJobs, hs.startSoftener, hs.startOrder, hs.startOrder, hs.testRetract]

theorem evalHeat (hs : s.Fresh) (l : Load) : s.evalHeat l = s := by
  have hread : s.heatReading l = none := by
    have ht : s.tankReading = none := by simp [State.tankReading, hs.whu, Whu.reset]
    have hb : s.boosterReading = none := by simp [State.boosterReading, hs.whu, Whu.reset]
    simp [State.heatReading, ht, hb]
  have hoff : s.onThermostat l (fun t => { t with demand := false }) = s := by
    have hw : ∀ {f : Whu → Whu} {t : State}, t = s.onWhu f → f Whu.reset = Whu.reset → t = s := fun ht hf => by
      rw [ht, State.onWhu, hs.whu, hf, ← hs.whu]
    cases l with
    | tankHeater | boosterA | boosterB => exact hw (by unfold State.onThermostat; rfl) rfl
    | _ => rfl
  simp [State.evalHeat, hread, State.heatOff, hoff, State.release, hs.idle]

/-- What an event leaves settled in a fresh state: conditions that have ended are reported, and the transmitter chooses. -/
theorem finish (hs : s.Fresh) : s.finish = s.reportEnds.reportEnds.kickTx := by
  have hr : s.reportEnds.Fresh := hs.of_onlyTells (State.OnlyTells.refl s).reportEnds
  have hrr : s.reportEnds.reportEnds.Fresh := hr.of_onlyTells (State.OnlyTells.refl _).reportEnds
  have hstandby : s.reportEnds.reportEnds.testStandby = s.reportEnds.reportEnds := by
    simp [State.testStandby, hrr.power]
  have hask : s.reportEnds.reportEnds.askWaiting = s.reportEnds.reportEnds := by
    simp [State.askWaiting, hrr.mbi, Mbi.reset]
  rw [State.finish, hs.reportConditions, hr.startJobs, hstandby, State.evalHeats, hrr.evalHeat, hrr.evalHeat, hrr.evalHeat,
    hask]

theorem finish_onlyTells (hs : s.Fresh) : s.finish.OnlyTells s := by
  rw [hs.finish]
  exact (State.OnlyTells.refl s).reportEnds.reportEnds.kickTx

end State.Fresh

/-! ### The start from the images of the store (R192) -/

/-- The figures of a kind are read from the settings and the module table (R165). -/
theorem State.caps_congr {s t : State} (hs : s.settings = t.settings) (hm : s.msu = t.msu) (k : Kind) :
    s.caps k = t.caps k := by
  have hk : ∀ a, s.kindAt a = t.kindAt a := fun a => by simp [State.kindAt, State.num, State.val, hs]
  simp [State.caps, State.moduleOf, State.entry, hk, hm]

/-- What a load draws is read from the settings and the module table. -/
theorem State.watts_congr {s t : State} (hs : s.settings = t.settings) (hm : s.msu = t.msu) (l : Load) :
    s.watts l = t.watts l := by
  have hc := State.caps_congr hs hm
  cases l <;> simp [State.watts, State.num, State.val, hs, hc]

/-- The unfit marks of a start are derived from the settings and the module table (R62). -/
theorem State.rederiveBreakers_congr {s t : State} (hs : s.settings = t.settings) (hm : s.msu = t.msu)
    (hl : s.lba = t.lba) : s.rederiveBreakers.lba = t.rederiveBreakers.lba := by
  have hw := State.watts_congr hs hm
  have hd : s.defaultWatts = t.defaultWatts := by
    funext l
    cases l with
    | drainPump | washPump | rinsePump | boosterA | boosterB | tankHeater => unfold State.defaultWatts; exact hw _
    | doorDrive | ventFan | valveMotor | doserDet | doserRa => rfl
  have fold : ∀ (ls : List Load) (p q : State × Nat), p.2 = q.2 → p.1.settings = q.1.settings → p.1.msu = q.1.msu →
      p.1.lba = q.1.lba → (ls.foldl State.rederiveOne p).1.lba = (ls.foldl State.rederiveOne q).1.lba := by
    intro ls
    induction ls with
    | nil => intro p q _ _ _ h; exact h
    | cons l ls ih =>
      intro p q hsum hset hmsu hlba
      have hmains : p.1.mains = q.1.mains := by simp [State.mains, State.num, State.val, hset]
      have hwl := State.watts_congr hset hmsu l
      apply ih
      · simp [State.rederiveOne, hsum, hwl]
      · simp only [State.rederiveOne]; split <;> split <;> simp [hset]
      · simp only [State.rederiveOne]; split <;> split <;> simp [hmsu]
      · simp only [State.rederiveOne, hmains, hsum, hwl]; split <;> simp [hlba]
  unfold State.rederiveBreakers
  simp only [hd, hw]
  exact fold _ _ _ rfl hs hm hl

section
variable (s : State) (img : SettingsImage × LoadResult) (cnt : CountersImage × LoadResult)

/-- What a start loads, block by block. -/
theorem State.loaded_blocks :
    (s.loaded img cnt).now = 0 ∧ (s.loaded img cnt).settings = img.1.settings ∧ (s.loaded img cnt).plk = Plk.cleared ∧
    (s.loaded img cnt).whu = Whu.reset ∧
    (s.loaded img cnt).csq = Csq.cleared img.1.recipes cnt.1.counter cnt.1.cycleOpen ∧
    (s.loaded img cnt).dvc = Dvc.reset true ∧ (s.loaded img cnt).mbi = Mbi.reset ∧
    (s.loaded img cnt).msu = Msu.loaded img.1.settings img.1.pins ∧
    (s.loaded img cnt).flu = { list := [], history := [], overflow := 0 } ∧ (s.loaded img cnt).pending = s.pending := by
  simp [State.loaded]

theorem State.loaded_sfc :
    (s.loaded img cnt).sfc =
      Sfc.derived (restoreColumn ((s.loaded img cnt).num SettingIx.columnCapacity) cnt.1.colA)
        (restoreColumn ((s.loaded img cnt).num SettingIx.columnCapacity) cnt.1.colB) cnt.1.serviceCol
        (if (s.loaded img cnt).k ≤ cnt.1.acc then 0 else cnt.1.acc) := by
  simp [State.loaded, State.num, State.val, State.k]

theorem State.loaded_dsc :
    (s.loaded img cnt).dsc =
      { det := restoreChannel cnt.1.det ((s.loaded img cnt).containerUl .det) ((s.loaded img cnt).ulPerStep .det)
          ((s.loaded img cnt).lowU .det)
        ra := restoreChannel cnt.1.ra ((s.loaded img cnt).containerUl .ra) ((s.loaded img cnt).ulPerStep .ra)
          ((s.loaded img cnt).lowU .ra)
        acc := cnt.1.raAcc, owed := 0, flush := false } := by
  simp [State.loaded, State.num, State.val, State.containerUl, State.ulPerStep, State.lowU, State.caps,
    State.moduleOf, State.kindAt, State.entry]
  exact ⟨rfl, rfl⟩

theorem State.loaded_lba :
    (s.loaded img cnt).lba.claims = (Lba.reset 0).claims ∧
      (s.loaded img cnt).lba.inForce = (img.1.settings.get SettingIx.mainsBudget).toNat ∧
      (s.loaded img cnt).lba.settling = [] := by
  have fold : ∀ (ls : List Load) (p : State × Nat), (ls.foldl State.rederiveOne p).1.lba.inForce = p.1.lba.inForce ∧
      (ls.foldl State.rederiveOne p).1.lba.settling = p.1.lba.settling := by
    intro ls
    induction ls with
    | nil => intro p; exact ⟨rfl, rfl⟩
    | cons l ls ih =>
      intro p
      have hone : (State.rederiveOne p l).1.lba.inForce = p.1.lba.inForce ∧
          (State.rederiveOne p l).1.lba.settling = p.1.lba.settling := by
        simp only [State.rederiveOne]; split <;> simp
      exact ⟨(ih _).1.trans hone.1, (ih _).2.trans hone.2⟩
  refine ⟨?_, ?_, ?_⟩
  · simp only [State.loaded, State.Upholds.claims_rederive]
    rfl
  · simp only [State.loaded, State.rederiveBreakers, fold]
    rfl
  · simp only [State.loaded, State.rederiveBreakers, fold]
    rfl

theorem State.loaded_sto :
    (s.loaded img cnt).sto.power = .running ∧ (s.loaded img cnt).sto.settingsLoad = img.2 ∧
      (s.loaded img cnt).sto.countersLoad = cnt.2 := by
  simp [State.loaded]

end

/-- No entry of a table that a start loads is LINKED (R171). -/
theorem Msu.loaded_unlinked (settings : Vector Int 40) (pins : Vector (Option CapRecord) 8) (a : Addr) :
    ((Msu.loaded settings pins).entries.get a).link ≠ .linked := by
  have hfresh : ∀ (k : Kind) (p : Option CapRecord), (Entry.fresh k p).link ≠ .linked := fun k p => by
    cases k <;> simp [Entry.fresh]
  fin_cases a <;> exact hfresh _ _

/-- A derived changeover is DUE exactly while the service column is spent (R84, R85). -/
theorem Sfc.derived_changeover (a b : ColumnRec) (c : Column) (acc : Nat) :
    (Sfc.derived a b c acc).changeover =
      if (if c = .a then a else b).capacity = 0 then .due else .none := by
  cases c <;> simp [Sfc.derived]

/-- A start leaves the blocks as loaded but for the cycle that had not ended, whose end it reports (R45, R192). -/
def State.restarted (s : State) (img : SettingsImage × LoadResult) (cnt : CountersImage × LoadResult) : State :=
  (s.loaded img cnt).onCsq fun c => { c with cycleOpen := 0 }

/-- The images that a start loads (R192). -/
def State.startImages (s : State) : (SettingsImage × LoadResult) × (CountersImage × LoadResult) :=
  let img := loadImage s.sto.nvm.set1 s.sto.nvm.set2 defaultImage
  (img, loadImage s.sto.nvm.cnt1 s.sto.nvm.cnt2 (defaultCounters (img.1.settings.get SettingIx.columnCapacity).toNat))

theorem State.restarted_fresh (s : State) (img : SettingsImage × LoadResult) (cnt : CountersImage × LoadResult) :
    (s.restarted img cnt).Fresh := by
  obtain ⟨-, -, -, hwhu, -, hdvc, hmbi, hmsu, -, -⟩ := s.loaded_blocks img cnt
  have hsfc := s.loaded_sfc img cnt
  have hdsc := s.loaded_dsc img cnt
  obtain ⟨hclaims, -, -⟩ := s.loaded_lba img cnt
  obtain ⟨hpower, -, -⟩ := s.loaded_sto img cnt
  refine ⟨hwhu, hmbi, fun a => ?_, fun l => ?_, ?_, ?_, ?_, ?_, ?_, ?_, hpower⟩ <;>
    simp only [State.restarted, State.linkedAt, State.entry, State.claimOf, State.onCsq_msu, State.onCsq_lba,
      State.onCsq_dsc, State.onCsq_sfc, State.onCsq_dvc, hmsu, hclaims, hdsc, hsfc, hdvc]
  · simpa using Msu.loaded_unlinked _ _ a
  · exact State.Upholds.idle_of_reset
  · rfl
  · rfl
  · rw [Sfc.derived_changeover]; split_ifs <;> simp
  · rfl
  · rfl
  · rfl

/-- A start loads the images, places STARTED, and reports what they raise. -/
theorem State.startUp_eq (s : State) (kind : ResetKind) :
    s.startUp kind = (((((s.loaded s.startImages.1 s.startImages.2).place (.started kind s.startImages.1.2
      s.startImages.2.2 ((s.loaded s.startImages.1 s.startImages.2).val SettingIx.imageTag))).raiseEmpty .det).raiseEmpty
      .ra).raiseExhausted).raiseLost.reportPowerLost := rfl

/-- The reports of a start only tell. -/
theorem State.startUp_onlyTells (s : State) (kind : ResetKind) :
    (s.startUp kind).OnlyTells (s.restarted s.startImages.1 s.startImages.2) := by
  have hrestart : ∀ t u : State, u.OnlyTells t →
      u.reportPowerLost.OnlyTells (t.onCsq fun c => { c with cycleOpen := 0 }) := by
    intro t u h
    have hcsq : (u.onCsq fun c => { c with cycleOpen := 0 }).OnlyTells (t.onCsq fun c => { c with cycleOpen := 0 }) := by
      constructor <;> simp [h.now, h.settings, h.whu, h.csq, h.claims, h.inForce, h.settling, h.sfc, h.dsc, h.dvc, h.mbi,
        h.msu, h.pending, h.power, h.loads]
    unfold State.reportPowerLost
    split
    · refine State.OnlyTells.saveCounters (State.OnlyTells.trans ?_ hcsq)
      constructor <;> simp
    · next hopen =>
      have hsame : (u.onCsq fun c => { c with cycleOpen := 0 }) = u := by
        have hz : u.csq.cycleOpen = 0 := by omega
        have hc : { u.csq with cycleOpen := 0 } = u.csq := by rw [← hz]
        rw [State.onCsq, hc]
      rwa [hsame] at hcsq
  rw [State.startUp_eq]
  refine hrestart _ _ ?_
  have h0 : ((s.loaded s.startImages.1 s.startImages.2).place (.started kind s.startImages.1.2 s.startImages.2.2
      ((s.loaded s.startImages.1 s.startImages.2).val SettingIx.imageTag))).OnlyTells
      (s.loaded s.startImages.1 s.startImages.2) := (State.OnlyTells.refl _).place
  have hempty : ∀ {t u : State} (c : Channel), u.OnlyTells t → (u.raiseEmpty c).OnlyTells t := fun c h => .ite h.warn h
  have hexh : ∀ {t u : State}, u.OnlyTells t → u.raiseExhausted.OnlyTells t := fun h => .ite h.warn h
  have hlost : ∀ {t u : State}, u.OnlyTells t → u.raiseLost.OnlyTells t := fun h => .ite h.warn.endCondition h
  exact hlost (hexh (hempty .ra (hempty .det h0)))

/-- What a start and the settling of its event leave, block by block. -/
theorem State.startUp_finish_onlyTells (s : State) (kind : ResetKind) :
    (s.startUp kind).finish.OnlyTells (s.restarted s.startImages.1 s.startImages.2) := by
  have hs := s.startUp_onlyTells kind
  exact ((s.restarted_fresh _ _).of_onlyTells hs).finish_onlyTells.trans hs

/-! ### The faults of a start -/

/-- The record of a WARNING raised in cycle `counter` for a key of detail 0. -/
def startWarning (counter : Nat) (code : FaultCode) (present : Bool) : FaultRec :=
  { code := code, detail := 0, cls := .warning, ack := code.tableAck, present := present, count := 1, firstCycle := counter,
    escalated := false }

/-- A key that no record has is not in the list. -/
theorem State.faultRec_none {s : State} {code : FaultCode} {detail : Nat}
    (h : ∀ r ∈ s.flu.list, r.keyed code detail = false) : s.faultRec code detail = none := by
  rw [State.faultRec, List.find?_eq_none]
  intro r hr
  simpa [FaultRec.keyed] using h r hr

/-- The record at the tail of the list is found if no other has its key. -/
theorem State.faultRec_tail {s : State} {code : FaultCode} {detail : Nat} {l : List FaultRec} {x : FaultRec}
    (hs : s.flu.list = l ++ [x]) (h : ∀ r ∈ l, r.keyed code detail = false) (hx : x.keyed code detail = true) :
    s.faultRec code detail = some x := by
  have hl : l.find? (fun r => decide (r.code = code ∧ r.detail = detail)) = none := by
    rw [List.find?_eq_none]
    intro r hr
    simpa [FaultRec.keyed] using h r hr
  rw [State.faultRec, hs, List.find?_append, hl]
  simpa [FaultRec.keyed] using hx

theorem FaultRec.not_keyed_of_code {r : FaultRec} {code : FaultCode} {detail : Nat} (h : r.code ≠ code) :
    r.keyed code detail = false := by
  simp [FaultRec.keyed, h]

/-- A WARNING of a new key with room makes a record at the tail, and does nothing more (R173). -/
theorem State.warn_new {s : State} {code : FaultCode} (hk : ∀ r ∈ s.flu.list, r.code ≠ code)
    (hl : s.flu.list.length < Config.faultLimit) (hp : s.sto.power = .running) :
    s.warn code 0 = s.createFault code 0 .warning ∧
      (s.warn code 0).flu.list = s.flu.list ++ [startWarning s.csq.counter code true] ∧
      (s.warn code 0).flu.history = s.flu.history := by
  have hother : ∀ r ∈ s.flu.list, r.keyed code 0 = false := fun r hr => FaultRec.not_keyed_of_code (hk r hr)
  have hnone : s.faultRec code 0 = none := State.faultRec_none hother
  have henter : s.enterFault code 0 .warning = (s.createFault code 0 .warning, true) := by
    simp only [State.enterFault, hnone, if_pos hl]
  have hlist : (s.createFault code 0 .warning).flu.list = s.flu.list ++ [startWarning s.csq.counter code true] := by
    simp [State.createFault, startWarning]
  have hrec : (s.createFault code 0 .warning).faultRec code 0 = some (startWarning s.csq.counter code true) :=
    State.faultRec_tail hlist hother (by simp [startWarning, FaultRec.keyed])
  have hesc : (s.createFault code 0 .warning).escalate code 0 .warning = s.createFault code 0 .warning := by
    simp [State.escalate, hrec, startWarning]
  have hwarn : s.warn code 0 = s.createFault code 0 .warning := by
    simp [State.warn, State.raiseList, henter, hesc, State.wake, hp]
  refine ⟨hwarn, hwarn ▸ hlist, ?_⟩
  rw [hwarn]
  simp [State.createFault]

/-- A WARNING of a new key that a condition raises, as its record in the list. -/
theorem State.warn_if_new {s : State} {code : FaultCode} (c : Prop) [Decidable c] (hk : ∀ r ∈ s.flu.list, r.code ≠ code)
    (hl : s.flu.list.length < Config.faultLimit) (hp : s.sto.power = .running) :
    (if c then s.warn code 0 else s).flu.list =
        s.flu.list ++ (if c then [startWarning s.csq.counter code true] else []) ∧
      (if c then s.warn code 0 else s).flu.history = s.flu.history := by
  obtain ⟨-, hlist, hhist⟩ := State.warn_new hk hl hp
  by_cases hc : c <;> simp [hc, hlist, hhist]

/-- SETTINGS_LOST is raised, and its condition ends in the same event (R192). -/
theorem State.raiseLost_list {s : State} (hk : ∀ r ∈ s.flu.list, r.code ≠ .settingsLost)
    (hl : s.flu.list.length < Config.faultLimit) (hp : s.sto.power = .running) :
    s.raiseLost.flu.list = s.flu.list ++ (if s.sto.settingsLoad = .defaults ∨ s.sto.countersLoad = .defaults then
        [startWarning s.csq.counter .settingsLost false] else []) ∧ s.raiseLost.flu.history = s.flu.history := by
  obtain ⟨hwarn, hlist, hhist⟩ := State.warn_new hk hl hp
  unfold State.raiseLost
  split
  · have hother : ∀ r ∈ s.flu.list, r.keyed .settingsLost 0 = false :=
      fun r hr => FaultRec.not_keyed_of_code (hk r hr)
    have hrec : (s.warn .settingsLost 0).faultRec .settingsLost 0 =
        some (startWarning s.csq.counter .settingsLost true) :=
      State.faultRec_tail hlist hother (by simp [startWarning, FaultRec.keyed])
    have hmap : s.flu.list.map (fun r => if r.keyed .settingsLost 0 then { r with present := false } else r) =
        s.flu.list := by
      refine (List.map_congr_left fun r hr => ?_).trans (List.map_id _)
      simp [hother r hr]
    have hend : (s.warn .settingsLost 0).endCondition .settingsLost 0 =
        (s.warn .settingsLost 0).onFault .settingsLost 0 fun r => { r with present := false } := by
      simp [State.endCondition, hrec, startWarning, FaultCode.tableAck]
    rw [hend]
    constructor
    · simp only [State.onFault, State.onFlu_flu, hlist, List.map_append, hmap]
      simp [startWarning, FaultRec.keyed]
    · simpa [State.onFault] using hhist
  · simp

/-- `t` has told of `l` with the fault records `fs`, each of one of the codes given. -/
structure State.HasRaised (t l : State) (codes : List FaultCode) (fs : List FaultRec) : Prop where
  tells : t.OnlyTells l
  power : t.sto.power = .running
  list : t.flu.list = fs
  history : t.flu.history = []
  code : ∀ r ∈ fs, r.code ∈ codes
  length : fs.length ≤ codes.length

namespace State.HasRaised

variable {l t : State} {codes : List FaultCode} {fs : List FaultRec} {code : FaultCode}

theorem fresh_code (h : t.HasRaised l codes fs) (hc : code ∉ codes) : ∀ r ∈ t.flu.list, r.code ≠ code := by
  intro r hr hrc
  rw [h.list] at hr
  exact hc (hrc ▸ h.code r hr)

theorem room (h : t.HasRaised l codes fs) (hl : codes.length < Config.faultLimit) :
    t.flu.list.length < Config.faultLimit := by
  rw [h.list]
  exact Nat.lt_of_le_of_lt h.length hl

/-- One more code, whose record a condition brings. -/
theorem snoc {u : State} {c : Prop} [Decidable c] {x : FaultRec} (h : t.HasRaised l codes fs) (hu : u.OnlyTells t)
    (hx : x.code = code) (hlist : u.flu.list = t.flu.list ++ if c then [x] else []) (hhist : u.flu.history = t.flu.history) :
    u.HasRaised l (code :: codes) (fs ++ if c then [x] else []) where
  tells := hu.trans h.tells
  power := hu.power.trans h.power
  list := by rw [hlist, h.list]
  history := hhist.trans h.history
  code r hr := by
    rcases List.mem_append.mp hr with hr | hr
    · exact List.mem_cons_of_mem _ (h.code r hr)
    · split at hr
      · rw [List.mem_singleton.mp hr, hx]; exact List.mem_cons_self ..
      · exact absurd hr List.not_mem_nil
  length := by
    have hl := h.length
    split <;> simp <;> omega

theorem warn {c : Prop} [Decidable c] (h : t.HasRaised l codes fs) (hc : code ∉ codes)
    (hl : codes.length < Config.faultLimit) :
    (if c then t.warn code 0 else t).HasRaised l (code :: codes)
      (fs ++ if c then [startWarning l.csq.counter code true] else []) := by
  obtain ⟨hlist, hhist⟩ := State.warn_if_new c (h.fresh_code hc) (h.room hl) h.power
  rw [h.tells.csq] at hlist
  exact h.snoc (.ite (OnlyTells.refl t).warn (OnlyTells.refl t)) rfl hlist hhist

theorem raiseLost (h : t.HasRaised l codes fs) (hc : .settingsLost ∉ codes) (hl : codes.length < Config.faultLimit) :
    t.raiseLost.HasRaised l (.settingsLost :: codes)
      (fs ++ if l.sto.settingsLoad = .defaults ∨ l.sto.countersLoad = .defaults then
        [startWarning l.csq.counter .settingsLost false] else []) := by
  obtain ⟨hlist, hhist⟩ := State.raiseLost_list (h.fresh_code hc) (h.room hl) h.power
  rw [h.tells.csq, h.tells.loads.1, h.tells.loads.2] at hlist
  exact h.snoc (.ite (OnlyTells.refl t).warn.endCondition (OnlyTells.refl t)) rfl hlist hhist

theorem raiseEmpty_det (h : t.HasRaised l codes fs) (hc : .detEmpty ∉ codes) (hl : codes.length < Config.faultLimit) :
    (t.raiseEmpty .det).HasRaised l (.detEmpty :: codes)
      (fs ++ if l.dsc.det.empty = true then [startWarning l.csq.counter .detEmpty true] else []) := by
  rw [← h.tells.dsc]
  exact h.warn hc hl

theorem raiseEmpty_ra (h : t.HasRaised l codes fs) (hc : .raEmpty ∉ codes) (hl : codes.length < Config.faultLimit) :
    (t.raiseEmpty .ra).HasRaised l (.raEmpty :: codes)
      (fs ++ if l.dsc.ra.empty = true then [startWarning l.csq.counter .raEmpty true] else []) := by
  rw [← h.tells.dsc]
  exact h.warn hc hl

theorem raiseExhausted (h : t.HasRaised l codes fs) (hc : .softenerExhausted ∉ codes)
    (hl : codes.length < Config.faultLimit) :
    t.raiseExhausted.HasRaised l (.softenerExhausted :: codes)
      (fs ++ if l.sfc.changeover = .due then [startWarning l.csq.counter .softenerExhausted true] else []) := by
  rw [← h.tells.sfc]
  exact h.warn hc hl

end State.HasRaised

/-- What the loaded values raise at a start, in the order of the raises (log entry 48). -/
def State.startFaults (t : State) : List FaultRec :=
  (if t.dsc.det.empty = true then [startWarning t.csq.counter .detEmpty true] else []) ++
  (if t.dsc.ra.empty = true then [startWarning t.csq.counter .raEmpty true] else []) ++
  (if t.sfc.changeover = .due then [startWarning t.csq.counter .softenerExhausted true] else []) ++
  (if t.sto.settingsLoad = .defaults ∨ t.sto.countersLoad = .defaults then
    [startWarning t.csq.counter .settingsLost false] else [])

theorem State.startUp_faults (s : State) (kind : ResetKind) :
    (s.startUp kind).flu.list = (s.loaded s.startImages.1 s.startImages.2).startFaults ∧
      (s.startUp kind).flu.history = [] := by
  obtain ⟨-, -, -, -, -, -, -, -, hflu, -⟩ := s.loaded_blocks s.startImages.1 s.startImages.2
  obtain ⟨hpower, -, -⟩ := s.loaded_sto s.startImages.1 s.startImages.2
  have hlost : ∀ t : State, t.reportPowerLost.flu = t.flu := fun t => by
    unfold State.reportPowerLost
    split <;> simp
  have h0 : ∀ n : Notice, ((s.loaded s.startImages.1 s.startImages.2).place n).HasRaised
      (s.loaded s.startImages.1 s.startImages.2) [] [] := fun n =>
    { tells := (State.OnlyTells.refl _).place, power := by simpa using hpower, list := by simp [hflu],
      history := by simp [hflu], code := by simp, length := Nat.le_refl _ }
  have h := ((((h0 (.started kind s.startImages.1.2 s.startImages.2.2
    ((s.loaded s.startImages.1 s.startImages.2).val SettingIx.imageTag))).raiseEmpty_det (by decide) (by decide)
    ).raiseEmpty_ra (by decide) (by decide)).raiseExhausted (by decide) (by decide)).raiseLost (by decide) (by decide)
  rw [List.nil_append] at h
  rw [State.startUp_eq, hlost]
  exact ⟨h.list, h.history⟩

theorem mem_ite_singleton {α : Type} {c : Prop} [Decidable c] {x y : α} (h : y ∈ (if c then [x] else [])) : c ∧ y = x := by
  split at h
  · next hc => exact ⟨hc, List.mem_singleton.mp h⟩
  · exact absurd h List.not_mem_nil

/-- Each fault of a start that is present has its condition (R175). -/
theorem State.startFaults_hold {t l : State} (h : t.OnlyTells (l.onCsq fun c => { c with cycleOpen := 0 }))
    (hd : l.sfc.changeover = .due → (l.column l.sfc.serviceCol).capacity = 0) :
    ∀ r ∈ l.startFaults, r.present = true → t.holds r.code r.detail = true := by
  intro r hr hp
  simp only [State.startFaults, List.mem_append] at hr
  rcases hr with ((hr | hr) | hr) | hr <;> obtain ⟨he, rfl⟩ := mem_ite_singleton hr
  · simpa [State.holds, startWarning, h.dsc] using he
  · simpa [State.holds, startWarning, h.dsc] using he
  · simpa [State.holds, startWarning, h.sfc, State.column] using hd he
  · simp [startWarning] at hp

theorem State.startUp_finish_faults (s : State) (kind : ResetKind)
    (hd : (s.loaded s.startImages.1 s.startImages.2).sfc.changeover = .due →
      ((s.loaded s.startImages.1 s.startImages.2).column (s.loaded s.startImages.1 s.startImages.2).sfc.serviceCol).capacity
        = 0) :
    (s.startUp kind).finish.flu.list = (s.loaded s.startImages.1 s.startImages.2).startFaults ∧
      (s.startUp kind).finish.flu.history = [] := by
  have htell := s.startUp_onlyTells kind
  obtain ⟨hlist, hhist⟩ := s.startUp_faults kind
  have hends : (s.startUp kind).reportEnds = s.startUp kind :=
    State.reportEnds_of_holds fun r hr => State.startFaults_hold htell hd r (hlist ▸ hr)
  rw [((s.restarted_fresh _ _).of_onlyTells htell).finish, hends, hends]
  simpa using ⟨hlist, hhist⟩

/-! ### POWER-ON -/

/-- The part whose oscillator has settled, PFW counting as released (log entry 14). -/
def State.settled (s : State) : State := s.onSto fun x => { x with power := .oscillator 0, pfw := false }

theorem exec_oscillatorSettled {s : State} {left : Nat} (h : s.sto.power = .oscillator left) :
    exec .oscillatorSettled s = .next (s.settled.startUp .powerOn).finish := by
  simp [exec, execOscillatorSettled, State.oscillatorLeft, h, State.advance, State.settleOscillator, State.settled,
    State.onSto]

/-- Settles O5: the start leaves the blocks as loaded (`State.startUp_finish_onlyTells`), and the fault list as raised. -/
theorem powerOnRestoresTheStore : Obligations.PowerOnRestoresTheStore := by
  unfold Obligations.PowerOnRestoresTheStore
  intro s left hosc img cnt
  have himg : s.settled.startImages = (img, cnt) := rfl
  have htell := s.settled.startUp_finish_onlyTells .powerOn
  have hflt := s.settled.startUp_finish_faults .powerOn
  refine ⟨_, exec_oscillatorSettled hosc, ?_⟩
  rw [himg] at htell hflt
  clear_value img cnt
  generalize (s.settled.startUp .powerOn).finish = t at htell hflt
  have hpend : s.settled.pending = s.pending := rfl
  generalize s.settled = u at htell hflt hpend
  obtain ⟨hnow, hset, -, hwhu, hcsq, hdvc, hmbi, hmsu, -, hpending⟩ := u.loaded_blocks img cnt
  have hsfc := u.loaded_sfc img cnt
  have hdsc := u.loaded_dsc img cnt
  obtain ⟨hclaims, hforce, hsettling⟩ := u.loaded_lba img cnt
  obtain ⟨hpower, hsl, hcl⟩ := u.loaded_sto img cnt
  have tset : t.settings = (u.loaded img cnt).settings := htell.settings
  have tmsu : t.msu = (u.loaded img cnt).msu := htell.msu
  have tdvc : t.dvc = (u.loaded img cnt).dvc := htell.dvc
  have tsfc : t.sfc = (u.loaded img cnt).sfc := htell.sfc
  have tdsc : t.dsc = (u.loaded img cnt).dsc := htell.dsc
  have tcsq : (u.loaded img cnt).csq.counter = cnt.1.counter := by rw [hcsq]; rfl
  have hk : (u.loaded img cnt).k = t.k := by simp [State.k, State.num, State.val, tset]
  have hcap : (u.loaded img cnt).num SettingIx.columnCapacity = t.num SettingIx.columnCapacity := by
    simp [State.num, State.val, tset]
  have hul : ∀ c, (u.loaded img cnt).ulPerStep c = t.ulPerStep c := fun c => by
    simp [State.ulPerStep, State.caps_congr tset tmsu]
  have hchange : t.sfc.changeover = if (t.column cnt.1.serviceCol).capacity = 0 then .due else .none := by
    rw [tsfc, hsfc, Sfc.derived_changeover]
    simp only [State.column, tsfc, hsfc]
    cases cnt.1.serviceCol <;> rfl
  have hserv : t.sfc.serviceCol = cnt.1.serviceCol := by rw [tsfc, hsfc]; rfl
  have hdue : (u.loaded img cnt).sfc.changeover = .due →
      ((u.loaded img cnt).column (u.loaded img cnt).sfc.serviceCol).capacity = 0 := by
    intro h
    have hcol : (u.loaded img cnt).column (u.loaded img cnt).sfc.serviceCol = t.column cnt.1.serviceCol := by
      simp [State.column, ← tsfc, hserv]
    rw [← tsfc, hchange] at h
    rw [hcol]
    by_contra hne
    simp [hne] at h
  obtain ⟨hlist, hhist⟩ := hflt hdue
  have hdet : t.dsc.det.empty = cnt.1.det.empty := by rw [tdsc, hdsc]; rfl
  have hra : t.dsc.ra.empty = cnt.1.ra.empty := by rw [tdsc, hdsc]; rfl
  refine ⟨tset.trans hset, htell.loads.1.trans hsl, htell.loads.2.trans hcl, htell.power.trans hpower, htell.now.trans hnow,
    htell.whu.trans hwhu, htell.mbi.trans hmbi, ?_, htell.inForce.trans hforce, htell.settling.trans hsettling, fun l => ?_,
    hserv, ?_, ?_, ?_, ?_, ?_, ?_, hchange, ?_, ?_, ?_, ?_, ?_, ?_, ?_, ?_, tdvc.trans hdvc, tmsu.trans hmsu, ?_, hhist,
    htell.pending.trans (hpending.trans hpend)⟩
  · rw [htell.csq, State.restarted, State.onCsq_csq, hcsq]; rfl
  · rw [htell.claimOf]
    exact (u.restarted_fresh img cnt).idle l
  · rw [tdsc, hdsc]; simp [restoreChannel, ChannelRec.restored, State.containerUl, State.num, State.val, hset]
  · rw [tdsc, hdsc]; simp [restoreChannel, ChannelRec.restored, State.containerUl, State.num, State.val, hset]
  · rw [tsfc, hsfc, hcap]; rfl
  · rw [tsfc, hsfc, hcap]; rfl
  · rw [tsfc, hsfc]; rfl
  · rw [tsfc, hsfc, hk]; rfl
  · rw [tdsc, hdsc, hul, hul]; rfl
  · exact hdet
  · rw [tdsc, hdsc, hul, hul]; rfl
  · exact hra
  · rw [tdsc, hdsc]; rfl
  · rw [tdsc, hdsc]; rfl
  · rw [tdsc, hdsc]
  · rw [tdsc, hdsc]
  · rw [hlist, State.startFaults, tcsq, ← tdsc, ← tsfc, hsl, hcl, hdet, hra]
    simp only [startWarning, FaultCode.tableAck]

/-- Two states are the same if every part is. -/
theorem State.eq_of_parts {s t : State} (hnow : s.now = t.now) (hset : s.settings = t.settings) (hplk : s.plk = t.plk)
    (hwhu : s.whu = t.whu) (hcsq : s.csq = t.csq) (hlba : s.lba = t.lba) (hsfc : s.sfc = t.sfc) (hdsc : s.dsc = t.dsc)
    (hdvc : s.dvc = t.dvc) (hmbi : s.mbi = t.mbi) (hmsu : s.msu = t.msu) (hflu : s.flu = t.flu) (hsto : s.sto = t.sto)
    (hpending : s.pending = t.pending) : s = t := by
  cases s
  cases t
  simp_all

section
set_option maxRecDepth 20000

/-- A start with a blank store on its way: the notices placed and the faults raised so far. -/
def blankStart (p : List Instr) (ns : List Notice) (fs : List FaultRec) : State :=
  { State.reset with
    plk := { Plk.cleared with notices := ns }, flu := { list := fs, history := [], overflow := 0 }, pending := p }

/-- A blank store has no image to load: the defaults are taken (R192). -/
theorem State.startImages_blank {s : State} (h : s.sto.nvm = blankNvm) :
    s.startImages = ((defaultImage, .defaults), defaultCounters 2000, .defaults) := by
  rw [State.startImages, h]
  rfl

theorem State.loaded_blank {s : State} (h : s.sto.nvm = blankNvm) (hp : s.sto.pfw = false) :
    s.loaded (defaultImage, .defaults) (defaultCounters 2000, .defaults) = blankStart s.pending [] [] := by
  have hlba : (s.loaded (defaultImage, .defaults) (defaultCounters 2000, .defaults)).lba = Lba.reset 3600 := by
    have hmarks : State.reset.rederiveBreakers.lba = Lba.reset 3600 := by decide
    rw [← hmarks]
    simp only [State.loaded]
    exact State.rederiveBreakers_congr rfl rfl rfl
  obtain ⟨hnow, hset, hplk, hwhu, hcsq, hdvc, hmbi, hmsu, hflu, hpending⟩ :=
    s.loaded_blocks (defaultImage, .defaults) (defaultCounters 2000, .defaults)
  have hsfc := s.loaded_sfc (defaultImage, .defaults) (defaultCounters 2000, .defaults)
  have hdsc := s.loaded_dsc (defaultImage, .defaults) (defaultCounters 2000, .defaults)
  have hsto : (s.loaded (defaultImage, .defaults) (defaultCounters 2000, .defaults)).sto = Sto.reset := by
    simp [State.loaded, h, hp, Sto.reset]
  generalize s.loaded (defaultImage, .defaults) (defaultCounters 2000, .defaults) = t at *
  have hsfc' : t.sfc = Sfc.reset := by
    rw [hsfc]
    simp only [State.num, State.val, State.k, hset]
    rfl
  have hcaps : ∀ k, t.caps k = State.reset.caps k := State.caps_congr hset hmsu
  have hdsc' : t.dsc = Dsc.reset := by
    rw [hdsc]
    simp only [State.containerUl, State.ulPerStep, State.lowU, State.num, State.val, hcaps, hset]
    rfl
  exact State.eq_of_parts hnow hset hplk hwhu hcsq hlba hsfc' hdsc' hdvc hmbi hmsu hflu hsto hpending

/-- The first report of a start with a blank store is STARTED, the rest are of what the store lacks (R192). -/
theorem State.startUp_blank {s : State} (h : s.sto.nvm = blankNvm) (hp : s.sto.pfw = false) :
    s.startUp .powerOn = blankStart s.pending blankStoreNotices blankStoreFaults := by
  have hstarted : ∀ p, (blankStart p [] []).place (.started .powerOn .defaults .defaults
      ((blankStart p [] []).val SettingIx.imageTag)) = blankStart p (blankStoreNotices.take 1) [] := fun _ => rfl
  have hdet : ∀ p, (blankStart p (blankStoreNotices.take 1) []).raiseEmpty .det =
      blankStart p (blankStoreNotices.take 2) (blankStoreFaults.take 1) := fun _ => rfl
  have hra : ∀ p, (blankStart p (blankStoreNotices.take 2) (blankStoreFaults.take 1)).raiseEmpty .ra =
      blankStart p (blankStoreNotices.take 3) (blankStoreFaults.take 2) := fun _ => rfl
  have hexhausted : ∀ p, (blankStart p (blankStoreNotices.take 3) (blankStoreFaults.take 2)).raiseExhausted =
      blankStart p (blankStoreNotices.take 3) (blankStoreFaults.take 2) := fun _ => rfl
  have hlost : ∀ p, (blankStart p (blankStoreNotices.take 3) (blankStoreFaults.take 2)).raiseLost =
      blankStart p blankStoreNotices blankStoreFaults := fun _ => rfl
  have hcycle : ∀ p, (blankStart p blankStoreNotices blankStoreFaults).reportPowerLost =
      blankStart p blankStoreNotices blankStoreFaults := fun _ => rfl
  rw [State.startUp_eq, State.startImages_blank h, State.loaded_blank h hp, hstarted, hdet, hra, hexhausted, hlost, hcycle]

/-- The idle transmitter with no reply to send takes the oldest notice, which carries the gap mark and clears it (R184). -/
theorem State.kickTx_notice {s : State} {n : Notice} {ns : List Notice} (hreset : s.resetDue = false)
    (htx : s.plk.tx = none) (hreply : s.plk.reply = none) (hbusy : s.plk.busy = none) (hn : s.plk.notices = n :: ns) :
    s.kickTx = s.onPlk fun p => { p with tx := some { source := .notice, octets := n.frame p.gap }, gap := false } := by
  simp [State.kickTx, State.chooseTx, hreset, htx, hreply, hbusy, hn]

/-- The event of that start leaves the transmitter sending STARTED (R184). -/
theorem finish_blankStart (p : List Instr) :
    (blankStart p blankStoreNotices blankStoreFaults).finish = { State.reset with pending := p } := by
  have hfresh : (blankStart p blankStoreNotices blankStoreFaults).Fresh :=
    ⟨rfl, rfl, fun a => (by decide : ∀ a, State.reset.linkedAt a = false) a, fun _ => State.Upholds.idle_of_reset (n := 3600), rfl, rfl, by simp [blankStart, State.reset, Sfc.reset],
      rfl, rfl, rfl, rfl⟩
  have hends : (blankStart p blankStoreNotices blankStoreFaults).reportEnds =
      blankStart p blankStoreNotices blankStoreFaults := rfl
  have hframe : (Notice.started .powerOn .defaults .defaults 0).frame false = startedOctets := by decide
  have hsend := State.kickTx_notice (s := blankStart p blankStoreNotices blankStoreFaults) rfl rfl rfl rfl rfl
  rw [hfresh.finish, hends, hends, hsend]
  exact congrArg (fun os => { State.reset with
    plk := { Plk.reset with tx := some { source := .notice, octets := os } }, pending := p }) hframe

end

/-- Settles O4: the start of a blank store evaluates to `State.reset` whatever commands wait. -/
theorem powerOnWithABlankStoreGivesReset : Obligations.PowerOnWithABlankStoreGivesReset := by
  unfold Obligations.PowerOnWithABlankStoreGivesReset
  refine ⟨fun s left hosc hblank => ?_, fun s h => ?_⟩
  · rw [exec_oscillatorSettled hosc, State.startUp_blank (s := s.settled) hblank rfl, finish_blankStart]
    rfl
  · simp [exec, execOscillatorSettled, h]

/-! ### FULL reset -/

/-- Loading two copies, by which of them is later and which pass (R192). -/
theorem loadImage_two {α : Type} (a b : StoreCopy α) (d : α) :
    loadImage (some a) (some b) d =
      if b.seq = (a.seq + 1) % 65536 then
        (if b.good then (b.image, .newest) else if a.good then (a.image, .older) else (d, .defaults))
      else if a.good then (a.image, .newest) else if b.good then (b.image, .older) else (d, .defaults) := by
  by_cases hs : b.seq = (a.seq + 1) % 65536 <;> cases ha : a.good <;> cases hb : b.good <;>
    simp [loadImage, laterCopy, passing, hs, ha, hb]

/-- Loading from one copy alone (R192). -/
theorem loadImage_one {α : Type} (b : StoreCopy α) (d : α) :
    loadImage (some b) none d = (if b.good then (b.image, .newest) else (d, .defaults)) ∧
      loadImage none (some b) d = (if b.good then (b.image, .older) else (d, .defaults)) := by
  cases hb : b.good <;> simp [loadImage, laterCopy, passing, hb]

/-- The copy that a write goes to, of two (R190). -/
theorem writeTarget_two {α : Type} (a b : StoreCopy α) :
    writeTarget (some a) (some b) =
      if a.good && b.good then
        (if b.seq = (a.seq + 1) % 65536 then (false, (b.seq + 1) % 65536) else (true, (a.seq + 1) % 65536))
      else if a.good then (true, (a.seq + 1) % 65536) else if b.good then (false, (b.seq + 1) % 65536)
      else (false, 0) := by
  cases ha : a.good <;> cases hb : b.good
  · simp [writeTarget, newestCopy, ha, hb]
  · simp [writeTarget, newestCopy, ha, hb]
  · simp [writeTarget, newestCopy, ha, hb]
  · by_cases hs : b.seq = (a.seq + 1) % 65536
    · simp [writeTarget, newestCopy, ha, hb, ← hs]
    · have hlater : (b.seq == (a.seq + 1) % 65536) = false := by simpa using hs
      simp [writeTarget, newestCopy, ha, hb, hs, hlater]

/-- The copy that a write goes to where one alone is present (R190). -/
theorem writeTarget_one {α : Type} (b : StoreCopy α) :
    writeTarget (some b) none = (if b.good then (true, (b.seq + 1) % 65536) else (false, 0)) ∧
      writeTarget none (some b) = (if b.good then (false, (b.seq + 1) % 65536) else (false, 0)) := by
  cases hb : b.good <;> simp [writeTarget, newestCopy, hb]

/-- The image just written is the one that a load takes (R190, R192). -/
theorem loadImage_written {α : Type} (c1 c2 : Option (StoreCopy α)) (x d : α) :
    (if (writeTarget c1 c2).1 then loadImage c1 (some { seq := (writeTarget c1 c2).2, good := true, image := x }) d
      else loadImage (some { seq := (writeTarget c1 c2).2, good := true, image := x }) c2 d).1 = x := by
  rcases c1 with _ | a <;> rcases c2 with _ | b
  · simp [writeTarget, newestCopy, loadImage, laterCopy, passing]
  · rw [(writeTarget_one b).2]
    have hne : b.seq ≠ (b.seq + 1 + 1) % 65536 := by omega
    cases hb : b.good
    · simp only [loadImage_two, hb, Bool.false_eq_true, if_false, if_true]
      split <;> rfl
    · simp [loadImage_two, hne]
  · rw [(writeTarget_one a).1]
    cases ha : a.good <;> simp [loadImage_two, loadImage_one]
  · rw [writeTarget_two]
    cases ha : a.good <;> cases hb : b.good
    · simp only [loadImage_two, hb, Bool.and_false, Bool.false_eq_true, if_false, if_true]
      split <;> rfl
    · have hne : b.seq ≠ (b.seq + 1 + 1) % 65536 := by omega
      simp [loadImage_two, hne]
    · simp [loadImage_two]
    · by_cases hs : b.seq = (a.seq + 1) % 65536
      · have hne : b.seq ≠ (b.seq + 1 + 1) % 65536 := by omega
        simp [loadImage_two, ← hs, hne]
      · simp [loadImage_two, hs]

/-- A counters write that has ended holds the counters image (R190). -/
theorem State.startImages_written (s : State) :
    (s.startWrite .counters).endWrite.startImages.1 = s.startImages.1 ∧
      (s.startWrite .counters).endWrite.startImages.2.1 = s.countersImage := by
  have hload := loadImage_written s.sto.nvm.cnt1 s.sto.nvm.cnt2 s.countersImage
    (defaultCounters (s.startImages.1.1.settings.get SettingIx.columnCapacity).toNat)
  cases ht : (writeTarget s.sto.nvm.cnt1 s.sto.nvm.cnt2).1 <;>
    simp only [ht, if_true, if_false, Bool.false_eq_true] at hload <;>
    simp only [State.startImages, State.startWrite, State.endWrite, State.onSto_sto, ht, State.sealCopy, if_true, if_false,
      Bool.false_eq_true, Option.map_some]
  · exact ⟨trivial, hload⟩
  · exact ⟨trivial, hload⟩

/-- What a start keeps of a column: its condition and its count of regenerations (R85). -/
theorem restoreColumn_keeps (cap : Nat) (r : ColumnRec) :
    (restoreColumn cap r).condition = r.condition ∧ (restoreColumn cap r).regens = r.regens := by
  unfold restoreColumn
  split <;> exact ⟨rfl, rfl⟩

theorem State.advance_pfw (s : State) (n : Nat) : (s.advance n).sto.pfw = s.sto.pfw := by
  unfold State.advance
  split <;> simp [State.passWhu, State.passCsq, State.passLba, State.passSfc, State.passDsc, State.passDvc, State.passMbi,
    State.passSto, State.passPlk]

theorem State.endWrite_pfw (s : State) : s.endWrite.sto.pfw = s.sto.pfw := by
  unfold State.endWrite
  split <;> simp

theorem exec_fullResetTaken {s : State} (h : s.on = true) (hd : s.sto.resetReq = .due .full) :
    exec .fullResetTaken s = .next s.fullReset.finish := by
  simp [exec, execFullResetTaken, State.event_on h, State.dueReset, hd]

/-- Settles O7: the image of the counters just written is the one loaded (`loadImage_written`). -/
theorem fullResetKeepsTheCounters : Obligations.FullResetKeepsTheCounters := by
  unfold Obligations.FullResetKeepsTheCounters
  refine ⟨fun s ho hd hw hp => ?_, fun s ho hd => ?_, fun s ho hd hw hp => ?_, fun s i c n ho hd hw hp => ?_⟩
  · have hfull : s.fullReset = ((s.startWrite .counters).endWrite).startUp .full := by
      simp [State.fullReset, State.waitWrite, hw, hp]
    refine ⟨_, exec_fullResetTaken ho hd, ?_⟩
    rw [hfull]
    obtain ⟨himg, hcnt⟩ := s.startImages_written
    generalize (s.startWrite .counters).endWrite = u at himg hcnt ⊢
    have htell := u.startUp_finish_onlyTells .full
    have himg' : s.startImages.1 = loadImage s.sto.nvm.set1 s.sto.nvm.set2 defaultImage := rfl
    rw [himg'] at himg
    generalize (u.startUp .full).finish = t at htell ⊢
    generalize hi : u.startImages.1 = img at himg htell
    generalize hc : u.startImages.2 = cnt at hcnt htell
    rw [← himg]
    obtain ⟨-, hset, -, -, hcsq, -, -, -, -, -⟩ := u.loaded_blocks img cnt
    have hsfc := u.loaded_sfc img cnt
    have hdsc := u.loaded_dsc img cnt
    obtain ⟨hpower, -, -⟩ := u.loaded_sto img cnt
    have tsfc : t.sfc = (u.loaded img cnt).sfc := htell.sfc
    have tdsc : t.dsc = (u.loaded img cnt).dsc := htell.dsc
    have tcsq : t.csq = { (u.loaded img cnt).csq with cycleOpen := 0 } := htell.csq
    have hcolA : t.sfc.colA = restoreColumn ((u.loaded img cnt).num SettingIx.columnCapacity) s.sfc.colA := by
      rw [tsfc, hsfc, hcnt]; rfl
    have hcolB : t.sfc.colB = restoreColumn ((u.loaded img cnt).num SettingIx.columnCapacity) s.sfc.colB := by
      rw [tsfc, hsfc, hcnt]; rfl
    refine ⟨?_, ?_, ?_, ?_, ?_, ?_, ?_, htell.settings.trans hset, ?_, htell.power.trans hpower⟩
    · rw [tcsq, hcsq, hcnt]; rfl
    · rw [tsfc, hsfc, hcnt]; rfl
    · rw [hcolA, (restoreColumn_keeps _ _).1]
    · rw [hcolB, (restoreColumn_keeps _ _).1]
    · rw [hcolA, (restoreColumn_keeps _ _).2]
    · rw [hcolB, (restoreColumn_keeps _ _).2]
    · rw [tdsc, hdsc, hcnt]; rfl
    · rw [tcsq, hcsq]; rfl
  · simp [exec, execFullResetTaken, State.event_on ho, State.dueReset, hd]
  · simp [exec_fullResetTaken ho hd, State.fullReset, State.waitWrite, hw, hp]
  · have hpfw : (s.advance n).endWrite.sto.pfw = false := by rw [State.endWrite_pfw, State.advance_pfw, hp]
    simp [exec_fullResetTaken ho hd, State.fullReset, State.waitWrite, hw, hpfw]

/-! ### SOFT reset -/

/-- A SOFT reset leaves every block at rest (R192). -/
theorem State.softened_fresh (s : State) : s.softened.Fresh where
  whu := rfl
  mbi := rfl
  unlinked a := by
    have hsoft : ∀ (k : Kind) (e : Entry), decide ((softEntry k e).link = .linked) = false := fun k e => by
      unfold softEntry
      dsimp only
      split <;> rfl
    fin_cases a <;> exact hsoft _ _
  idle l := State.Upholds.idle_of_reset (n := s.mains)
  detOrders := rfl
  raOrders := rfl
  changeover := by
    have h := Sfc.derived_changeover (softColumn s.sfc.colA) (softColumn s.sfc.colB) s.sfc.serviceCol s.sfc.acc
    show (Sfc.derived (softColumn s.sfc.colA) (softColumn s.sfc.colB) s.sfc.serviceCol s.sfc.acc).changeover ≠ _
    rw [h]
    split_ifs <;> simp
  bits := rfl
  owed := rfl
  retractHeld := rfl
  power := rfl

/-- After the blocks are reset, a SOFT reset only tells. -/
theorem State.softReset_onlyTells (s : State) : s.softReset.OnlyTells s.softened := by
  have hreset : ∀ {t : State}, t.OnlyTells s.softened → (s.reportReset t).OnlyTells s.softened := fun h => by
    unfold State.reportReset
    split
    · exact h.place.place.saveCounters
    · exact h
  have habort : ∀ {t : State}, t.OnlyTells s.softened → (s.reportAbort t).OnlyTells s.softened := fun h => by
    unfold State.reportAbort
    split
    · exact h.place
    · exact h
  have hdoor : ∀ {t : State}, t.OnlyTells s.softened → (s.reportDoor t).OnlyTells s.softened := fun h => .ite h.place h
  have hlinks : ∀ {t : State}, t.OnlyTells s.softened →
      (allAddrs.foldl (State.reportLink s) t).OnlyTells s.softened := fun h =>
    (State.OnlyTells.foldl (fun _ _ => .ite (.refl _) (State.OnlyTells.refl _).place) _ _).trans h
  have hstock : ∀ {t : State} (c : Channel), t.OnlyTells s.softened → (s.noteStock t c).OnlyTells s.softened :=
    fun _ h => .ite h h.place
  have hwarn : ∀ {t : State} (p : Prop) [Decidable p] (code : FaultCode), t.OnlyTells s.softened →
      (if p then t.warn code 0 else t).OnlyTells s.softened := fun _ _ _ h => .ite h.warn h
  have hunfit : ∀ {t : State}, t.OnlyTells s.softened →
      (allLoads.foldl (State.retellUnfit s) t).OnlyTells s.softened := fun h =>
    (State.OnlyTells.foldl (fun _ _ => .ite (State.OnlyTells.refl _).tellUnfit (.refl _)) _ _).trans h
  exact hunfit (hwarn _ _ (hwarn _ _ (hwarn _ _ (hstock .ra (hstock .det (hlinks (hdoor (habort (hreset
    (State.OnlyTells.refl _).place)))))))))

/-- Settles O8: after the blocks are reset nothing is changed but what is told. -/
theorem softResetKeepsWorkingValues : Obligations.SoftResetKeepsWorkingValues := by
  unfold Obligations.SoftResetKeepsWorkingValues
  refine ⟨fun s ho hd => ⟨s.softReset.finish, ?_, ?_⟩, fun s ho hd => ?_⟩
  · simp [exec, execSoftResetTaken, State.event_on ho, State.dueReset, hd]
  · have htell : s.softReset.finish.OnlyTells s.softened :=
      (s.softened_fresh.of_onlyTells s.softReset_onlyTells).finish_onlyTells.trans s.softReset_onlyTells
    have hsoft : ∀ r : ColumnRec, (State.softColumn r).condition = r.condition ∧ (State.softColumn r).regens = r.regens := fun r => by
      unfold State.softColumn
      split <;> exact ⟨rfl, rfl⟩
    rw [htell.csq, htell.sfc, htell.dsc, htell.mbi]
    refine ⟨htell.settings, rfl, rfl, rfl, rfl, rfl, rfl, (hsoft _).1, (hsoft _).1, (hsoft _).2, (hsoft _).2, rfl, rfl, rfl,
      rfl, rfl, rfl, rfl, rfl, rfl, rfl, fun l => ?_⟩
    rw [htell.claimOf]
    exact s.softened_fresh.idle l
  · simp [exec, execSoftResetTaken, State.event_on ho, State.dueReset, hd]

/-! ### Writes of the store -/

/-- The store while time passes: its timers run down (R190, R194). -/
theorem State.advance_sto {s : State} (ho : s.on = true) (n : Nat) :
    (s.advance n).sto =
      { s.sto with
        write := match s.sto.write with
          | .idle => .idle
          | .writing i c left => .writing i c (left - n)
        settle := s.sto.settle.map fun p => (p.1, p.2 - n)
        wakePulseLeft := runDown n s.sto.wakePulseLeft } := by
  have hplk : ∀ t : State, (t.passPlk n).sto = t.sto := fun _ => rfl
  have hsto : ∀ t u : State, t.sto = u.sto → (t.passSto n).sto = (u.passSto n).sto := fun t u h => by
    simp [State.passSto, h]
  have hpass : ∀ t : State, (((((((t.passWhu n).passCsq n).passLba n).passSfc n).passDsc n).passDvc n).passMbi n).sto =
      t.sto := fun t => by
    simp [State.passWhu, State.passCsq, State.passLba, State.passSfc, State.passDsc, State.passDvc, State.passMbi]
  unfold State.advance
  split
  · next h => simp [State.on, h] at ho
  · next h => simp [State.on, h] at ho
  all_goals exact (hplk _).trans ((hsto _ _ (hpass { s with now := s.now + BitVec.ofNat 32 n })).trans rfl)

/-- The end of a write in progress (R190). -/
theorem exec_storeWriteEnd {s : State} (ho : s.on = true) {i : ImageId} {c : Bool} {left : Nat}
    (h : s.sto.write = .writing i c left) :
    exec .storeWriteEnd s = .next (s.advance left).endWrite.kickStore.finish := by
  have hl : s.writeLeft = some left := by simp [State.writeLeft, h]
  rw [exec, execStoreWriteEnd, hl, State.expire_some ho]
  rfl

/-- Settles O6. -/
theorem storeCopiesAlternateAndTheLaterIsLoaded : Obligations.StoreCopiesAlternateAndTheLaterIsLoaded := by
  unfold Obligations.StoreCopiesAlternateAndTheLaterIsLoaded
  have hcounters : ∀ s : State, s.startWrite .counters =
      (let t := writeTarget s.sto.nvm.cnt1 s.sto.nvm.cnt2;
        let c := some ({ seq := t.2, good := false, image := s.countersImage } : StoreCopy CountersImage);
        { s with
          sto := { s.sto with
            nvm := if t.1 then { s.sto.nvm with cnt2 := c } else { s.sto.nvm with cnt1 := c }
            write := .writing .counters t.1 8, countersMark := false } }) := fun _ => rfl
  refine ⟨⟨fun a b d hs => ⟨fun hb => ?_, fun hb ha => ?_⟩, fun a b d hs => ⟨fun ha => ?_, fun ha hb => ?_⟩,
      fun a b d ha hb => ?_, fun d => rfl⟩,
    ⟨fun s a b h1 h2 ha hb hs => ?_, fun s a b h1 h2 ha hb => ?_, fun s h1 h2 => ?_, fun s c n ho hw => ?_,
      fun s c n ho hw => ?_, fun s hw => ?_⟩,
    fun b d => loadImage_one b d, fun a b d => loadImage_two a b d, hcounters, fun s => rfl,
    fun a b => ⟨writeTarget_two a b, (writeTarget_one a).1, (writeTarget_one b).2⟩,
    fun a b => ⟨writeTarget_two a b, (writeTarget_one a).1, (writeTarget_one b).2⟩⟩
  · rw [loadImage_two, if_pos hs, if_pos hb]
  · rw [loadImage_two, if_pos hs, hb, ha]; rfl
  · rw [loadImage_two, if_neg hs, if_pos ha]
  · rw [loadImage_two, if_neg hs, ha, hb]; rfl
  · rw [loadImage_two, ha, hb]; simp
  · rw [hcounters, h1, h2, writeTarget_two, if_pos hs]
    simp [ha, hb, h2]
  · have ht : writeTarget (some a) (some b) = (true, (a.seq + 1) % 65536) := by
      rw [writeTarget_two]
      rcases hb with hb | hb
      · simp [ha, hb]
      · simp [ha, hb]
    rw [hcounters, h1, h2, ht]
    simp
  · rw [hcounters, h1, h2]
    rfl
  · rw [exec_storeWriteEnd ho hw, State.endWrite, State.advance_sto ho, hw]
    rfl
  · rw [exec_storeWriteEnd ho hw, State.endWrite, State.advance_sto ho, hw]
    rfl
  · simp [exec, execStoreWriteEnd, State.writeLeft, hw, State.expire]

/-! ### PFW and the settle -/

/-- PFW asserted with no settings write in progress: the counters are written at once (R191). -/
theorem State.assertPfw_counters {s : State} (hp : s.sto.pfw = false)
    (hw : ∀ c n, s.sto.write ≠ .writing .settings c n) :
    s.assertPfw = ({ s with sto := { s.sto with pfw := true } } : State).startWrite .counters := by
  unfold State.assertPfw
  rw [if_neg (by simp [hp])]
  split
  · rfl
  · rfl
  · next c n h => exact absurd h (hw c n)

/-- Settles O9. -/
theorem pfwWritesTheCountersAtOnce : Obligations.PfwWritesTheCountersAtOnce := by
  unfold Obligations.PfwWritesTheCountersAtOnce
  have hassert : ∀ s : State, s.on = true → exec .pfwAssert s = .next s.assertPfw.finish := fun s ho =>
    congrArg Host.Outcome.next (State.event_on ho _)
  have hrelease : ∀ s : State, s.on = true → exec .pfwRelease s = .next s.releasePfw.finish := fun s ho =>
    congrArg Host.Outcome.next (State.event_on ho _)
  refine ⟨fun s ho hp hw => ?_, fun s c n ho hp hw => ?_, fun s ho hp => ?_, fun s ho hw hr => ?_, fun s ho hw hr => ?_,
    fun s i c n ho hw => ?_⟩
  · rw [hassert s ho, State.assertPfw_counters hp hw]
  · rw [hassert s ho]
    simp [State.assertPfw, hp, hw, State.abandonSettings, State.onSto]
  · rw [hassert s ho]
    simp [State.assertPfw, hp]
  · rw [hrelease s ho]
    by_cases hc : s.sto.countersMark = true <;> by_cases hm : s.sto.settingsMark = true <;>
      simp [State.releasePfw, State.kickStore, State.onSto, hw, hr, hc, hm]
  · rw [hrelease s ho]
    simp [State.releasePfw, State.kickStore, State.onSto, hr]
  · rw [hrelease s ho]
    simp [State.releasePfw, State.kickStore, State.onSto, hw]

/-- Settles O10. -/
theorem wakeSettlesThenServesTheHeldRequests : Obligations.WakeSettlesThenServesTheHeldRequests := by
  unfold Obligations.WakeSettlesThenServesTheHeldRequests
  refine ⟨fun s cause left ho h => ?_, fun s left ho h => ?_, fun s h => ?_, fun s h => ?_⟩
  · have hleft : s.settleLeft = some left := by simp [State.settleLeft, h]
    have hheld : (s.advance left).sto.held = s.sto.held := by rw [State.advance_sto ho]
    have hcause : (s.advance left).settleCause = cause := by simp [State.settleCause, State.advance_sto ho, h]
    rw [exec, execSettleEnd, hleft, State.expire_some ho]
    simp only [State.endSettle, hheld, hcause]
    rfl
  · simp [exec, execWakePulseEnd, h, State.expire_some ho, State.onSto]
  · simp [exec, execSettleEnd, State.settleLeft, h, State.expire]
  · simp [exec, execWakePulseEnd, h, State.expire]

end Sys2Proof.Machine
end

section
-- The proofs are elaborated one after the other: each of the many threads of a parallel run holds a stack of its own.
set_option Elab.async false
/-! PROOFS. The Panel Link: frames read back (O13, O14), octets assembled (O15, O16), requests turned away or held (O11, O12),
the transmitter and the queues (O17, O18), and the requests of the settings and the reports (O19, O20). -/

namespace Sys2Proof.Machine

open Sys2Proof

/-! ### Reading back what is written (R186) -/

/-- A number of two octets is read back. -/
theorem d2_octets {n : Nat} (h : n < 65536) : d2 (BitVec.ofNat 8 (n / 256)) (BitVec.ofNat 8 n) = n := by
  simp only [d2, BitVec.toNat_ofNat]
  omega

/-- A word is read back. -/
theorem wordOf_octets (v : BitVec 16) :
    wordOf (BitVec.ofNat 8 (v.toNat / 256)) (BitVec.ofNat 8 v.toNat) = v := by
  rw [wordOf, d2_octets v.isLt, BitVec.ofNat_toNat, BitVec.setWidth_eq]

/-- A value is read back. -/
theorem d4_octets (v : BitVec 32) :
    d4 (BitVec.ofNat 8 (v.toNat / 65536 / 256)) (BitVec.ofNat 8 (v.toNat / 65536)) (BitVec.ofNat 8 (v.toNat / 256))
      (BitVec.ofNat 8 v.toNat) = v := by
  have hv := v.isLt
  have hlow : d2 (BitVec.ofNat 8 (v.toNat / 256)) (BitVec.ofNat 8 v.toNat) = v.toNat % 65536 := by
    simp only [d2, BitVec.toNat_ofNat]
    omega
  have hsum : v.toNat / 65536 * 65536 + v.toNat % 65536 = v.toNat := by omega
  rw [d4, d2_octets (by omega), hlow, hsum, BitVec.ofNat_toNat, BitVec.setWidth_eq]

/-- A temperature is read back. -/
theorem dTemp_octets {t : Int} (h : fitsTemp t = true) :
    dTemp (BitVec.ofNat 8 ((BitVec.ofInt 16 t).toNat / 256)) (BitVec.ofNat 8 (BitVec.ofInt 16 t).toNat) = t := by
  simp only [fitsTemp, Bool.and_eq_true, decide_eq_true_eq] at h
  rw [dTemp, d2_octets (BitVec.isLt _), BitVec.ofNat_toNat, BitVec.setWidth_eq, BitVec.toInt_ofInt]
  rw [Int.bmod_def]
  omega

/-- A number of one octet is read back. -/
theorem octet_toNat {n : Nat} (h : n < 256) : (BitVec.ofNat 8 n).toNat = n := by
  simp only [BitVec.toNat_ofNat]
  omega

/-- A recipe is read back. -/
theorem readRecipe_octets {r : Recipe} (h : r.fits = true) : readRecipe (recipeOctets r) = some r := by
  simp only [Recipe.fits, Bool.and_eq_true, decide_eq_true_eq] at h
  obtain ⟨⟨⟨⟨⟨⟨⟨⟨hw, ht⟩, hr⟩, hml⟩, hp⟩, hd⟩, hv⟩, hs⟩, ho⟩ := h
  simp only [recipeOctets, e2, eTemp, e1, List.cons_append, List.nil_append, readRecipe, d2_octets hw, dTemp_octets ht,
    dTemp_octets hr, d2_octets hml, d2_octets hp, octet_toNat hd, octet_toNat hv, d2_octets hs, octet_toNat ho]

/-- A KIND outside the catalogue is refused (R183). -/
theorem State.parse_unknown {s : State} {f : ReqFrame} (h : !inCatalogue f.kind) : s.parse f = .refused .unknownKind := by
  have hout : f.kind.toNat = 0 ∨ 20 < f.kind.toNat := by
    simp only [inCatalogue, Bool.not_eq_true', Bool.and_eq_false_iff, decide_eq_false_iff_not] at h
    omega
  unfold State.parse
  split
  case h_21 => rfl
  all_goals omega

/-- What reading a request's frame gives (R183, R186): the request, or the refusal of its form. -/
theorem parse_encode {i : Instr} {f : ReqFrame} (s : State) (hw : WellFormed i = true) (he : encodeRequest i = some f) :
    s.parse f = match s.formOf i with
      | none => .good i
      | some st => .refused st := by
  cases i with
  | set tag n v =>
    obtain rfl := Option.some.inj he
    exact congrArg (fun v => Parsed.good (.set tag n v)) (d4_octets v)
  | recipeSet tag n r =>
    obtain rfl := Option.some.inj he
    simp [State.parse, State.formOf, readRecipe_octets hw]
  | doseManual tag c v =>
    obtain rfl := Option.some.inj he
    exact congrArg (fun v => Parsed.good (.doseManual tag c v)) (wordOf_octets v)
  | dosePrime tag c v =>
    obtain rfl := Option.some.inj he
    exact congrArg (fun v => Parsed.good (.dosePrime tag c v)) (wordOf_octets v)
  | stock tag c v =>
    obtain rfl := Option.some.inj he
    exact congrArg (fun v => Parsed.good (.stock tag c v)) (wordOf_octets v)
  | modulePin tag a fields =>
    obtain rfl := Option.some.inj he
    by_cases hl : fields.length = s.pinLength a <;> simp [State.parse, State.readModule, State.formOf, hl]
  | unknownKind tag kind =>
    obtain rfl := Option.some.inj he
    exact State.parse_unknown hw
  | ident | status | get | recipeGet | run | cancelPending | cancelActive | cancelAll | prepare | drain | regen | doorOpen
  | doorRetract | faults | ackFault | ackFaultAll | moduleRead | moduleUnpin | moduleClearCounters | moduleBusReset | save
  | resetSoft | resetFull | sleep =>
    obtain rfl := Option.some.inj he
    rfl
  | _ => exact absurd he (Option.some_ne_none f).symm

/-- Settles O14. -/
theorem parseInvertsEncode : Obligations.ParseInvertsEncode := by
  unfold Obligations.ParseInvertsEncode
  intro i f s hw he hunknown hpin
  have hform : s.formOf i = none := by
    unfold State.formOf
    split
    · next tag a fields => exact if_pos (hpin tag a fields rfl)
    · next tag kind => exact absurd rfl (hunknown tag kind)
    · rfl
  rw [parse_encode s hw he, hform]

/-! ### Requests taken, held and turned away (R183, R194) -/

/-- A wake changes no setting, so that the form of a request stays what it was. -/
theorem State.formOf_wake (s : State) (cause : StandbyCause) (i : Instr) : (s.wake cause).formOf i = s.formOf i := by
  have hkind : ∀ a, (s.wake cause).kindAt a = s.kindAt a := fun a => by simp [State.kindAt, State.num, State.val]
  have hpin : ∀ a, (s.wake cause).pinLength a = s.pinLength a := fun a => by simp only [State.pinLength, hkind]
  unfold State.formOf
  split
  · rw [hpin]
  · rfl
  · rfl

/-- A request is answered as its frame is. -/
theorem State.answerFrame_encode {i : Instr} {f : ReqFrame} (s : State) (hw : WellFormed i = true)
    (he : encodeRequest i = some f) : s.answerFrame f = s.answer f (s.formOf i) (serveOf i) := by
  rw [State.answerFrame, parse_encode s hw he]
  cases s.formOf i with
  | none => rfl
  | some st => simp [State.answer]

/-- Settles O13: a request's frame is read back as the request (`parse_encode`). -/
theorem goodFrameTakesTheCommandsMeaning : Obligations.GoodFrameTakesTheCommandsMeaning := by
  unfold Obligations.GoodFrameTakesTheCommandsMeaning
  intro i f s hw he ho
  rw [exec_request he, State.request, State.event_on ho]
  simp only [State.takeFrame, State.answerFrame_encode _ hw he, State.formOf_wake]

/-- A request that finds a settle in progress is held. -/
theorem State.request_settling {s : State} (ho : s.on = true) (hs : s.sto.settle.isSome = true) (f : ReqFrame)
    (form : Option Status) (serve : State → Answer) : s.request f form serve = (s.hold f).finish := by
  have hw : s.wake .octet = s := by
    have hn : s.sto.settle ≠ none := Option.isSome_iff_ne_none.mp hs
    simp [State.wake, hn]
  simp [State.request, State.event_on ho, hw, hs]

/-- Settles O12. -/
theorem requestsInStandbyAreHeld : Obligations.RequestsInStandbyAreHeld := by
  unfold Obligations.RequestsInStandbyAreHeld
  refine ⟨fun i f s he hp hn => ?_, fun i f s he ho hs => ?_⟩
  · have ho : s.on = true := by simp [State.on, hp]
    rw [exec_request he, State.request, State.event_on ho]
    simp [State.wake, hp, hn, State.hold, State.onSto, State.wakes]
  · rw [exec_request he, State.request_settling ho hs]
    rfl

/-- A request at an awake part is answered in its own event. -/
theorem State.request_awake {s : State} (ha : s.awake = true) (f : ReqFrame) (form : Option Status)
    (serve : State → Answer) : s.request f form serve = (s.answer f form serve).finish := by
  have hs : s.sto.settle = none := by
    simp only [State.awake, Bool.and_eq_true, Option.isNone_iff_eq_none] at ha
    exact ha.2
  simp [State.request, State.event_on (State.on_of_awake ha), State.wake_of_awake ha, hs]

/-- A part that takes a request is awake, and its reply slot is empty. -/
theorem State.takes_iff {s : State} : s.takes = true ↔ s.awake = true ∧ s.plk.reply = none := by
  simp [State.takes]

/-- A request whose form is refused is answered with the refusal, in a LOCKOUT too (R183). -/
theorem exec_refused {i : Instr} {f : ReqFrame} {s : State} {st : Status} (ht : s.takes = true)
    (he : encodeRequest i = some f) (hf : s.formOf i = some st) :
    exec i s = .next (s.reply f.kind f.tag st []).finish := by
  obtain ⟨ha, hr⟩ := State.takes_iff.mp ht
  rw [exec_request he, hf, State.request_awake ha]
  simp [State.answer, hr]

/-- Settles O11. -/
theorem requestsAreTurnedAway : Obligations.RequestsAreTurnedAway := by
  unfold Obligations.RequestsAreTurnedAway
  refine ⟨fun i f s he ha hr => ?_, fun tag kind s ht => exec_refused (f := { kind := kind, tag := tag, body := [] }) ht rfl rfl,
    fun tag a fields s ht hl => exec_refused
      (f := { kind := 0x11#8, tag := tag, body := 1#8 :: a :: fields }) ht rfl (if_neg hl), fun i f s he ht hl hx hunknown hpin => ?_⟩
  · rw [exec_request he, State.request_awake ha]
    unfold State.answer
    rw [if_pos hr, State.turnAway]
    split <;> rfl
  · have hform : s.formOf i = none := by
      unfold State.formOf
      split
      · next tag a fields => exact if_pos (hpin tag a fields rfl)
      · next tag kind => exact absurd rfl (hunknown tag kind)
      · rfl
    rw [exec_request he, hform, State.request_locked ht hl hx]

/-! ### Octets (R182) -/

/-- An octet at an awake part wakes nothing. -/
theorem State.receive_awake {s : State} (ha : s.awake = true) (o : Octet) (stop ovr : Bool) :
    s.receive o stop ovr = s.assembleOctet o stop ovr := by
  rw [State.receive, State.wake_of_awake ha]

theorem exec_octet {s : State} (ho : s.on = true) (o : Octet) (stop ovr : Bool) :
    exec (.panelOctetReceived o stop ovr) s = .next (s.receive o stop ovr).finish :=
  congrArg Host.Outcome.next (State.event_on ho _)

/-- In HUNT a faulty octet, or any but START, is not a frame's. -/
theorem State.assembleOctet_hunt {s : State} (hr : s.plk.rx = .hunt) {o : Octet} {stop ovr : Bool}
    (h : o ≠ 0xC3#8 ∨ stop = false ∨ ovr = true) : s.assembleOctet o stop ovr = s := by
  have hn : ¬ (o = 0xC3#8 ∧ stop = true ∧ ovr = false) := by
    rintro ⟨rfl, rfl, rfl⟩
    simp at h
  simp [State.assembleOctet, hr, hn]

/-- A frame discarded: HUNT, and a link error counted. -/
theorem State.discard_eq (s : State) :
    s.discard = { s with plk := { s.plk with rx := .hunt, linkErrors := min 65535 (s.plk.linkErrors + 1) } } := rfl

/-- Time passing counts no link error. -/
theorem State.advance_linkErrors {s : State} (ho : s.on = true) (n : Nat) :
    (s.advance n).plk.linkErrors = s.plk.linkErrors := by
  have hpass : ∀ t : State, ((((((((t.passWhu n).passCsq n).passLba n).passSfc n).passDsc n).passDvc n).passMbi n).passSto
      n).plk = t.plk := fun t => by
    simp [State.passWhu, State.passCsq, State.passLba, State.passSfc, State.passDsc, State.passDvc, State.passMbi,
      State.passSto]
  unfold State.advance
  split
  · next h => simp [State.on, h] at ho
  · next h => simp [State.on, h] at ho
  all_goals
    have h := hpass { s with now := s.now + BitVec.ofNat 32 n }
    simp only [State.passPlk, State.onPlk_plk, h]

/-- Settles O16. -/
theorem octetsStartAndDiscardFrames : Obligations.OctetsStartAndDiscardFrames := by
  unfold Obligations.OctetsStartAndDiscardFrames
  refine ⟨fun s ha hr => ?_, fun o stop ovr s ha hr h => ?_, fun o left s ha hr h2 h122 => ?_, fun o left s ha hr h => ?_,
    fun o stop ovr os left s ha hr h => ?_, fun os left s ho hr => ?_, fun s hr => ?_, fun s hp hn hr => ?_⟩
  · rw [exec_octet (State.on_of_awake ha), State.receive_awake ha]
    simp [State.assembleOctet, hr, State.onPlk, State.gapMs]
  · rw [exec_octet (State.on_of_awake ha), State.receive_awake ha, State.assembleOctet_hunt hr h]
  · rw [exec_octet (State.on_of_awake ha), State.receive_awake ha]
    simp [State.assembleOctet, hr, State.frameOctet, h2, h122, State.onPlk, State.gapMs]
  · have hn : ¬ (2 ≤ o.toNat ∧ o.toNat ≤ 122) := by omega
    rw [exec_octet (State.on_of_awake ha), State.receive_awake ha]
    simp only [State.assembleOctet, hr, State.frameOctet, hn, if_false, State.discard_eq, Bool.not_false, Bool.and_self,
      if_true]
  · have hn : (stop && !ovr) = false := by
      rcases h with rfl | rfl <;> simp
    rw [exec_octet (State.on_of_awake ha), State.receive_awake ha]
    simp only [State.assembleOctet, hr, hn, State.discard_eq, Bool.false_eq_true, if_false]
  · have hl : s.gapLeft = some left := by simp [State.gapLeft, hr]
    rw [exec, execOctetGapTimeout, hl, State.expire_some ho, State.discard_eq, State.advance_linkErrors ho]
  · have hl : s.gapLeft = none := by simp [State.gapLeft, hr]
    rw [exec, execOctetGapTimeout, hl, State.expire_none]
  · have ho : s.on = true := by simp [State.on, hp]
    rw [exec_octet ho]
    simp [State.receive, State.wake, hp, hn, State.assembleOctet, hr, State.onPlk, State.onSto, State.wakes, State.gapMs]

/-! ### A frame octet by octet (R182) -/

/-- A part in the middle of a frame. -/
def State.assembling (s : State) (os : List Octet) : State := s.onPlk fun p => { p with rx := .assemble os State.gapMs }

/-- An octet that does not complete the frame is kept. -/
theorem State.receive_assembling {s : State} (ha : s.awake = true) {len : Octet} {os : List Octet} (o : Octet)
    (h : os.length + 2 < len.toNat + 3) :
    (s.assembling (len :: os)).receive o true false = s.assembling (len :: os ++ [o]) := by
  have ha' : (s.assembling (len :: os)).awake = true := ha
  have hne : ¬ (len :: os).length + 1 = len.toNat + 3 := by simp only [List.length_cons]; omega
  rw [State.receive_awake ha']
  simp only [State.assembleOctet, State.assembling, State.onPlk_plk, Bool.not_false, Bool.and_self, if_true, State.frameOctet,
    if_neg hne]
  rfl

/-- Octets that do not complete the frame are kept. -/
theorem State.foldl_receive_assembling {s : State} (ha : s.awake = true) {len : Octet} (xs : List Octet) :
    ∀ os : List Octet, os.length + xs.length + 1 < len.toNat + 3 →
      xs.foldl (fun t o => t.receive o true false) (s.assembling (len :: os)) = s.assembling (len :: os ++ xs) := by
  induction xs with
  | nil => intro os _; simp
  | cons x xs ih =>
    intro os h
    rw [List.length_cons] at h
    have hstep := s.receive_assembling ha (len := len) (os := os) x (by omega)
    have hrest := ih (os ++ [x]) (by simp only [List.length_append, List.length_singleton]; omega)
    rw [List.foldl_cons, hstep]
    simpa using hrest

/-- The last octet completes the frame. -/
theorem State.receive_last {s : State} (ha : s.awake = true) {len : Octet} {os : List Octet} (o : Octet)
    (h : os.length + 2 = len.toNat + 3) :
    (s.assembling (len :: os)).receive o true false = (s.assembling (len :: os)).completeFrame (len :: os ++ [o]) := by
  have ha' : (s.assembling (len :: os)).awake = true := ha
  have he : (len :: os).length + 1 = len.toNat + 3 := by simp only [List.length_cons]; omega
  rw [State.receive_awake ha']
  simp only [State.assembleOctet, State.assembling, State.onPlk_plk, Bool.not_false, Bool.and_self, if_true, State.frameOctet,
    if_pos he]

/-- START and LEN open a frame. -/
theorem State.receive_start {s : State} (ha : s.awake = true) (hr : s.plk.rx = .hunt) {len : Octet} (h2 : 2 ≤ len.toNat)
    (h122 : len.toNat ≤ 122) :
    (s.receive 0xC3#8 true false).receive len true false = s.assembling [len] := by
  have hstart : s.receive 0xC3#8 true false = s.assembling [] := by
    rw [State.receive_awake ha]
    simp [State.assembleOctet, hr, State.assembling]
  have ha' : (s.assembling []).awake = true := ha
  rw [hstart, State.receive_awake ha']
  simp only [State.assembleOctet, State.assembling, State.onPlk_plk, Bool.not_false, Bool.and_self, if_true, State.frameOctet,
    h2, h122]
  rfl

/-- A frame up to its last octet. -/
theorem State.foldl_receive_frame {s : State} (ha : s.awake = true) (hr : s.plk.rx = .hunt) {len : Octet} {os : List Octet}
    (h2 : 2 ≤ len.toNat) (h122 : len.toNat ≤ 122) (hl : os.length + 1 = len.toNat + 2) (o : Octet) :
    ((0xC3#8 :: len :: os) ++ [o]).foldl (fun t o => t.receive o true false) s =
      (s.assembling (len :: os)).completeFrame (len :: os ++ [o]) := by
  have hbody := State.foldl_receive_assembling ha (len := len) os [] (by simp; omega)
  have hstart := State.receive_start ha hr h2 h122
  simp only [List.foldl_append, List.foldl_cons, List.foldl_nil, hstart, hbody]
  exact State.receive_last (os := os) ha o (by omega)

/-- The octets of a frame that its check covers (R181). -/
def ReqFrame.covered (f : ReqFrame) : List Octet := BitVec.ofNat 8 (f.body.length + 2) :: f.kind :: f.tag :: f.body

/-- The two octets of a frame's check (R181). -/
def ReqFrame.check (f : ReqFrame) : Octet × Octet :=
  (BitVec.ofNat 8 (crc16 f.covered / 256), BitVec.ofNat 8 (crc16 f.covered))

theorem panelFrame_eq (f : ReqFrame) :
    panelFrame f.kind f.tag f.body = 0xC3#8 :: f.covered ++ [f.check.1] ++ [f.check.2] := by
  simp [panelFrame, ReqFrame.covered, ReqFrame.check, e2]

/-- The octets of a frame are read as its request exactly if its check matches. -/
theorem goodFrame_covered {f : ReqFrame} (hb : f.body.length ≤ 120) (a b : Octet) :
    State.goodFrame (f.covered ++ [a] ++ [b]) = if a = f.check.1 ∧ b = f.check.2 then some f else none := by
  have hlen : (BitVec.ofNat 8 (f.body.length + 2)).toNat - 2 = f.body.length := by
    rw [octet_toNat (by omega)]
    omega
  have htake : (f.body ++ [a] ++ [b]).take f.body.length = f.body := by simp
  have hdrop : (f.body ++ [a] ++ [b]).drop f.body.length = [a, b] := by simp
  have hcheck : [a, b] = e2 (crc16 f.covered) ↔ a = f.check.1 ∧ b = f.check.2 := by
    simp [e2, ReqFrame.check]
  rw [← if_congr hcheck rfl rfl]
  simp only [State.goodFrame, ReqFrame.covered, List.cons_append, hlen, htake, hdrop]
  rfl

/-- The octets of a frame with any last octet, at a part in HUNT. -/
theorem State.foldl_receive_covered {s : State} {f : ReqFrame} (ha : s.awake = true) (hr : s.plk.rx = .hunt)
    (hb : f.body.length ≤ 120) (x : Octet) :
    (0xC3#8 :: f.covered ++ [f.check.1] ++ [x]).foldl (fun t o => t.receive o true false) s =
      (s.assembling (f.covered ++ [f.check.1])).completeFrame (f.covered ++ [f.check.1] ++ [x]) := by
  have hlen : (BitVec.ofNat 8 (f.body.length + 2)).toNat = f.body.length + 2 := octet_toNat (by omega)
  have hos : (f.kind :: f.tag :: f.body ++ [f.check.1]).length + 1 = f.body.length + 2 + 2 := by simp
  exact State.foldl_receive_frame (os := f.kind :: f.tag :: f.body ++ [f.check.1]) ha hr (by omega) (by omega) (by omega) x

/-- Leaving the frame for HUNT gives back the part as it was. -/
theorem State.hunt_assembling {s : State} (hr : s.plk.rx = .hunt) (os : List Octet) :
    ((s.assembling os).onPlk fun p => { p with rx := .hunt }) = s := by
  have hp : { s.plk with rx := .hunt } = s.plk := by rw [← hr]
  rw [State.assembling, State.onPlk_onPlk, State.onPlk]
  exact congrArg (fun p => { s with plk := p }) hp

/-- Settles O15: the octets are kept until the last, which completes the frame. -/
theorem octetsOfAFrameAreTaken : Obligations.OctetsOfAFrameAreTaken := by
  unfold Obligations.OctetsOfAFrameAreTaken
  refine ⟨fun s f ha hr hb => ?_, fun s f x ha hr hb hx => ?_⟩
  · rw [panelFrame_eq, State.foldl_receive_covered ha hr hb, State.completeFrame, goodFrame_covered hb, if_pos ⟨rfl, rfl⟩]
    exact congrArg (State.takeFrame · f) (State.hunt_assembling hr _)
  · have hne : ¬ (f.check.1 = f.check.1 ∧ x = f.check.2) := fun h => hx (by rw [panelFrame_eq, h.2, List.getLast?_concat])
    rw [panelFrame_eq, List.dropLast_concat, State.foldl_receive_covered ha hr hb, State.completeFrame, goodFrame_covered hb,
      if_neg hne]
    exact congrArg State.linkError (State.hunt_assembling hr _)

/-! ### The transmitter and the queues (R184, R185, R154) -/

theorem exec_transmitDone {s : State} (ho : s.on = true) : exec .transmitDone s = .next s.sendEnds.finish :=
  congrArg Host.Outcome.next (State.event_on ho _)

/-- Settles O17. -/
theorem transmitterEmptiesItsSlotAndChooses : Obligations.TransmitterEmptiesItsSlotAndChooses := by
  unfold Obligations.TransmitterEmptiesItsSlotAndChooses
  refine ⟨⟨fun os s ho h => ?_, fun os s ho h => ?_, fun os s ho h => ?_, fun os s ho h => ?_, fun s ho h => ?_⟩,
    fun s r hd ht hr => ?_, fun s kind tag hd ht hr hb => ?_, fun s n rest hd ht hr hb hn => ?_, fun s t ht => ?_,
    fun s hd => ?_⟩
  · rw [exec_transmitDone ho, State.sendEnds, h]
    rfl
  · rw [exec_transmitDone ho, State.sendEnds, h]
    rfl
  · rw [exec_transmitDone ho, State.sendEnds, h]
    rfl
  · rw [exec_transmitDone ho, State.sendEnds, h]
    rfl
  · rw [exec_transmitDone ho, State.sendEnds, h]
  · simp [State.kickTx, hd, State.chooseTx, ht, hr, State.onPlk]
  · simp [State.kickTx, hd, State.chooseTx, ht, hr, hb, State.onPlk]
  · rw [State.kickTx_notice hd ht hr hb hn]
    rfl
  · simp [State.kickTx, State.chooseTx, ht]
  · simp [State.kickTx, hd]

/-- A message that an IDLE channel may take (R154). -/
theorem State.eligible_iff {s : State} {m : DownMsg} :
    s.eligible m = true ↔ (s.entry m.dest).link = .linked ∨ m.body = .capsQuery := by
  simp [State.eligible, State.linkedAt]

theorem State.not_eligible_iff {s : State} {m : DownMsg} :
    s.eligible m = false ↔ (s.entry m.dest).link ≠ .linked ∧ m.body ≠ .capsQuery := by
  rw [← Bool.not_eq_true, State.eligible_iff, not_or]

/-- A queue with nothing to take is left. -/
theorem markFirst_none {p : DownMsg → Bool} {ms : List DownMsg} (h : ∀ m ∈ ms, p m = false) : markFirst p ms = none := by
  induction ms with
  | nil => rfl
  | cons m ms ih =>
    simp [markFirst, h m (List.mem_cons_self ..), ih fun x hx => h x (List.mem_cons_of_mem _ hx)]

/-- The oldest message to take is marked. -/
theorem markFirst_append {p : DownMsg → Bool} {xs ys : List DownMsg} {m : DownMsg} (h : ∀ x ∈ xs, p x = false)
    (hm : p m = true) : markFirst p (xs ++ m :: ys) = some (xs ++ { m with sending := true } :: ys) := by
  induction xs with
  | nil => simp [markFirst, hm]
  | cons x xs ih =>
    simp [markFirst, h x (List.mem_cons_self ..), ih fun y hy => h y (List.mem_cons_of_mem _ hy)]

/-- A channel that is not IDLE, or has nothing to take, stays. -/
theorem State.choose_stays {s : State} (h : s.mbi.down.phase ≠ .idle ∨ ∀ m ∈ s.mbi.queue, s.eligible m = false) :
    s.choose = s := by
  unfold State.choose
  split
  · next hi =>
    rcases h with h | h
    · exact absurd hi h
    · rw [markFirst_none h]
  · rfl

/-- An IDLE channel takes the oldest message that it may (R150, R154). -/
theorem State.choose_takes {s : State} {xs ys : List DownMsg} {m : DownMsg} (hi : s.mbi.down.phase = .idle)
    (hq : s.mbi.queue = xs ++ m :: ys) (hx : ∀ x ∈ xs, s.eligible x = false) (hm : s.eligible m = true) :
    s.choose = s.onMbi fun b =>
      { b with queue := xs ++ { m with sending := true } :: ys, down := { DownChan.reset with phase := .prepare } } := by
  rw [State.choose, if_pos hi, hq, markFirst_append hx hm]

/-- A message at the tail of the queue. -/
def State.withMsg (s : State) (m : DownMsg) : State := s.onMbi fun b => { b with queue := b.queue ++ [m] }

theorem State.enqueue_withMsg {s : State} (h : s.mbi.queue.length < Config.queueLimit) (a : Addr) (b : DownBody)
    (e : Enqueuer) :
    s.enqueue a b e = ((s.withMsg { dest := a, body := b, source := e, sending := false }).choose, true) :=
  State.enqueue_taken h a b e

/-- Settles O18. -/
theorem fullQueuesRefuse : Obligations.FullQueuesRefuse := by
  unfold Obligations.FullQueuesRefuse
  refine ⟨fun s n h => if_neg (Nat.not_lt.mpr h), fun s n h => if_pos h,
    fun s a b e h => State.enqueue_refused (Nat.not_lt.mpr h) a b e, fun s a b e h hp => ?_, fun s a b e h => ?_,
    fun s h => ?_, fun s xs ys m hp hq hx hm => ?_, fun s a b e h hp hq hm => ?_⟩
  · rw [State.enqueue_withMsg h, State.choose_stays (s := s.withMsg _) (.inl hp)]
    rfl
  · rw [State.enqueue_withMsg h]
    rfl
  · exact State.choose_stays (h.imp_right fun h m hm => State.not_eligible_iff.mpr (h m hm))
  · exact State.choose_takes hp hq (fun x hxs => State.not_eligible_iff.mpr (hx x hxs)) (State.eligible_iff.mpr hm)
  · rw [State.enqueue_withMsg h, State.choose_takes (s := s.withMsg { dest := a, body := b, source := e, sending := false })
      hp rfl (fun x hx => State.not_eligible_iff.mpr (hq x hx)) (State.eligible_iff.mpr hm)]
    rfl

/-! ### Requests answered by their owners (R183) -/

/-- A request that the part hands to its owner: the owner's answer, placed as the reply. -/
theorem exec_serves {i : Instr} {s t : State} {kind tag : Octet} {body fields : List Octet} {st : Status}
    (hs : s.serves = true) (hb : requestBody i = some (kind, tag, body)) (hf : s.formOf i = none)
    (h : serveOf i s = (t, st, fields)) : exec i s = .next (t.reply kind tag st fields).finish := by
  have he : encodeRequest i = some { kind := kind, tag := tag, body := body } := by simp [encodeRequest, hb]
  rw [exec_request he, hf, State.request_serves hs, h]

/-- A request of an exempt KIND is handed to its owner in a LOCKOUT too. -/
theorem exec_takes {i : Instr} {s t : State} {kind tag : Octet} {body fields : List Octet} {st : Status}
    (ht : s.takes = true) (hb : requestBody i = some (kind, tag, body)) (hx : State.exempt kind = true)
    (hf : s.formOf i = none) (h : serveOf i s = (t, st, fields)) :
    exec i s = .next (t.reply kind tag st fields).finish := by
  obtain ⟨ha, hr⟩ := State.takes_iff.mp ht
  have he : encodeRequest i = some { kind := kind, tag := tag, body := body } := by simp [encodeRequest, hb]
  rw [exec_request he, hf, State.request_awake ha]
  simp [State.answer, hr, hx, h]

/-- The place of a setting by its number. -/
theorem settingIx_succ (i : Fin 40) : State.settingIx (BitVec.ofNat 8 (i.val + 1)) = some i := by
  have hn : (BitVec.ofNat 8 (i.val + 1)).toNat = i.val + 1 := octet_toNat (by omega)
  have h : 1 ≤ (BitVec.ofNat 8 (i.val + 1)).toNat ∧ (BitVec.ofNat 8 (i.val + 1)).toNat ≤ 40 := by omega
  rw [State.settingIx, dif_pos h]
  exact congrArg some (Fin.ext (by simp only [hn]; omega))

theorem settingIx_none {n : Octet} (h : n.toNat = 0 ∨ 40 < n.toNat) : State.settingIx n = none := by
  rw [State.settingIx, dif_neg (by omega)]

theorem addrOf_val (a : Addr) : State.addrOf (BitVec.ofNat 8 a.val) = some a := by
  have hn : (BitVec.ofNat 8 a.val).toNat = a.val := octet_toNat (by omega)
  have h : (BitVec.ofNat 8 a.val).toNat < 8 := by omega
  rw [State.addrOf, dif_pos h]
  exact congrArg some (Fin.ext hn)

theorem addrOf_none {o : Octet} (h : 7 < o.toNat) : State.addrOf o = none := dif_neg (by omega)

/-- The LBA section, its absent wattages written out (R46, R186). -/
theorem State.statusSection_lba (s : State) :
    s.statusSection (3#8).toNat = some
      (e2 (s.settings.get SettingIx.mainsBudget).toNat ++ e2 s.lba.inForce ++ e4 s.sumGranted ++ e4 s.sumSettling ++
        [if s.lba.halt then 1#8 else 0#8] ++
        (allLoads.map fun l =>
          e1 (s.claimOf l).state.code ++ (if s.granted l then e2 (s.claimOf l).counted else [0xFF#8, 0xFF#8]) ++
            e1 (s.claimOf l).promoted.toNat).flatten) := by
  have hcounted : ∀ l, s.countedOctets l = if s.granted l then e2 (s.claimOf l).counted else [0xFF#8, 0xFF#8] := fun l => by
    unfold State.countedOctets
    split <;> rfl
  have hhalt : eBool s.lba.halt = [if s.lba.halt then 1#8 else 0#8] := by cases s.lba.halt <;> rfl
  have hlba : s.statusSection (3#8).toNat = some s.statusLba := rfl
  simp only [hlba, State.statusLba, hcounted, hhalt]
  rfl

/-- Settles O19. -/
theorem reportingRequestsChangeNothing : Obligations.ReportingRequestsChangeNothing := by
  unfold Obligations.ReportingRequestsChangeNothing
  refine ⟨⟨fun tag s ht => ?_, fun tag i s ht => ?_, fun tag n s ht hn => ?_, fun tag i s hs => ?_, fun tag n s hs hn => ?_⟩,
    fun tag sect os s ht ho => ?_, fun s n hn => ?_, fun tag sect s ht hn => ?_, fun tag s ht => ?_,
    fun tag first s ht hn => ?_, fun tag first s ht hn => ?_, fun tag a s hs => ?_, fun tag a s hs hn => ?_⟩
  · exact exec_takes ht rfl rfl rfl rfl
  · exact exec_takes ht rfl rfl rfl (by simp only [serveOf, State.serveGet, settingIx_succ]; rfl)
  · exact exec_takes ht rfl rfl rfl (by simp only [serveOf, State.serveGet, settingIx_none hn])
  · refine exec_serves hs rfl rfl ?_
    have hi : s.csq.recipes.toList[(BitVec.ofNat 8 i.val).toNat]? = some (s.csq.recipes.get i) := by
      rw [octet_toNat (by omega)]
      simp [Vector.get_eq_getElem]
    simp only [serveOf, State.serveRecipeGet, hi]
  · refine exec_serves hs rfl rfl ?_
    have hi : s.csq.recipes.toList[n.toNat]? = none := by simpa using (show 8 ≤ n.toNat from hn)
    simp only [serveOf, State.serveRecipeGet, hi]
  · exact exec_takes ht rfl rfl rfl (by simp only [serveOf, State.serveStatus, ho])
  · interval_cases n <;> rfl
  · have hnone : s.statusSection sect.toNat = none := by
      unfold State.statusSection
      split
      case h_12 => rfl
      all_goals omega
    exact exec_takes ht rfl rfl rfl (by simp only [serveOf, State.serveStatus, hnone])
  · refine exec_takes ht rfl rfl rfl ?_
    simp only [serveOf, State.serveStatus, State.statusSection_lba]
  · refine exec_takes ht rfl rfl rfl ?_
    simp only [serveOf, State.serveFaults, if_neg (Nat.not_lt.mpr hn)]
    rfl
  · exact exec_takes ht rfl rfl rfl (by simp only [serveOf, State.serveFaults, if_pos hn])
  · exact exec_serves hs rfl rfl (by simp only [serveOf, State.serveModuleRead, addrOf_val])
  · exact exec_serves hs rfl rfl (by simp only [serveOf, State.serveModuleRead, addrOf_none hn])

/-! ### SET of a setting read at its next use (R189) -/

/-- A setting whose change does nothing at once: no rule of R56, R67, R87 or R161 speaks of it. -/
def plainSetting (i : SettingIx) : Bool :=
  State.clampedSetting i && !State.summed i && decide (i ≠ SettingIx.kFactor) && decide (i ≠ SettingIx.boosterBW) &&
    decide (i ≠ SettingIx.mainsBudget) && !(decide (SettingIx.drainPumpW ≤ i) && decide (i ≤ SettingIx.tankHeaterW)) &&
    decide (i ≠ SettingIx.starve) && decide (i ≠ SettingIx.columnCapacity) && decide (i ≠ SettingIx.containerDet) &&
    decide (i ≠ SettingIx.containerRa) && decide (i ≠ SettingIx.stockLow)

/-- Nothing but the value of a plain setting changes. -/
theorem applySetting_plain {i : SettingIx} (h : plainSetting i = true) (before s : State) :
    State.applySetting before s i = s := by
  simp only [plainSetting, Bool.and_eq_true, Bool.not_eq_true', Bool.and_eq_false_iff, decide_eq_true_eq,
    decide_eq_false_iff_not] at h
  obtain ⟨⟨⟨⟨⟨⟨⟨⟨⟨⟨-, -⟩, hk⟩, -⟩, hm⟩, hw⟩, hstarve⟩, hcol⟩, hdet⟩, hra⟩, hlow⟩ := h
  have hwatt : ¬ (SettingIx.drainPumpW ≤ i ∧ i ≤ SettingIx.tankHeaterW) := fun h => hw.elim (· h.1) (· h.2)
  simp [State.applySetting, hk, hm, hwatt, hstarve, hcol, hdet, hra, hlow]

/-- SET of a plain setting takes the clamped value; one that leaves it unchanged is answered OK where its chapter says so. -/
theorem setClamped_plain {i : SettingIx} (h : plainSetting i = true) (s : State) (v : Int) :
    s.setClamped i v =
      (s.putSetting i (clampSetting i v),
        if clampSetting i v = v ∨ State.okUnchanged i = true ∧ clampSetting i v = s.val i then .ok else .clamped,
        eValue (clampSetting i v)) := by
  have happly := applySetting_plain h s (s.putSetting i (clampSetting i v))
  simp only [plainSetting, Bool.and_eq_true, Bool.not_eq_true', decide_eq_true_eq] at h
  obtain ⟨⟨⟨⟨⟨⟨⟨⟨⟨⟨-, hsum⟩, hk⟩, -⟩, -⟩, -⟩, -⟩, -⟩, -⟩, -⟩, -⟩ := h
  by_cases hv : clampSetting i v = s.val i
  · have hself : s.putSetting i (clampSetting i v) = s := by rw [hv, State.putSetting_val_self]
    rw [hself]
    by_cases ho : State.okUnchanged i = true <;> simp [State.setClamped, hk, hv, ho]
  · simp [State.setClamped, hk, hv, hsum, happly]

/-- Settles O20: the settings named are plain, and their ranges are those of the table. -/
theorem setClampsIntoTheRange : Obligations.SetClampsIntoTheRange := by
  unfold Obligations.SetClampsIntoTheRange
  refine ⟨fun p hp tag v s hs => ?_, fun tag n v s hs hn => ?_⟩
  · have htable : plainSetting p.1 = true ∧ settingRange.get p.1 = (p.2.1, p.2.2) ∧
        State.okUnchanged p.1 = (decide (22 ≤ p.1.val) && decide (p.1.val ≤ 26)) := by
      revert p
      decide
    obtain ⟨hplain, hrange, hok⟩ := htable
    have hne : p.1 ≠ SettingIx.boosterBW := by
      simp only [plainSetting, Bool.and_eq_true, decide_eq_true_eq] at hplain
      tauto
    have hclamped : State.clampedSetting p.1 = true := by
      simp only [plainSetting, Bool.and_eq_true] at hplain
      tauto
    have hclamp : clampSetting p.1 v.toInt = max p.2.1 (min p.2.2 v.toInt) := by
      simp [clampSetting, hrange, hne]
    refine exec_serves hs rfl rfl ?_
    simp only [serveOf, State.serveSet, settingIx_succ, hclamped, if_true, setClamped_plain hplain, hclamp, hok,
      Bool.and_eq_true, decide_eq_true_eq, and_assoc]
    rfl
  · exact exec_serves hs rfl rfl (by simp only [serveOf, State.serveSet, settingIx_none hn])

end Sys2Proof.Machine
end

section
-- The proofs are elaborated one after the other: each of the many threads of a parallel run holds a stack of its own.
set_option Elab.async false
/-! PROOFS. Requests that change something: RUN, PREPARE, DRAIN, SAVE, RESET, SLEEP, STOCK, ACK_FAULT, MODULE, DOSE, DOOR and
REGEN (O22, O25 to O32, O34). -/

namespace Sys2Proof.Machine

open Sys2Proof

/-! ### RUN and PREPARE (R14, R25) -/

/-- A STANDBY_PENDING is ended by an accepted request, with its notice. -/
theorem State.endPendingStandby_pending {s : State} (h : s.sto.power = .standbyPending) :
    s.endPendingStandby =
      ({ s with sto := { s.sto with power := .running } }).place (.standby .running .request) := by
  rw [State.endPendingStandby, if_pos h]; rfl

/-- A RUNNING part has no STANDBY_PENDING to end. -/
theorem State.endPendingStandby_running {s : State} (h : s.sto.power = .running) : s.endPendingStandby = s := by
  rw [State.endPendingStandby, if_neg (by rw [h]; decide)]

/-- The state that arming leaves before an EMPTY tank is filled. -/
def State.armed (s : State) (i : Fin 8) (queuedAt : BitVec 32) : State :=
  ({ s with
    csq := { s.csq with
      active := some { recipe := i.val, queuedAt := queuedAt, copy := s.csq.recipes.get i, number := 0, dosing := Dosing.zero },
      phase := .armed, record := none, hold := Hold.reset, washMs := 0, rinseWait := RinseWait.reset,
      rinse := RinseRec.reset, dwellMs := 0 } }).place (.cyclePhase 0 (some i.val) .armed false false)

/-- Arming makes the ACTIVE entry with a copy of its recipe, and the notice; an EMPTY tank is then filled. -/
theorem State.arm_eq (s : State) (i : Fin 8) (queuedAt : BitVec 32) :
    s.arm i.val queuedAt = (s.armed i queuedAt).armFill := by
  have hcopy : (s.csq.recipes.toList[i.val]?).getD defaultRecipe = s.csq.recipes.get i := by
    simp [Vector.get_eq_getElem]
  simp only [State.arm, State.enterState, State.notePhase, State.onCsq, hcopy]
  rfl

@[simp] theorem State.armed_frame (s : State) (i : Fin 8) (queuedAt : BitVec 32) :
    (s.armed i queuedAt).whu = s.whu ∧ (s.armed i queuedAt).sto = s.sto ∧ (s.armed i queuedAt).csq.phase = .armed := by
  simp [State.armed]

/-- With the tank not EMPTY nothing is filled. -/
theorem State.armFill_wet {s : State} (h : s.whu.tank ≠ .empty) : s.armFill = s := by
  rw [State.armFill, if_neg fun hc => h hc.1]

/-- An EMPTY tank is filled in ARMED. -/
theorem State.armFill_empty {s : State} (h : s.whu.tank = .empty) (hp : s.csq.phase = .armed) :
    s.armFill = s.startFill .fill := by
  rw [State.armFill, if_pos ⟨h, hp⟩]

/-- What RUN with an empty queue answers. -/
theorem State.serveRun_armed {s : State} (hstop : s.hasClass .stop = false) (ha : s.csq.active = none) (i : Fin 8) :
    s.serveRun (BitVec.ofNat 8 i.val) = (((s.armed i s.now).armFill).endPendingStandby, .ok, []) := by
  have hn : (BitVec.ofNat 8 i.val).toNat = i.val := octet_toNat (by omega)
  have hi : ¬ 7 < i.val := by omega
  rw [State.serveRun]
  simp only [hstop, hn, if_neg hi, ha, State.arm_eq, Bool.false_eq_true, if_false]

/-- The effect of the start of a fill before FULL is looked at. -/
theorem State.startFill_eq (s : State) (kind : FillKind) :
    s.startFill kind =
      if s.whu.accepted = some .full then
        ({ s with
          whu := { s.whu with
            tank := .filling, fill := some { kind := kind, timeMs := 0 }
            tankWaiting := s.whu.tankWaiting || !decide (s.whu.owner = some InletUser.tankFill) } }).endFill
      else
        { s with
          whu := { s.whu with
            tank := .filling, fill := some { kind := kind, timeMs := 0 }
            tankWaiting := s.whu.tankWaiting || !decide (s.whu.owner = some InletUser.tankFill) } } := rfl

/-- Settles O22. -/
theorem runQueuesACycle : Obligations.RunQueuesACycle := by
  unfold Obligations.RunQueuesACycle
  refine ⟨fun tag n s hs hstop => ?_, fun tag n s hs hstop hn => ?_, fun tag n s hs hstop hn ha hw => ?_,
    fun tag n s hs hstop hn ha hw hp => ?_, fun tag i s hs hstop ha ht hp => ?_, fun tag i s hs hstop ha ht hp => ?_,
    fun tag i s hs hstop ha ht => ?_, fun s kind => ⟨fun h => ?_, fun h => ?_⟩,
    fun s => ⟨State.endPendingStandby_pending, State.endPendingStandby_running⟩⟩
  · exact exec_serves hs rfl rfl (by simp [serveOf, State.serveRun, hstop])
  · exact exec_serves hs rfl rfl (by simp [serveOf, State.serveRun, hstop, hn])
  · obtain ⟨e, he⟩ := Option.isSome_iff_exists.mp ha
    obtain ⟨p, hp⟩ := Option.isSome_iff_exists.mp hw
    exact exec_serves hs rfl rfl (by simp [serveOf, State.serveRun, hstop, Nat.not_lt.mpr hn, he, hp])
  · obtain ⟨e, he⟩ := Option.isSome_iff_exists.mp ha
    refine exec_serves hs rfl rfl ?_
    simp only [serveOf, State.serveRun, hstop, Nat.not_lt.mpr hn, he, hw, Bool.false_eq_true, if_false]
    rw [State.endPendingStandby_running (by exact hp)]
    simp [State.onCsq, he]
  · refine exec_serves hs rfl rfl ?_
    rw [serveOf, State.serveRun_armed hstop ha, State.armFill_wet (by simpa using ht),
      State.endPendingStandby_running (by simpa using hp)]
    rfl
  · refine exec_serves hs rfl rfl ?_
    rw [serveOf, State.serveRun_armed hstop ha, State.armFill_wet (by simpa using ht),
      State.endPendingStandby_pending (by simpa using hp)]
    simp only [State.armed, State.place]
    split <;> rfl
  · refine exec_serves hs rfl rfl ?_
    rw [serveOf, State.serveRun_armed hstop ha, State.armFill_empty (by simpa using ht) (by simp)]
    rfl
  · rw [State.startFill_eq, if_neg h]
  · rw [State.startFill_eq, if_pos h]

/-- Settles O25. -/
theorem prepareIsAnsweredByItsRows : Obligations.PrepareIsAnsweredByItsRows := by
  unfold Obligations.PrepareIsAnsweredByItsRows
  refine ⟨fun tag s hs h => ?_, fun tag s hs hstop hp ht => ?_, fun tag s hs hstop hp ht ho ha => ?_,
    fun tag s hs hstop ht => ?_, fun tag s hs hstop hp ht => ?_, fun s => ?_⟩
  · refine exec_serves hs rfl rfl ?_
    have hq : s.prepareRequest = (s, .notNow) := by
      rcases h with h | h
      · simp [State.prepareRequest, h]
      · simp [State.prepareRequest, h]
    simp [serveOf, State.servePrepare, bare, State.accepting, hq]
  · refine exec_serves hs rfl rfl ?_
    have hq : s.prepareRequest = (s, .ok) := by
      rcases ht with ht | ht | ht <;> simp [State.prepareRequest, hstop, ht]
    simp [serveOf, State.servePrepare, bare, State.accepting, hq, State.endPendingStandby_running hp]
  · refine exec_serves hs rfl rfl ?_
    have hq : s.prepareRequest = (s.startFill .fill, .ok) := by simp [State.prepareRequest, hstop, ht]
    simp only [serveOf, State.servePrepare, bare, State.accepting, hq, if_true, State.startFill_eq, if_neg ha]
    rw [State.endPendingStandby_running (by exact hp)]
    simp [ho]
  · refine exec_serves hs rfl rfl ?_
    have hq : s.prepareRequest = (s.startFill .fill, .ok) := by simp [State.prepareRequest, hstop, ht]
    simp [serveOf, State.servePrepare, bare, State.accepting, hq]
  · refine exec_serves hs rfl rfl ?_
    have hq : s.prepareRequest = (s, .ok) := by
      rcases ht with ht | ht | ht <;> simp [State.prepareRequest, hstop, ht]
    simp [serveOf, State.servePrepare, bare, State.accepting, hq, State.endPendingStandby_pending hp]
  · unfold State.statusWhu
    cases s.whu.accepted <;> rfl

/-! ### DRAIN, SAVE, RESET and SLEEP (R13, R190 to R193) -/

/-- Without a fill there is nothing to close. -/
theorem State.closeFill_none {s : State} (h : s.whu.fill = none) : s.closeFill = s := by rw [State.closeFill, h]

/-- A fill that still waits for the inlet withdraws its request. -/
theorem State.closeFill_waiting {s : State} {f : FillRec} (h : s.whu.fill = some f) (hw : s.whu.tankWaiting = true) :
    s.closeFill = { s with whu := { s.whu with fill := none, tankWaiting := false } } := by
  simp only [State.closeFill, h, State.onWhu, hw, if_true]

/-- An open fill is released, with its run-on window and its report to come. -/
theorem State.closeFill_opened {s : State} {f : FillRec} (h : s.whu.fill = some f) (hw : s.whu.tankWaiting = false)
    (ho : s.whu.owner = some .tankFill) (hp : s.whu.phase = .opened) :
    s.closeFill =
      { s with
        sfc := { s.sfc with alignHeld := false }
        whu := { s.whu with
          fill := none, fillEnded := some f.kind, owner := none, phase := .closed, quietLeft := none
          runOn := some { user := .tankFill, outcome := .released, pulses := s.whu.draw, left := 500 } } } := by
  simp only [State.closeFill, h, State.onWhu, hw, ho, hp, State.closeInlet, State.freeAlignment, State.onSfc, if_true,
    Bool.false_eq_true, if_false]
  rfl

/-- An opening fill is released with its report of 0 pulses. -/
theorem State.closeFill_opening {s : State} {f : FillRec} (h : s.whu.fill = some f) (hw : s.whu.tankWaiting = false)
    (ho : s.whu.owner = some .tankFill) (hp : s.whu.phase = .opening) :
    s.closeFill =
      ({ s with
        sfc := { s.sfc with alignHeld := false }
        whu := { s.whu with fill := none, owner := none, phase := .closed, quietLeft := none } }).dose f.kind.origin 0 100 := by
  have hno : ¬ (InletPhase.opening = .opened) := by decide
  simp only [State.closeFill, h, State.onWhu, hw, ho, hp, State.closeInlet, State.freeAlignment, State.onSfc, if_true,
    Bool.false_eq_true, if_false, if_neg hno]

/-- A fill whose inlet has closed leaves its report to the run-on window. -/
theorem State.closeFill_runOn {s : State} {f : FillRec} (h : s.whu.fill = some f) (hw : s.whu.tankWaiting = false)
    (ho : s.whu.owner ≠ some .tankFill) :
    s.closeFill = { s with whu := { s.whu with fill := none, fillEnded := some f.kind } } := by
  simp only [State.closeFill, h, State.onWhu, hw, if_neg ho, Bool.false_eq_true, if_false]

/-- Settles O26. -/
theorem drainMovesTheTankToDraining : Obligations.DrainMovesTheTankToDraining := by
  unfold Obligations.DrainMovesTheTankToDraining
  refine ⟨fun tag s hs hp => ?_, fun tag s hs hp ht => ?_, fun tag s hs hp ht => ?_,
    fun s => ⟨State.endPendingStandby_pending, State.endPendingStandby_running⟩,
    fun s => ⟨State.closeFill_none, fun f h => ⟨State.closeFill_waiting h, State.closeFill_opened h, fun hw ho hop => ?_,
      State.closeFill_runOn h⟩⟩⟩
  · exact exec_serves hs rfl rfl (by simp [serveOf, State.serveDrain, bare, State.accepting, State.drainRequest, hp])
  · exact exec_serves hs rfl rfl (by simp [serveOf, State.serveDrain, bare, State.accepting, State.drainRequest, hp, ht])
  · refine exec_serves hs rfl rfl ?_
    simp only [serveOf, State.serveDrain, bare, State.accepting, State.drainRequest, hp, if_neg ht, not_true, ne_eq, if_false,
      if_true]
    rfl
  · rw [State.closeFill_opening h hw ho hop]
    cases f.kind <;> rfl

/-- The softener is busy or not whatever the store does. -/
@[simp] theorem State.softenerBusy_onSto (s : State) (f : Sto → Sto) : (s.onSto f).softenerBusy = s.softenerBusy := rfl

/-- Settles O34. -/
theorem saveResetAndSleepAreAnswered : Obligations.SaveResetAndSleepAreAnswered := by
  unfold Obligations.SaveResetAndSleepAreAnswered
  refine ⟨fun tag s hs hp => ?_, fun tag s hs hp => ?_, fun tag s ht => ⟨?_, ?_⟩, fun tag m s hs h => ?_,
    fun tag m s hs ha hf hd hb => ?_, fun tag m s hs ha hf hd hb hp => ?_, fun tag m s hs ha hf hd hb hp => ?_⟩
  · exact exec_serves hs rfl rfl (by simp [serveOf, State.serveSave, hp])
  · exact exec_serves hs rfl rfl (by simp [serveOf, State.serveSave, hp, State.onSto])
  · exact exec_takes ht rfl rfl rfl rfl
  · exact exec_takes ht rfl rfl rfl rfl
  · refine exec_serves hs rfl rfl ?_
    rcases h with h | h | h <;> simp [serveOf, State.serveSleep, h]
  · refine exec_serves hs rfl rfl ?_
    simp [serveOf, State.serveSleep, ha, hf, hd, hb, State.enterStandby, State.setPower]
    rfl
  · refine exec_serves hs rfl rfl ?_
    simp [serveOf, State.serveSleep, ha, hf, hd, hb, hp, State.setPower]
    rfl
  · refine exec_serves hs rfl rfl ?_
    simp [serveOf, State.serveSleep, ha, hf, hd, hb, hp]
    simp [State.onSto, hp]

/-! ### STOCK (R114) -/

/-- The channel of its own code. -/
theorem State.channelOf_code (c : Channel) : State.channelOf (BitVec.ofNat 8 (channelCode c)) = some c := by
  cases c <;> rfl

/-- No code above 1 names a channel. -/
theorem State.channelOf_none {code : Octet} (h : 1 < code.toNat) : State.channelOf code = none := by
  unfold State.channelOf
  rw [if_neg (by rintro rfl; simp at h), if_neg (by rintro rfl; simp at h)]

/-- A container depends on the settings alone. -/
theorem State.containerUl_congr {s t : State} (h : t.settings = s.settings) (c : Channel) :
    t.containerUl c = s.containerUl c := by
  cases c <;> simp only [State.containerUl, State.num, State.val, h]

/-- A setting read through `num` depends on the settings alone. -/
theorem State.num_congr {s t : State} (h : t.settings = s.settings) (i : SettingIx) : t.num i = s.num i := by
  simp only [State.num, State.val, h]

/-- The report of a changed flag is a notice or nothing. -/
theorem State.noteStock_frame (before s : State) (c : Channel) :
    (State.noteStock before s c).dsc = s.dsc ∧ (State.noteStock before s c).flu = s.flu ∧
      (State.noteStock before s c).csq = s.csq ∧ (State.noteStock before s c).whu = s.whu ∧
      (State.noteStock before s c).settings = s.settings ∧ (State.noteStock before s c).lba = s.lba := by
  unfold State.noteStock
  dsimp only
  split <;> simp

/-- A channel record is a part of DSC. -/
theorem State.channel_congr {s t : State} (h : t.dsc = s.dsc) (c : Channel) : t.channel c = s.channel c := by
  cases c <;> simp only [State.channel, h]

/-- What an evaluation of the low flag leaves: the flag by its two thresholds, and all else as it was. -/
theorem State.lowEvent_spec (before s : State) (c : Channel) :
    (State.lowEvent before s c).channel c =
        { s.channel c with
          low := if (s.channel c).stock < s.lowL c then true
            else if s.lowU c ≤ (s.channel c).stock then false else (s.channel c).low } ∧
      (∀ d, d ≠ c → (State.lowEvent before s c).channel d = s.channel d) ∧
      (State.lowEvent before s c).flu = s.flu ∧ (State.lowEvent before s c).csq = s.csq ∧
      (State.lowEvent before s c).whu = s.whu ∧ (State.lowEvent before s c).settings = s.settings ∧
      (State.lowEvent before s c).lba = s.lba := by
  obtain ⟨hd, hf, hc, hw, hs, hl⟩ := State.noteStock_frame before (s.evalLow c) c
  have hch (d : Channel) : (State.lowEvent before s c).channel d = (s.evalLow c).channel d := State.channel_congr hd d
  refine ⟨?_, fun d hdc => ?_, ?_, ?_, ?_, ?_, ?_⟩
  · rw [hch, State.evalLow]; simp
  · rw [hch, State.evalLow]; simp [hdc]
  · exact hf.trans (by simp [State.evalLow])
  · exact hc.trans (by simp [State.evalLow])
  · exact hw.trans (by simp [State.evalLow])
  · exact hs.trans (by simp [State.evalLow])
  · exact hl.trans (by simp [State.evalLow])

/-- The stock and the empty flag that STOCK sets, with the empty condition ended by a volume above 0. -/
def State.stocked (s : State) (c : Channel) (ml : Nat) : State :=
  let t := s.onChannel c fun r => { r with stock := min (ml * 1000) (s.containerUl c), empty := r.empty && decide (ml = 0) }
  if 0 < ml then t.endCondition (emptyFault c) 0 else t

theorem State.stocked_frame (s : State) (c : Channel) (ml : Nat) :
    (s.stocked c ml).channel c =
        { s.channel c with
          stock := min (ml * 1000) (s.containerUl c), empty := (s.channel c).empty && decide (ml = 0) } ∧
      (∀ d, d ≠ c → (s.stocked c ml).channel d = s.channel d) ∧ (ml = 0 → (s.stocked c ml).flu = s.flu) ∧
      (s.stocked c ml).csq = s.csq ∧ (s.stocked c ml).whu = s.whu ∧ (s.stocked c ml).settings = s.settings ∧
      (s.stocked c ml).lba = s.lba := by
  unfold State.stocked
  split
  case isTrue h =>
    have hch (t : State) (d : Channel) : (t.endCondition (emptyFault c) 0).channel d = t.channel d :=
      State.channel_congr (by simp) d
    simp +contextual [hch, Nat.pos_iff_ne_zero.mp h]
  case isFalse h => simp +contextual [Nat.eq_zero_of_not_pos h]

/-- Settles O28. -/
theorem stockSetsTheContainer : Obligations.StockSetsTheContainer := by
  unfold Obligations.StockSetsTheContainer
  refine ⟨fun tag code v s hs hc => ?_, fun tag c v s hs => ?_⟩
  · exact exec_serves hs rfl rfl
      (by simp [serveOf, State.serveStock, bare, State.stockRequest, State.channelOf_none hc])
  · obtain ⟨hstock, hother, hflu, hcsq, hwhu, hset, hlba⟩ := s.stocked_frame c v.toNat
    obtain ⟨elow, eother, eflu, ecsq, ewhu, eset, elba⟩ := State.lowEvent_spec s (s.stocked c v.toNat) c
    refine ⟨State.lowEvent s (s.stocked c v.toNat) c, ?_, ?_, ?_, ?_, fun hv => eflu.trans (hflu hv),
      fun d hd => (eother d hd).trans (hother d hd), ecsq.trans hcsq, ewhu.trans hwhu, eset.trans hset, elba.trans hlba⟩
    · refine exec_serves hs rfl rfl ?_
      simp only [serveOf, State.serveStock, bare, State.stockRequest, State.channelOf_code]
      rfl
    · rw [elow, hstock]
    · rw [elow, hstock]; simp
    · rw [elow, hstock]
      have hL : (s.stocked c v.toNat).lowL c = s.containerUl c * s.num SettingIx.stockLow / 100 := by
        simp only [State.lowL, State.containerUl_congr hset, State.num_congr hset]
      have hU : (s.stocked c v.toNat).lowU c = s.containerUl c * (s.num SettingIx.stockLow + 5) / 100 := by
        simp only [State.lowU, State.containerUl_congr hset, State.num_congr hset]
      simp only [hL, hU]
      split
      case isTrue h => simp [h]
      case isFalse h =>
        split
        case isTrue hu => simp [h, Nat.not_lt.mpr hu]
        case isFalse hu => simp [h, Nat.not_le.mp hu]

/-! ### ACK_FAULT (R176) -/

/-- Two records have different keys. -/
abbrev FaultRec.Apart (x y : FaultRec) : Prop := x.code ≠ y.code ∨ x.detail ≠ y.detail

/-- In a list whose keys differ a record is the one found under its key. -/
theorem find_of_apart {l : List FaultRec} (h : l.Pairwise FaultRec.Apart) {r : FaultRec} (hr : r ∈ l) :
    (l.find? fun x => x.code = r.code ∧ x.detail = r.detail) = some r := by
  induction l with
  | nil => simp at hr
  | cons x xs ih =>
    obtain ⟨hx, hxs⟩ := List.pairwise_cons.mp h
    rcases List.mem_cons.mp hr with rfl | hr
    · simp
    · have hne : ¬ (x.code = r.code ∧ x.detail = r.detail) := fun e => (hx r hr).elim (· e.1) (· e.2)
      rw [List.find?_cons_of_neg (by simpa using hne), ih hxs hr]

/-- A removal takes the record from the list and places its notice. -/
theorem State.removeFault_found {s : State} {code : FaultCode} {detail : Nat} {r : FaultRec}
    (h : s.faultRec code detail = some r) :
    s.removeFault code detail =
      ({ s with flu := { s.flu with list := s.flu.list.filter fun x => !x.keyed code detail } }).place
        (.fault .removed r.code r.detail r.cls r.count r.firstCycle) := by
  rw [State.removeFault, h]; rfl

/-- A notice is placed the same whatever the fault list holds. -/
theorem State.place_flu (s : State) (n : Notice) (f : Flu) :
    ({ s.place n with flu := f } : State) = ({ s with flu := f } : State).place n := by
  unfold State.place
  split <;> rfl

/-- Several records of different keys leave the list, each with its notice. -/
theorem State.foldl_removeFault {gone : List FaultRec} (hg : gone.Pairwise FaultRec.Apart) (s : State)
    (hs : ∀ g ∈ gone, s.faultRec g.code g.detail = some g) :
    gone.foldl (fun s r => s.removeFault r.code r.detail) s =
      gone.foldl (fun (u : State) (r : FaultRec) => u.place (.fault .removed r.code r.detail r.cls r.count r.firstCycle))
        { s with flu := { s.flu with list := s.flu.list.filter fun x => !gone.any fun g => x.keyed g.code g.detail } } := by
  induction gone generalizing s with
  | nil => simp
  | cons g gs ih =>
    obtain ⟨hgs, hrest⟩ := List.pairwise_cons.mp hg
    simp only [List.foldl_cons]
    have hfind (x : FaultRec) (hx : x ∈ gs) :
        (s.removeFault g.code g.detail).faultRec x.code x.detail = some x := by
      rw [State.removeFault_found (hs g (by simp))]
      have hmem := hs x (by simp [hx])
      simp only [State.faultRec, State.place_frame] at hmem ⊢
      rw [List.find?_filter]
      rw [← hmem]
      congr 1
      funext y
      by_cases hy : y.code = x.code ∧ y.detail = x.detail
      · have : ¬ (y.code = g.code ∧ y.detail = g.detail) := by
          rw [hy.1, hy.2]; exact fun e => (hgs x hx).elim (· e.1.symm) (· e.2.symm)
        simp [hy, FaultRec.keyed, hy.1 ▸ hy.2 ▸ this]
      · simp [hy]
    rw [ih hrest _ hfind, State.removeFault_found (hs g (by simp))]
    congr 1
    rw [State.place_flu]
    congr 2
    simp [List.filter_filter, Bool.and_comm]
/-- The records that an ACK_FAULT may remove. -/
theorem State.ackable_iff (r : FaultRec) : State.ackable r = true ↔ r.ack = true ∧ r.present = false := by
  simp [State.ackable]

/-- In a list whose keys differ, a record has the key of an ackable one exactly if it is ackable itself. -/
theorem any_keyed_ackable {l : List FaultRec} (h : l.Pairwise FaultRec.Apart) {x : FaultRec} (hx : x ∈ l) :
    ((l.filter State.ackable).any fun g => x.keyed g.code g.detail) = State.ackable x := by
  rw [Bool.eq_iff_iff]
  constructor
  · intro hany
    obtain ⟨g, hg, hkey⟩ := List.any_eq_true.mp hany
    obtain ⟨hgl, hack⟩ := List.mem_filter.mp hg
    obtain ⟨hc, hd⟩ := FaultRec.keyed_iff.mp hkey
    have h1 := find_of_apart h hx
    have h2 := find_of_apart h hgl
    rw [hc, hd, h2] at h1
    exact (Option.some.inj h1) ▸ hack
  · intro hack
    exact List.any_eq_true.mpr ⟨x, List.mem_filter.mpr ⟨hx, hack⟩, FaultRec.keyed_iff.mpr ⟨rfl, rfl⟩⟩

/-- Notices leave the fault list as it was. -/
theorem State.foldl_place_flu (gone : List FaultRec) (s : State) :
    (gone.foldl (fun (u : State) (r : FaultRec) => u.place (.fault .removed r.code r.detail r.cls r.count r.firstCycle))
      s).flu = s.flu := by
  induction gone generalizing s with
  | nil => rfl
  | cons g gs ih => rw [List.foldl_cons, ih]; simp

/-- The octet of a fault code is read back. -/
theorem FaultCode.ofCode_code (c : FaultCode) : FaultCode.ofCode (BitVec.ofNat 8 c.code).toNat = some c := by
  cases c <;> rfl

/-- Settles O31. -/
theorem ackFaultRemovesEndedRecords : Obligations.AckFaultRemovesEndedRecords := by
  unfold Obligations.AckFaultRemovesEndedRecords
  refine ⟨fun tag code detail s ht hc => ?_, fun tag detail c s ht hr => ?_, fun tag detail c r s ht hr hn => ?_,
    fun tag detail c r s ht hr ha hp => ?_, fun tag s ht hall => ?_, fun tag s ht hpair hex => ?_⟩
  · exact exec_takes ht rfl rfl rfl (by simp only [serveOf, State.serveAckFault, hc])
  · exact exec_takes ht rfl rfl rfl (by simp only [serveOf, State.serveAckFault, FaultCode.ofCode_code, hr])
  · refine exec_takes ht rfl rfl rfl ?_
    have hna : State.ackable r = false := by
      rw [State.ackable]; rcases hn with h | h <;> simp [h]
    simp only [serveOf, State.serveAckFault, FaultCode.ofCode_code, hr, hna, Bool.false_eq_true, if_false]
  · refine exec_takes ht rfl rfl rfl ?_
    have hya : State.ackable r = true := by simp [State.ackable, ha, hp]
    simp only [serveOf, State.serveAckFault, FaultCode.ofCode_code, hr, hya, if_true, State.removeFault_found hr,
      State.place_frame, FaultRec.keyed]
    rfl
  · refine exec_takes ht rfl rfl rfl ?_
    have hnone : s.flu.list.filter State.ackable = [] := by
      rw [List.filter_eq_nil_iff]
      intro r hr hack
      obtain ⟨ha, hp⟩ := (State.ackable_iff r).mp hack
      rcases hall r hr with h | h <;> simp_all
    simp only [serveOf, State.serveAckFaultAll, hnone, if_true]
  · refine exec_takes ht rfl rfl rfl ?_
    obtain ⟨r, hr, ha, hp⟩ := hex
    have hsome : s.flu.list.filter State.ackable ≠ [] := fun h =>
      (List.filter_eq_nil_iff.mp h r hr) (by simp [State.ackable, ha, hp])
    have hkeep : (s.flu.list.filter fun x => !(s.flu.list.filter State.ackable).any fun g => x.keyed g.code g.detail) =
        s.flu.list.filter fun x => !(x.ack && !x.present) :=
      List.filter_congr fun x hx => by rw [any_keyed_ackable hpair hx]; rfl
    simp only [serveOf, State.serveAckFaultAll, if_neg hsome]
    rw [State.foldl_removeFault (hpair.filter _) s fun g hg => find_of_apart hpair (List.mem_filter.mp hg).1, hkeep,
      State.foldl_place_flu]
    rfl

/-! ### MODULE (R166, R170) -/

/-- A PIN of a known address with an expected kind carries its record's length. -/
theorem State.pinLength_val (s : State) (a : Addr) :
    s.pinLength (BitVec.ofNat 8 a.val) = if s.kindAt a = .none then 4 else (s.kindAt a).recordLength := by
  simp only [State.pinLength, addrOf_val]

/-- A PIN of the right length has the form of its KIND. -/
theorem State.formOf_pin {s : State} {tag address : Octet} {fields : List Octet} (h : fields.length = s.pinLength address) :
    s.formOf (.modulePin tag address fields) = none := by
  simp only [State.formOf, h, if_true]

/-- Every address in turn has its three counts set to 0: the whole table has. -/
theorem State.clearCounts_all (s : State) :
    allAddrs.foldl State.clearCounts s =
      { s with
        msu := { s.msu with
          entries := s.msu.entries.map fun e : Entry => { e with bayErrors := 0, msgAborts := 0, grantLapses := 0 } } } := by
  simp only [allAddrs, List.foldl_cons, List.foldl_nil, State.clearCounts, State.onEntry, State.onMsu]
  congr 2
  ext i hi
  interval_cases i <;> simp [Vector.get_eq_getElem]

/-- Settles O32. -/
theorem moduleRequestsPinAndClear : Obligations.ModuleRequestsPinAndClear := by
  unfold Obligations.ModuleRequestsPinAndClear
  refine ⟨fun tag a fields s hs hl ha => ?_, fun tag a fields s hs hl hk => ?_, fun tag a fields s hs hl hk hr => ?_,
    fun tag a fields f s hs hl hk hr => ?_, fun tag a s hs ha => ?_, fun tag a s hs hp => ?_, fun tag a s hs hp => ?_,
    fun tag a s hs => ?_, fun tag s hs => ?_, fun tag a s hs ha hall => ?_, fun tag s hs => ?_⟩
  · exact exec_serves hs rfl (State.formOf_pin hl)
      (by simp [serveOf, State.serveModulePin, bare, State.pinRequest, addrOf_none ha])
  · refine exec_serves hs rfl (State.formOf_pin (by rw [State.pinLength_val, if_pos hk, hl])) ?_
    simp only [serveOf, State.serveModulePin, bare, State.pinRequest, addrOf_val, if_pos hk]
  · refine exec_serves hs rfl (State.formOf_pin (by rw [State.pinLength_val, if_neg hk, hl])) ?_
    simp only [serveOf, State.serveModulePin, bare, State.pinRequest, addrOf_val, if_neg hk, hr]
  · refine exec_serves hs rfl (State.formOf_pin (by rw [State.pinLength_val, if_neg hk, hl])) ?_
    simp only [serveOf, State.serveModulePin, bare, State.pinRequest, addrOf_val, if_neg hk, hr]
    rfl
  · exact exec_serves hs rfl rfl (by simp [serveOf, State.serveModuleUnpin, bare, State.unpinRequest, addrOf_none ha])
  · refine exec_serves hs rfl rfl ?_
    simp only [serveOf, State.serveModuleUnpin, bare, State.unpinRequest, addrOf_val, hp, Bool.false_eq_true, if_false]
  · refine exec_serves hs rfl rfl ?_
    have hlink : (s.onEntry a fun e => { e with pinned := false }).linkedAt a = s.linkedAt a := by
      simp [State.linkedAt]
    have hkind : (s.onEntry a fun e => { e with pinned := false }).kindAt a = s.kindAt a := rfl
    simp only [serveOf, State.serveModuleUnpin, bare, State.unpinRequest, addrOf_val, hp, if_true, hlink, hkind]
  · refine exec_serves hs rfl rfl ?_
    have hne : ¬ (BitVec.ofNat 8 a.val = 0xFF#8) := by revert a; decide
    simp only [serveOf, State.serveModuleClear, bare, State.clearRequest, addrOf_val, if_neg hne]
    rfl
  · refine exec_serves hs rfl rfl ?_
    simp only [serveOf, State.serveModuleClear, bare, State.clearRequest, if_true, State.clearCounts_all]
  · refine exec_serves hs rfl rfl ?_
    simp only [serveOf, State.serveModuleClear, bare, State.clearRequest, if_neg hall, addrOf_none ha]
  · exact exec_serves hs rfl rfl rfl

/-! ### DOSE (R102 to R104, R115) -/

/-- A dose asked for while RINSE runs or the module is away is refused. -/
theorem State.doseRefusal_notNow {s : State} {c : Channel} {manual : Bool}
    (h : s.csq.phase = .rinse ∨ s.linked (channelKind c) = false) : s.doseRefusal c manual = some .notNow := by
  rw [State.doseRefusal]
  rcases h with h | h
  · rw [if_pos h]
  · rw [if_pos h, ite_self]

/-- A full list refuses a dose. -/
theorem State.doseRefusal_full {s : State} {c : Channel} {manual : Bool} (hp : s.csq.phase ≠ .rinse)
    (hl : s.linked (channelKind c) = true) (he : (s.channel c).empty = false) (hn : 4 ≤ (s.channel c).orders.length) :
    s.doseRefusal c manual = some .queueFull := by
  simp [State.doseRefusal, hp, hl, he, Config.orderLimit, hn]

/-- A dose is taken with room in the list, for a manual one at a channel that is not empty. -/
theorem State.doseRefusal_none {s : State} {c : Channel} {manual : Bool} (hp : s.csq.phase ≠ .rinse)
    (hl : s.linked (channelKind c) = true) (he : manual = true → (s.channel c).empty = false)
    (hn : (s.channel c).orders.length < 4) : s.doseRefusal c manual = none := by
  have hne : ¬ (manual = true ∧ (s.channel c).empty = true) := fun h => by simp [he h.1] at h
  simp [State.doseRefusal, hp, hl, hne, Config.orderLimit, Nat.not_le.mpr hn]

/-- Steps placed at a channel with room make an order, counted, and the head starts if it may. -/
theorem State.placeSteps_room {s : State} {c : Channel} {origin : Origin} {n : Nat} (h0 : 0 < n)
    (he : (s.channel c).empty = false) (hl : s.locked = false) (hn : (s.channel c).orders.length < 4) :
    s.placeSteps c origin n = ((s.createOrder c origin (.steps n)).countSteps c n).startOrder c := by
  simp [State.placeSteps, Nat.pos_iff_ne_zero.mp h0, he, hl, Config.orderLimit, hn]

/-- Steps placed at a full list join its last order or are dropped. -/
theorem State.placeSteps_full {s : State} {c : Channel} {origin : Origin} {n : Nat} (h0 : 0 < n)
    (he : (s.channel c).empty = false) (hl : s.locked = false) (hn : 4 ≤ (s.channel c).orders.length) :
    s.placeSteps c origin n =
      if origin.detergent then
        (mergeLast n (s.ulPerStep c) (s.channel c).orders).elim (s.countDrop n) fun p =>
          ((s.onChannel c fun r => { r with orders := p.1 }).countSteps c (n - p.2)).countDrop p.2
      else s.countDrop n := by
  have hlim : ¬ (s.channel c).orders.length < Config.orderLimit := Nat.not_lt.mpr hn
  simp only [State.placeSteps, Nat.pos_iff_ne_zero.mp h0, he, hl, Bool.or_self, Bool.false_eq_true, if_false, if_neg hlim]
  cases mergeLast n (s.ulPerStep c) (s.channel c).orders <;> rfl

/-- Only the last order of a list is looked at by a merge. -/
theorem mergeLast_append (n ul : Nat) (os : List Order) (o : Order) :
    mergeLast n ul (os ++ [o]) = (mergeLast n ul [o]).map fun p => (os ++ p.1, p.2) := by
  induction os with
  | nil => simp
  | cons x xs ih =>
    obtain ⟨y, ys, hy⟩ := List.exists_cons_of_ne_nil (l := xs ++ [o]) (by simp)
    have hstep : mergeLast n ul (x :: y :: ys) = (mergeLast n ul (y :: ys)).map fun p => (x :: p.1, p.2) := by
      rw [mergeLast]; simp
    rw [List.cons_append, hy, hstep, ← hy, ih, Option.map_map]
    rfl

/-- A QUEUED order of the step size in force takes more steps, up to 65535. -/
theorem mergeLast_joins {n m ul : Nat} {o : Order} (hm : o.amount = .steps m) (hq : o.state = .queued)
    (hu : o.ulPerStep = ul) :
    mergeLast n ul [o] = some ([{ o with amount := .steps (min 65535 (m + n)) }], m + n - 65535) := by
  rw [mergeLast, hm]
  exact if_pos ⟨hq, hu⟩

/-- A report is counted in the open record. -/
theorem State.countDosing_record {s : State} {e : ActiveEntry} {r : CycleRecord} (ha : s.csq.active = some e)
    (hr : s.csq.record = some r) (f : Dosing → Dosing) :
    s.countDosing f = { s with csq := { s.csq with record := some { r with dosing := f r.dosing } } } := by
  simp [State.countDosing, State.onCsq, ha, hr]

/-- A report is counted with the entry while no record is open. -/
theorem State.countDosing_entry {s : State} {e : ActiveEntry} (ha : s.csq.active = some e)
    (hr : s.csq.record = none) (f : Dosing → Dosing) :
    s.countDosing f = { s with csq := { s.csq with active := some { e with dosing := f e.dosing } } } := by
  simp [State.countDosing, State.onCsq, ha, hr]

/-- Without an ACTIVE entry nothing is counted. -/
theorem State.countDosing_none {s : State} (ha : s.csq.active = none) (f : Dosing → Dosing) : s.countDosing f = s := by
  simp [State.countDosing, State.onCsq, ha]

/-- Dropped steps are reported once there are any. -/
theorem State.countDrop_pos {s : State} {n : Nat} (h : 0 < n) :
    s.countDrop n = s.countDosing fun d => { d with doseShort := true } := by
  rw [State.countDrop, if_neg (Nat.pos_iff_ne_zero.mp h)]

/-- A part that hands requests over is in no LOCKOUT. -/
theorem State.not_locked_of_serves {s : State} (h : s.serves = true) : s.locked = false := by
  simp only [State.serves, Bool.and_eq_true, Bool.not_eq_true'] at h
  exact h.2

/-- Two changes of one channel are one. -/
theorem State.onChannel_onChannel (s : State) (c : Channel) (f g : ChannelRec → ChannelRec) :
    (s.onChannel c f).onChannel c g = s.onChannel c (fun r => g (f r)) := by
  cases c <;> rfl

/-- The step size is no part of a channel record. -/
theorem State.ulPerStep_onChannel (s : State) (c d : Channel) (f : ChannelRec → ChannelRec) :
    (s.onChannel c f).ulPerStep d = s.ulPerStep d := by
  cases c <;> rfl

/-- A channel change leaves what a dose is judged by. -/
theorem State.locked_onChannel (s : State) (c : Channel) (f : ChannelRec → ChannelRec) :
    (s.onChannel c f).locked = s.locked := State.locked_congr (by simp)

/-- Settles O27. -/
theorem doseRequestsMakeOrders : Obligations.DoseRequestsMakeOrders := by
  unfold Obligations.DoseRequestsMakeOrders
  refine ⟨fun tag code v s hs h => ?_, fun tag code v s hs h => ?_, fun tag c v w s hs hv hv' hw hw' h => ⟨?_, ?_⟩,
    fun tag c v s hs hv hv' hp hl he => ?_, fun tag c v w s hs hv hv' hw hw' hp hl he hn => ⟨?_, ?_⟩,
    fun tag c v s hs hv hv' hp hl he hn h0 => ?_, fun tag c v s hs hv hv' hp hl he hn h0 => ?_,
    fun tag c v s hs hv hv' hp hl hn => ?_, fun s c origin => rfl, fun s c origin n h0 h => ?_,
    fun s c origin n h0 he hl hn => State.placeSteps_room h0 he hl hn, fun s c origin n m os o h0 he hl hos hn hm => ⟨?_, ?_⟩,
    fun s c origin n m os o h0 he hl hos hn hm => ?_, fun s n e r ha hr => ⟨?_, ?_, fun h0 => ?_⟩,
    fun s n e ha hr => ⟨?_, ?_, fun h0 => ?_⟩, fun s c n ha => ⟨?_, ?_⟩⟩
  · refine exec_serves hs rfl rfl ?_
    have hq : s.manualRequest code v.toNat = (s, .outOfRange, State.noDose) := by
      by_cases hc : 1 < code.toNat
      · simp only [State.manualRequest, State.channelOf_none hc]
      · have hv : v.toNat < 100 ∨ 60000 < v.toNat := by omega
        simp only [State.manualRequest, if_pos hv]
        split <;> rfl
    simp only [serveOf, State.serveDoseManual, hq]
  · refine exec_serves hs rfl rfl ?_
    have hq : s.primeRequest code v.toNat = (s, .outOfRange, State.noDose) := by
      by_cases hc : 1 < code.toNat
      · simp only [State.primeRequest, State.channelOf_none hc]
      · have hv : v.toNat < 1 ∨ 60 < v.toNat := by omega
        simp only [State.primeRequest, if_pos hv]
        split <;> rfl
    simp only [serveOf, State.serveDosePrime, hq]
  · refine exec_serves hs rfl rfl ?_
    have hr : ¬ (v.toNat < 100 ∨ 60000 < v.toNat) := by omega
    simp only [serveOf, State.serveDoseManual, State.manualRequest, State.channelOf_code, if_neg hr,
      State.doseRefusal_notNow h]
  · refine exec_serves hs rfl rfl ?_
    have hr : ¬ (w.toNat < 1 ∨ 60 < w.toNat) := by omega
    simp only [serveOf, State.serveDosePrime, State.primeRequest, State.channelOf_code, if_neg hr,
      State.doseRefusal_notNow h]
  · refine exec_serves hs rfl rfl ?_
    have hr : ¬ (v.toNat < 100 ∨ 60000 < v.toNat) := by omega
    have href : s.doseRefusal c true = some .notNow := by simp [State.doseRefusal, hp, hl, he]
    simp only [serveOf, State.serveDoseManual, State.manualRequest, State.channelOf_code, if_neg hr, href]
  · refine exec_serves hs rfl rfl ?_
    have hr : ¬ (v.toNat < 100 ∨ 60000 < v.toNat) := by omega
    simp only [serveOf, State.serveDoseManual, State.manualRequest, State.channelOf_code, if_neg hr,
      State.doseRefusal_full hp hl he hn]
  · refine exec_serves hs rfl rfl ?_
    have hr : ¬ (w.toNat < 1 ∨ 60 < w.toNat) := by omega
    simp only [serveOf, State.serveDosePrime, State.primeRequest, State.channelOf_code, if_neg hr,
      State.doseRefusal_full hp hl he hn]
  · refine exec_serves hs rfl rfl ?_
    have hr : ¬ (v.toNat < 100 ∨ 60000 < v.toNat) := by omega
    have h0' : ¬ (stepsAndCarry v.toNat (s.channel c).carry (s.ulPerStep c)).1 = 0 := Nat.pos_iff_ne_zero.mp h0
    simp only [serveOf, State.serveDoseManual, State.manualRequest, State.channelOf_code, if_neg hr,
      State.doseRefusal_none hp hl (fun _ => he) hn, if_neg h0']
    rw [State.placeSteps_room (Nat.pos_of_ne_zero h0') (by simpa using he)
      (by rw [State.locked_onChannel]; exact State.not_locked_of_serves hs) (by simpa using hn), State.createOrder,
      State.onChannel_onChannel, State.ulPerStep_onChannel]
    cases c <;> simp [State.doseTag, eOpt1, e1] <;> exact ⟨rfl, rfl⟩
  · refine exec_serves hs rfl rfl ?_
    have hr : ¬ (v.toNat < 100 ∨ 60000 < v.toNat) := by omega
    have h0' : (stepsAndCarry v.toNat (s.channel c).carry (s.ulPerStep c)).1 = 0 := h0
    have hcarry : (stepsAndCarry v.toNat (s.channel c).carry (s.ulPerStep c)).2 = v.toNat + (s.channel c).carry := by
      rw [stepsAndCarry, h0, Nat.zero_mul, Nat.sub_zero]
    simp only [serveOf, State.serveDoseManual, State.manualRequest, State.channelOf_code, if_neg hr,
      State.doseRefusal_none hp hl (fun _ => he) hn, h0', hcarry]
    cases c <;> rfl
  · refine exec_serves hs rfl rfl ?_
    have hr : ¬ (v.toNat < 1 ∨ 60 < v.toNat) := by omega
    simp only [serveOf, State.serveDosePrime, State.primeRequest, State.channelOf_code, if_neg hr,
      State.doseRefusal_none (manual := false) hp hl (fun h => absurd h (by decide)) hn, State.createOrder]
    simp [State.doseTag, eOpt1, e1, eOpt2, e2]
  · have h' : ((s.channel c).empty || s.locked) = true := by rcases h with h | h <;> simp [h]
    rw [State.placeSteps, if_neg (Nat.pos_iff_ne_zero.mp h0), if_pos h']
  · intro ho hst hul
    have hdet : origin.detergent = true := by rcases ho with rfl | rfl | rfl <;> rfl
    rw [State.placeSteps_full h0 he hl hn, if_pos hdet, hos, mergeLast_append, mergeLast_joins hm hst hul, Option.map_some,
      Option.elim_some]
  · intro ho
    rw [State.placeSteps_full h0 he hl hn, hos, mergeLast_append]
    rcases ho with rfl | rfl | rfl | hst | hul
    · rfl
    · rfl
    · rfl
    · simp [mergeLast, hm, hst]
    · simp [mergeLast, hm, hul]
  · rw [State.placeSteps_full h0 he hl hn, hos, mergeLast_append]
    simp [mergeLast, hm]
  · rw [State.countSteps, State.countDosing_record ha hr]
  · rw [State.countSteps, State.countDosing_record ha hr]
  · rw [State.countDrop_pos h0, State.countDosing_record ha hr]
  · rw [State.countSteps, State.countDosing_entry ha hr]
  · rw [State.countSteps, State.countDosing_entry ha hr]
  · rw [State.countDrop_pos h0, State.countDosing_entry ha hr]
  · rw [State.countSteps, State.countDosing_none ha]
  · rw [State.countDrop, State.countDosing_none ha, ite_self]
/-! ### DOOR (R136) -/

/-- The rows that both DOOR actions share turn a request away. -/
theorem State.doorRefused_iff (s : State) :
    s.doorRefused = true ↔ s.linked .door = false ∨ s.hasFault .doorObstructed 0 = true ∨ s.dvc.latch = true := by
  simp only [State.doorRefused, Bool.or_eq_true, Bool.not_eq_true', or_assoc]

/-- Without them it goes on. -/
theorem State.not_doorRefused {s : State} (hl : s.linked .door = true) (hf : s.hasFault .doorObstructed 0 = false)
    (hk : s.dvc.latch = false) : s.doorRefused = false := by
  simp [State.doorRefused, hl, hf, hk]

/-- A claim of a load not IDLE is held already. -/
theorem State.claim_held {s : State} {l : Load} (hi : (s.claimOf l).state ≠ .idle) : s.claim l = (s, .held) := by
  rw [State.claim, if_pos hi]

/-- A claim under a LOCKOUT is withheld. -/
theorem State.claim_withheld {s : State} {l : Load} (hi : (s.claimOf l).state = .idle) (hl : s.locked = true) :
    s.claim l = (s, .withheld) := by
  rw [State.claim, if_neg (by simp [hi]), if_pos hl]

/-- A claim of the absent stage B is ignored. -/
theorem State.claim_ignored {s : State} (hi : (s.claimOf .boosterB).state = .idle) (hl : s.locked = false)
    (hb : s.watts .boosterB = 0) : s.claim .boosterB = (s, .ignored) := by
  rw [State.claim, if_neg (by simp [hi]), if_neg (by simp [hl]), if_pos ⟨rfl, hb⟩]

/-- A claim of an unfit load is refused, and its claimant told. -/
theorem State.claim_unfit {s : State} {l : Load} (hi : (s.claimOf l).state = .idle) (hl : s.locked = false)
    (hb : ¬ (l = .boosterB ∧ s.watts .boosterB = 0)) (hu : s.loadUnfit l = true) :
    s.claim l = (s.tellUnfit l, .unfit) := by
  rw [State.claim, if_neg (by simp [hi]), if_neg (by simp [hl]), if_neg hb, if_pos hu]

/-- A claim that nothing hinders waits for the walk. -/
theorem State.claim_taken {s : State} {l : Load} (hi : (s.claimOf l).state = .idle) (hl : s.locked = false)
    (hb : ¬ (l = .boosterB ∧ s.watts .boosterB = 0)) (hu : s.loadUnfit l = false) :
    s.claim l =
      ((s.onClaim l fun c => { c with state := .waiting, claimTime := s.now, waitMs := 0, promoted := false }).walk,
        .taken) := by
  rw [State.claim, if_neg (by simp [hi]), if_neg (by simp [hl]), if_neg hb, if_neg (by simp [hu])]

/-- Settles O30. -/
theorem doorRequestsPushAndRetract : Obligations.DoorRequestsPushAndRetract := by
  unfold Obligations.DoorRequestsPushAndRetract
  refine ⟨fun tag p s hs hp => ?_, fun tag p s hs h1 h2 h => ?_, fun tag p s hs h1 h2 hl hf hk hc ht => ?_,
    fun s target hl hi hu hr => ?_, fun tag s hs h => ?_, fun tag s hs hl hf hk hp h => ?_,
    fun tag s hs hl hf hk ht hh => ?_⟩
  · exact exec_serves hs rfl rfl (by simp only [serveOf, State.serveDoorOpen, if_pos hp])
  · refine exec_serves hs rfl rfl ?_
    have hp : ¬ (p.toNat < 1 ∨ 100 < p.toNat) := by omega
    simp only [serveOf, State.serveDoorOpen, if_neg hp]
    by_cases hd : s.doorRefused = true
    · rw [if_pos hd]
    · have h' : s.csq.phase ≠ .idle ∨ s.dvc.task ≠ .none := by
        rw [State.doorRefused_iff] at hd
        tauto
      rw [if_neg hd]
      rcases h' with h' | h'
      · rw [if_pos h']
      · rw [if_pos h', ite_self]
  · refine exec_serves hs rfl rfl ?_
    have hp : ¬ (p.toNat < 1 ∨ 100 < p.toNat) := by omega
    simp only [serveOf, State.serveDoorOpen, if_neg hp, State.not_doorRefused hl hf hk, hc, ht, ne_eq, not_true,
      Bool.false_eq_true, if_false]
  · have hy : s.yieldRetract = s := by rw [State.yieldRetract, if_neg (by simp [hr])]
    have hclaim := State.claim_taken (s := s.onDvc fun d => { d with task := .push .panel target .claimed })
      (l := .doorDrive) hi hl (by simp) hu
    rw [State.startPush, hy, hclaim]
    rfl
  · refine exec_serves hs rfl rfl ?_
    simp only [serveOf, State.serveDoorRetract]
    by_cases hd : s.doorRefused = true
    · rw [if_pos hd]
    · have h' : s.pushing = true := by
        rw [State.doorRefused_iff] at hd
        tauto
      rw [if_neg hd, if_pos h']
  · refine exec_serves hs rfl rfl ?_
    simp only [serveOf, State.serveDoorRetract, State.not_doorRefused hl hf hk, hp, Bool.false_eq_true, if_false]
    rcases h with h | h
    · rw [if_pos h]
    · rw [if_pos h, ite_self]
  · refine exec_serves hs rfl rfl ?_
    have hpush : s.pushing = false := by simp [State.pushing, ht]
    have hretr : s.retracting = false := by simp [State.retracting, ht]
    simp only [serveOf, State.serveDoorRetract, State.not_doorRefused hl hf hk, hpush, hretr, hh, Bool.false_eq_true, if_false]
    rfl

/-! ### REGEN (R80) -/

/-- The column of its own code. -/
theorem State.columnOf_code (c : Column) : State.columnOf (BitVec.ofNat 8 c.code) = some c := by cases c <;> rfl

/-- A PENDING changeover that may start claims the motor: it is CLAIMED, or DUE with the claim refused as unfit. -/
theorem State.startChangeover_ready {s : State} (hc : s.sfc.changeover = .pending) (ho : s.whu.owner = none)
    (hl : s.locked = false) (hi : (s.claimOf .valveMotor).state = .idle) :
    s.startChangeover =
      (let t := s.onSfc fun x => { x with changeover := .claimed };
        if s.loadUnfit .valveMotor = true then (t.tellUnfit .valveMotor).becomeDue
        else
          (t.onClaim .valveMotor fun x =>
            { x with state := .waiting, claimTime := s.now, waitMs := 0, promoted := false }).walk) := by
  have hready : s.changeoverReady = true := by simp [State.changeoverReady, hc, ho, hl]
  rw [State.startChangeover, if_pos hready]
  dsimp only
  by_cases hu : s.loadUnfit .valveMotor = true
  · rw [if_pos hu, State.claim_unfit (s := s.onSfc fun x => { x with changeover := .claimed }) (l := .valveMotor) hi hl
      (by simp) hu]
  · rw [if_neg hu, State.claim_taken (s := s.onSfc fun x => { x with changeover := .claimed }) (l := .valveMotor) hi hl (by simp)
      (Bool.eq_false_iff.mpr hu)]
    rfl

/-- A changeover that is not PENDING with a free inlet does not start. -/
theorem State.startChangeover_owned {s : State} (h : s.whu.owner.isSome = true) : s.startChangeover = s := by
  have hready : s.changeoverReady = false := by
    obtain ⟨u, hu⟩ := Option.isSome_iff_exists.mp h
    simp [State.changeoverReady, hu]
  rw [State.startChangeover, if_neg (by simp [hready])]

/-- Settles O29. -/
theorem regenStartsOrChangesOver : Obligations.RegenStartsOrChangesOver := by
  unfold Obligations.RegenStartsOrChangesOver
  refine ⟨fun tag code s hs hc => ?_, fun tag c s hs h => ?_, fun tag c s hs hl h => ?_, fun tag c s hs hl hst h => ?_,
    fun tag c s hs hl hst hn hr hf ho => ?_, fun tag c s hs hl hst hn hr hf ho hi => ?_, fun tag c s hs hl hst h => ?_⟩
  · refine exec_serves hs rfl rfl ?_
    have hn : State.columnOf code = none := by
      rw [State.columnOf, if_neg (by rintro rfl; simp at hc), if_neg (by rintro rfl; simp at hc)]
    simp only [serveOf, State.serveRegen, bare, State.regenRequest, hn]
  · refine exec_serves hs rfl rfl ?_
    simp only [serveOf, State.serveRegen, bare, State.regenRequest, State.columnOf_code]
    rcases h with h | h
    · rw [if_pos h]
    · split
      · rfl
      · cases hcs : (s.column c).state <;> first | rfl | (rw [hcs] at h; cases h)
  · refine exec_serves hs rfl rfl ?_
    have hq : s.regenRequest (BitVec.ofNat 8 c.code) = (s.beginRegen c, .accepted) := by
      rcases h with h | h <;>
        simp only [State.regenRequest, State.columnOf_code, hl, h, Bool.true_eq_false, if_false]
    simp only [serveOf, State.serveRegen, bare, hq]
    cases c <;> rfl
  · refine exec_serves hs rfl rfl ?_
    have hq : s.regenRequest (BitVec.ofNat 8 c.code) = (s, .accepted) := by
      rcases h with h | h | h <;>
        simp only [State.regenRequest, State.columnOf_code, hl, hst, h, Bool.true_eq_false, if_false]
    simp only [serveOf, State.serveRegen, bare, hq]
  · refine exec_serves hs rfl rfl ?_
    simp only [serveOf, State.serveRegen, bare, State.regenRequest, State.columnOf_code, hl, hst, hn, hr, hf,
      Bool.true_eq_false, if_false, and_self, if_true, State.becomePending]
    rw [State.startChangeover_owned (by exact ho)]
    rfl
  · refine exec_serves hs rfl rfl ?_
    simp only [serveOf, State.serveRegen, bare, State.regenRequest, State.columnOf_code, hl, hst, hn, hr, hf,
      Bool.true_eq_false, if_false, and_self, if_true, State.becomePending]
    rw [State.startChangeover_ready]
    · rfl
    · rfl
    · exact ho
    · exact State.not_locked_of_serves hs
    · exact hi
  · refine exec_serves hs rfl rfl ?_
    have hq : s.regenRequest (BitVec.ofNat 8 c.code) = (s, .notNow) := by
      rcases h with h | h | h | ⟨h, hr⟩ | ⟨h, hf⟩
      · simp only [State.regenRequest, State.columnOf_code, hl, hst, h, Bool.true_eq_false, if_false]
      · simp only [State.regenRequest, State.columnOf_code, hl, hst, h, Bool.true_eq_false, if_false]
      · simp only [State.regenRequest, State.columnOf_code, hl, hst, h, Bool.true_eq_false, if_false]
      · simp only [State.regenRequest, State.columnOf_code, hl, hst, h, hr, Bool.true_eq_false, if_false, false_and]
      · simp only [State.regenRequest, State.columnOf_code, hl, hst, h, hf, Bool.true_eq_false, if_false, and_false]
    simp only [serveOf, State.serveRegen, bare, hq]

end Sys2Proof.Machine
end

section
-- The proofs are elaborated one after the other: each of the many threads of a parallel run holds a stack of its own.
set_option Elab.async false
/-! PROOFS. The inlet, the timers of tank and cycle, the start of WASH and RINSE (O37, O40, O43 to O45). -/

namespace Sys2Proof.Machine

open Sys2Proof

/-! ### What time passing leaves of the water path and the cycle -/

/-- Time passing opens and closes no inlet, and ends no use of it. -/
@[simp] theorem State.advance_whu (s : State) (n : Nat) :
    (s.advance n).whu.owner = s.whu.owner ∧ (s.advance n).whu.phase = s.whu.phase ∧ (s.advance n).whu.draw = s.whu.draw ∧
      (s.advance n).whu.accepted = s.whu.accepted ∧ (s.advance n).whu.tank = s.whu.tank ∧
      (s.advance n).whu.fillEnded = s.whu.fillEnded ∧ (s.advance n).whu.drainUser = s.whu.drainUser ∧
      (s.advance n).whu.rinseWaiting = s.whu.rinseWaiting ∧ (s.advance n).whu.tankWaiting = s.whu.tankWaiting := by
  unfold State.advance
  split <;> simp [State.passWhu, State.passCsq, State.passLba, State.passSfc, State.passDsc, State.passDvc, State.passMbi,
    State.passSto, State.passPlk]

/-- Time passing leaves the cycle queue, the state of the cycle and its records. -/
@[simp] theorem State.advance_csq (s : State) (n : Nat) :
    (s.advance n).csq.recipes = s.csq.recipes ∧ (s.advance n).csq.active = s.csq.active ∧
      (s.advance n).csq.waiting = s.csq.waiting ∧ (s.advance n).csq.phase = s.csq.phase ∧
      (s.advance n).csq.rinse = s.csq.rinse ∧ (s.advance n).csq.record = s.csq.record ∧
      (s.advance n).csq.counter = s.csq.counter ∧ (s.advance n).csq.cycleOpen = s.csq.cycleOpen := by
  unfold State.advance
  split <;> simp [State.passWhu, State.passCsq, State.passLba, State.passSfc, State.passDsc, State.passDvc, State.passMbi,
    State.passSto, State.passPlk]

/-! ### The inlet: hand-over, closing and the quiet window (R1, R3, R6) -/

/-- An open draw ends with its run-on window. -/
theorem State.closeInlet_opened {s : State} {u : InletUser} (ho : s.whu.owner = some u) (hp : s.whu.phase = .opened)
    (outcome : DrawOutcome) :
    s.closeInlet outcome =
      { s with
        sfc := { s.sfc with alignHeld := false }
        whu := { s.whu with
          owner := none, phase := .closed, quietLeft := none
          runOn := some { user := u, outcome := outcome, pulses := s.whu.draw, left := 500 } } } := by
  simp only [State.closeInlet, ho, State.onWhu, hp, if_true, State.freeAlignment, State.onSfc]
  rfl

/-- An inlet not yet open closes without one. -/
theorem State.closeInlet_opening {s : State} {u : InletUser} (ho : s.whu.owner = some u) (hp : s.whu.phase ≠ .opened)
    (outcome : DrawOutcome) :
    s.closeInlet outcome =
      { s with
        sfc := { s.sfc with alignHeld := false }
        whu := { s.whu with owner := none, phase := .closed, quietLeft := none } } := by
  simp only [State.closeInlet, ho, State.onWhu, if_neg hp, State.freeAlignment, State.onSfc]

/-- The inlet is obtainable without owner, changeover in hand or LOCKOUT. -/
theorem State.obtainable_of {s : State} (ho : s.whu.owner = none)
    (hc : s.sfc.changeover = .none ∨ s.sfc.changeover = .due) (hl : s.locked = false) : s.obtainable = true := by
  rcases hc with hc | hc <;> simp [State.obtainable, ho, hc, hl]

/-- With an owner, a LOCKOUT or a changeover in hand it is not. -/
theorem State.not_obtainable_of {s : State}
    (h : s.whu.owner.isSome = true ∨ s.locked = true ∨ s.sfc.changeover = .pending ∨ s.sfc.changeover = .claimed ∨
      s.sfc.changeover = .moving ∨ s.sfc.changeover = .returning ∨ s.sfc.changeover = .aligning) :
    s.obtainable = false := by
  rcases h with h | h | h | h | h | h | h
  · obtain ⟨u, hu⟩ := Option.isSome_iff_exists.mp h
    simp [State.obtainable, hu]
  · simp [State.obtainable, h]
  all_goals simp [State.obtainable, h]

/-- The cut of a rinse marks it and releases its pump. -/
theorem State.markCut_eq (s : State) :
    s.markCut =
      ({ s with csq := { s.csq with rinse := { s.csq.rinse with cut := true, closing := true } } }).release .rinsePump :=
  rfl

/-- Settles O37. -/
theorem inletIsHandedOverAndStalls : Obligations.InletIsHandedOverAndStalls := by
  unfold Obligations.InletIsHandedOverAndStalls
  refine ⟨⟨fun s hs ho hc hl hr => ?_, fun s hs ho hc hl hr ht => ?_, fun s hs h => ?_, fun s hs hr ht => ?_⟩,
    fun s left hs hq ho hp => ?_, fun s left hs hq ho hp hc hcut => ?_, fun s hq => ?_⟩
  · refine congrArg Host.Outcome.next ((State.event_on hs _).trans (congrArg State.finish ?_))
    rw [State.handOver, if_pos (State.obtainable_of ho hc hl), if_pos hr]; rfl
  · refine congrArg Host.Outcome.next ((State.event_on hs _).trans (congrArg State.finish ?_))
    rw [State.handOver, if_pos (State.obtainable_of ho hc hl), if_neg (by simp [hr]), if_pos ht]; rfl
  · refine congrArg Host.Outcome.next ((State.event_on hs _).trans (congrArg State.finish ?_))
    rw [State.handOver, if_neg (by simp [State.not_obtainable_of h])]
  · refine congrArg Host.Outcome.next ((State.event_on hs _).trans (congrArg State.finish ?_))
    rw [State.handOver, hr, ht, if_neg Bool.false_ne_true, if_neg Bool.false_ne_true, ite_self]
  · refine congrArg Host.Outcome.next ?_
    rw [hq, State.expire_some hs]
    have hr : (decide ((s.advance left).whu.owner = some .rinse) && decide ((s.advance left).csq.phase = .rinse) &&
        !(s.advance left).csq.rinse.cut) = false := by simp [ho]
    simp only [State.stallInlet, hr, Bool.false_eq_true, if_false]
    rw [State.closeInlet_opened (u := .tankFill) (by simpa using ho) (by simpa using hp)]
    simp only [State.advance_whu]
  · refine congrArg Host.Outcome.next ?_
    rw [hq, State.expire_some hs]
    have hr : (decide ((s.advance left).whu.owner = some .rinse) && decide ((s.advance left).csq.phase = .rinse) &&
        !(s.advance left).csq.rinse.cut) = true := by simp [ho, hc, hcut]
    simp only [State.stallInlet, hr, if_true]
    rw [State.closeInlet_opened (u := .rinse) (by simpa using ho) (by simpa using hp), State.markCut_eq]
    simp only [State.advance_whu]
  · exact congrArg Host.Outcome.next (by rw [hq]; rfl)

/-! ### The timers of the tank (R8, R11, R13, R20) -/

/-- A timer that runs: the rest of its time passes, and its event acts. -/
theorem State.expire_running {s : State} (h : s.on = true) {left : Option Nat} {n : Nat} (hl : left = some n)
    (f : State → State) : s.expire left f = (f (s.advance n)).finish := by rw [hl, State.expire_some h]

/-- An accumulated time that runs reaches its limit after what is left of it. -/
theorem State.reach_running {s : State} (h : s.on = true) {runs : Bool} (hr : runs = true) (count limit : Nat)
    (f : State → State) : s.reach runs count limit f = (f (s.advance (limit - count))).finish := by
  rw [State.reach, if_pos hr, State.expire_some h]

/-- One that does not run has no event. -/
theorem State.reach_stopped (s : State) {runs : Bool} (hr : runs = false) (count limit : Nat) (f : State → State) :
    s.reach runs count limit f = s := by rw [State.reach, if_neg (by simp [hr])]; rfl

/-- Settles O40. -/
theorem tankTimersEndFillsAndDrains : Obligations.TankTimersEndFillsAndDrains := by
  unfold Obligations.TankTimersEndFillsAndDrains
  refine ⟨fun s left hs h => ?_, fun s h => ?_, fun s f hs ho hp hf => ?_, fun s h => ?_, fun s ms hs hu hg hd => ?_,
    fun s h => ?_, fun s hs hu hg => ?_, fun s h => ?_⟩
  · exact congrArg Host.Outcome.next (State.expire_running hs h _)
  · exact congrArg Host.Outcome.next (by rw [h]; rfl)
  · have hms : s.fillMs = f.timeMs := by simp [State.fillMs, hf]
    refine congrArg Host.Outcome.next ((State.reach_running hs (by simp [State.fillRuns, ho, hp, hf]) _ _ _).trans ?_)
    rw [hms]; rfl
  · refine congrArg Host.Outcome.next (State.reach_stopped s ?_ _ _ _)
    rcases h with h | h <;> simp [State.fillRuns, h]
  · refine congrArg Host.Outcome.next ((State.reach_running hs ?_ _ _ _).trans ?_)
    · simp [State.drainsFor, State.drainRuns, hu, hg, hd]
    · rw [hd]; rfl
  · exact congrArg Host.Outcome.next (State.reach_stopped s (by simp [h]) _ _ _)
  · refine congrArg Host.Outcome.next ((State.reach_running hs ?_ _ _ _).trans rfl)
    simp [State.drainsFor, State.drainRuns, hu, hg]
  · refine congrArg Host.Outcome.next (State.reach_stopped s ?_ _ _ _)
    rcases h with h | h <;> simp [State.drainsFor, State.drainRuns, h]

/-! ### The start of WASH and of RINSE (R27, R28, R34, R35) -/

/-- Setting 7. -/
theorem State.requireDoor_get (s : State) : s.val SettingIx.requireDoor = s.settings.get 6 := rfl

/-- Settles O43. -/
theorem washStartsWithANumber : Obligations.WashStartsWithANumber := by
  unfold Obligations.WashStartsWithANumber
  refine ⟨fun s e hs hp ht hl hd ho hf ha => ?_, fun s => rfl, fun s hs h => ?_⟩
  · refine congrArg Host.Outcome.next ((State.event_on hs _).trans ?_)
    have hshut : s.doorShut = true := by rcases hd with hd | hd <;> simp [State.doorShut, hd]
    have hopen : (s.dvc.openedFlag || decide (s.val SettingIx.requireDoor = 0)) = true := by
      rw [State.requireDoor_get]
      rcases ho with ho | ho <;> simp [ho]
    have hready : s.washReady = true := by simp only [State.washReady, hp, ht, hl, hshut, hopen, hf]; rfl
    rw [if_pos hready]
    simp only [State.startWash, ha]
    rfl
  · refine congrArg Host.Outcome.next ((State.event_on hs _).trans (congrArg State.finish (if_neg ?_)))
    simp only [State.washReady, State.doorShut, State.requireDoor_get, Bool.and_eq_true, Bool.or_eq_true, decide_eq_true_eq,
      Bool.not_eq_true']
    rintro ⟨⟨⟨⟨⟨hp, ht⟩, hl⟩, hd⟩, ho⟩, hf⟩
    rcases h with h | h | h | ⟨h1, h2⟩ | ⟨h1, h2⟩ | h
    · exact h hp
    · exact h ht
    · simp [h] at hl
    · exact hd.elim h1 h2
    · simp [h1, h2] at ho
    · simp [h] at hf

/-- The cycle in RINSE with its target, before it asks for the inlet. -/
def State.rinsing (s : State) : State :=
  ({ s with
    csq := { s.csq with
      rinse := { target := pulseTarget s.recipe.rinseMl s.k, count := 0, cut := false, closing := false }
      phase := .rinse } }).notePhase

/-- Entering RINSE leaves the water path to what follows. -/
theorem State.rinsing_whu (s : State) : s.rinsing.whu = s.whu := by simp [State.rinsing, State.notePhase]

/-- RINSE begins, asks for the inlet, and with FULL accepted keeps the level. -/
theorem State.startRinse_eq (s : State) :
    s.startRinse =
      if s.rinsing.whu.accepted = some .full then
        ({ s.rinsing with
          whu := { s.rinsing.whu with
            rinseWaiting := s.rinsing.whu.rinseWaiting || !decide (s.rinsing.whu.owner = some InletUser.rinse) } }).levelKeep .full
      else
        { s.rinsing with
          whu := { s.rinsing.whu with
            rinseWaiting := s.rinsing.whu.rinseWaiting || !decide (s.rinsing.whu.owner = some InletUser.rinse) } } := rfl

/-- Settles O45. -/
theorem rinseStartsAndReachesItsTarget : Obligations.RinseStartsAndReachesItsTarget := by
  unfold Obligations.RinseStartsAndReachesItsTarget
  have howner {s : State} (h : s.obtainable = true) : s.whu.owner = none := by
    simp only [State.obtainable, Bool.and_eq_true, Option.isNone_iff_eq_none] at h
    exact h.1.1
  have hready {s : State} (hp : s.csq.phase = .rinseWait)
      (hh : s.csq.rinseWait.tempMet = true ∨ s.csq.rinseWait.holdExpired = true) (ho : s.obtainable = true)
      (hg : s.granted .rinsePump = true) (hc : s.csq.rinseWait.confirmed = true) : s.rinseReady = true := by
    have hheat : s.heatMet = true := by rcases hh with h | h <;> simp [State.heatMet, h]
    simp [State.rinseReady, hp, hheat, ho, hg, hc]
  refine ⟨fun s hs hp hh ho hg hc ha => ?_, fun s hs hp hh ho hg hc ha hd => ?_, fun s hs h => ?_,
    fun s hs hp hc ho hi ht => ?_, fun s hs h => ?_⟩
  · refine congrArg Host.Outcome.next ((State.event_on hs _).trans (congrArg State.finish ?_))
    rw [if_pos (hready hp hh ho hg hc)]
    change s.startRinse = { s.rinsing with whu := { s.rinsing.whu with rinseWaiting := true } }
    rw [State.startRinse_eq, if_neg (by rwa [State.rinsing_whu])]
    simp [State.rinsing_whu, howner ho]
  · refine congrArg Host.Outcome.next ((State.event_on hs _).trans (congrArg State.finish ?_))
    rw [if_pos (hready hp hh ho hg hc)]
    change s.startRinse = ({ s.rinsing with
      whu := { s.rinsing.whu with rinseWaiting := true, drainUser := some .level } }.claim .drainPump).1
    rw [State.startRinse_eq, if_pos (by rwa [State.rinsing_whu]), State.levelKeep, if_pos (by simpa [State.rinsing_whu] using hd)]
    simp [State.takeDrain, State.onWhu, State.rinsing_whu, howner ho]
  · refine congrArg Host.Outcome.next ((State.event_on hs _).trans (congrArg State.finish (if_neg ?_)))
    simp only [State.rinseReady, State.heatMet, Bool.and_eq_true, Bool.or_eq_true, decide_eq_true_eq]
    rintro ⟨⟨⟨⟨hp, hh⟩, ho⟩, hg⟩, hc⟩
    rcases h with h | ⟨h1, h2⟩ | h | h | h <;> simp_all
  · refine congrArg Host.Outcome.next ((State.event_on hs _).trans (congrArg State.finish ?_))
    have hmet : s.rinseTargetMet = true := by simp [State.rinseTargetMet, hp, hc, ho, hi, ht]
    rw [if_pos hmet, State.reachTarget, State.closeInlet_opened (u := .rinse) (by simpa using ho) (by simpa using hi)]
    rfl
  · refine congrArg Host.Outcome.next ((State.event_on hs _).trans (congrArg State.finish (if_neg ?_)))
    simp only [State.rinseTargetMet, Bool.and_eq_true, Bool.not_eq_true', decide_eq_true_eq]
    rintro ⟨⟨⟨⟨hp, hc⟩, ho⟩, hi⟩, ht⟩
    rcases h with h | h | h | h | h
    · exact h hp
    · simp [h] at hc
    · exact h ho
    · exact h hi
    · omega

/-! ### The timers of the cycle, holds and the door (R29 to R37) -/

/-- The one other hold reason. -/
theorem Hold.any_put_false {h : Hold} {r q : State.HoldReason} (hrq : r ≠ q) :
    ((State.Hold.put h r false).door || (State.Hold.put h r false).level) = State.Hold.has h q := by
  cases r <;> cases q <;> first | exact absurd rfl hrq | simp [State.Hold.put, State.Hold.has]

/-- A reason in WASH holds the wash. -/
theorem State.addHold_wash {s : State} (hp : s.csq.phase = .wash) (r : State.HoldReason) :
    s.addHold r =
      ((s.onCsq fun c => { c with hold := { State.Hold.put c.hold r true with left := some .wash } }).release
        .washPump).enterState .held := by
  simp only [State.addHold, hp]

/-- A reason in PURGE holds the purge. -/
theorem State.addHold_purge {s : State} (hp : s.csq.phase = .purge) (r : State.HoldReason) :
    s.addHold r =
      (((s.onCsq fun c => { c with hold := { State.Hold.put c.hold r true with left := some .purge } }).onWhu fun w =>
        { w with drainUser := none }).release .drainPump).enterState .held := by
  simp only [State.addHold, hp]

/-- A reason in HELD joins the set, once. -/
theorem State.addHold_held {s : State} (hp : s.csq.phase = .held) (r : State.HoldReason) :
    s.addHold r =
      if State.Hold.has s.csq.hold r then s
      else (s.onCsq fun c => { c with hold := State.Hold.put c.hold r true }).notePhase := by
  simp only [State.addHold, hp]

/-- A reason that is not there does not go. -/
theorem State.dropHold_none {s : State} {r : State.HoldReason}
    (h : s.csq.phase ≠ .held ∨ State.Hold.has s.csq.hold r = false) : s.dropHold r = s := by
  rw [State.dropHold, if_neg]
  rintro ⟨hp, hh⟩
  rcases h with h | h
  · exact h hp
  · simp [h] at hh

/-- A reason goes: the set is noticed while another stays, else the cycle is resumed. -/
theorem State.dropHold_held {s : State} {r q : State.HoldReason} (hp : s.csq.phase = .held)
    (hr : State.Hold.has s.csq.hold r = true) (hrq : r ≠ q) :
    s.dropHold r =
      let t := s.onCsq fun c => { c with hold := State.Hold.put c.hold r false }
      if State.Hold.has s.csq.hold q = true then t.notePhase else t.resume := by
  rw [State.dropHold, if_pos ⟨hp, hr⟩]
  dsimp only
  rw [← Hold.any_put_false hrq]
  rfl

/-- A shut door is one of the two states. -/
theorem State.doorShut_iff (s : State) : s.doorShut = true ↔ s.dvc.door = .closed ∨ s.dvc.door = .closedLatched := by
  simp [State.doorShut]

/-- The cut of a rinse by an OPEN door, before its outputs end. -/
theorem State.forceRinse_eq {s : State} (hc : s.csq.rinse.cut = false) :
    s.forceRinse =
      let t := s.markCut.doorForced
      if t.whu.rinseWaiting then
        (t.onWhu fun w => { w with rinseWaiting := false }).rinseReport { user := .rinse, pulses := 0, outcome := .released }
      else if t.whu.owner = some .rinse then
        if t.whu.phase = .opened then t.closeInlet .released
        else (t.closeInlet .released).rinseReport { user := .rinse, pulses := 0, outcome := .released }
      else t := by
  rw [State.forceRinse, if_neg (by simp [hc])]

/-- Settles O44. -/
theorem cycleTimersEndTheirPhase : Obligations.CycleTimersEndTheirPhase := by
  unfold Obligations.CycleTimersEndTheirPhase
  refine ⟨fun s hs hp hg => ?_, fun s h => ?_, fun s hs hp => ?_, fun s h => ?_, fun s left hs hp hl => ?_,
    fun s left hs hp hl => ?_, fun s h => ⟨?_, ?_⟩, fun s hs hp => ?_, fun s h => ?_, fun h b => ⟨rfl, rfl⟩,
    fun s r => ⟨fun hp => ?_, fun hp => ?_, fun hp hh => ?_, fun hp hh => ?_⟩,
    fun s r q hp hrq hr => ⟨fun hq => ?_, fun hq hleft => ?_, fun hq hleft => ?_⟩, fun s r h => State.dropHold_none h,
    fun s hd => ⟨fun hp => ?_, fun hp => ?_⟩, fun s h1 h2 => ⟨fun hp => ?_, fun hp => ?_⟩,
    fun s hd => ⟨fun hp => ?_, fun hp hc => ?_, fun hp hc => ?_⟩⟩
  · exact congrArg Host.Outcome.next (State.reach_running hs (by simp [State.washPumpOn, hs, hp, hg]) _ _ _)
  · refine congrArg Host.Outcome.next (State.reach_stopped s ?_ _ _ _)
    rcases h with h | h <;> simp [State.washPumpOn, h]
  · exact congrArg Host.Outcome.next (State.reach_running hs (by simp [State.inPhase, hp]) _ _ _)
  · exact congrArg Host.Outcome.next (State.reach_stopped s (by simp [State.inPhase, h]) _ _ _)
  · exact congrArg Host.Outcome.next (State.expire_running hs (by simp [State.inWait, State.inPhase, hp, hl]) _)
  · refine congrArg Host.Outcome.next ((State.expire_running hs (n := left) ?_ _).trans rfl)
    simp [State.inWait, State.inPhase, hp, hl]
  · exact congrArg Host.Outcome.next (by simp [State.inWait, State.inPhase, h, State.expire])
  · exact congrArg Host.Outcome.next (by simp [State.inWait, State.inPhase, h, State.expire])
  · exact congrArg Host.Outcome.next (State.reach_running hs (by simp [State.inPhase, hp]) _ _ _)
  · exact congrArg Host.Outcome.next (State.reach_stopped s (by simp [State.inPhase, h]) _ _ _)
  · exact (State.addHold_wash hp r).trans rfl
  · exact (State.addHold_purge hp r).trans rfl
  · exact (State.addHold_held hp r).trans (if_neg (Bool.eq_false_iff.mp hh))
  · exact (State.addHold_held hp r).trans (if_pos hh)
  · rw [State.dropHold_held hp hr hrq, if_pos hq]; rfl
  · rw [State.dropHold_held hp hr hrq, if_neg (by simp [hq])]
    have hl : (State.Hold.put s.csq.hold r false).left = some .wash := by cases r <;> exact hleft
    simp only [State.resume, State.onCsq, hl]
    rfl
  · rw [State.dropHold_held hp hr hrq, if_neg (by simp [hq])]
    have hl : (State.Hold.put s.csq.hold r false).left = some .purge := by cases r <;> exact hleft
    simp only [State.resume, State.onCsq, hl]
    rfl
  · simp only [State.cycleDoor, hp, (State.doorShut_iff s).mpr hd, if_true]
  · have hne : s.dvc.door ≠ .opened := by rcases hd with h | h <;> simp [h]
    simp only [State.cycleDoor, (State.doorShut_iff s).mpr hd, if_true, if_neg hne]
    split <;> first | rfl | exact absurd ‹_› hp
  · have hs : s.doorShut = false := by simp [State.doorShut, h1, h2]
    rcases hp with hp | hp | hp <;> simp only [State.cycleDoor, hp, hs, Bool.false_eq_true, if_false]
  · rcases hp with hp | hp | hp | hp <;> simp only [State.cycleDoor, hp]
  · simp only [State.cycleDoor, hp, hd, if_true]
    rfl
  · simp only [State.cycleDoor, hp, hd, if_true, State.forceRinse, hc]
  · have hcd : s.cycleDoor = s.forceRinse := by simp only [State.cycleDoor, hp, hd, if_true]
    refine ⟨fun hw => ?_, fun hw ho hop => ?_, fun hw ho hop => ?_, fun hw ho => ?_⟩
    · rw [hcd, State.forceRinse_eq hc]
      exact if_pos hw
    · rw [hcd, State.forceRinse_eq hc]
      exact (if_neg (Bool.eq_false_iff.mp hw)).trans ((if_pos ho).trans (if_pos hop))
    · rw [hcd, State.forceRinse_eq hc]
      exact (if_neg (Bool.eq_false_iff.mp hw)).trans ((if_pos ho).trans (if_neg hop))
    · rw [hcd, State.forceRinse_eq hc]
      exact (if_neg (Bool.eq_false_iff.mp hw)).trans (if_neg ho)

end Sys2Proof.Machine
end

section
-- The proofs are elaborated one after the other: each of the many threads of a parallel run holds a stack of its own.
set_option Elab.async false
/-! PROOFS. What is stopped stays stopped: the end of a cycle, CANCEL, the fault list and the first LOCKOUT (O23, O24, O55, O56). -/

namespace Sys2Proof.Machine

open Sys2Proof

/-! ### What is stopped stays stopped

The end of a cycle and a LOCKOUT stop claims, the inlet and the door, and the steps that follow in the same event take new
orders, start a retract and fill the tank. `t.StaysStopped s` says of a later state `t` of such an event that nothing that
stood stopped in `s` has started again: no pump claim, no inlet for RINSE, no latch, no vent; nor, under a LOCKOUT with
every claim IDLE, anything of the arbiter. -/

/-- Every record of a key that is in the list is a LOCKOUT, and there is one. -/
def State.LockedBy (s : State) (code : FaultCode) (detail : Nat) : Prop :=
  (∃ r ∈ s.flu.list, r.code = code ∧ r.detail = detail) ∧
    ∀ r ∈ s.flu.list, r.code = code → r.detail = detail → r.cls = .lockout

theorem State.LockedBy.locked {s : State} {code : FaultCode} {detail : Nat} (h : s.LockedBy code detail) :
    s.locked = true := by
  obtain ⟨⟨r, hr, hc, hd⟩, hall⟩ := h
  exact (State.locked_iff s).mpr ⟨r, hr, hall r hr hc hd⟩

/-- The loads that a cycle end stops. -/
def Load.stopped : Load → Bool
  | .drainPump | .washPump | .rinsePump => true
  | .doorDrive | .ventFan | .valveMotor | .doserDet | .doserRa | .boosterA | .boosterB | .tankHeater => false

/-- The queue and the cycle but for what the Dosing Controller counts in them. -/
def Csq.undosed (c : Csq) : Csq :=
  { c with
    active := c.active.map fun e => { e with dosing := Dosing.zero }
    record := c.record.map fun r => { r with dosing := Dosing.zero } }

/-- What stood stopped in `s` stands stopped in `t`. -/
structure State.StaysStopped (t s : State) : Prop where
  settings : t.settings = s.settings
  csq : t.csq.undosed = s.csq.undosed
  lock : ∀ code detail, s.LockedBy code detail → t.LockedBy code detail
  lba : (∃ code detail, s.LockedBy code detail) → (∀ l, (s.claimOf l).state = .idle) → t.lba = s.lba
  pumps : ∀ l, l.stopped = true → (s.claimOf l).state = .idle → (t.claimOf l).state = .idle
  openedFlag : t.dvc.openedFlag = s.dvc.openedFlag
  latch : s.dvc.latch = false → t.dvc.latch = false
  vent : s.dvc.vent.step = .none → t.dvc.vent.step = .none
  rinse : s.whu.rinseWaiting = false → t.whu.rinseWaiting = false
  drain : t.whu.drainUser = s.whu.drainUser ∨ t.whu.drainUser = none
  inlet : t.whu.owner = s.whu.owner ∧ t.whu.phase = s.whu.phase ∨ t.whu.owner = none ∧ t.whu.phase = .closed

theorem State.claimOf_congr {s t : State} (h : t.lba = s.lba) (l : Load) : t.claimOf l = s.claimOf l := by
  simp only [State.claimOf, h]

theorem State.LockedBy.congr {s t : State} (h : t.flu = s.flu) {code : FaultCode} {detail : Nat}
    (hs : s.LockedBy code detail) : t.LockedBy code detail := by
  unfold State.LockedBy
  rw [h]
  exact hs

namespace State.StaysStopped

variable {s t u : State}

theorem refl (s : State) : s.StaysStopped s :=
  ⟨rfl, rfl, fun _ _ => id, fun _ _ => rfl, fun _ _ => id, rfl, id, id, id, .inl rfl, .inl ⟨rfl, rfl⟩⟩

theorem trans (h : u.StaysStopped t) (g : t.StaysStopped s) : u.StaysStopped s where
  settings := h.settings.trans g.settings
  csq := h.csq.trans g.csq
  lock c d hl := h.lock c d (g.lock c d hl)
  lba hl hi := by
    have hlba := g.lba hl hi
    obtain ⟨c, d, hcd⟩ := hl
    exact (h.lba ⟨c, d, g.lock c d hcd⟩ fun l => by rw [State.claimOf_congr hlba]; exact hi l).trans hlba
  pumps l hl hi := h.pumps l hl (g.pumps l hl hi)
  openedFlag := h.openedFlag.trans g.openedFlag
  latch hl := h.latch (g.latch hl)
  vent hv := h.vent (g.vent hv)
  rinse hr := h.rinse (g.rinse hr)
  drain := h.drain.elim (fun e => g.drain.imp e.trans e.trans) .inr
  inlet := h.inlet.elim (fun ⟨e, f⟩ => g.inlet.imp (fun ⟨a, b⟩ => ⟨e.trans a, f.trans b⟩) fun ⟨a, b⟩ => ⟨e.trans a, f.trans b⟩) .inr

/-- A change of what `StaysStopped` does not speak of. -/
theorem of_eq (hst : t.settings = s.settings) (hc : t.csq = s.csq) (hf : t.flu = s.flu) (hl : t.lba = s.lba)
    (hd : t.dvc = s.dvc) (hw : t.whu = s.whu) : t.StaysStopped s where
  settings := hst
  csq := by rw [hc]
  lock _ _ := .congr hf
  lba _ _ := hl
  pumps l _ hi := by rw [State.claimOf_congr hl]; exact hi
  openedFlag := by rw [hd]
  latch := by rw [hd]; exact id
  vent := by rw [hd]; exact id
  rinse := by rw [hw]; exact id
  drain := .inl (by rw [hw])
  inlet := .inl ⟨by rw [hw], by rw [hw]⟩

/-- A change of WHU that opens nothing. -/
theorem of_whu (h : t.StaysStopped s) {f : Whu → Whu}
    (hr : t.whu.rinseWaiting = false → (f t.whu).rinseWaiting = false := by exact id)
    (hd : (f t.whu).drainUser = t.whu.drainUser ∨ (f t.whu).drainUser = none := by exact .inl rfl)
    (hi : (f t.whu).owner = t.whu.owner ∧ (f t.whu).phase = t.whu.phase ∨
      (f t.whu).owner = none ∧ (f t.whu).phase = .closed := by exact .inl ⟨rfl, rfl⟩) : (t.onWhu f).StaysStopped s :=
  trans (t := t) ⟨rfl, rfl, fun _ _ => id, fun _ _ => rfl, fun _ _ => id, rfl, id, id, hr, hd, hi⟩ h

/-- A change of DVC that sets neither the latch nor a vent going. -/
theorem onDvc (h : t.StaysStopped s) {f : Dvc → Dvc} (ho : (f t.dvc).openedFlag = t.dvc.openedFlag := by rfl)
    (hl : t.dvc.latch = false → (f t.dvc).latch = false := by exact id)
    (hv : t.dvc.vent.step = .none → (f t.dvc).vent.step = .none := by exact id) : (t.onDvc f).StaysStopped s :=
  trans (t := t) ⟨rfl, rfl, fun _ _ => id, fun _ _ => rfl, fun _ _ => id, ho, hl, hv, id, .inl rfl, .inl ⟨rfl, rfl⟩⟩ h

theorem onPlk (h : t.StaysStopped s) {f : Plk → Plk} : (t.onPlk f).StaysStopped s :=
  trans (t := t) (of_eq rfl rfl rfl rfl rfl rfl) h
theorem onSfc (h : t.StaysStopped s) {f : Sfc → Sfc} : (t.onSfc f).StaysStopped s :=
  trans (t := t) (of_eq rfl rfl rfl rfl rfl rfl) h
theorem onDsc (h : t.StaysStopped s) {f : Dsc → Dsc} : (t.onDsc f).StaysStopped s :=
  trans (t := t) (of_eq rfl rfl rfl rfl rfl rfl) h
theorem onMbi (h : t.StaysStopped s) {f : Mbi → Mbi} : (t.onMbi f).StaysStopped s :=
  trans (t := t) (of_eq rfl rfl rfl rfl rfl rfl) h

theorem onChannel (h : t.StaysStopped s) {c : Channel} {f : ChannelRec → ChannelRec} :
    (t.onChannel c f).StaysStopped s := (of_eq (by simp) (by simp) (by simp) (by simp) (by simp) (by simp)).trans h

theorem place (h : t.StaysStopped s) {n : Notice} : (t.place n).StaysStopped s :=
  (of_eq (by simp) (by simp) (by simp) (by simp) (by simp) (by simp)).trans h

theorem choose (h : t.StaysStopped s) : t.choose.StaysStopped s :=
  (of_eq (by simp) (by simp) (by simp) (by simp) (by simp) (by simp)).trans h

theorem enqueue (h : t.StaysStopped s) {dest : Addr} {body : DownBody} {source : Enqueuer} :
    (t.enqueue dest body source).1.StaysStopped s :=
  (of_eq (by simp) (by simp) (by simp) (by simp) (by simp) (by simp)).trans h

theorem ite {c : Prop} [Decidable c] {p q : State} (hp : p.StaysStopped s) (hq : q.StaysStopped s) :
    (if c then p else q).StaysStopped s := by
  split
  · exact hp
  · exact hq

theorem cond {c : Prop} [Decidable c] {f : State → State} (h : t.StaysStopped s)
    (hf : ∀ {v : State}, v.StaysStopped s → (f v).StaysStopped s) : (if c then f t else t).StaysStopped s :=
  ite (hf h) h

theorem fst_of_eq {α : Type} {p : State × α} {a : α} (h : p.1.StaysStopped s) (e : p = (t, a)) : t.StaysStopped s := by
  subst e
  exact h

/-- What DSC reports to the cycle is counted and no more. -/
theorem countDosing (h : t.StaysStopped s) {f : Dosing → Dosing} : (t.countDosing f).StaysStopped s := by
  refine trans (t := t) ⟨rfl, ?_, fun _ _ => id, fun _ _ => rfl, fun _ _ => id, rfl, id, id, id, .inl rfl, .inl ⟨rfl, rfl⟩⟩ h
  rcases ha : t.csq.active with _ | e
  · simp [State.countDosing, State.onCsq, ha]
  · rcases hr : t.csq.record with _ | r <;> simp [State.countDosing, State.onCsq, ha, hr, Csq.undosed]

theorem countSteps (h : t.StaysStopped s) {c : Channel} {n : Nat} : (t.countSteps c n).StaysStopped s := h.countDosing

theorem countDrop (h : t.StaysStopped s) {n : Nat} : (t.countDrop n).StaysStopped s := ite h h.countDosing

theorem countDose (h : t.StaysStopped s) {ul : Nat} {hard : Bool} : (t.countDose ul hard).StaysStopped s := h.countDosing

theorem askOrder (h : t.StaysStopped s) {c : Channel} : (t.askOrder c).StaysStopped s := by
  unfold State.askOrder
  split
  · refine ite ?_ h
    split
    · next e => exact (h.enqueue.fst_of_eq e).onChannel
    · next e => exact h.enqueue.fst_of_eq e
  · exact h

theorem askMove (h : t.StaysStopped s) : t.askMove.StaysStopped s := by
  unfold State.askMove
  split
  · refine ite ?_ h
    split
    · next e => exact (h.enqueue.fst_of_eq e).onDvc
    · next e => exact h.enqueue.fst_of_eq e
  · exact h

theorem withdrawMove (h : t.StaysStopped s) : t.withdrawMove.StaysStopped s := ite h.onMbi.onMbi h

theorem removeMsgs (h : t.StaysStopped s) {p : DownMsg → Bool} : (t.removeMsgs p).StaysStopped s := ite h.onMbi.onMbi h

end State.StaysStopped

/-! ### The arbiter wakes no idle claim -/

@[simp] theorem State.lba_granteeEvent (s : State) (l : Load) : (s.granteeEvent l).lba = s.lba :=
  (s.granteeEvent_budget l).1

/-- A grant writes its own load's record alone. -/
theorem State.claimOf_grant_ne (s : State) {l k : Load} (h : k ≠ l) : (s.grant l).claimOf k = s.claimOf k := by
  unfold State.grant
  split
  · simp [h]
  · rw [State.claimOf_congr (State.lba_granteeEvent ..), State.claimOf_onClaim, if_neg h]
    rfl

theorem State.claimOf_revoke_ne (s : State) {l k : Load} (h : k ≠ l) : (s.revoke l).claimOf k = s.claimOf k := by
  simp [State.revoke, h]

theorem State.not_granted_of_idle {s : State} {k : Load} (h : (s.claimOf k).state = .idle) : s.granted k = false := by
  simp [State.granted, h]

theorem State.claimOf_revokeUntil {w limit : Nat} {k : Load} {ls : List Load} (hk : k ∉ ls) (s : State) :
    (State.revokeUntil w limit ls s).claimOf k = s.claimOf k := by
  induction ls generalizing s with
  | nil => rfl
  | cons l ls ih =>
    obtain ⟨hne, hk⟩ := List.ne_and_not_mem_of_not_mem_cons hk
    unfold State.revokeUntil
    split
    · rfl
    · rw [ih hk, s.claimOf_revoke_ne hne]

/-- Room is made by revoking GRANTED loads (R52, R53). -/
theorem State.claimOf_makeRoom {s : State} {k : Load} (hk : (s.claimOf k).state = .idle) (l : Load) :
    (s.makeRoom l).claimOf k = s.claimOf k := by
  have hng : s.granted k = false := State.not_granted_of_idle hk
  unfold State.makeRoom
  split
  · exact State.claimOf_revokeUntil (fun h => by simp [State.granted_of_mem_candidates h] at hng) s
  · split
    · next h => exact s.claimOf_revoke_ne fun e => by subst e; simp [h.2.1] at hng
    · rfl

theorem State.claimOf_walkThrough {k : Load} {ls : List Load} (hk : k ∉ ls) {s : State}
    (hi : (s.claimOf k).state = .idle) : (State.walkThrough ls s).1.claimOf k = s.claimOf k := by
  induction ls generalizing s with
  | nil => rfl
  | cons l ls ih =>
    obtain ⟨hne, hk⟩ := List.ne_and_not_mem_of_not_mem_cons hk
    have hg := s.claimOf_grant_ne hne
    unfold State.walkThrough
    split
    · rw [ih hk (by rw [hg]; exact hi), hg]
    · exact State.claimOf_makeRoom hi l

/-- The walk takes claims that WAIT or are GRANTED (R51, R57). -/
theorem State.not_mem_walkOrder {s : State} {k : Load} (hi : (s.claimOf k).state = .idle) : k ∉ s.walkOrder := by
  intro h
  have hm := List.of_mem_filter ((foldr_insertBy_perm _ _).mem_iff.mp h)
  simp [State.waits, State.increases, State.granted, hi] at hm

theorem State.claimOf_walkAgain {k : Load} (n : Nat) {s : State} (hi : (s.claimOf k).state = .idle) :
    (State.walkAgain n s).claimOf k = s.claimOf k := by
  induction n generalizing s with
  | zero => rfl
  | succ n ih =>
    have ht := State.claimOf_walkThrough (State.not_mem_walkOrder hi) hi
    unfold State.walkAgain
    split
    · next t e =>
      rw [e] at ht
      rw [ih (by rw [ht]; exact hi), ht]
    · next t e =>
      rw [e] at ht
      exact ht

/-- The walk leaves an IDLE claim as it is (R51). -/
theorem State.claimOf_walk {s : State} {k : Load} (hi : (s.claimOf k).state = .idle) : s.walk.claimOf k = s.claimOf k := by
  unfold State.walk
  split
  · rfl
  · exact State.claimOf_walkAgain 4 hi

/-! ### Claims and releases keep what is stopped -/

/-- DVC but for its pusher task, its fan and the running of a vent that waits for its fan. -/
structure State.KeepsDoor (t s : State) : Prop where
  openedFlag : t.dvc.openedFlag = s.dvc.openedFlag
  latch : t.dvc.latch = s.dvc.latch
  vent : s.dvc.vent.step = .none → t.dvc.vent.step = .none
  door : t.dvc.door = s.dvc.door
  bits : t.dvc.bits = s.dvc.bits
  step : t.dvc.vent.step = s.dvc.vent.step ∨ t.dvc.vent.step = .fan
  marks : t.dvc.blockedGone = s.dvc.blockedGone ∧ t.dvc.latchGone = s.dvc.latchGone

theorem State.KeepsDoor.of_eq {s t : State} (h : t.dvc = s.dvc) : t.KeepsDoor s :=
  ⟨by rw [h], by rw [h], by rw [h]; exact id, by rw [h], by rw [h], .inl (by rw [h]), by rw [h], by rw [h]⟩

theorem State.KeepsDoor.trans {s t u : State} (h : u.KeepsDoor t) (g : t.KeepsDoor s) : u.KeepsDoor s :=
  ⟨h.openedFlag.trans g.openedFlag, h.latch.trans g.latch, fun hv => h.vent (g.vent hv), h.door.trans g.door,
    h.bits.trans g.bits, h.step.elim (fun hu => g.step.imp hu.trans hu.trans) .inr, h.marks.1.trans g.marks.1,
    h.marks.2.trans g.marks.2⟩

theorem State.askMove_keepsDoor (s : State) : s.askMove.KeepsDoor s := by
  unfold State.askMove
  split
  · next origin target a _ _ =>
    have hd : (s.enqueue a (.move target) .dvc).1.dvc = s.dvc := by simp
    split
    · split
      · next u e =>
        replace hd : u.dvc = s.dvc := by rw [e] at hd; exact hd
        exact ⟨by simp [hd], by simp [hd], fun hv => by simpa [hd] using hv, by simp [hd], by simp [hd],
          .inl (by simp [hd]), by simp [hd], by simp [hd]⟩
      · next e => rw [e] at hd; exact .of_eq hd
    · exact .of_eq rfl
  · exact .of_eq rfl

theorem State.granteeEvent_keepsDoor (s : State) (l : Load) : (s.granteeEvent l).KeepsDoor s := by
  unfold State.granteeEvent
  split
  · exact s.askMove_keepsDoor
  · unfold State.fanGranted
    split
    · next hw => exact ⟨rfl, rfl, fun hv => by simp [hw] at hv, rfl, rfl, .inr rfl, rfl, rfl⟩
    · exact .of_eq rfl
  · refine .of_eq ?_
    unfold State.valveGranted
    dsimp only
    split <;> simp
  all_goals exact .of_eq rfl

theorem State.grant_keepsDoor (s : State) (l : Load) : (s.grant l).KeepsDoor s := by
  unfold State.grant
  split
  · exact .of_eq (by simp)
  · exact (State.granteeEvent_keepsDoor _ l).trans (.of_eq (by simp))

theorem State.walk_keepsDoor (s : State) : s.walk.KeepsDoor s :=
  State.walk_keeps (P := fun t => t.KeepsDoor s) (fun t l _ h => (t.grant_keepsDoor l).trans h)
    (fun t l h => State.KeepsDoor.trans (.of_eq (by simp)) h) (.of_eq rfl)

theorem State.walk_locked {s : State} (h : s.locked = true) : s.walk = s := by simp [State.walk, h]

theorem State.walk_flu (s : State) : s.walk.flu = s.flu :=
  State.walk_keeps (P := fun t => t.flu = s.flu) (fun t l _ h => (t.grant_flu l).trans h)
    (fun t l h => by simpa using h) rfl

namespace State.StaysStopped

variable {s t u : State}

/-- A step of the arbiter: WHU, CSQ, the faults and the settings are not its own. -/
theorem of_arbiter (hst : u.settings = t.settings) (hc : u.csq = t.csq) (hw : u.whu = t.whu) (hd : u.KeepsDoor t)
    (hlock : ∀ code detail, t.LockedBy code detail → u.LockedBy code detail)
    (hl : t.locked = true → (∀ l, (t.claimOf l).state = .idle) → u.lba = t.lba)
    (hp : ∀ l, l.stopped = true → (t.claimOf l).state = .idle → (u.claimOf l).state = .idle) : u.StaysStopped t where
  settings := hst
  csq := by rw [hc]
  lock := hlock
  lba := fun ⟨_, _, h⟩ => hl h.locked
  pumps := hp
  openedFlag := hd.openedFlag
  latch h := hd.latch.trans h
  vent := hd.vent
  rinse := by rw [hw]; exact id
  drain := .inl (by rw [hw])
  inlet := .inl ⟨by rw [hw], by rw [hw]⟩

theorem walk (h : t.StaysStopped s) : t.walk.StaysStopped s :=
  (of_arbiter (by simp) (by simp) (by simp) t.walk_keepsDoor (fun _ _ => .congr t.walk_flu)
    (fun hl _ => by rw [State.walk_locked hl]) fun l _ hi => by rw [State.claimOf_walk hi]; exact hi).trans h

theorem endClaim (h : t.StaysStopped s) {l : Load} : (t.endClaim l).StaysStopped s :=
  (of_arbiter (by simp) (by simp) (by simp) (.of_eq (by simp)) (fun _ _ => .congr (by simp))
    (fun _ hi => by simp [State.endClaim, hi l]) fun k _ hi => by
      by_cases hk : k = l
      · subst hk; exact t.claimOf_endClaim_self k
      · rw [State.claimOf_endClaim_ne hk]; exact hi).trans h

theorem release (h : t.StaysStopped s) {l : Load} : (t.release l).StaysStopped s := ite h h.endClaim.walk

/-- The claim of a load that a cycle end does not stop; under a LOCKOUT it is withheld. -/
theorem claim (h : t.StaysStopped s) {l : Load} (hl : l.stopped = false := by rfl) : (t.claim l).1.StaysStopped s := by
  unfold State.claim
  split
  · exact h
  · split
    · exact h
    · next hnl =>
      have hnone : ∀ code detail, ¬ t.LockedBy code detail := fun _ _ hk => hnl hk.locked
      split
      · exact h
      · split
        · exact (of_arbiter (u := t.tellUnfit l) (by simp [State.tellUnfit]) (by simp [State.tellUnfit])
            (by simp [State.tellUnfit]) (.of_eq (by simp [State.tellUnfit])) (fun _ _ hk => absurd hk (hnone _ _))
            (fun hk => absurd hk hnl) fun k _ hi => by
              simpa [State.tellUnfit, State.claimOf] using hi).trans h
        · refine walk ((of_arbiter (by simp) (by simp) (by simp) (.of_eq (by simp))
            (fun _ _ hk => absurd hk (hnone _ _)) (fun hk => absurd hk hnl) fun k hk hi => ?_).trans h)
          have hne : k ≠ l := fun e => by subst e; simp [hl] at hk
          simpa [hne] using hi

/-! ### Doses, fills and the retract -/

theorem markHead (h : t.StaysStopped s) {c : Channel} {b : Bool} : (t.markHead c b).StaysStopped s := h.onChannel

theorem startOrder (h : t.StaysStopped s) {c : Channel} : (t.startOrder c).StaysStopped s := by
  have hc : (t.claim (channelLoad c)).1.StaysStopped s := h.claim (by cases c <;> rfl)
  unfold State.startOrder
  refine ite ?_ h
  split
  · next e => exact (hc.fst_of_eq e).onChannel
  · next e => exact (hc.fst_of_eq e).markHead.askOrder
  · next e => exact (hc.fst_of_eq e).markHead.askOrder
  · next e => exact hc.fst_of_eq e
  · next e => exact hc.fst_of_eq e

theorem createOrder (h : t.StaysStopped s) {c : Channel} {origin : Origin} {amount : Amount} :
    (t.createOrder c origin amount).StaysStopped s := h.onChannel

theorem placeSteps (h : t.StaysStopped s) {c : Channel} {origin : Origin} {n : Nat} :
    (t.placeSteps c origin n).StaysStopped s := by
  unfold State.placeSteps
  refine ite h (ite h.countDrop (ite h.createOrder.countSteps.startOrder (ite ?_ h.countDrop)))
  split
  · exact h.onChannel.countSteps.countDrop
  · exact h.countDrop

theorem dose (h : t.StaysStopped s) {origin : Origin} {ml soil : Nat} : (t.dose origin ml soil).StaysStopped s :=
  h.onChannel.placeSteps.countDose

theorem placeOwed (h : t.StaysStopped s) : t.placeOwed.StaysStopped s := h.onDsc.placeSteps

theorem flushTest (h : t.StaysStopped s) : t.flushTest.StaysStopped s := h.cond placeOwed

theorem rinseEndStep (h : t.StaysStopped s) : t.rinseEndStep.StaysStopped s := ite h.onDsc.flushTest h

theorem dropQueued (h : t.StaysStopped s) {c : Channel} : (t.dropQueued c).StaysStopped s := h.onChannel.countDrop

theorem channelLockout (h : t.StaysStopped s) {c : Channel} : (t.channelLockout c).StaysStopped s := by
  unfold State.channelLockout
  dsimp only
  split
  · exact h.dropQueued.cond fun hv => hv.onChannel
  · exact (h.dropQueued.cond fun hv => hv.onChannel).flushTest

theorem closeInlet (h : t.StaysStopped s) {outcome : DrawOutcome} : (t.closeInlet outcome).StaysStopped s := by
  unfold State.closeInlet
  split
  · exact h
  · exact (h.of_whu (hi := .inr ⟨rfl, rfl⟩)).onSfc

theorem recomputeTank (h : t.StaysStopped s) : t.recomputeTank.StaysStopped s := h.of_whu

theorem closeFill (h : t.StaysStopped s) : t.closeFill.StaysStopped s := by
  unfold State.closeFill
  split
  · exact h
  · have hw := h.of_whu (f := fun w => { w with fill := none })
    exact ite hw.of_whu (ite (ite hw.closeInlet.of_whu hw.closeInlet.dose) hw.of_whu)

theorem startFill (h : t.StaysStopped s) {kind : FillKind} : (t.startFill kind).StaysStopped s :=
  h.of_whu.cond fun hv => hv.closeFill.recomputeTank

theorem armFill (h : t.StaysStopped s) : t.armFill.StaysStopped s := h.cond fun hv => hv.startFill

theorem reportFill (h : t.StaysStopped s) {pulses : Nat} : (t.reportFill pulses).StaysStopped s := by
  unfold State.reportFill
  split
  · exact h.of_whu.recomputeTank.dose
  · exact h

theorem noteDoor (h : t.StaysStopped s) {moved : Option (Octet × Nat)} : (t.noteDoor moved).StaysStopped s := h.place

theorem abandonTask (h : t.StaysStopped s) : t.abandonTask.StaysStopped s := by
  unfold State.abandonTask
  split
  · exact h
  · exact h.onDvc.release.withdrawMove
  · exact h.onDvc.release.noteDoor

theorem startRetract (h : t.StaysStopped s) : t.startRetract.StaysStopped s := by
  unfold State.startRetract
  refine ite ?_ h
  split
  · next e => exact (h.claim.fst_of_eq e).onDvc.noteDoor
  · next e => exact h.claim.fst_of_eq e
  · next e => exact (h.claim.fst_of_eq e).onDvc
  · next e => exact (h.claim.fst_of_eq e).onDvc
  · next e => exact h.claim.fst_of_eq e

theorem dropVent (h : t.StaysStopped s) : t.dropVent.StaysStopped s :=
  ite h (h.abandonTask.withdrawMove.onDvc.release.onDvc (hv := fun _ => rfl))

theorem clearLatch (h : t.StaysStopped s) : t.clearLatch.StaysStopped s := h.onDvc (hl := fun _ => rfl)

/-! ### The end of a cycle -/

theorem dropDrain (h : t.StaysStopped s) : t.dropDrain.StaysStopped s := (h.of_whu (hd := .inr rfl)).release

theorem endCycleDrain (h : t.StaysStopped s) : t.endCycleDrain.StaysStopped s := by
  unfold State.endCycleDrain
  split
  · exact h.of_whu.dropDrain
  · exact h.dropDrain
  · exact h
  · exact h.of_whu

theorem stopOutputs (h : t.StaysStopped s) : t.stopOutputs.StaysStopped s :=
  ((h.release.release.of_whu (f := fun w => { w with rinseWaiting := false }) (hr := fun _ => rfl)).cond
    fun hv => hv.closeInlet).endCycleDrain

end State.StaysStopped
/-! ### The end of a cycle (O24) -/

/-- The record of a cycle that ends, by its own copy or a new one (R41). -/
theorem State.closingRecord_congr {s t : State} (h : t.csq = s.csq) (hk : t.settings = s.settings) (e : ActiveEntry)
    (o : CycleOutcome) : t.closingRecord e o = s.closingRecord e o := by
  unfold State.closingRecord
  rw [h, show t.k = s.k from by simp only [State.k, State.num_congr hk]]

@[simp] theorem State.closeInlet_csq (s : State) (o : DrawOutcome) : (s.closeInlet o).csq = s.csq := by
  unfold State.closeInlet
  split <;> simp

@[simp] theorem State.endCycleDrain_csq (s : State) : s.endCycleDrain.csq = s.csq := by
  unfold State.endCycleDrain
  split <;> simp [State.endPurge, State.dropDrain]

@[simp] theorem State.stopOutputs_csq (s : State) : s.stopOutputs.csq = s.csq := by
  unfold State.stopOutputs
  dsimp only
  split <;> simp

@[simp] theorem State.abandonTask_csq_whu (s : State) : s.abandonTask.csq = s.csq ∧ s.abandonTask.whu = s.whu := by
  unfold State.abandonTask
  split
  · exact ⟨rfl, rfl⟩
  · unfold State.abandonPush State.withdrawMove State.removeMsgs
    split <;> simp [State.dequeued]
  · simp [State.breakRetract, State.abandonRetract, State.noteDoor]

@[simp] theorem State.startRetract_csq_whu (s : State) : s.startRetract.csq = s.csq ∧ s.startRetract.whu = s.whu := by
  have hc := s.claim_whu_csq_settings .doorDrive
  unfold State.startRetract
  split
  · split <;> next e => simp_all [State.noteDoor]
  · exact ⟨rfl, rfl⟩

@[simp] theorem State.dropVent_csq_whu (s : State) : s.dropVent.csq = s.csq ∧ s.dropVent.whu = s.whu := by
  unfold State.dropVent State.withdrawMove State.removeMsgs
  split
  · exact ⟨rfl, rfl⟩
  · split <;> simp [State.dequeued]

@[simp] theorem State.clearLatch_csq_whu (s : State) : s.clearLatch.csq = s.csq ∧ s.clearLatch.whu = s.whu := ⟨rfl, rfl⟩

@[simp] theorem State.doorCycleEnd_csq_whu (s : State) (n : Bool) :
    (s.doorCycleEnd n).csq = s.csq ∧ (s.doorCycleEnd n).whu = s.whu := by
  unfold State.doorCycleEnd
  dsimp only
  split <;> split <;> simp

/-- A cycle's end before its queue shifts: outputs and door stopped, the record placed, the counters saved (R40). -/
def State.cycleClosed (s : State) (e : ActiveEntry) (o : CycleOutcome) : State :=
  ((((((s.stopOutputs.doorCycleEnd (decide (e.number ≠ 0))).onCsq fun c => { c with record := none }).place
    (.cycleEnd (s.stopOutputs.closingRecord e o))).onCsq fun c => { c with cycleOpen := 0 })).saveCounters)

theorem State.endCycle_eq {s : State} {e : ActiveEntry} (h : s.csq.active = some e) (o : CycleOutcome) :
    s.endCycle o = (s.cycleClosed e o).shiftQueue := by
  simp only [State.endCycle, h]
  rfl

theorem State.endCycle_none {s : State} (h : s.csq.active = none) (o : CycleOutcome) : s.endCycle o = s := by
  simp only [State.endCycle, h]

@[simp] theorem State.cycleClosed_csq (s : State) (e : ActiveEntry) (o : CycleOutcome) :
    (s.cycleClosed e o).csq = { s.csq with record := none, cycleOpen := 0 } := by
  simp [State.cycleClosed]

/-- The queue shifts to nothing (R40). -/
theorem State.shiftQueue_none {s : State} (h : s.csq.waiting = none) :
    s.shiftQueue =
      ({ s with csq := Csq.cleared s.csq.recipes s.csq.counter s.csq.cycleOpen }).place
        (.cyclePhase 0 none .idle false false) := by
  simp only [State.shiftQueue, h]
  rfl

/-- PENDING has become ACTIVE in ARMED, with a copy of its recipe and number 0 (R23, R40). -/
def State.promoted (s : State) (p : PendingEntry) : State :=
  ((s.dropWaiting).onCsq fun c =>
    { c with
      active := some
        { recipe := p.recipe, queuedAt := p.queuedAt, copy := (c.recipes.toList[p.recipe]?).getD defaultRecipe, number := 0,
          dosing := Dosing.zero }
      record := none, hold := Hold.reset, washMs := 0, rinseWait := RinseWait.reset, rinse := RinseRec.reset
      dwellMs := 0 }).enterState .armed

/-- The queue shifts to PENDING, and an EMPTY tank is filled (R10, R40). -/
theorem State.shiftQueue_some {s : State} {p : PendingEntry} (h : s.csq.waiting = some p) :
    s.shiftQueue = (s.promoted p).armFill := by
  simp only [State.shiftQueue, h]
  rfl

@[simp] theorem State.promoted_frame (s : State) (p : PendingEntry) :
    (s.promoted p).whu = s.whu ∧ (s.promoted p).lba = s.lba ∧ (s.promoted p).dvc = s.dvc ∧
      (s.promoted p).settings = s.settings ∧ (s.promoted p).csq.phase = .armed ∧ (s.promoted p).csq.waiting = none ∧
      (s.promoted p).csq.counter = s.csq.counter ∧ (s.promoted p).csq.cycleOpen = s.csq.cycleOpen ∧
      (s.promoted p).csq.active =
        some { recipe := p.recipe, queuedAt := p.queuedAt, copy := (s.csq.recipes.toList[p.recipe]?).getD defaultRecipe,
               number := 0, dosing := Dosing.zero } := by
  simp [State.promoted, State.dropWaiting, State.enterState, State.notePhase]

namespace State.StaysStopped

variable {s t : State}

theorem cycle_eq (h : t.StaysStopped s) :
    t.csq.phase = s.csq.phase ∧ t.csq.waiting = s.csq.waiting ∧ t.csq.counter = s.csq.counter ∧
      t.csq.cycleOpen = s.csq.cycleOpen :=
  have hc := h.csq
  ⟨(congrArg Csq.phase hc :), (congrArg Csq.waiting hc :), (congrArg Csq.counter hc :), (congrArg Csq.cycleOpen hc :)⟩

theorem active_some (h : t.StaysStopped s) {e : ActiveEntry} (he : s.csq.active = some e) :
    ∃ d : Dosing, t.csq.active = some { e with dosing := d } := by
  have hm : t.csq.active.map (fun e => { e with dosing := Dosing.zero }) =
      s.csq.active.map (fun e => { e with dosing := Dosing.zero }) := congrArg Csq.active h.csq
  rw [he] at hm
  obtain ⟨e', he', heq⟩ := Option.map_eq_some_iff.mp hm
  refine ⟨e'.dosing, he'.trans (congrArg some ?_)⟩
  simp only [ActiveEntry.mk.injEq] at heq
  obtain ⟨hr, hq, hc, hn, -⟩ := heq
  cases e'
  simp_all

end State.StaysStopped

/-- Once PENDING is ACTIVE, filling the tank changes only what the Dosing Controller counts with it. -/
theorem State.shiftQueue_active {s : State} {p : PendingEntry} (h : s.csq.waiting = some p) :
    s.shiftQueue.csq.phase = .armed ∧ s.shiftQueue.csq.waiting = none ∧ s.shiftQueue.csq.counter = s.csq.counter ∧
      s.shiftQueue.csq.cycleOpen = s.csq.cycleOpen ∧
      ∃ d : Dosing, s.shiftQueue.csq.active =
        some { recipe := p.recipe, queuedAt := p.queuedAt, copy := (s.csq.recipes.toList[p.recipe]?).getD defaultRecipe,
               number := 0, dosing := d } := by
  have hs := (StaysStopped.refl (s.promoted p)).armFill
  obtain ⟨hp, hw, hc, ho⟩ := hs.cycle_eq
  obtain ⟨-, -, -, -, hp', hw', hc', ho', ha'⟩ := s.promoted_frame p
  rw [State.shiftQueue_some h]
  exact ⟨hp.trans hp', hw.trans hw', hc.trans hc', ho.trans ho', hs.active_some ha'⟩

/-- The shift of the queue keeps the opened flag and cycle_open (R40). -/
theorem State.shiftQueue_keeps (s : State) :
    s.shiftQueue.dvc.openedFlag = s.dvc.openedFlag ∧ s.shiftQueue.csq.cycleOpen = s.csq.cycleOpen := by
  rcases h : s.csq.waiting with _ | p
  · rw [State.shiftQueue_none h]
    simp [Csq.cleared]
  · refine ⟨?_, (State.shiftQueue_active h).2.2.2.1⟩
    rw [State.shiftQueue_some h, (StaysStopped.refl (s.promoted p)).armFill.openedFlag]
    simp

/-- The door's part of a cycle end clears the opened flag of a cycle with a number (R139). -/
theorem State.doorCycleEnd_opened (s : State) (n : Bool) :
    (s.doorCycleEnd n).dvc.openedFlag = (!n && s.dvc.openedFlag) := by
  unfold State.doorCycleEnd
  extract_lets t u v
  have ht : u.StaysStopped s := (StaysStopped.refl s).dropVent.cond fun hv => hv.clearLatch
  rw [(StaysStopped.refl v).startRetract.openedFlag]
  cases n
  · exact ht.openedFlag
  · rfl

theorem State.cycleClosed_opened (s : State) (e : ActiveEntry) (o : CycleOutcome) :
    (s.cycleClosed e o).dvc.openedFlag = (!decide (e.number ≠ 0) && s.dvc.openedFlag) := by
  have h : (s.cycleClosed e o).dvc = (s.stopOutputs.doorCycleEnd (decide (e.number ≠ 0))).dvc := by simp [State.cycleClosed]
  rw [h, State.doorCycleEnd_opened, (StaysStopped.refl s).stopOutputs.openedFlag]

/-- The door's part of a cycle end without a vent (R139). -/
theorem State.doorCycleEnd_without_vent {s : State} (h : s.dvc.vent.step = .none) (numbered : Bool) :
    s.doorCycleEnd numbered =
      ({ s with
        dvc := { s.dvc with
          latch := false
          releaseLeft :=
            if s.dvc.latch then (if s.latchEngaged = some false then none else some 2000) else s.dvc.releaseLeft
          openedFlag := s.dvc.openedFlag && !numbered } }).startRetract := by
  have hd : s.dropVent = s := if_pos h
  unfold State.doorCycleEnd
  rw [hd]
  refine congrArg State.startRetract ?_
  cases hl : s.dvc.latch
  · have hd : ({ s with dvc := { s.dvc with latch := false } } : State) = s := by rw [← hl]
    cases numbered <;> simp [State.onDvc, hd, hl]
  · cases numbered <;> simp [State.clearLatch, State.onDvc]
theorem State.place_onCsq (s : State) (n : Notice) (f : Csq → Csq) : (s.place n).onCsq f = (s.onCsq f).place n := by
  unfold State.place State.onCsq State.onPlk
  split <;> rfl

theorem State.cycleClosed_eq (s : State) (e : ActiveEntry) (o : CycleOutcome) :
    s.cycleClosed e o =
      (let u := s.stopOutputs.doorCycleEnd (decide (e.number ≠ 0));
        (({ u with csq := { u.csq with record := none, cycleOpen := 0 } } : State).place
          (.cycleEnd (s.closingRecord e o))).saveCounters) := by
  have hr : s.stopOutputs.closingRecord e o = s.closingRecord e o :=
    State.closingRecord_congr (by simp) (StaysStopped.refl s).stopOutputs.settings e o
  rw [State.cycleClosed, hr, State.place_onCsq]
  rfl

/-- Settles O24: the end of a cycle by its definition, the queue's shift by PENDING, and what a fill keeps of the new
entry. -/
theorem cycleEndEmptiesTheQueue : Obligations.CycleEndEmptiesTheQueue := by
  unfold Obligations.CycleEndEmptiesTheQueue
  refine ⟨?_, ?_, fun _ _ => rfl, ?_, ?_, fun s => State.shiftQueue_none, ?_, fun s n h => State.doorCycleEnd_without_vent h n⟩
  · intro s o ha hw
    obtain ⟨e, he⟩ := Option.isSome_iff_exists.mp ha
    rw [State.endCycle_eq he, State.shiftQueue_none (by simpa using hw)]
    simp
  · intro s o i at' ha hw
    obtain ⟨e, he⟩ := Option.isSome_iff_exists.mp ha
    rw [State.endCycle_eq he]
    obtain ⟨hp, hw', hc, -, d, hd⟩ := State.shiftQueue_active (s := s.cycleClosed e o) (by simpa using hw)
    exact ⟨hp, hw', by simpa using hc, _, hd, rfl, rfl, rfl, by simp [Vector.get_eq_getElem]⟩
  · intro s o e he
    rw [State.endCycle_eq he, State.cycleClosed_eq]
    rfl
  · intro s o e he
    rw [State.endCycle_eq he]
    obtain ⟨hf, hc⟩ := (s.cycleClosed e o).shiftQueue_keeps
    rw [hf, hc, State.cycleClosed_opened]
    refine ⟨by simp, fun hn => by simp [hn], fun hn => by simp [hn]⟩
  · intro s i at' hw
    have hs : s.shiftQueue = (s.promoted { recipe := i.val, queuedAt := at' }).armFill := State.shiftQueue_some hw
    have ht : s.promoted { recipe := i.val, queuedAt := at' } = ({ s with
          csq := { Csq.cleared s.csq.recipes s.csq.counter s.csq.cycleOpen with
            phase := .armed,
            active := some
              { recipe := i.val, queuedAt := at', copy := s.csq.recipes.get i, number := 0, dosing := Dosing.zero } } }).place
                (.cyclePhase 0 (some i.val) .armed false false) := by
      simp [State.promoted, State.enterState, State.notePhase, State.dropWaiting, State.onCsq, Csq.cleared,
        Vector.get_eq_getElem]
      rfl
    rw [hs, ← ht]
    refine ⟨fun h => State.armFill_wet (by simpa using h), fun h => State.armFill_empty (by simpa using h) (by simp)⟩
/-! ### CANCEL (O23) -/

@[simp] theorem State.claimOf_release_self (s : State) (l : Load) : ((s.release l).claimOf l).state = .idle := by
  unfold State.release
  split
  · assumption
  · rw [State.claimOf_walk (s.claimOf_endClaim_self l)]
    exact s.claimOf_endClaim_self l

/-- What a cycle end has stopped: the pumps of washing and rinsing, the inlet for RINSE, purging and level keeping. -/
structure State.OutputsStopped (s : State) : Prop where
  wash : (s.claimOf .washPump).state = .idle
  rinse : (s.claimOf .rinsePump).state = .idle
  waiting : s.whu.rinseWaiting = false
  owner : s.whu.owner ≠ some .rinse
  purge : s.whu.drainUser ≠ some .purge
  level : s.whu.drainUser ≠ some .level

theorem State.StaysStopped.outputs {s t : State} (h : t.StaysStopped s) (hs : s.OutputsStopped) : t.OutputsStopped where
  wash := h.pumps _ rfl hs.wash
  rinse := h.pumps _ rfl hs.rinse
  waiting := h.rinse hs.waiting
  owner := h.inlet.elim (fun e => e.1 ▸ hs.owner) fun e => by simp [e.1]
  purge := h.drain.elim (fun e => e ▸ hs.purge) fun e => by simp [e]
  level := h.drain.elim (fun e => e ▸ hs.level) fun e => by simp [e]

/-- The user that a cycle end leaves with the drain pump: neither purging nor level keeping (R20, R40). -/
theorem State.endCycleDrain_drainUser (s : State) :
    s.endCycleDrain.whu.drainUser ≠ some .purge ∧ s.endCycleDrain.whu.drainUser ≠ some .level ∧
      (s.whu.drainUser = some .purge ∨ s.whu.drainUser = some .level →
        (s.endCycleDrain.claimOf .drainPump).state = .idle) := by
  unfold State.endCycleDrain
  split <;> next h => simp [h, State.endPurge, State.dropDrain]

/-- Step 1 of R40. -/
theorem State.stopOutputs_stopped (s : State) :
    s.stopOutputs.OutputsStopped ∧
      (s.whu.drainUser = some .purge ∨ s.whu.drainUser = some .level →
        (s.stopOutputs.claimOf .drainPump).state = .idle) := by
  unfold State.stopOutputs
  extract_lets t
  have htw : (t.claimOf .washPump).state = .idle :=
    ((StaysStopped.refl (s.release .washPump)).release (l := .rinsePump)).pumps .washPump rfl (s.claimOf_release_self _)
  have htr : (t.claimOf .rinsePump).state = .idle := (s.release .washPump).claimOf_release_self .rinsePump
  have htd : t.whu.drainUser = s.whu.drainUser := by simp [t]
  have hc : (if t.whu.owner = some .rinse then t.closeInlet .released else t).whu.drainUser = t.whu.drainUser ∧
      (if t.whu.owner = some .rinse then t.closeInlet .released else t).whu.owner ≠ some .rinse := by
    split
    · next ho => simp [State.closeInlet, ho]
    · next ho => exact ⟨rfl, ho⟩
  have hu := (StaysStopped.refl t).cond (c := t.whu.owner = some .rinse) fun hv => hv.closeInlet (outcome := .released)
  generalize (if t.whu.owner = some .rinse then t.closeInlet .released else t) = u at hc hu
  have hv := (StaysStopped.refl u).endCycleDrain
  obtain ⟨hp, hl, hd⟩ := u.endCycleDrain_drainUser
  refine ⟨⟨hv.pumps _ rfl (hu.pumps _ rfl htw), hv.pumps _ rfl (hu.pumps _ rfl htr), hv.rinse (hu.rinse rfl), ?_, hp, hl⟩,
    fun h => hd (by rwa [hc.1, htd])⟩
  exact hv.inlet.elim (fun e => e.1 ▸ hc.2) fun e => by simp [e.1]

/-- The opened flag written. -/
def State.setOpened (s : State) (b : Bool) : State := s.onDvc fun d => { d with openedFlag := b }

/-- The opened flag written in both states. -/
theorem State.StaysStopped.setOpened {s t : State} (h : t.StaysStopped s) (b : Bool) :
    (t.setOpened b).StaysStopped (s.setOpened b) :=
  { settings := h.settings, csq := h.csq, lock := h.lock, lba := h.lba, pumps := h.pumps, openedFlag := rfl
    latch := h.latch, vent := h.vent, rinse := h.rinse, drain := h.drain, inlet := h.inlet }

@[simp] theorem State.dropVent_step (s : State) : s.dropVent.dvc.vent.step = .none := by
  unfold State.dropVent
  split
  · assumption
  · simp [State.onVent]

/-- The door's part of a cycle end starts nothing, and leaves neither a latch nor a vent (R139). -/
theorem State.doorCycleEnd_stopped (s : State) (n : Bool) :
    (∃ b, (s.doorCycleEnd n).StaysStopped (s.setOpened b)) ∧ (s.doorCycleEnd n).dvc.latch = false ∧
      (s.doorCycleEnd n).dvc.vent.step = .none := by
  unfold State.doorCycleEnd
  extract_lets t u v
  have hu : u.StaysStopped s := (StaysStopped.refl s).dropVent.cond fun hv => hv.clearLatch
  have hul : u.dvc.latch = false := by
    unfold u
    split
    · rfl
    · next hl => simpa using hl
  have huv : u.dvc.vent.step = .none := by
    unfold u
    split
    · exact s.dropVent_step
    · exact s.dropVent_step
  have hr := (StaysStopped.refl v).startRetract
  cases n
  · exact ⟨⟨s.dvc.openedFlag, hr.trans hu⟩, hr.latch hul, hr.vent huv⟩
  · exact ⟨⟨false, hr.trans (hu.setOpened false)⟩, hr.latch hul, hr.vent huv⟩

/-- The queue's shift changes CSQ and starts nothing (R40). -/
theorem State.shiftQueue_stopped (s : State) :
    ∃ u : State, u.lba = s.lba ∧ u.whu = s.whu ∧ u.dvc = s.dvc ∧ u.csq.phase ≠ .wash ∧ u.csq.phase ≠ .rinse ∧
      s.shiftQueue.StaysStopped u := by
  rcases h : s.csq.waiting with _ | p
  · rw [State.shiftQueue_none h]
    exact ⟨_, by simp, by simp, by simp, by simp [Csq.cleared], by simp [Csq.cleared], StaysStopped.refl _⟩
  · rw [State.shiftQueue_some h]
    exact ⟨_, by simp, by simp, by simp, by simp, by simp, (StaysStopped.refl _).armFill⟩

/-- What a cycle end leaves stopped (R40, R139). -/
theorem State.endCycle_stopped {s : State} {e : ActiveEntry} (he : s.csq.active = some e) (o : CycleOutcome) :
    (s.endCycle o).OutputsStopped ∧
      (s.whu.drainUser = some .purge ∨ s.whu.drainUser = some .level →
        ((s.endCycle o).claimOf .drainPump).state = .idle) ∧
      (s.endCycle o).dvc.latch = false ∧ (s.endCycle o).dvc.vent.step = .none ∧ (s.endCycle o).csq.phase ≠ .wash ∧
      (s.endCycle o).csq.phase ≠ .rinse := by
  obtain ⟨hout, hdrain⟩ := s.stopOutputs_stopped
  obtain ⟨⟨b, hdoor⟩, hlatch, hvent⟩ := s.stopOutputs.doorCycleEnd_stopped (decide (e.number ≠ 0))
  obtain ⟨u, hlba, hwhu, hdvc, hnw, hnr, hu⟩ := (s.cycleClosed e o).shiftQueue_stopped
  replace hlba : u.lba = (s.stopOutputs.doorCycleEnd (decide (e.number ≠ 0))).lba := by
    rw [hlba]; simp [State.cycleClosed]
  replace hwhu : u.whu = (s.stopOutputs.doorCycleEnd (decide (e.number ≠ 0))).whu := by
    rw [hwhu]; simp [State.cycleClosed]
  replace hdvc : u.dvc = (s.stopOutputs.doorCycleEnd (decide (e.number ≠ 0))).dvc := by
    rw [hdvc]; simp [State.cycleClosed]
  rw [State.endCycle_eq he]
  generalize s.stopOutputs.doorCycleEnd (decide (e.number ≠ 0)) = d at *
  have hd : d.OutputsStopped := hdoor.outputs ⟨hout.1, hout.2, hout.3, hout.4, hout.5, hout.6⟩
  have hduo : u.OutputsStopped :=
    ⟨by rw [State.claimOf_congr hlba]; exact hd.wash, by rw [State.claimOf_congr hlba]; exact hd.rinse,
      by rw [hwhu]; exact hd.waiting, by rw [hwhu]; exact hd.owner, by rw [hwhu]; exact hd.purge,
      by rw [hwhu]; exact hd.level⟩
  refine ⟨hu.outputs hduo, fun h => hu.pumps _ rfl ?_, hu.latch (by rw [hdvc]; exact hlatch),
    hu.vent (by rw [hdvc]; exact hvent), by rw [hu.cycle_eq.1]; exact hnw, by rw [hu.cycle_eq.1]; exact hnr⟩
  rw [State.claimOf_congr hlba]
  exact hdoor.pumps _ rfl (hdrain h)

theorem State.cancellable_of {s : State} (h : s.csq.phase = .armed ∨ s.csq.phase = .wash ∨ s.csq.phase = .held ∨
    s.csq.phase = .purge ∨ s.csq.phase = .rinseWait) : s.cancellable = true := by
  rcases h with h | h | h | h | h <;> simp [State.cancellable, h]

theorem State.not_cancellable_of {s : State} (h : s.csq.phase = .rinse ∨ s.csq.phase = .dwell ∨ s.csq.phase = .vent) :
    s.cancellable = false := by
  rcases h with h | h | h <;> simp [State.cancellable, h]
/-- A request that is not exempt is answered LOCKED_OUT in a LOCKOUT. -/
theorem exec_locked {i : Instr} {s : State} {kind tag : Octet} {body : List Octet} (ht : s.takes = true)
    (hl : s.locked = true) (hb : requestBody i = some (kind, tag, body)) (hx : State.exempt kind = false)
    (hf : s.formOf i = none) : exec i s = .next (s.reply kind tag .lockedOut []).finish := by
  have he : encodeRequest i = some { kind := kind, tag := tag, body := body } := by simp [encodeRequest, hb]
  rw [exec_request he, hf, State.request_locked ht hl hx]

/-- Settles O23: the rows of CANCEL, and what the end of the cycle leaves stopped. -/
theorem cancelEndsWhatItNames : Obligations.CancelEndsWhatItNames := by
  unfold Obligations.CancelEndsWhatItNames
  refine ⟨fun tag s hs hl => ?_, fun tag s hs => ?_, fun tag s hs ha => ?_, fun tag s hs ha hp => ?_,
    fun tag s hs ha hp => ?_, fun s p ha hw => ?_, fun s ha => ?_, fun s ha => ?_⟩
  · exact ⟨exec_locked hs hl rfl rfl rfl, exec_locked hs hl rfl rfl rfl, exec_locked hs hl rfl rfl rfl⟩
  · split
    · next h => exact exec_serves hs rfl rfl (by simp [serveOf, State.serveCancelPending, h]; rfl)
    · next h => exact exec_serves hs rfl rfl (by simp [serveOf, State.serveCancelPending, h])
  · exact ⟨exec_serves hs rfl rfl (by simp [serveOf, State.serveCancelActive, ha]),
      exec_serves hs rfl rfl (by simp [serveOf, State.serveCancelAll, ha])⟩
  · have hc := State.cancellable_of hp
    obtain ⟨e, he⟩ := Option.isSome_iff_exists.mp ha
    have hall : s.serveCancelAll = (s.dropWaiting.endCycle .cancelled, .ok, []) := by simp [State.serveCancelAll, he, hc]
    exact ⟨exec_serves hs rfl rfl (by simp [serveOf, State.serveCancelActive, he, hc]), exec_serves hs rfl rfl hall⟩
  · have hc := State.not_cancellable_of hp
    obtain ⟨e, he⟩ := Option.isSome_iff_exists.mp ha
    have hall : s.serveCancelAll = (s.dropWaiting, .tooLate, []) := by simp [State.serveCancelAll, he, hc]
    exact ⟨exec_serves hs rfl rfl (by simp [serveOf, State.serveCancelActive, he, hc]), exec_serves hs rfl rfl hall⟩
  · obtain ⟨e, he⟩ := Option.isSome_iff_exists.mp ha
    rw [State.endCycle_eq he]
    obtain ⟨-, hnone, -, -, d, hd⟩ := State.shiftQueue_active (s := s.cycleClosed e .cancelled) (by simpa using hw)
    exact ⟨hnone, _, hd, rfl⟩
  · obtain ⟨e, he⟩ := Option.isSome_iff_exists.mp ha
    have he' : s.dropWaiting.csq.active = some e := he
    change (s.dropWaiting.endCycle .cancelled).csq.active = none ∧ (s.dropWaiting.endCycle .cancelled).csq.waiting = none
    rw [State.endCycle_eq he', State.shiftQueue_none (by simp [State.dropWaiting])]
    simp [Csq.cleared]
  · obtain ⟨e, he⟩ := Option.isSome_iff_exists.mp ha
    obtain ⟨hout, hdrain, hlatch, hvent, hnw, hnr⟩ := State.endCycle_stopped he .cancelled
    exact ⟨hout.wash, by simp [State.washPumpOn, hnw], hout.rinse, by simp [State.rinsePumpOn, hnr], hout.waiting, hout.owner,
      hout.purge, hout.level, hdrain, hlatch, hvent⟩
/-! ### The fault list (O55) -/

/-- A change of a record that keeps its key is read back at that key. -/
theorem State.faultRec_onFault {f : FaultRec → FaultRec} (hf : ∀ r, (f r).code = r.code ∧ (f r).detail = r.detail) (s : State)
    (code : FaultCode) (detail : Nat) : (s.onFault code detail f).faultRec code detail = (s.faultRec code detail).map f := by
  simp only [State.faultRec, State.onFault, State.onFlu]
  induction s.flu.list with
  | nil => rfl
  | cons x xs ih =>
    by_cases hx : x.code = code ∧ x.detail = detail
    · simp [FaultRec.keyed, hx, hf]
    · simp only [List.map_cons, FaultRec.keyed, hx, decide_false, Bool.false_eq_true, if_false, List.find?_cons]
      simpa [FaultRec.keyed] using ih

/-- The notice about a record of a key in the list. -/
theorem State.noteFault_found {s : State} {event : FaultEvent} {code : FaultCode} {detail : Nat} {r : FaultRec}
    (h : s.faultRec code detail = some r) :
    s.noteFault event code detail = s.place (.fault event code detail r.cls r.count r.firstCycle) := by
  obtain ⟨-, hc, hd⟩ := State.faultRec_mem h
  simp only [State.noteFault, h, State.faultNotice, hc, hd]

/-- What a raise writes to a record of its key (R173). -/
def FaultRec.raised (c : FaultClass) (r : FaultRec) : FaultRec :=
  { r with count := min 255 (r.count + 1), present := true, cls := c, ack := r.ack || decide (c = .lockout) }

/-- A raise of a key in the list (R173). -/
theorem State.enterFault_known {s : State} {code : FaultCode} {d : Nat} {r : FaultRec} (h : s.faultRec code d = some r)
    (cls : FaultClass) :
    s.enterFault code d cls =
      (if r.cls.worse cls = r.cls then s.onFault code d (FaultRec.raised (r.cls.worse cls))
        else (s.onFault code d (FaultRec.raised (r.cls.worse cls))).noteFault .classChanged code d, true) := by
  simp only [State.enterFault, h]
  rfl

/-- A raise of a new key with room (R173). -/
theorem State.enterFault_new {s : State} {code : FaultCode} {d : Nat} (h : s.faultRec code d = none)
    (hroom : s.flu.list.length < Config.faultLimit) (cls : FaultClass) :
    s.enterFault code d cls = (s.createFault code d cls, true) := by
  simp only [State.enterFault, h, hroom, if_true]

theorem State.place_onFlu (s : State) (n : Notice) (f : Flu → Flu) : (s.place n).onFlu f = (s.onFlu f).place n := by
  unfold State.place State.onFlu State.onPlk
  split <;> rfl

/-- The record of a new key (R173). -/
def FaultRec.created (code : FaultCode) (d : Nat) (cls : FaultClass) (cycle : Nat) : FaultRec :=
  { code := code, detail := d, cls := cls, ack := code.tableAck || decide (cls = .lockout), present := true, count := 1,
    firstCycle := cycle, escalated := false }

theorem State.createFault_eq (s : State) (code : FaultCode) (d : Nat) (cls : FaultClass) :
    s.createFault code d cls =
      (s.onFlu fun u => { u with list := u.list ++ [FaultRec.created code d cls s.csq.counter] }).place
        (.fault .created code d cls 1 s.csq.counter) := rfl

/-- A raise of a new key in a full list displaces a record (R174). -/
theorem State.enterFault_displaces {s : State} {code : FaultCode} {d : Nat} {cls : FaultClass} {r : FaultRec}
    (h : s.faultRec code d = none) (hfull : ¬ s.flu.list.length < Config.faultLimit) (hr : s.displaceable cls = some r) :
    s.enterFault code d cls = ((s.removeFault r.code r.detail).createFault code d cls, true) := by
  simp only [State.enterFault, h, if_neg hfull, hr]

/-- A raise of a new key that finds neither room nor a record to displace (R174). -/
theorem State.enterFault_overflows {s : State} {code : FaultCode} {d : Nat} {cls : FaultClass}
    (h : s.faultRec code d = none) (hfull : ¬ s.flu.list.length < Config.faultLimit) (hr : s.displaceable cls = none) :
    s.enterFault code d cls = (s.onFlu fun u => { u with overflow := satAdd 255 u.overflow 1 }, false) := by
  simp only [State.enterFault, h, if_neg hfull, hr]

/-- The record that gives way: the oldest ended WARNING, else for a STOP or LOCKOUT the oldest WARNING (R174). -/
theorem State.displaceable_eq (s : State) (cls : FaultClass) :
    s.displaceable cls = ((s.flu.list.find? fun x => x.cls = .warning ∧ x.present = false).or
      (if cls = .warning then none else s.flu.list.find? fun x => x.cls = .warning)) := by
  unfold State.displaceable
  split <;> next h => rw [h]; rfl

/-- The escalation test is not made (R177). -/
theorem State.escalate_untested {s : State} {code : FaultCode} {d : Nat} {cls : FaultClass} {r : FaultRec}
    (h : s.faultRec code d = some r) (hn : ¬ (cls = .stop ∨ r.cls = .stop)) : s.escalate code d cls = s := by
  simp only [State.escalate, h, if_neg hn]

/-- The history has taken a raise. -/
def State.pushed (s : State) (code : FaultCode) (d : Nat) : State :=
  s.onFlu fun u => { u with history := pushHistory u.history code d s.csq.counter }

/-- An escalation empties its row. -/
def State.rowEmptied (s : State) (code : FaultCode) (d : Nat) : State :=
  (s.pushed code d).onFlu fun u =>
    { u with history := u.history.map fun h => if h.code = code ∧ h.detail = d then { h with cycles := [] } else h }

/-- A record that has escalated (R177). -/
def FaultRec.escalatedRec (r : FaultRec) : FaultRec := { r with cls := .lockout, ack := true, escalated := true }

theorem State.escalate_tested {s : State} {code : FaultCode} {d : Nat} {cls : FaultClass} {r : FaultRec}
    (h : s.faultRec code d = some r) (hs : cls = .stop ∨ r.cls = .stop) :
    s.escalate code d cls =
      if escalates (pushHistory s.flu.history code d s.csq.counter) code d then
        if r.cls = .lockout then s.rowEmptied code d
        else ((s.rowEmptied code d).onFault code d FaultRec.escalatedRec).noteFault .classChanged code d
      else s.pushed code d := by
  simp only [State.escalate, h, if_pos hs]
  rfl

theorem State.faultRec_rowEmptied (s : State) (code : FaultCode) (d : Nat) :
    (s.rowEmptied code d).faultRec code d = s.faultRec code d := rfl

/-- Three values spanning nine or less escalate (R177). -/
theorem escalates_row {a b c : Nat} {code : FaultCode} {d : Nat} (h : a ≤ c) :
    escalates [{ code := code, detail := d, cycles := [a, b, c] }] code d = true ↔ c - a ≤ 9 := by
  simp [escalates, cycleSpan, h]

/-- Rows of other keys, and a new one (R177). -/
theorem pushHistory_new {rows : List HistoryRow} {code : FaultCode} {d n : Nat} :
    pushHistory (rows.filter fun x => !(x.code = code ∧ x.detail = d)) code d n =
      (if 16 ≤ (rows.filter fun x => !(x.code = code ∧ x.detail = d)).length then
        (rows.filter fun x => !(x.code = code ∧ x.detail = d)).drop 1
      else rows.filter fun x => !(x.code = code ∧ x.detail = d)) ++
        [({ code := code, detail := d, cycles := [n] } : HistoryRow)] := by
  have hnone : (rows.filter fun x => !(x.code = code ∧ x.detail = d)).find? (fun r => r.code = code ∧ r.detail = d) = none := by
    rw [List.find?_eq_none]
    intro x hx
    have hk := List.of_mem_filter hx
    simp only [Bool.not_eq_true'] at hk
    simp [hk]
  have hall : (rows.filter fun x => !(x.code = code ∧ x.detail = d)).filter (fun r => !(r.code = code ∧ r.detail = d)) =
      rows.filter fun x => !(x.code = code ∧ x.detail = d) := by
    rw [List.filter_filter]
    simp
  unfold pushHistory
  rw [hnone, hall]
  simp [Config.historyLimit]
  split <;> rfl

/-- A raise by its list part (R173, R179). -/
theorem State.raise_eq (s : State) (code : FaultCode) (d : Nat) (cls : FaultClass) :
    s.raise code d cls =
      if (s.enterFault code d cls).2 then
        let u := ((s.enterFault code d cls).1.escalate code d cls).wake .fault
        if u.locked && !s.locked then u.enterLockout else u.handOn code d
      else (s.enterFault code d cls).1 := by
  unfold State.raise
  rcases s.raiseList_cases code d cls with ⟨ht, e⟩ | ⟨ht, e⟩
  · rw [e, if_pos ht]
  · rw [e, if_neg (by simp [ht])]

/-- Settles O55. -/
theorem faultListTakesARaise : Obligations.FaultListTakesARaise := by
  unfold Obligations.FaultListTakesARaise
  refine ⟨fun s code d cls h hroom => State.enterFault_new h hroom cls, fun s code d cls r h hc => ?_, fun s code d r h ha => ?_,
    fun s code d r h ha => ?_, fun s code d h => ?_, fun a b c code d => escalates_row, fun s code d cls r h hc => ?_,
    fun s code d cls h hfull => ⟨fun r hr hf => ?_, fun hn ho => ?_⟩,
    fun s code d cls r h => ⟨fun hs he => ?_, fun hs he hl => ?_, fun h1 h2 => ?_⟩,
    fun s code d cls => ⟨fun h => ?_, fun h => ⟨fun hu hl => ?_, fun hul => ?_⟩⟩, fun s code d r h => ?_,
    fun rows code d a b c n => ⟨pushHistory_new, ?_⟩⟩
  · rw [State.enterFault_known h, if_pos hc]
    rfl
  · simp only [State.endCondition, h, ha, if_true]
  · simp only [State.endCondition, h, ha, Bool.false_eq_true, if_false, State.removeFault_found h]
    rfl
  · simp only [State.endCondition, h]
  · rw [State.enterFault_known h, if_neg hc, State.noteFault_found (r := FaultRec.raised (r.cls.worse cls) r)]
    · rfl
    · rw [State.faultRec_onFault (f := FaultRec.raised _) (fun _ => ⟨rfl, rfl⟩), h]
      rfl
  · rw [State.enterFault_displaces h (Nat.not_lt.mpr hfull) (r := r), State.removeFault_found hf, State.createFault_eq,
      State.place_onFlu]
    · simp only [State.place_frame]
      rfl
    · rw [State.displaceable_eq]
      rcases hr with hr | ⟨hn, hcls, hr⟩
      · rw [hr]; rfl
      · rw [hn, hr, if_neg hcls]; rfl
  · rw [State.enterFault_overflows h (Nat.not_lt.mpr hfull)]
    · rfl
    · rw [State.displaceable_eq, hn]
      rcases ho with ho | ho <;> simp [ho]
  · rw [State.escalate_tested h hs, if_neg (by simp [he])]
    rfl
  · rw [State.escalate_tested h hs, if_pos he, if_neg hl, State.noteFault_found (r := r.escalatedRec)]
    · rfl
    · rw [State.faultRec_onFault (f := FaultRec.escalatedRec) (fun _ => ⟨rfl, rfl⟩), State.faultRec_rowEmptied, h]
      rfl
  · exact State.escalate_untested h (by simp [h1, h2])
  · rw [State.raise_eq, if_neg (by simp [h])]
  · rw [State.raise_eq, if_pos h]
    exact if_pos (by simp [hu, hl])
  · rw [State.raise_eq, if_pos h]
    exact if_neg (by rcases hul with hul | hul <;> simp [hul])
  · refine ⟨fun hc => ?_, fun hc hp => ?_, fun hc hp => ?_, fun hc => ?_⟩
    · simp only [State.handOn, h, hc]
    · have hs : s.stopEnds = true := by rcases hp with hp | hp | hp | hp | hp <;> simp [State.stopEnds, hp]
      simp only [State.handOn, h, hc, hs, if_true]
    · have hs : s.stopEnds = false := by rcases hp with hp | hp | hp | hp <;> simp [State.stopEnds, hp]
      simp [State.handOn, h, hc, hs]
    · simp only [State.handOn, h, hc]
  · simp [pushHistory]
/-! ### The first LOCKOUT (O56) -/

theorem State.not_lockout {s : State} (h : s.locked = false) {r : FaultRec} (hr : r ∈ s.flu.list) : r.cls ≠ .lockout :=
  fun hc => by simp [(State.locked_iff s).mpr ⟨r, hr, hc⟩] at h

theorem FaultClass.worse_lockout {a b : FaultClass} (ha : a ≠ .lockout) : a.worse b = .lockout ↔ b = .lockout := by
  cases a <;> cases b <;> simp [FaultClass.worse] at ha ⊢

theorem FaultClass.worse_stop {a b : FaultClass} (ha : a ≠ .lockout) :
    a.worse b = .stop ↔ b = .stop ∨ b ≠ .lockout ∧ a = .stop := by
  cases a <;> cases b <;> simp [FaultClass.worse] at ha ⊢

/-- Every record of a key written as LOCKOUT. -/
theorem State.lockedBy_onFault {s : State} {code : FaultCode} {d : Nat} {r : FaultRec} (h : s.faultRec code d = some r)
    {f : FaultRec → FaultRec} (hf : ∀ x, (f x).code = x.code ∧ (f x).detail = x.detail ∧ (f x).cls = .lockout) :
    (s.onFault code d f).LockedBy code d := by
  obtain ⟨hmem, hc, hd⟩ := State.faultRec_mem h
  refine ⟨⟨f r, State.mem_onFault.mpr ⟨r, hmem, if_pos (FaultRec.keyed_iff.mpr ⟨hc, hd⟩)⟩, (hf r).1.trans hc,
    (hf r).2.1.trans hd⟩, fun y hy hyc hyd => ?_⟩
  obtain ⟨x, -, hx⟩ := State.mem_onFault.mp hy
  split at hx
  · rw [← hx]; exact (hf x).2.2
  · next hk => subst hx; exact absurd (FaultRec.keyed_iff.mpr ⟨hyc, hyd⟩) hk

/-- What a raise that the list takes leaves in it, no LOCKOUT standing before (R173, R174). -/
structure State.Entered (t s : State) (code : FaultCode) (d : Nat) (cls : FaultClass) : Prop where
  found : ∃ y : FaultRec, t.faultRec code d = some y ∧ (y.cls = .lockout ↔ cls = .lockout) ∧
    (y.cls = .stop ↔ cls = .stop ∨ cls ≠ .lockout ∧ ∃ r : FaultRec, s.faultRec code d = some r ∧ r.cls = .stop)
  locked : t.locked = true ↔ cls = .lockout
  lockedBy : cls = .lockout → t.LockedBy code d
  history : t.flu.history = s.flu.history

theorem State.entered_created {s t : State} {code : FaultCode} {d : Nat} (cls : FaultClass)
    (hn : s.faultRec code d = none) (hs : s.locked = false) (hsub : ∀ r ∈ t.flu.list, r ∈ s.flu.list)
    (hh : t.flu.history = s.flu.history) : (t.createFault code d cls).Entered s code d cls := by
  have hnk : ∀ r ∈ t.flu.list, ¬ (r.code = code ∧ r.detail = d) := fun r hr hk => by
    have := List.find?_eq_none.mp hn r (hsub r hr)
    simp [hk] at this
  have hlist : (t.createFault code d cls).flu.list = t.flu.list ++ [FaultRec.created code d cls t.csq.counter] := by
    rw [State.createFault_eq]; simp
  have hfound : (t.createFault code d cls).faultRec code d = some (FaultRec.created code d cls t.csq.counter) := by
    unfold State.faultRec
    rw [hlist, List.find?_append, List.find?_eq_none.mpr (fun r hr => by simpa using hnk r hr)]
    simp [FaultRec.created]
  refine ⟨⟨_, hfound, Iff.rfl, ?_⟩, ?_, fun hc => ⟨⟨_, (State.faultRec_mem hfound).1, rfl, rfl⟩, ?_⟩, ?_⟩
  · simp [FaultRec.created, hn]
  · rw [State.locked_iff, hlist]
    constructor
    · rintro ⟨r, hr, hc⟩
      rcases List.mem_append.mp hr with hr | hr
      · exact absurd hc (State.not_lockout hs (hsub r hr))
      · rw [List.mem_singleton.mp hr] at hc
        exact hc
    · exact fun hc => ⟨_, List.mem_append_right _ (List.mem_singleton_self _), hc⟩
  · intro r hr hrc hrd
    rw [hlist] at hr
    rcases List.mem_append.mp hr with hr | hr
    · exact absurd ⟨hrc, hrd⟩ (hnk r hr)
    · rw [List.mem_singleton.mp hr]
      exact hc
  · rw [State.createFault_eq, ← hh]
    simp

theorem State.entered_known {s : State} {code : FaultCode} {d : Nat} {cls : FaultClass} {r : FaultRec}
    (h : s.faultRec code d = some r) (hs : s.locked = false) :
    (s.onFault code d (FaultRec.raised (r.cls.worse cls))).Entered s code d cls := by
  have hr := State.not_lockout hs (State.faultRec_mem h).1
  have hfound : (s.onFault code d (FaultRec.raised (r.cls.worse cls))).faultRec code d =
      some (FaultRec.raised (r.cls.worse cls) r) := by
    rw [State.faultRec_onFault (f := FaultRec.raised _) (fun _ => ⟨rfl, rfl⟩), h]; rfl
  have hby : cls = .lockout → (s.onFault code d (FaultRec.raised (r.cls.worse cls))).LockedBy code d := fun hc =>
    State.lockedBy_onFault h fun x => ⟨rfl, rfl, (FaultClass.worse_lockout hr).mpr hc⟩
  refine ⟨⟨_, hfound, FaultClass.worse_lockout hr, ?_⟩, ⟨fun hl => ?_, fun hc => (hby hc).locked⟩, hby, rfl⟩
  · simpa [h, FaultRec.raised] using FaultClass.worse_stop (b := cls) hr
  · obtain ⟨y, hy, hc⟩ := (State.locked_iff _).mp hl
    obtain ⟨x, hx, hxy⟩ := State.mem_onFault.mp hy
    split at hxy
    · rw [← hxy] at hc
      exact (FaultClass.worse_lockout hr).mp hc
    · subst hxy
      exact absurd hc (State.not_lockout hs hx)

theorem State.Entered.congr {s t u : State} {code : FaultCode} {d : Nat} {cls : FaultClass} (h : t.Entered s code d cls)
    (hf : u.flu = t.flu) : u.Entered s code d cls := by
  obtain ⟨⟨y, hy, hrest⟩, hl, hb, hh⟩ := h
  refine ⟨⟨y, ?_, hrest⟩, ?_, fun hc => (hb hc).congr hf, by rw [hf]; exact hh⟩
  · simpa [State.faultRec, hf] using hy
  · rw [State.locked_congr hf]; exact hl

@[simp] theorem State.noteFault_flu (s : State) (event : FaultEvent) (code : FaultCode) (d : Nat) :
    (s.noteFault event code d).flu = s.flu := by
  unfold State.noteFault
  split <;> simp [State.faultNotice]

/-- The list takes a raise of a key it holds, with room, or with a record that gives way (R173, R174). -/
def State.takesRaise (s : State) (code : FaultCode) (d : Nat) (cls : FaultClass) : Prop :=
  (s.faultRec code d).isSome = true ∨ s.flu.list.length < 40 ∨
    ∃ r ∈ s.flu.list, r.cls = .warning ∧ (cls ≠ .warning ∨ r.present = false)

theorem State.displaceable_isSome (s : State) (cls : FaultClass) :
    (s.displaceable cls).isSome = true ↔ ∃ r ∈ s.flu.list, r.cls = .warning ∧ (cls ≠ .warning ∨ r.present = false) := by
  rw [State.displaceable_eq, Option.isSome_or, Bool.or_eq_true, List.find?_isSome]
  constructor
  · rintro (⟨r, hr, hk⟩ | h)
    · simp only [decide_eq_true_eq] at hk
      exact ⟨r, hr, hk.1, .inr hk.2⟩
    · split at h
      · cases h
      · next hc =>
        obtain ⟨r, hr, hk⟩ := List.find?_isSome.mp h
        exact ⟨r, hr, by simpa using hk, .inl hc⟩
  · rintro ⟨r, hr, hw, hc⟩
    by_cases hp : r.present = false
    · exact .inl ⟨r, hr, by simp [hw, hp]⟩
    · refine .inr ?_
      rw [if_neg (hc.resolve_right hp)]
      exact List.find?_isSome.mpr ⟨r, hr, by simp [hw]⟩

/-- A raise is taken, and leaves what `Entered` says, or is not, and leaves the list and the history (R173, R174). -/
theorem State.enterFault_spec {s : State} (hs : s.locked = false) (code : FaultCode) (d : Nat) (cls : FaultClass) :
    s.takesRaise code d cls ∧ (s.enterFault code d cls).2 = true ∧ (s.enterFault code d cls).1.Entered s code d cls ∨
      ¬ s.takesRaise code d cls ∧ (s.enterFault code d cls).2 = false ∧ (s.enterFault code d cls).1.flu.list = s.flu.list := by
  rcases h : s.faultRec code d with _ | r
  · by_cases hroom : s.flu.list.length < 40
    · rw [State.enterFault_new h hroom]
      exact .inl ⟨.inr (.inl hroom), rfl, State.entered_created cls h hs (fun _ => id) rfl⟩
    · rcases hd : s.displaceable cls with _ | x
      · refine .inr ⟨?_, ?_⟩
        · have hx := (s.displaceable_isSome cls).not.mp (by simp [hd])
          simp [State.takesRaise, h, Nat.not_lt.mp hroom]
          simpa using hx
        · rw [State.enterFault_overflows h hroom hd]
          exact ⟨rfl, rfl⟩
      · rw [State.enterFault_displaces h hroom hd]
        refine .inl ⟨.inr (.inr ((s.displaceable_isSome cls).mp (by simp [hd]))), rfl, ?_⟩
        refine State.entered_created cls h hs (fun r hr => State.mem_removeFault hr) ?_
        unfold State.removeFault
        split <;> simp [State.faultNotice]
  · refine .inl ⟨.inl (by simp [h]), ?_⟩
    rw [State.enterFault_known h]
    refine ⟨rfl, ?_⟩
    dsimp only
    split
    · exact State.entered_known h hs
    · exact (State.entered_known h hs).congr (by simp)

/-- When a raise brings a LOCKOUT, and that the records of its key are then LOCKOUT (R173, R177). -/
theorem State.raised_locked {s : State} (hs : s.locked = false) (code : FaultCode) (d : Nat) (cls : FaultClass) :
    ((((s.enterFault code d cls).1.escalate code d cls).locked = true ↔
        s.takesRaise code d cls ∧
          (cls = .lockout ∨
            ((cls = .stop ∨ ∃ r : FaultRec, s.faultRec code d = some r ∧ r.cls = .stop) ∧
              escalates (pushHistory s.flu.history code d s.csq.counter) code d = true)))) ∧
      (((s.enterFault code d cls).1.escalate code d cls).locked = true →
        (s.enterFault code d cls).2 = true ∧ ((s.enterFault code d cls).1.escalate code d cls).LockedBy code d) := by
  have hcsq : (s.enterFault code d cls).1.csq = s.csq := by simp
  rcases State.enterFault_spec hs code d cls with ⟨ht, h2, he⟩ | ⟨ht, h2, hl⟩
  · obtain ⟨⟨y, hy, hylock, hystop⟩, hlocked, hby, hh⟩ := he
    generalize (s.enterFault code d cls).1 = t at *
    simp only [ht, h2, true_and]
    by_cases hc : cls = .lockout
    · have hn : ¬ (cls = .stop ∨ y.cls = .stop) := by simp [hc, hylock.mpr hc]
      rw [State.escalate_untested hy hn]
      exact ⟨⟨fun _ => .inl hc, fun _ => hlocked.mpr hc⟩, fun _ => hby hc⟩
    · have hnl : t.locked ≠ true := fun h => hc (hlocked.mp h)
      have hyl : y.cls ≠ .lockout := fun h => hc (hylock.mp h)
      by_cases hstop : cls = .stop ∨ ∃ r : FaultRec, s.faultRec code d = some r ∧ r.cls = .stop
      · rw [State.escalate_tested hy (hstop.imp_right fun h => hystop.mpr (.inr ⟨hc, h⟩)), hh, hcsq, if_neg hyl]
        simp only [hc, hstop, true_and, false_or]
        by_cases hesc : escalates (pushHistory s.flu.history code d s.csq.counter) code d = true
        · have hk : ((t.rowEmptied code d).onFault code d FaultRec.escalatedRec).LockedBy code d :=
            State.lockedBy_onFault (r := y) (by rw [State.faultRec_rowEmptied]; exact hy) fun x => ⟨rfl, rfl, rfl⟩
          have hk' := hk.congr (State.noteFault_flu _ .classChanged code d)
          rw [if_pos hesc]
          exact ⟨⟨fun _ => hesc, fun _ => hk'.locked⟩, fun _ => hk'⟩
        · rw [if_neg hesc]
          have hp : (t.pushed code d).locked = t.locked := rfl
          rw [hp]
          exact ⟨⟨fun h => absurd h hnl, fun h => absurd h hesc⟩, fun h => absurd h hnl⟩
      · have hn : ¬ (cls = .stop ∨ y.cls = .stop) := by
          rintro (h | h)
          · exact hstop (.inl h)
          · exact hstop ((hystop.mp h).imp_right And.right)
        rw [State.escalate_untested hy hn]
        simp only [hc, hstop, false_and, or_false, iff_false]
        exact ⟨hnl, fun h => absurd h hnl⟩
  · have hnone : s.faultRec code d = none := by
      rcases h : s.faultRec code d with _ | r
      · rfl
      · exact absurd (.inl (by simp [h])) ht
    have hfr : (s.enterFault code d cls).1.faultRec code d = none := by rw [State.faultRec, hl]; exact hnone
    have hesc : (s.enterFault code d cls).1.escalate code d cls = (s.enterFault code d cls).1 := by
      simp only [State.escalate, hfr]
    have hlk : (s.enterFault code d cls).1.locked = false := by
      simpa [State.locked, State.hasClass, hl] using hs
    rw [hesc, hlk]
    simp [ht]
/-! ### A LOCKOUT that stands stays -/

namespace State.LockedBy

variable {s : State} {code : FaultCode} {d : Nat}

theorem congr_list {t : State} (hs : s.LockedBy code d) (h : t.flu.list = s.flu.list) : t.LockedBy code d := by
  unfold State.LockedBy
  rw [h]
  exact hs

/-- Records are written to without a LOCKOUT of this key losing its class. -/
theorem onFault (h : s.LockedBy code d) {c : FaultCode} {e : Nat} {f : FaultRec → FaultRec}
    (hk : ∀ x, (f x).code = x.code ∧ (f x).detail = x.detail)
    (hf : code = c → d = e → ∀ x, x.cls = .lockout → (f x).cls = .lockout) : (s.onFault c e f).LockedBy code d := by
  obtain ⟨⟨r, hr, hrc, hrd⟩, hall⟩ := h
  refine ⟨⟨_, State.mem_onFault.mpr ⟨r, hr, rfl⟩, ?_, ?_⟩, fun y hy hyc hyd => ?_⟩
  · split <;> simp [hk, hrc]
  · split <;> simp [hk, hrd]
  · obtain ⟨x, hx, hxy⟩ := State.mem_onFault.mp hy
    split at hxy
    · next hke =>
      obtain ⟨hxc, hxd⟩ := FaultRec.keyed_iff.mp hke
      subst hxy
      rw [(hk x).1] at hyc
      rw [(hk x).2] at hyd
      exact hf (hyc.symm.trans hxc) (hyd.symm.trans hxd) x (hall x hx hyc hyd)
    · subst hxy
      exact hall x hx hyc hyd

/-- A record of another key leaves and one of another key comes. -/
theorem createFault (h : s.LockedBy code d) {c : FaultCode} {e : Nat} (hne : ¬ (c = code ∧ e = d)) (cls : FaultClass) :
    (s.createFault c e cls).LockedBy code d := by
  have hlist : (s.createFault c e cls).flu.list = s.flu.list ++ [FaultRec.created c e cls s.csq.counter] := by
    rw [State.createFault_eq]; simp
  obtain ⟨⟨r, hr, hk⟩, hall⟩ := h
  unfold State.LockedBy
  rw [hlist]
  refine ⟨⟨r, List.mem_append_left _ hr, hk⟩, fun y hy hyc hyd => ?_⟩
  rcases List.mem_append.mp hy with hy | hy
  · exact hall y hy hyc hyd
  · rw [List.mem_singleton.mp hy] at hyc hyd
    exact absurd ⟨hyc, hyd⟩ hne

theorem removeFault (h : s.LockedBy code d) {c : FaultCode} {e : Nat} (hne : ¬ (c = code ∧ e = d)) :
    (s.removeFault c e).LockedBy code d := by
  obtain ⟨⟨r, hr, hrc, hrd⟩, hall⟩ := h
  refine ⟨⟨r, ?_, hrc, hrd⟩, fun y hy => hall y (State.mem_removeFault hy)⟩
  unfold State.removeFault
  split
  · have hnk : r.keyed c e = false := by
      rw [Bool.eq_false_iff]
      exact fun hk => hne (by obtain ⟨h1, h2⟩ := FaultRec.keyed_iff.mp hk; exact ⟨h1.symm.trans hrc, h2.symm.trans hrd⟩)
    simp [State.faultNotice, hr, hnk]
  · exact hr

theorem enterFault (h : s.LockedBy code d) (c : FaultCode) (e : Nat) (cls : FaultClass) :
    (s.enterFault c e cls).1.LockedBy code d := by
  obtain ⟨⟨r, hr, hrc, hrd⟩, hall⟩ := id h
  have hother : s.faultRec c e = none → ¬ (c = code ∧ e = d) := fun hn hk => by
    have := List.find?_eq_none.mp hn r hr
    simp [hk, hrc, hrd] at this
  rcases hx : s.faultRec c e with _ | x
  · by_cases hroom : s.flu.list.length < Config.faultLimit
    · rw [State.enterFault_new hx hroom]
      exact h.createFault (hother hx) cls
    · rcases hdis : s.displaceable cls with _ | y
      · rw [State.enterFault_overflows hx hroom hdis]
        exact h.congr_list rfl
      · rw [State.enterFault_displaces hx hroom hdis]
        refine createFault (removeFault h fun hk => ?_) (hother hx) cls
        have hy : y ∈ s.flu.list ∧ y.cls = .warning := by
          rw [State.displaceable_eq, Option.or_eq_some_iff] at hdis
          rcases hdis with hf | ⟨-, hf⟩
          · exact ⟨List.mem_of_find?_eq_some hf, by simpa using And.left (by simpa using List.find?_some hf)⟩
          · split at hf
            · cases hf
            · exact ⟨List.mem_of_find?_eq_some hf, by simpa using List.find?_some hf⟩
        have := hall y hy.1 hk.1 hk.2
        rw [hy.2] at this
        cases this
  · rw [State.enterFault_known hx]
    have hw : (s.onFault c e (FaultRec.raised (x.cls.worse cls))).LockedBy code d := by
      refine h.onFault (fun _ => ⟨rfl, rfl⟩) fun hc hd y _ => ?_
      obtain ⟨hm, hxc, hxd⟩ := State.faultRec_mem hx
      change x.cls.worse cls = .lockout
      rw [hall x hm (hxc.trans hc.symm) (hxd.trans hd.symm)]
      rfl
    dsimp only
    split
    · exact hw
    · exact hw.congr (by simp)

theorem escalate (h : s.LockedBy code d) (c : FaultCode) (e : Nat) (cls : FaultClass) :
    (s.escalate c e cls).LockedBy code d := by
  rcases hx : s.faultRec c e with _ | x
  · simpa only [State.escalate, hx] using h
  · by_cases ht : cls = .stop ∨ x.cls = .stop
    · have hrow : (s.rowEmptied c e).LockedBy code d := h.congr_list rfl
      rw [State.escalate_tested hx ht]
      split
      · split
        · exact hrow
        · exact (hrow.onFault (c := c) (e := e) (f := FaultRec.escalatedRec) (fun _ => ⟨rfl, rfl⟩) fun _ _ _ _ => rfl).congr (by simp)
      · exact h.congr_list rfl
    · rw [State.escalate_untested hx ht]
      exact h

/-- No raise takes a LOCKOUT from the list (R173, R174, R177). -/
theorem raiseList (h : s.LockedBy code d) (c : FaultCode) (e : Nat) (cls : FaultClass) :
    (s.raiseList c e cls).1.LockedBy code d := by
  rcases s.raiseList_cases c e cls with ⟨-, heq⟩ | ⟨-, heq⟩
  · rw [heq]
    exact ((h.enterFault c e cls).escalate c e cls).congr (by simp)
  · rw [heq]
    exact h.enterFault c e cls

end State.LockedBy

namespace State.StaysStopped

variable {s t : State}

theorem warn (h : t.StaysStopped s) {c : FaultCode} {e : Nat} : (t.warn c e).StaysStopped s :=
  trans
    { settings := by simp
      csq := by simp
      lock := fun code d hl => hl.raiseList c e .warning
      lba := fun _ _ => by simp
      pumps := fun l _ hi => by rw [State.claimOf_congr (s := t) (by simp)]; exact hi
      openedFlag := by simp
      latch := by simp
      vent := by simp
      rinse := by simp
      drain := .inl (by simp)
      inlet := .inl ⟨by simp, by simp⟩ } h

theorem becomeDue (h : t.StaysStopped s) : t.becomeDue.StaysStopped s := h.onSfc.warn

theorem startChangeover (h : t.StaysStopped s) : t.startChangeover.StaysStopped s := by
  unfold State.startChangeover
  refine ite ?_ h
  split
  · next e => exact (h.onSfc.claim.fst_of_eq e).becomeDue
  · next e => exact (h.onSfc.claim.fst_of_eq e).onSfc
  · next e => exact h.onSfc.claim.fst_of_eq e
  · next e => exact h.onSfc.claim.fst_of_eq e
  · next e => exact h.onSfc.claim.fst_of_eq e

theorem retestDue (h : t.StaysStopped s) : t.retestDue.StaysStopped s := h.cond fun hv => hv.onSfc.startChangeover

theorem softenerLockout (h : t.StaysStopped s) : t.softenerLockout.StaysStopped s := by
  unfold State.softenerLockout
  dsimp only
  split
  · exact h.onSfc.onSfc
  · exact ite h.onSfc.onSfc.becomeDue.retestDue h.onSfc.onSfc
  all_goals exact h.onSfc

/-- A vent whose PUSH a LOCKOUT ends was not at rest before it (R131). -/
theorem doorLockout (h : t.StaysStopped s) : t.doorLockout.StaysStopped s := by
  have ha := (refl t).abandonTask
  refine trans ?_ h
  unfold State.doorLockout
  split
  · dsimp only
    split
    · next hp =>
      have hv : t.dvc.vent.step = .push := by simpa using hp
      exact { ha with vent := fun hn => by rw [hn] at hv; cases hv }
    · exact ha
  all_goals exact ha

end State.StaysStopped

/-! ### Every block at the first LOCKOUT -/

/-- What the ending of claims keeps: G + S, the budget in force, and everything outside the arbiter. -/
structure State.EndsClaims (t s : State) : Prop where
  sum : t.sumGranted + t.sumSettling = s.sumGranted + s.sumSettling
  inForce : t.lba.inForce = s.lba.inForce
  settings : t.settings = s.settings
  csq : t.csq = s.csq
  whu : t.whu = s.whu
  flu : t.flu = s.flu

theorem State.endClaim_endsClaims (s : State) (l : Load) : (s.endClaim l).EndsClaims s := by
  refine ⟨?_, ?_, by simp, by simp, by simp, by simp⟩
  · unfold State.endClaim
    split
    · rfl
    · next hw =>
      have h := s.sumGranted_onClaim l fun c => { c with state := .idle, waitMs := 0, promoted := false, counted := 0 }
      have hd : s.drawn l = 0 := State.drawn_of_not_granted (by simp [State.granted, hw])
      rw [State.drawn_onClaim_self, if_neg (by simp)] at h
      rw [State.sumSettling_onClaim]
      omega
    · next hg =>
      have h := (s.settle l (s.claimOf l).counted).sumGranted_onClaim l fun c =>
        { c with state := .idle, waitMs := 0, promoted := false, counted := 0 }
      have hd : s.drawn l = (s.claimOf l).counted := State.drawn_of_granted (by simp [State.granted, hg])
      rw [State.drawn_onClaim_self, if_neg (by simp), State.drawn_settle, State.sumGranted_settle] at h
      rw [State.sumSettling_onClaim, State.sumSettling_settle]
      omega
  · unfold State.endClaim
    split <;> simp

theorem State.endAllClaims_endsClaims (s : State) : s.endAllClaims.EndsClaims s := by
  have fold : ∀ (ls : List Load) (t : State), t.EndsClaims s → (ls.foldl State.endClaim t).EndsClaims s := by
    intro ls
    induction ls with
    | nil => exact fun _ => id
    | cons l ls ih =>
      intro t h
      have he := t.endClaim_endsClaims l
      exact ih _ ⟨he.sum.trans h.sum, he.inForce.trans h.inForce, he.settings.trans h.settings, he.csq.trans h.csq,
        he.whu.trans h.whu, he.flu.trans h.flu⟩
  exact fold allLoads s ⟨rfl, rfl, rfl, rfl, rfl, rfl⟩

/-- Without a grant G is 0. -/
theorem State.sumGranted_idle {s : State} (h : ∀ l, (s.claimOf l).state = .idle) : s.sumGranted = 0 := by
  rw [State.sumGranted_eq_sum, List.sum_eq_zero]
  intro n hn
  obtain ⟨l, -, rfl⟩ := List.mem_map.mp hn
  exact State.drawn_of_not_granted (State.not_granted_of_idle (h l))

/-- The water side of a LOCKOUT closes the inlet; the rest of it starts nothing (R179). -/
theorem State.waterLockout_spec (s : State) :
    s.waterLockout.StaysStopped s ∧ s.waterLockout.whu.owner = none ∧
      (s.whu.owner.isSome = true ∨ s.whu.phase = .closed → s.waterLockout.whu.phase = .closed) := by
  have hclose : (s.closeInlet .cut).whu.owner = none ∧
      (s.whu.owner.isSome = true ∨ s.whu.phase = .closed → (s.closeInlet .cut).whu.phase = .closed) := by
    unfold State.closeInlet
    split
    · next ho => simp [ho]
    · simp
  have hc := (StaysStopped.refl s).closeInlet (outcome := .cut)
  unfold State.waterLockout
  extract_lets opening t u draining v
  have hu : u.StaysStopped t := (StaysStopped.refl t).cond fun hv => hv.reportFill
  have hv : v.StaysStopped t := hu.of_whu (hd := .inr rfl)
  have hw : (if draining = true then v.recomputeTank else v).StaysStopped t := hv.cond fun hx => hx.recomputeTank
  refine ⟨hw.trans hc, hw.inlet.elim (fun e => e.1.trans hclose.1) And.left,
    fun h => hw.inlet.elim (fun e => e.2.trans (hclose.2 h)) And.right⟩

/-- The end of a cycle with nothing PENDING leaves an empty queue, and starts nothing (R40). -/
theorem State.endCycle_empties {s : State} (hw : s.csq.waiting = none) (o : CycleOutcome) :
    (s.endCycle o).csq.active = none ∧ (s.endCycle o).csq.waiting = none ∧ (s.endCycle o).settings = s.settings ∧
      (∀ code d, s.LockedBy code d → (s.endCycle o).LockedBy code d) ∧
      ((∃ code d, s.LockedBy code d) → (∀ l, (s.claimOf l).state = .idle) → (s.endCycle o).lba = s.lba) ∧
      ((s.endCycle o).whu.owner = s.whu.owner ∧ (s.endCycle o).whu.phase = s.whu.phase ∨
        (s.endCycle o).whu.owner = none ∧ (s.endCycle o).whu.phase = .closed) := by
  rcases ha : s.csq.active with _ | e
  · rw [State.endCycle_none ha]
    exact ⟨ha, hw, rfl, fun _ _ => id, fun _ _ => rfl, .inl ⟨rfl, rfl⟩⟩
  · obtain ⟨⟨b, hd⟩, -, -⟩ := s.stopOutputs.doorCycleEnd_stopped (decide (e.number ≠ 0))
    replace hd := hd.trans ((StaysStopped.refl s).stopOutputs.setOpened b)
    have hc : (s.cycleClosed e o).settings = s.settings ∧
        (s.cycleClosed e o).flu = (s.stopOutputs.doorCycleEnd (decide (e.number ≠ 0))).flu ∧
        (s.cycleClosed e o).lba = (s.stopOutputs.doorCycleEnd (decide (e.number ≠ 0))).lba ∧
        (s.cycleClosed e o).whu = (s.stopOutputs.doorCycleEnd (decide (e.number ≠ 0))).whu := by
      refine ⟨Eq.trans ?_ hd.settings, ?_⟩ <;> simp [State.cycleClosed]
    obtain ⟨hset, hflu, hlba, hwhu⟩ := hc
    rw [State.endCycle_eq ha, State.shiftQueue_none (by simpa using hw)]
    refine ⟨by simp [Csq.cleared], by simp [Csq.cleared], by simpa using hset,
      fun code d h => (hd.lock code d h).congr (by simpa using hflu), fun hk hi => ?_, ?_⟩
    · have hl := hd.lba hk hi
      simp only [State.place_frame]
      exact hlba.trans hl
    · simp only [State.place_frame]
      rw [hwhu]
      exact hd.inlet

/-- The first LOCKOUT acts on every block (R179): nothing that it ended stands again. -/
theorem State.enterLockout_spec {s : State} {code : FaultCode} {d : Nat} (h : s.LockedBy code d) :
    s.enterLockout.LockedBy code d ∧ (∀ l, (s.enterLockout.claimOf l).state = .idle) ∧
      s.enterLockout.lba = s.endAllClaims.lba ∧ s.enterLockout.settings = s.settings ∧
      s.enterLockout.whu.owner = none ∧
      (s.whu.owner.isSome = true ∨ s.whu.phase = .closed → s.enterLockout.whu.phase = .closed) ∧
      s.enterLockout.csq.active = none ∧ s.enterLockout.csq.waiting = none := by
  have he := s.endAllClaims_endsClaims
  have hidle := s.endAllClaims_idle
  have hk : s.endAllClaims.LockedBy code d := h.congr he.flu
  have howner : s.whu = s.endAllClaims.whu := he.whu.symm
  rw [howner, ← he.settings]
  unfold State.enterLockout
  generalize s.endAllClaims = t at *
  obtain ⟨hw, hnone, hphase⟩ := t.waterLockout_spec
  have hu := (((StaysStopped.refl t.waterLockout).channelLockout (c := .det)).channelLockout (c := .ra)).doorLockout.softenerLockout
  generalize (((t.waterLockout.channelLockout .det).channelLockout .ra).doorLockout).softenerLockout = u at *
  have hut : u.StaysStopped t := hu.trans hw
  unfold State.cycleLockout
  extract_lets v x
  have hx : x.StaysStopped v := (StaysStopped.refl v).cond fun hy => hy.rinseEndStep
  obtain ⟨hact, hwait, hset, hlock, hlba, hin⟩ :=
    State.endCycle_empties (s := x) (hx.cycle_eq.2.1) .abortedFault
  have hvk : v.LockedBy code d := hut.lock code d hk
  have hvl : v.lba = t.lba := hut.lba ⟨code, d, hk⟩ hidle
  have hvi : ∀ l, (v.claimOf l).state = .idle := fun l => by rw [State.claimOf_congr hvl]; exact hidle l
  have hxl : x.lba = t.lba := (hx.lba ⟨code, d, hvk⟩ hvi).trans hvl
  have hxi : ∀ l, (x.claimOf l).state = .idle := fun l => by rw [State.claimOf_congr hxl]; exact hidle l
  have hzl := (hlba ⟨code, d, hx.lock code d hvk⟩ hxi).trans hxl
  have hvin : v.whu = u.whu := rfl
  have hxin : x.whu.owner = none ∧ (x.whu.phase = u.whu.phase ∨ x.whu.phase = .closed) := by
    have huo : u.whu.owner = none := hu.inlet.elim (fun e => e.1.trans hnone) And.left
    exact hx.inlet.elim (fun e => ⟨e.1.trans huo, .inl e.2⟩) fun e => ⟨e.1, .inr e.2⟩
  refine ⟨hlock code d (hx.lock code d hvk), fun l => by rw [State.claimOf_congr hzl]; exact hidle l, hzl,
    hset.trans (hx.settings.trans hut.settings), hin.elim (fun e => e.1.trans hxin.1) And.left, fun hp => ?_, hact, hwait⟩
  have hup : u.whu.phase = .closed := hu.inlet.elim (fun e => e.2.trans (hphase hp)) And.right
  exact hin.elim (fun e => e.2.trans (hxin.2.elim (·.trans hup) id)) And.right

/-- No output is energised with every claim IDLE and the inlet closed. -/
theorem State.quiet_of {s : State} (hi : ∀ l, (s.claimOf l).state = .idle) (hc : s.whu.phase = .closed) : s.quiet = true := by
  have hg : ∀ l, s.granted l = false := fun l => State.not_granted_of_idle (hi l)
  have hv : s.valveOpen = false := by simp [State.valveOpen, hc]
  simp [State.quiet, hv, State.washPumpOn, State.rinsePumpOn, State.drainPumpOn, State.tankHeaterOn, State.boosterAOn,
    State.boosterBOn, hg]

/-- Settles O56: the raise brings the LOCKOUT by its key, and every block then stops what it runs. -/
theorem lockoutStopsTheMachine : Obligations.LockoutStopsTheMachine := by
  unfold Obligations.LockoutStopsTheMachine
  refine ⟨fun s code d cls hs hl => ?_, fun s code d cls hs => (State.raised_locked hs code d cls).1⟩
  obtain ⟨htaken, hby⟩ := (State.raised_locked hs code d cls).2 hl
  have hframe := s.raiseList_frame code d cls
  rcases s.raiseList_cases code d cls with ⟨-, heq⟩ | ⟨hno, -⟩
  · rw [heq] at hframe
    have hk := hby.congr (t := ((s.enterFault code d cls).1.escalate code d cls).wake .fault) (by simp)
    have hr : s.raise code d cls = (((s.enterFault code d cls).1.escalate code d cls).wake .fault).enterLockout := by
      rw [State.raise_eq, if_pos htaken]
      exact if_pos (by simp [hk.locked, hs])
    simp only at hframe
    rw [hr]
    generalize ((s.enterFault code d cls).1.escalate code d cls).wake .fault = t at *
    obtain ⟨-, hset, hwhu, -, hlba, -⟩ := hframe
    obtain ⟨hlock, hidle, hzl, hzs, howner, hphase, hact, hwait⟩ := State.enterLockout_spec hk
    have he := t.endAllClaims_endsClaims
    have hsum : t.enterLockout.sumSettling = t.endAllClaims.sumSettling := by simp only [State.sumSettling, hzl]
    have hG := State.sumGranted_idle t.endAllClaims_idle
    have ht : t.sumGranted = s.sumGranted ∧ t.sumSettling = s.sumSettling :=
      ⟨State.sumGranted_congr (congrArg Lba.claims hlba), by simp only [State.sumSettling, hlba]⟩
    have hes := he.sum
    rw [hwhu] at hphase
    refine ⟨hidle, howner, fun hp => ⟨hphase hp, State.quiet_of hidle (hphase hp)⟩, hact, hwait, by omega, ?_,
      hzs.trans hset, if_pos hlock.locked⟩
    rw [hzl, he.inForce, hlba]
  · rw [htaken] at hno
    cases hno
end Sys2Proof.Machine
end

section
-- The proofs are elaborated one after the other: each of the many threads of a parallel run holds a stack of its own.
set_option Elab.async false
/-! PROOFS. Thermostats, sensor readings, level codes, flow pulses and draw reports (O35, O38, O39, O41, O42). -/

namespace Sys2Proof.Machine

open Sys2Proof

/-! ### The thermostats (O42) -/

namespace State

variable {s : State} {l : Load} {t : Int}

/-- Without a reading, without its conditions, or from its upper limit on, a thermostat is OFF (R16). -/
theorem evalHeat_unread (h : s.heatReading l = none) : s.evalHeat l = s.heatOff l := by simp only [State.evalHeat, h]

theorem evalHeat_barred (h : s.heatAllowed l = false) : s.evalHeat l = s.heatOff l := by
  rcases hr : s.heatReading l with _ | t
  · exact evalHeat_unread hr
  · simp only [State.evalHeat, hr, h, if_true]

theorem evalHeat_warm (hr : s.heatReading l = some t) (hu : s.heatUpTo l ≤ t) : s.evalHeat l = s.heatOff l := by
  rcases ha : s.heatAllowed l
  · exact evalHeat_barred ha
  · simp [State.evalHeat, hr, ha, hu]

/-- Below its lower limit the demand goes ON (R16). -/
theorem evalHeat_cold (hr : s.heatReading l = some t) (ha : s.heatAllowed l = true) (hu : t < s.heatUpTo l)
    (hb : t < s.heatBelow l) :
    s.evalHeat l =
      let u := s.onThermostat l fun x => { x with demand := true }
      if (u.thermostat l).demand ∧ (u.thermostat l).unfit = false then u.heatClaim l else u := by
  simp [State.evalHeat, hr, ha, Int.not_le.mpr hu, hb]

/-- Between its limits the demand stays what it was (R16). -/
theorem evalHeat_between (hr : s.heatReading l = some t) (ha : s.heatAllowed l = true) (hu : t < s.heatUpTo l)
    (hb : s.heatBelow l ≤ t) :
    s.evalHeat l = if (s.thermostat l).demand ∧ (s.thermostat l).unfit = false then s.heatClaim l else s := by
  simp [State.evalHeat, hr, ha, Int.not_le.mpr hu, Int.not_lt.mpr hb]

theorem evalHeat_between_on (hr : s.heatReading l = some t) (ha : s.heatAllowed l = true) (hu : t < s.heatUpTo l)
    (hb : s.heatBelow l ≤ t) (hd : (s.thermostat l).demand = true) (hf : (s.thermostat l).unfit = false) :
    s.evalHeat l = s.heatClaim l := by
  rw [evalHeat_between hr ha hu hb, if_pos ⟨hd, hf⟩]

theorem evalHeat_between_off (hr : s.heatReading l = some t) (ha : s.heatAllowed l = true) (hu : t < s.heatUpTo l)
    (hb : s.heatBelow l ≤ t) (hd : (s.thermostat l).demand = false ∨ (s.thermostat l).unfit = true) :
    s.evalHeat l = s := by
  rw [evalHeat_between hr ha hu hb, if_neg (by rcases hd with hd | hd <;> simp [hd])]

theorem heatAllowed_tank : s.heatAllowed .tankHeater = true ↔
    s.locked = false ∧ s.sto.power ≠ .standby ∧ s.tankWet = true ∧ s.whu.tank ≠ .draining := by
  simp [State.heatAllowed, State.inStandby, and_assoc]

theorem heatAllowed_boosterA : s.heatAllowed .boosterA = true ↔
    s.locked = false ∧ s.sto.power ≠ .standby ∧ s.boosterClosed = true := by
  simp [State.heatAllowed, State.inStandby, and_assoc]

theorem heatAllowed_boosterB : s.heatAllowed .boosterB = true ↔
    s.locked = false ∧ s.sto.power ≠ .standby ∧ s.boosterClosed = true ∧ s.watts .boosterB ≠ 0 := by
  simp [State.heatAllowed, State.inStandby, and_assoc]

theorem heatClaim_held (h : (s.claimOf l).state ≠ .idle) : s.heatClaim l = s := by
  simp only [State.heatClaim, State.claim_held h]

theorem heatClaim_taken (hi : (s.claimOf l).state = .idle) (hl : s.locked = false)
    (hb : ¬ (l = .boosterB ∧ s.watts .boosterB = 0)) (hf : s.loadUnfit l = false) :
    s.heatClaim l =
      ((s.onClaim l fun c => { c with state := .waiting, claimTime := s.now, waitMs := 0, promoted := false }).walk).onThermostat
        l fun x => { x with unfit := false } := by
  simp only [State.heatClaim, State.claim_taken hi hl hb hf]

theorem heatClaim_unfit (hi : (s.claimOf l).state = .idle) (hl : s.locked = false)
    (hb : ¬ (l = .boosterB ∧ s.watts .boosterB = 0)) (hf : s.loadUnfit l = true) :
    s.heatClaim l = (s.tellUnfit l).onThermostat l fun x => { x with unfit := true } := by
  simp only [State.heatClaim, State.claim_unfit hi hl hb hf]

end State

/-- Settles O42: each thermostat by its reading against its two limits. -/
theorem thermostatsClaimBelowAndReleaseAtTheSetpoint : Obligations.ThermostatsClaimBelowAndReleaseAtTheSetpoint := by
  unfold Obligations.ThermostatsClaimBelowAndReleaseAtTheSetpoint
  refine ⟨fun s => State.heatAllowed_tank, fun s t hr ha hb => ⟨fun hf => ?_, fun hf => ?_⟩,
    fun s t hr ha hb hu => ⟨State.evalHeat_between_on (l := .tankHeater) hr ha hu hb,
      State.evalHeat_between_off (l := .tankHeater) hr ha hu hb⟩, fun s t hr hu => State.evalHeat_warm (l := .tankHeater) hr hu, fun s h => ?_,
    fun s => State.heatAllowed_boosterA, fun s t hr ha hb => ⟨fun hf => ?_, fun hf => ?_⟩,
    fun s t hr ha hb hu => ⟨State.evalHeat_between_on (l := .boosterA) hr ha hu hb,
      State.evalHeat_between_off (l := .boosterA) hr ha hu hb⟩, fun s t hr hu => State.evalHeat_warm (l := .boosterA) hr hu, fun s h => ?_,
    fun s => State.heatAllowed_boosterB, fun s t hr ha hb => ⟨fun hf => ?_, fun hf => ?_⟩,
    fun s t hr ha hb hu => ⟨State.evalHeat_between_on (l := .boosterB) hr ha hu hb,
      State.evalHeat_between_off (l := .boosterB) hr ha hu hb⟩, fun s t hr hu => State.evalHeat_warm (l := .boosterB) hr hu, fun s h => ?_,
    fun s l => ⟨State.heatClaim_held, fun hi hl hb => ⟨fun hf => ?_, fun hf => ?_⟩⟩⟩
  · rw [State.evalHeat_cold (l := .tankHeater) hr ha (show t < s.tankTarget by omega) hb]
    exact if_pos ⟨rfl, hf⟩
  · rw [State.evalHeat_cold (l := .tankHeater) hr ha (show t < s.tankTarget by omega) hb]
    exact if_neg fun h => by simp [State.thermostat, State.onThermostat, hf] at h
  · rcases h with h | h | h | h | h
    · exact State.evalHeat_unread h
    all_goals exact State.evalHeat_barred (by rw [Bool.eq_false_iff, Ne, State.heatAllowed_tank]; simp [h])
  · rw [State.evalHeat_cold (l := .boosterA) hr ha (show t < s.boosterTarget by omega) hb]
    exact if_pos ⟨rfl, hf⟩
  · rw [State.evalHeat_cold (l := .boosterA) hr ha (show t < s.boosterTarget by omega) hb]
    exact if_neg fun h => by simp [State.thermostat, State.onThermostat, hf] at h
  · rcases h with h | h | h | h
    · exact State.evalHeat_unread h
    all_goals exact State.evalHeat_barred (by rw [Bool.eq_false_iff, Ne, State.heatAllowed_boosterA]; simp [h])
  · rw [State.evalHeat_cold (l := .boosterB) hr ha (show t < s.boosterTarget - 30 by omega) hb]
    exact if_pos ⟨rfl, hf⟩
  · rw [State.evalHeat_cold (l := .boosterB) hr ha (show t < s.boosterTarget - 30 by omega) hb]
    exact if_neg fun h => by simp [State.thermostat, State.onThermostat, hf] at h
  · rcases h with h | h | h | h | h
    · exact State.evalHeat_unread h
    all_goals exact State.evalHeat_barred (by rw [Bool.eq_false_iff, Ne, State.heatAllowed_boosterB]; simp [h])
  · exact State.heatClaim_taken hi hl (fun h => hb.elim (· h.1) (· h.2)) hf
  · exact State.heatClaim_unfit hi hl (fun h => hb.elim (· h.1) (· h.2)) hf
/-! ### Sensor readings (O41) -/

theorem State.readSensor_valid (x : Sensor) {t : Int} (h1 : -100 ≤ t) (h2 : t ≤ 1250) :
    State.readSensor x t = ({ last := some t, bad := 0, failed := false }, false) := if_pos ⟨h1, h2⟩

theorem State.readSensor_fifth (x : Sensor) {t : Int} (h : t < -100 ∨ 1250 < t) (hb : x.bad = 4) :
    State.readSensor x t = ({ x with bad := 5, failed := true }, true) := by
  rw [State.readSensor, if_neg (by omega), if_pos hb]

theorem State.readSensor_bad (x : Sensor) {t : Int} (h : t < -100 ∨ 1250 < t) (hb : x.bad ≠ 4) :
    State.readSensor x t = ({ x with bad := min 5 (x.bad + 1) }, false) := by
  rw [State.readSensor, if_neg (by omega), if_neg hb]

theorem State.validReading_true {t : Int} (h1 : -100 ≤ t) (h2 : t ≤ 1250) : State.validReading t = true := by
  simp [State.validReading, h1, h2]

theorem State.validReading_false {t : Int} (h : t < -100 ∨ 1250 < t) : State.validReading t = false := by
  simp only [State.validReading, Bool.and_eq_false_iff, decide_eq_false_iff_not]
  omega

/-- The state that a valid tank reading leaves before the over-temperature test (R12, R18). -/
def State.tankRead (s : State) (t : Int) : State :=
  ({ s with
    whu := { s.whu with
      tankSensor := { last := some t, bad := 0, failed := false }, tankSet := some s.tankSetpoint } } : State).endCondition
    .sensorTank 0

/-- Readiness, and the lowest wash temperature (R12, R29). -/
def State.tankFollows (s : State) (t : Int) : State :=
  let u := s.tankReady t
  if u.csq.phase = .wash then u.onRecord fun x => { x with lowTemp := lowerOf x.lowTemp t } else u

theorem State.readTank_valid (s : State) {t : Int} (h1 : -100 ≤ t) (h2 : t ≤ 1250) :
    s.readTank t = ((s.tankRead t).overTemp .tankOvertemp s.whu.tankSensor.last t 850).tankFollows t := by
  unfold State.readTank
  rw [State.readSensor_valid _ h1 h2]
  exact if_pos (State.validReading_true h1 h2)

/-- The state that a valid booster reading leaves before the over-temperature test (R17, R18). -/
def State.boosterRead (s : State) (t : Int) : State :=
  ({ s with
    whu := { s.whu with
      boosterSensor := { last := some t, bad := 0, failed := false }
      boosterSet := some s.boosterSetpoint } } : State).endCondition .sensorBooster 0

/-- The heat condition, and the extremes of an open rinse (R34, R35). -/
def State.boosterFollows (s : State) (t : Int) : State :=
  let u := s.rinseHeat t
  if u.csq.phase = .rinse ∧ u.whu.phase = .opened ∧ u.whu.owner = some .rinse then
    u.onRecord fun x => { x with minTemp := lowerOf x.minTemp t, maxTemp := higherOf x.maxTemp t }
  else u

theorem State.readBooster_valid (s : State) {t : Int} (h1 : -100 ≤ t) (h2 : t ≤ 1250) :
    s.readBooster t =
      ((s.boosterRead t).overTemp .boosterOvertemp s.whu.boosterSensor.last t 980).boosterFollows t := by
  unfold State.readBooster
  rw [State.readSensor_valid _ h1 h2]
  exact if_pos (State.validReading_true h1 h2)

/-- An over-temperature is raised at the crossing alone, and ends below the limit (R19). -/
theorem State.overTemp_crossed (s : State) (c : FaultCode) {p : Option Int} {t limit : Int} (h : limit ≤ t)
    (hp : ∀ q, p = some q → q < limit) : s.overTemp c p t limit = s.raise c 0 .lockout := by
  rw [State.overTemp, if_pos]
  cases p with
  | none => simp [State.crosses, h]
  | some q => simp [State.crosses, h, hp q rfl]

theorem State.overTemp_below (s : State) (c : FaultCode) {p : Option Int} {t limit : Int} (h : t < limit) :
    s.overTemp c p t limit = s.endCondition c 0 := by
  rw [State.overTemp, if_neg (by simp [State.crosses, Int.not_le.mpr h]), if_pos h]

theorem State.overTemp_stays (s : State) (c : FaultCode) {q t limit : Int} (h : limit ≤ t) (hq : limit ≤ q) :
    s.overTemp c (some q) t limit = s := by
  rw [State.overTemp, if_neg (by simp [State.crosses, Int.not_lt.mpr hq]), if_neg (Int.not_lt.mpr h)]

/-- The condition of a key not in the list ends without effect (R175). -/
theorem State.endCondition_absent {s : State} {c : FaultCode} {d : Nat} (h : s.hasFault c d = false) :
    s.endCondition c d = s := by
  have hn : s.faultRec c d = none := by simpa [State.hasFault] using h
  simp only [State.endCondition, hn]

theorem State.readVapour_valid (s : State) {t : Int} (h1 : -100 ≤ t) (h2 : t ≤ 1250) :
    s.readVapour t =
      (({ s with
        whu := { s.whu with vapourSensor := { last := some t, bad := 0, failed := false } } } : State).endCondition
          .sensorVapour 0).coolVent t := by
  unfold State.readVapour
  rw [State.readSensor_valid _ h1 h2]
  exact if_pos (State.validReading_true h1 h2)

/-- A bad reading that is not the fifth is counted, and that is all (R18). -/
theorem State.readTank_bad {s : State} {t : Int} (h : t < -100 ∨ 1250 < t) (hb : s.whu.tankSensor.bad ≠ 4) :
    s.readTank t =
      { s with whu := { s.whu with tankSensor := { s.whu.tankSensor with bad := min 5 (s.whu.tankSensor.bad + 1) } } } := by
  unfold State.readTank
  rw [State.readSensor_bad _ h hb, State.validReading_false h]
  rfl

theorem State.readBooster_bad {s : State} {t : Int} (h : t < -100 ∨ 1250 < t) (hb : s.whu.boosterSensor.bad ≠ 4) :
    s.readBooster t =
      { s with
        whu := { s.whu with boosterSensor := { s.whu.boosterSensor with bad := min 5 (s.whu.boosterSensor.bad + 1) } } } := by
  unfold State.readBooster
  rw [State.readSensor_bad _ h hb, State.validReading_false h]
  rfl

theorem State.readVapour_bad {s : State} {t : Int} (h : t < -100 ∨ 1250 < t) (hb : s.whu.vapourSensor.bad ≠ 4) :
    s.readVapour t =
      { s with
        whu := { s.whu with vapourSensor := { s.whu.vapourSensor with bad := min 5 (s.whu.vapourSensor.bad + 1) } } } := by
  unfold State.readVapour
  rw [State.readSensor_bad _ h hb, State.validReading_false h]
  rfl

/-- The fifth bad reading of the tank sensor returns a READY tank to HEATING before it is raised (R12, R18). -/
theorem State.readTank_fifth {s : State} {t : Int} (h : t < -100 ∨ 1250 < t) (hb : s.whu.tankSensor.bad = 4) :
    s.readTank t =
      ({ s with
        whu := { s.whu with
          tankSensor := { s.whu.tankSensor with bad := 5, failed := true }
          tank := if s.whu.tank = .ready then .heating else s.whu.tank } } : State).raise .sensorTank 0 .stop := by
  unfold State.readTank
  rw [State.readSensor_fifth _ h hb, State.validReading_false h]
  change State.tankFailed _ = _
  unfold State.tankFailed
  refine congrArg (fun u : State => u.raise .sensorTank 0 .stop) ?_
  by_cases hr : s.whu.tank = .ready <;> simp [State.onWhu, hr]

theorem State.readBooster_fifth {s : State} {t : Int} (h : t < -100 ∨ 1250 < t) (hb : s.whu.boosterSensor.bad = 4) :
    s.readBooster t =
      ({ s with
        whu := { s.whu with boosterSensor := { s.whu.boosterSensor with bad := 5, failed := true } } } : State).raise
        .sensorBooster 0 .stop := by
  unfold State.readBooster
  rw [State.readSensor_fifth _ h hb, State.validReading_false h]
  rfl

theorem State.readVapour_fifth {s : State} {t : Int} (h : t < -100 ∨ 1250 < t) (hb : s.whu.vapourSensor.bad = 4) :
    s.readVapour t =
      ({ s with
        whu := { s.whu with vapourSensor := { s.whu.vapourSensor with bad := 5, failed := true } }
        dvc := { s.dvc with vent := { s.dvc.vent with coolingLeft := none } } } : State).warn .sensorVapour 0 := by
  unfold State.readVapour
  rw [State.readSensor_fifth _ h hb, State.validReading_false h]
  rfl
theorem State.val_congr {s t : State} (h : t.settings = s.settings) (i : SettingIx) : t.val i = s.val i := by
  simp only [State.val, h]

theorem State.rinseHeat_met {s : State} {t : Int} (hp : s.csq.phase = .rinseWait) (ht : s.recipe.rinseC - 10 ≤ t) :
    s.rinseHeat t =
      { s with
        csq := { s.csq with
          rinseWait := { s.csq.rinseWait with
            tempMet := true
            holdLeft := if s.csq.rinseWait.holdExpired then s.csq.rinseWait.holdLeft else none } } } := by
  unfold State.rinseHeat
  cases he : s.csq.rinseWait.holdExpired <;> simp [hp, ht, State.onCsq]

theorem State.rinseHeat_unmet {s : State} {t : Int} (h : s.csq.phase ≠ .rinseWait ∨ t < s.recipe.rinseC - 10) :
    s.rinseHeat t = s := by
  unfold State.rinseHeat
  rcases h with h | h
  · simp [h]
  · simp [Int.not_le.mpr h]

theorem State.tankRead_unfaulted {s : State} (h : s.hasFault .sensorTank 0 = false) (t : Int) :
    s.tankRead t =
      { s with
        whu := { s.whu with
          tankSensor := { last := some t, bad := 0, failed := false }, tankSet := some s.tankSetpoint } } :=
  State.endCondition_absent h

theorem State.boosterRead_unfaulted {s : State} (h : s.hasFault .sensorBooster 0 = false) (t : Int) :
    s.boosterRead t =
      { s with
        whu := { s.whu with
          boosterSensor := { last := some t, bad := 0, failed := false }, boosterSet := some s.boosterSetpoint } } :=
  State.endCondition_absent h

/-- The cooling window runs on, or starts, at vent_end_c or below, and stops above it (R133). -/
theorem State.coolVent_cool {s : State} {t : Int} (h : s.dvc.vent.step = .fan) (ht : t ≤ s.val SettingIx.ventEnd) :
    s.coolVent t =
      { s with
        dvc := { s.dvc with
          vent := { s.dvc.vent with coolingLeft := some (s.dvc.vent.coolingLeft.getD 10000) } } } := by
  simp [State.coolVent, h, ht, State.onVent, State.onDvc]

theorem State.coolVent_warm {s : State} {t : Int} (h : s.dvc.vent.step = .fan) (ht : s.val SettingIx.ventEnd < t) :
    s.coolVent t = { s with dvc := { s.dvc with vent := { s.dvc.vent with coolingLeft := none } } } := by
  simp [State.coolVent, h, Int.not_le.mpr ht, State.onVent, State.onDvc]

/-- Settles O41. -/
theorem sensorReadingsAreSupervised : Obligations.SensorReadingsAreSupervised := by
  unfold Obligations.SensorReadingsAreSupervised
  refine ⟨fun tank booster vapour s hs => congrArg Host.Outcome.next ((State.event_on hs _).trans rfl),
    fun x t => State.readSensor_valid x, fun x t h hb => ?_, fun x t => State.readSensor_fifth x,
    fun s t p h1 h2 hp hl hf => ?_, fun s t p h1 h2 hp hl hf => ?_,
    fun s t h1 h2 => ⟨fun h => ?_, fun h hp => ?_, fun p h hl hp => ?_⟩,
    fun s t h1 h2 => ⟨fun h => ?_, fun h hp => ?_, fun p h hl hp => ?_⟩, fun _ _ => rfl,
    fun s => ⟨fun e he => ?_, fun he => ?_⟩, fun o t => ⟨rfl, rfl, rfl, rfl⟩, fun s t p h1 h2 hl hp hf hg => ?_,
    fun s t => ⟨fun h ht => ?_, fun h ht => ?_, fun h ht => ?_, fun h ht => ?_, fun h => ?_⟩,
    fun s t h => ⟨State.readTank_fifth h, State.readBooster_fifth h, State.readVapour_fifth h, State.readTank_bad h,
      State.readBooster_bad h, State.readVapour_bad h⟩,
    fun s t => ⟨State.rinseHeat_met, State.rinseHeat_unmet⟩, fun s t h1 h2 => ⟨fun h => ?_, fun h ht => ?_, fun h ht => ?_⟩⟩
  · rw [State.readSensor_bad x h (by omega), Nat.min_eq_right (by omega)]
  · rw [State.readTank_valid s (by omega) h2, hl, State.overTemp_crossed _ _ h1 (by simpa using hp), State.tankRead_unfaulted hf]
    rfl
  · rw [State.readBooster_valid s (by omega) h2, hl, State.overTemp_crossed _ _ h1 (by simpa using hp),
      State.boosterRead_unfaulted hf]
    rfl
  · rw [State.readTank_valid s h1 h2, State.overTemp_below _ _ h]
    rfl
  · rw [State.readTank_valid s h1 h2, State.overTemp_crossed _ _ h hp]
    rfl
  · rw [State.readTank_valid s h1 h2, hl, State.overTemp_stays _ _ h hp]
    rfl
  · rw [State.readBooster_valid s h1 h2, State.overTemp_below _ _ h]
    rfl
  · rw [State.readBooster_valid s h1 h2, State.overTemp_crossed _ _ h hp]
    rfl
  · rw [State.readBooster_valid s h1 h2, hl, State.overTemp_stays _ _ h hp]
    rfl
  · simp only [State.tankSetpoint, State.boosterSetpoint, he, and_self]
  · simp only [State.tankSetpoint, State.boosterSetpoint, he, and_self]
  · rw [State.readBooster_valid s h1 (by omega), State.overTemp_below _ _ h2, State.boosterRead_unfaulted hf,
      State.endCondition_absent (by exact hg), State.boosterFollows, State.rinseHeat_unmet (.inl (by simp [hp]))]
    exact if_neg (by simp [hp])
  · simp only [State.tankReady, h, if_pos ht]
    rfl
  · simp only [State.tankReady, h, if_neg (Int.not_le.mpr ht)]
  · simp only [State.tankReady, h, if_pos ht]
    rfl
  · simp only [State.tankReady, h, if_neg (Int.not_lt.mpr ht)]
  · rcases h with h | h | h <;> simp only [State.tankReady, h]
  · rw [State.readVapour_valid s h1 h2]
    exact if_neg (by simpa using h)
  · rw [State.readVapour_valid s h1 h2, State.coolVent_cool (by simpa using h)
      (by rw [State.val_congr (s := s) (by simp)]; exact ht)]
    simp
  · rw [State.readVapour_valid s h1 h2, State.coolVent_warm (by simpa using h)
      (by rw [State.val_congr (s := s) (by simp)]; exact ht)]
/-! ### Level codes (O39) -/

/-- A code accepted, with the implausible timer of an IMPLAUSIBLE one (R7, R8). -/
def State.levelTaken (s : State) (code : LevelCode) : State :=
  { s with
    whu := { s.whu with accepted := some code, implausibleLeft := if code = .implausible then some 2000 else none } }

/-- Level keeping follows a code in RINSE and DWELL (R20). -/
def State.levelFollows (s : State) (code : LevelCode) : State :=
  if s.csq.phase = .rinse ∨ s.csq.phase = .dwell then s.levelKeep code else s

/-- What a code does once a tank state stands (R7 to R13). -/
theorem State.acceptLevel_known {s : State} (h : s.whu.accepted ≠ none ∨ s.whu.tank ≠ .empty) (code : LevelCode) :
    s.acceptLevel code =
      (if code = .dry then (s.levelTaken code).acceptDry else (s.levelTaken code).acceptWet code).levelFollows code := by
  have hf : ¬ (s.whu.accepted.isNone = true ∧ s.whu.tank = .empty) := by
    rintro ⟨ha, ht⟩
    exact h.elim (· (Option.isNone_iff_eq_none.mp ha)) (· ht)
  unfold State.acceptLevel
  extract_lets first u v w
  have hv : v = s.levelTaken code := if_neg hf
  unfold w
  rw [hv]
  rfl

theorem State.levelFollows_none {s : State} {code : LevelCode} (h : s.csq.phase ≠ .rinse) (h' : s.csq.phase ≠ .dwell) :
    s.levelFollows code = s := if_neg (by simp [h, h'])

theorem State.levelFollows_keeps {s : State} {code : LevelCode} (h : s.csq.phase = .rinse ∨ s.csq.phase = .dwell) :
    s.levelFollows code = s.levelKeep code := if_pos h

/-- A wet code stops the drain-out time; FULL ends a fill (R11, R13). -/
def State.drainOutStopped (s : State) (code : LevelCode) : State :=
  { s with
    whu := { s.whu with
      accepted := some code, implausibleLeft := if code = .implausible then some 2000 else none, drainOutMs := none } }

theorem State.acceptLevel_wet {s : State} (h : s.whu.accepted ≠ none ∨ s.whu.tank ≠ .empty) {code : LevelCode}
    (hd : code ≠ .dry) (hf : code ≠ .full ∨ s.whu.fill = none) :
    s.acceptLevel code = (s.drainOutStopped code).levelFollows code := by
  rw [State.acceptLevel_known h, if_neg hd]
  refine congrArg (fun u : State => u.levelFollows code) ?_
  unfold State.acceptWet
  dsimp only
  rcases hf with hf | hf
  · exact if_neg hf
  · split
    · exact if_neg (by simp [State.levelTaken, hf])
    · rfl

theorem State.acceptLevel_full {s : State} (h : s.whu.accepted ≠ none ∨ s.whu.tank ≠ .empty) (hf : s.whu.fill.isSome = true) :
    s.acceptLevel .full = (s.drainOutStopped .full).endFill.afterFill.levelFollows .full := by
  rw [State.acceptLevel_known h, if_neg (by decide)]
  refine congrArg (fun u : State => u.levelFollows .full) ?_
  unfold State.acceptWet
  exact (if_pos rfl).trans (if_pos hf)

theorem State.acceptLevel_dry {s : State} (h : s.whu.accepted ≠ none ∨ s.whu.tank ≠ .empty) :
    s.acceptLevel .dry = (s.levelTaken .dry).acceptDry.levelFollows .dry := State.acceptLevel_known h .dry

/-- A fill started with DRY accepted is open still (R10). -/
theorem State.startFill_dry {s : State} (kind : FillKind) (h : s.whu.accepted = some .dry) :
    (s.startFill kind).csq = s.csq := by
  rw [State.startFill_eq, if_neg (by simp [h])]

theorem State.addHold_phase {s : State} (hp : s.csq.phase = .wash ∨ s.csq.phase = .held) (r : State.HoldReason) :
    (s.addHold r).csq.phase = .held := by
  rcases hp with hp | hp
  · rw [State.addHold_wash hp]
    simp
  · rw [State.addHold_held hp]
    split <;> simp [hp, State.notePhase]

/-- DRY in WASH or HELD starts a fill and holds the wash (R10, R30). -/
theorem State.acceptDry_washing {s : State} (hp : s.csq.phase = .wash ∨ s.csq.phase = .held)
    (ht : s.whu.tank = .empty ∨ s.whu.tank = .heating ∨ s.whu.tank = .ready) :
    s.acceptDry = (s.startFill s.fillKind).addHold .level := by
  rcases hp with hp | hp <;> rcases ht with ht | ht | ht <;> simp only [State.acceptDry, ht, hp]

theorem State.acceptLevel_dry_washing {s : State} (h : s.whu.accepted ≠ none ∨ s.whu.tank ≠ .empty)
    (hp : s.csq.phase = .wash ∨ s.csq.phase = .held)
    (ht : s.whu.tank = .empty ∨ s.whu.tank = .heating ∨ s.whu.tank = .ready) {kind : FillKind} (hk : s.fillKind = kind) :
    s.acceptLevel .dry = ((s.levelTaken .dry).startFill kind).addHold .level := by
  have hk' : (s.levelTaken .dry).fillKind = kind := hk
  have hph : (((s.levelTaken .dry).startFill kind).addHold .level).csq.phase = .held :=
    State.addHold_phase (by rw [State.startFill_dry _ rfl]; exact hp) _
  rw [State.acceptLevel_dry h, State.acceptDry_washing (s := s.levelTaken .dry) hp ht, hk']
  exact State.levelFollows_none (by simp [hph]) (by simp [hph])

/-- DRY elsewhere leaves the tank EMPTY, filled again in ARMED (R10). -/
theorem State.acceptDry_other {s : State} (hp : s.csq.phase = .idle ∨ s.csq.phase = .armed ∨ s.csq.phase = .rinseWait ∨
      s.csq.phase = .rinse ∨ s.csq.phase = .dwell ∨ s.csq.phase = .vent)
    (ht : s.whu.tank = .empty ∨ s.whu.tank = .heating ∨ s.whu.tank = .ready) :
    s.acceptDry = (s.onWhu fun w => { w with tank := .empty }).armFill := by
  rcases hp with hp | hp | hp | hp | hp | hp <;> rcases ht with ht | ht | ht <;> simp only [State.acceptDry, ht, hp]

theorem State.armFill_elsewhere {s : State} (h : s.csq.phase ≠ .armed) : s.armFill = s := by
  rw [State.armFill, if_neg fun hc => h hc.2]

/-- What DRY leaves of the tank (R9, R10). -/
def State.driedOut (s : State) : State :=
  { s with whu := { s.whu with accepted := some .dry, implausibleLeft := none, tank := .empty } }

theorem State.acceptLevel_dry_other {s : State} (h : s.whu.accepted ≠ none ∨ s.whu.tank ≠ .empty)
    (hp : s.csq.phase = .idle ∨ s.csq.phase = .rinseWait ∨ s.csq.phase = .rinse ∨ s.csq.phase = .dwell ∨ s.csq.phase = .vent)
    (ht : s.whu.tank = .empty ∨ s.whu.tank = .heating ∨ s.whu.tank = .ready) :
    s.acceptLevel .dry = s.driedOut.levelFollows .dry := by
  have hna : s.csq.phase ≠ .armed := by rcases hp with hp | hp | hp | hp | hp <;> simp [hp]
  rw [State.acceptLevel_dry h, State.acceptDry_other (s := s.levelTaken .dry) (hp.imp_right .inr) ht]
  exact congrArg (fun u : State => u.levelFollows .dry) (State.armFill_elsewhere hna)

/-- RINSE_WAIT is entered (R33). -/
theorem State.enterRinseWait_phase (s : State) : s.enterRinseWait.csq.phase = .rinseWait := by
  simp [State.enterRinseWait, State.askLatch]

theorem State.acceptLevel_dry_purge {s : State} (h : s.whu.accepted ≠ none ∨ s.whu.tank ≠ .empty) (hp : s.csq.phase = .purge)
    (ht : s.whu.tank = .empty ∨ s.whu.tank = .heating ∨ s.whu.tank = .ready) :
    s.acceptLevel .dry = s.driedOut.leavePurge := by
  have hd : (s.levelTaken .dry).acceptDry = s.driedOut.leavePurge := by
    have ht' : (s.levelTaken .dry).whu.tank = .empty ∨ (s.levelTaken .dry).whu.tank = .heating ∨
      (s.levelTaken .dry).whu.tank = .ready := ht
    have hp' : (s.levelTaken .dry).csq.phase = .purge := hp
    rcases ht' with ht' | ht' | ht' <;> simp only [State.acceptDry, ht', hp'] <;> rfl
  have hph : s.driedOut.leavePurge.csq.phase = .rinseWait := State.enterRinseWait_phase _
  rw [State.acceptLevel_dry h, hd]
  exact State.levelFollows_none (by simp [hph]) (by simp [hph])
theorem State.fillKind_wet {s : State} (h : s.whu.tank = .heating ∨ s.whu.tank = .ready) : s.fillKind = .topUp := by
  rcases h with h | h <;> simp [State.fillKind, h]

theorem State.fillKind_empty {s : State} (h : s.whu.tank = .empty) : s.fillKind = .fill := by simp [State.fillKind, h]

/-- The recompute reads the accepted code, the usable reading and the target (R9). -/
theorem State.recomputeTank_eq (s : State) :
    s.recomputeTank =
      { s with
        whu := { s.whu with
          tank :=
            if s.whu.accepted = some .partly ∨ s.whu.accepted = some .full then
              s.tankReading.elim .heating fun t => if s.tankTarget - 50 ≤ t then .ready else .heating
            else .empty } } := by
  have hw : s.tankWet = true ↔ s.whu.accepted = some .partly ∨ s.whu.accepted = some .full := by simp [State.tankWet]
  unfold State.recomputeTank State.tankFor State.onWhu
  by_cases h : s.tankWet = true
  · rw [if_pos h, if_pos (hw.mp h)]
    cases s.tankReading <;> rfl
  · rw [if_neg h, if_neg (hw.not.mp h)]

theorem State.recomputeTank_wet {s : State} (h : s.whu.accepted = some .partly ∨ s.whu.accepted = some .full) :
    s.recomputeTank =
      { s with
        whu := { s.whu with
          tank := s.tankReading.elim .heating fun t => if s.tankTarget - 50 ≤ t then .ready else .heating } } := by
  rw [State.recomputeTank_eq, if_pos h]

/-- The first code ever accepted recomputes an EMPTY tank (log entry 31). -/
theorem State.acceptLevel_first {s : State} (ha : s.whu.accepted = none) (ht : s.whu.tank = .empty)
    (hi : s.csq.phase = .idle) (code : LevelCode) :
    s.acceptLevel code =
      (if code = .dry then (s.levelTaken code).recomputeTank.acceptDry
        else (s.levelTaken code).recomputeTank.acceptWet code).levelFollows code := by
  have hr : (s.levelTaken code).recomputeTank.armFill = (s.levelTaken code).recomputeTank :=
    State.armFill_elsewhere (by rw [State.recomputeTank_eq]; simp [State.levelTaken, hi])
  unfold State.acceptLevel
  extract_lets first u v w
  have hv : v = (s.levelTaken code).recomputeTank.armFill := if_pos ⟨by simp [first, ha], ht⟩
  unfold w
  rw [hv, hr]
  rfl

/-- Settles O39. -/
theorem levelSamplesNeedTwoAlike : Obligations.LevelSamplesNeedTwoAlike := by
  unfold Obligations.LevelSamplesNeedTwoAlike
  refine ⟨⟨rfl, rfl, rfl, rfl⟩, fun low high full s hs h => ?_, fun low high full s hs hp ha => ?_,
    fun s h => ⟨fun h1 h2 => ?_, fun hp hu => ?_, ?_, fun hf h1 h2 => ?_, fun hf h1 h2 => ?_, fun hf hp hu => ?_,
      fun ht h1 h2 => ?_, fun hp ht => ?_, fun hp ht => ?_, fun hp ht => ?_, fun hp ht => ?_, fun hp ht => ?_,
      fun hp ht => ⟨fun hu => ?_, fun hu => ?_⟩⟩,
    fun s => ⟨fun hf => ?_, rfl, fun ht => ?_, fun ht hp ha => ?_, ?_⟩,
    fun s ha ht hf hi => ⟨fun c hc => ?_, ?_⟩, fun s wasOn => ⟨rfl, rfl⟩⟩
  · refine congrArg Host.Outcome.next ((State.event_on hs _).trans (congrArg State.finish ?_))
    unfold State.sampleSwitches State.sampleLevel
    rw [if_neg (by rcases h with h | h <;> simp [h])]
    rfl
  · refine congrArg Host.Outcome.next ((State.event_on hs _).trans (congrArg State.finish ?_))
    unfold State.sampleSwitches State.sampleLevel
    rw [if_pos (by simp [hp, ha])]
    rfl
  · exact (State.acceptLevel_wet h (by decide) (.inl (by decide))).trans (State.levelFollows_none h1 h2)
  · refine (State.acceptLevel_wet h (by decide) (.inl (by decide))).trans
      ((State.levelFollows_keeps (s := s.drainOutStopped .partly) hp).trans ?_)
    exact if_pos hu
  · rw [State.acceptLevel_wet h (by decide) (.inl (by decide))]
    exact ite_self _
  · exact State.acceptLevel_full h hf
  · exact (State.acceptLevel_wet h (by decide) (.inr hf)).trans (State.levelFollows_none h1 h2)
  · refine (State.acceptLevel_wet h (by decide) (.inr hf)).trans
      ((State.levelFollows_keeps (s := s.drainOutStopped .full) hp).trans ?_)
    exact if_pos hu
  · have hd : (s.levelTaken .dry).acceptDry = (s.levelTaken .dry).onWhu fun w => { w with drainOutMs := some 0 } := by
      simp only [State.acceptDry, State.levelTaken, ht]
    rw [State.acceptLevel_dry h, hd]
    exact State.levelFollows_none h1 h2
  · rw [State.acceptLevel_dry_washing h hp (.inr ht) (State.fillKind_wet ht)]
    rfl
  · rw [State.acceptLevel_dry_washing h hp (.inl ht) (State.fillKind_empty ht)]
    rfl
  · rw [State.acceptLevel_dry_purge h hp ht]
    rfl
  · have hnr : s.csq.phase ≠ .rinse ∧ s.csq.phase ≠ .dwell := by rcases hp with hp | hp | hp <;> simp [hp]
    exact (State.acceptLevel_dry_other h (by tauto) (.inr ht)).trans (State.levelFollows_none hnr.1 hnr.2)
  · have hd := State.acceptDry_other (s := s.levelTaken .dry) (.inr (.inl hp)) (.inr ht)
    rw [State.acceptLevel_dry h, hd, State.armFill_empty rfl (by exact hp)]
    have hph : (State.startFill ((s.levelTaken .dry).onWhu fun w => { w with tank := .empty }) .fill).csq.phase = .armed :=
      (congrArg Csq.phase (State.startFill_dry _ rfl)).trans hp
    rw [State.levelFollows_none (by simp [hph]) (by simp [hph])]
    rfl
  · refine (State.acceptLevel_dry_other h (by tauto) (.inr ht)).trans ((State.levelFollows_keeps (s := s.driedOut) hp).trans ?_)
    exact if_pos hu
  · refine (State.acceptLevel_dry_other h (by tauto) (.inr ht)).trans ((State.levelFollows_keeps (s := s.driedOut) hp).trans ?_)
    exact if_neg (by simp [State.driedOut, hu])
  · simp only [State.closeFill, hf]
  · have hne : s.whu.tank ≠ .empty := by rcases ht with ht | ht <;> simp [ht]
    rw [State.afterFill, State.armFill_wet hne]
    exact if_pos ht
  · rw [State.afterFill, State.armFill_empty ht hp, State.startFill_eq, if_neg ha]
    exact if_neg (by simp)
  · rw [State.recomputeTank_eq]
    cases s.tankReading <;> rfl
  · have hnd : c ≠ .dry := by rcases hc with rfl | rfl <;> decide
    have hni : c ≠ .implausible := by rcases hc with rfl | rfl <;> decide
    have hw : (s.levelTaken c).recomputeTank.acceptWet c =
        (s.levelTaken c).recomputeTank.onWhu fun w => { w with drainOutMs := none } := by
      unfold State.acceptWet
      dsimp only
      split
      · exact if_neg (by rw [State.recomputeTank_eq]; simp [State.levelTaken, State.onWhu, hf])
      · rfl
    have hr : (s.levelTaken c).tankReading = s.tankReading := rfl
    rw [State.acceptLevel_first ha ht hi, if_neg hnd, hw,
      State.recomputeTank_wet (s := s.levelTaken c) (hc.imp (congrArg some) (congrArg some)), hr]
    refine (State.levelFollows_none (by simp [State.levelTaken, hi]) (by simp [State.levelTaken, hi])).trans ?_
    simp only [State.levelTaken, State.onWhu, if_neg hni]
    cases s.tankReading <;> rfl
  · have hr : (s.levelTaken .dry).recomputeTank = s.levelTaken .dry := by
      rw [State.recomputeTank_eq, if_neg (by simp [State.levelTaken])]
      simp only [State.levelTaken, ← ht]
    rw [State.acceptLevel_first ha ht hi, if_pos rfl, hr,
      State.acceptDry_other (s := s.levelTaken .dry) (.inl hi) (.inl ht), State.armFill_elsewhere (by simp [State.levelTaken, hi])]
    refine (State.levelFollows_none (by simp [State.levelTaken, hi]) (by simp [State.levelTaken, hi])).trans ?_
    simp only [State.levelTaken, State.onWhu, ← ht]
    rfl
/-! ### Flow pulses (O35) -/

/-- What a pulse takes of the service column (R65, R89). -/
def State.chargeOf (s : State) : Nat := (s.sfc.acc + s.num SettingIx.inletHardness) / s.k

/-- The accumulator and the service column after a pulse that triggers nothing (R65). -/
def State.charged (s : State) : State :=
  ({ s with
    sfc := { s.sfc with
      acc := s.sfc.acc + s.num SettingIx.inletHardness - s.chargeOf * s.k } } : State).onColumn s.sfc.serviceCol fun r =>
    { r with capacity := r.capacity - s.chargeOf }

/-- A pulse that leaves capacity, or finds none, is no trigger (R69). -/
theorem State.accountPulse_charged {s : State}
    (h : s.chargeOf < (s.column s.sfc.serviceCol).capacity ∨ (s.column s.sfc.serviceCol).capacity = 0) :
    s.accountPulse = s.charged := by
  have hn : ¬ (0 < (s.column s.sfc.serviceCol).capacity ∧ (s.column s.sfc.serviceCol).capacity - s.chargeOf = 0) := by omega
  unfold State.accountPulse
  refine (if_neg hn).trans ?_
  unfold State.charged
  cases s.sfc.serviceCol <;> rfl

/-- In hard service the capacity stays 0 (R69). -/
theorem State.charged_hard {s : State} (h : (s.column s.sfc.serviceCol).capacity = 0) :
    s.charged =
      ({ s with
        sfc := { s.sfc with
          acc := s.sfc.acc + s.num SettingIx.inletHardness - s.chargeOf * s.k } } : State).onColumn s.sfc.serviceCol fun r =>
        { r with capacity := 0 } := by
  unfold State.charged
  cases hc : s.sfc.serviceCol <;> simp only [hc, State.column] at h <;> simp [State.onColumn, State.onSfc, h]

/-- The pulse of an open draw (R4, R6). -/
def State.drawCounted (s : State) : State :=
  { s with
    whu := { s.whu with draw := min 65535 (s.whu.draw + 1), quietLeft := some (s.num SettingIx.flowQuiet) } }

/-- The pulse of a run-on window (R4). -/
def State.runOnCounted (s : State) (w : RunOn) : State :=
  { s with whu := { s.whu with runOn := some { w with pulses := min 65535 (w.pulses + 1) } } }

theorem State.pulseCredit_draw {s : State} {u : InletUser} (hp : s.whu.phase = .opened) (ho : s.whu.owner = some u) :
    s.pulseCredit = .draw u := by
  simp only [State.pulseCredit, hp, ho]

theorem State.pulseCredit_runOn {s : State} {w : RunOn} (hp : s.whu.phase ≠ .opened) (hr : s.whu.runOn = some w) :
    s.pulseCredit = .runOn w.user := by
  unfold State.pulseCredit
  rw [hr]
  cases h : s.whu.phase <;> simp_all

theorem State.pulseCredit_stray {s : State} (hp : s.whu.phase ≠ .opened) (hr : s.whu.runOn = none) :
    s.pulseCredit = .stray := by
  unfold State.pulseCredit
  rw [hr]
  cases h : s.whu.phase <;> simp_all

theorem State.countPulse_draw {s : State} {u : InletUser} (h : s.pulseCredit = .draw u) : s.countPulse = s.drawCounted := by
  simp only [State.countPulse, h]
  rfl

theorem State.countPulse_runOn {s : State} {w : RunOn} (h : s.pulseCredit = .runOn w.user) (hr : s.whu.runOn = some w) :
    s.countPulse = s.runOnCounted w := by
  simp only [State.countPulse, h, State.onWhu, hr]
  rfl

theorem State.countPulse_stray {s : State} (h : s.pulseCredit = .stray) : s.countPulse = s := by
  simp only [State.countPulse, h]

/-- A pulse for TANK_FILL or a stray one is counted and charged. -/
theorem State.pulse_plain {s : State} (h : s.creditsRinse = false) : s.pulse = s.countPulse.accountPulse := by
  simp [State.pulse, h]

/-- A pulse for RINSE counts in RINSE and accrues rinse aid too (R35, R96). -/
theorem State.pulse_rinse {s : State} (h : s.creditsRinse = true) :
    s.pulse = s.countPulse.accountPulse.rinsePulse.accruePulse := by
  simp [State.pulse, h]

/-- The rinse count and the softener do not meet. -/
theorem State.rinsePulse_charged (s : State) : s.charged.rinsePulse = s.rinsePulse.charged := by
  have hcsq : s.charged.csq = s.csq := by simp [State.charged]
  unfold State.rinsePulse
  rw [hcsq]
  split
  · unfold State.charged
    have hs : (s.onCsq fun c => { c with rinse := { c.rinse with count := c.rinse.count + 1 } }).sfc = s.sfc := rfl
    rw [hs]
    cases s.sfc.serviceCol <;> rfl
  · rfl

/-- A pulse accrues rinse aid: the steps owed go out, or wait (R96, R105). -/
theorem State.accruePulse_eq (s : State) :
    s.accruePulse =
      (let u := ({ s with
        dsc := { s.dsc with
          acc := (rinseAidStep s.dsc.acc (s.num SettingIx.raRate) (s.k * s.ulPerStep .ra)).1
          owed := min 65535
            (s.dsc.owed + (rinseAidStep s.dsc.acc (s.num SettingIx.raRate) (s.k * s.ulPerStep .ra)).2) } } : State);
        if u.dsc.ra.orders = [] ∧ (8 ≤ u.dsc.owed ∨ u.dsc.flush = true) then u.placeOwed else u) := rfl
/-- A pulse that the service column bears, event and all. -/
theorem State.pulse_of_draw {s : State} (hp : s.whu.phase = .opened)
    (h : s.chargeOf < (s.column s.sfc.serviceCol).capacity ∨ (s.column s.sfc.serviceCol).capacity = 0) :
    (s.whu.owner = some .tankFill → s.pulse = s.drawCounted.charged) ∧
      (s.whu.owner = some .rinse → s.pulse = s.drawCounted.rinsePulse.charged.accruePulse) := by
  refine ⟨fun ho => ?_, fun ho => ?_⟩
  · have hc := State.pulseCredit_draw hp ho
    rw [State.pulse_plain (by simp [State.creditsRinse, hc]), State.countPulse_draw hc]
    exact State.accountPulse_charged (s := s.drawCounted) h
  · have hc := State.pulseCredit_draw hp ho
    rw [State.pulse_rinse (by simp [State.creditsRinse, hc]), State.countPulse_draw hc,
      State.accountPulse_charged (s := s.drawCounted) h, State.rinsePulse_charged]

theorem State.pulse_of_runOn {s : State} {w : RunOn} (hp : s.whu.phase ≠ .opened) (hr : s.whu.runOn = some w)
    (h : s.chargeOf < (s.column s.sfc.serviceCol).capacity ∨ (s.column s.sfc.serviceCol).capacity = 0) :
    (w.user = .tankFill → s.pulse = (s.runOnCounted w).charged) ∧
      (w.user = .rinse → s.pulse = (s.runOnCounted w).rinsePulse.charged.accruePulse) := by
  have hc := State.pulseCredit_runOn hp hr
  refine ⟨fun ho => ?_, fun ho => ?_⟩
  · rw [State.pulse_plain (by simp [State.creditsRinse, hc, ho]), State.countPulse_runOn hc hr]
    exact State.accountPulse_charged (s := s.runOnCounted w) h
  · rw [State.pulse_rinse (by simp [State.creditsRinse, hc, ho]), State.countPulse_runOn hc hr,
      State.accountPulse_charged (s := s.runOnCounted w) h, State.rinsePulse_charged]

theorem State.pulse_of_stray {s : State} (hp : s.whu.phase ≠ .opened) (hr : s.whu.runOn = none)
    (h : s.chargeOf < (s.column s.sfc.serviceCol).capacity ∨ (s.column s.sfc.serviceCol).capacity = 0) :
    s.pulse = s.charged := by
  have hc := State.pulseCredit_stray hp hr
  rw [State.pulse_plain (by simp [State.creditsRinse, hc]), State.countPulse_stray hc]
  exact State.accountPulse_charged h

theorem exec_flowPulse {s t : State} (hs : s.on = true) (h : s.pulse = t) : exec .flowPulse s = .next t.finish :=
  congrArg Host.Outcome.next ((State.event_on hs _).trans (congrArg State.finish h))

/-- A pulse for RINSE counts while the cycle is in RINSE. -/
theorem State.rinsePulse_eq (s : State) :
    s.rinsePulse =
      { s with
        csq := if s.csq.phase = .rinse then
            { s.csq with rinse := { s.csq.rinse with count := s.csq.rinse.count + 1 } } else s.csq } := by
  unfold State.rinsePulse
  split <;> rfl

/-- No step is owed yet, and none goes out (R96, R105). -/
theorem State.accruePulse_waits {s : State}
    (h0 : (rinseAidStep s.dsc.acc (s.num SettingIx.raRate) (s.k * s.ulPerStep .ra)).2 = 0) (ho : s.dsc.owed < 8)
    (hf : s.dsc.flush = false) :
    s.accruePulse =
      { s with
        dsc := { s.dsc with acc := (rinseAidStep s.dsc.acc (s.num SettingIx.raRate) (s.k * s.ulPerStep .ra)).1 } } := by
  have hm : min 65535 (s.dsc.owed + 0) = s.dsc.owed := Nat.min_eq_right (by omega)
  rw [State.accruePulse_eq, h0, hm]
  exact if_neg (by simp [hf]; omega)

/-- The rinse aid of a charged pulse, none of it owed yet. -/
theorem State.charged_accrues {s : State}
    (h0 : (rinseAidStep s.dsc.acc (s.num SettingIx.raRate) (s.k * s.ulPerStep .ra)).2 = 0) (ho : s.dsc.owed < 8)
    (hf : s.dsc.flush = false) :
    s.charged.accruePulse =
      ({ s with
        dsc := { s.dsc with acc := (rinseAidStep s.dsc.acc (s.num SettingIx.raRate) (s.k * s.ulPerStep .ra)).1 }
        sfc := { s.sfc with
          acc := s.sfc.acc + s.num SettingIx.inletHardness - s.chargeOf * s.k } } : State).onColumn s.sfc.serviceCol fun r =>
        { r with capacity := r.capacity - s.chargeOf } := by
  unfold State.charged
  cases s.sfc.serviceCol <;> exact State.accruePulse_waits h0 ho hf

/-- The rinse count and the charge in hard service. -/
theorem State.rinsePulse_charged_hard {s : State} (h : (s.column s.sfc.serviceCol).capacity = 0) :
    s.rinsePulse.charged =
      ({ s.rinsePulse with
        sfc := { s.rinsePulse.sfc with
          acc := s.sfc.acc + s.num SettingIx.inletHardness - s.chargeOf * s.k } } : State).onColumn s.sfc.serviceCol fun r =>
        { r with capacity := 0 } := by
  unfold State.rinsePulse
  split
  · exact State.charged_hard (s := s.onCsq _) h
  · exact State.charged_hard h

/-- Settles O35. -/
theorem flowPulseIsCreditedAndCharged : Obligations.FlowPulseIsCreditedAndCharged := by
  unfold Obligations.FlowPulseIsCreditedAndCharged
  refine ⟨fun s hs hp ho h => exec_flowPulse hs ((State.pulse_of_draw hp (.inl h)).1 ho),
    fun s w hs hp hr hu h => exec_flowPulse hs ((State.pulse_of_runOn hp hr (.inl h)).1 hu),
    fun s hs hp hr h => exec_flowPulse hs (State.pulse_of_stray hp hr (.inl h)),
    fun s hs hp ho hc h h0 howed hf => exec_flowPulse hs (((State.pulse_of_draw hp (.inl h)).2 ho).trans ?_),
    fun s hs hp ho h => exec_flowPulse hs (((State.pulse_of_draw hp (.inl h)).2 ho).trans ?_),
    fun s w hs hp hr hu h => exec_flowPulse hs (((State.pulse_of_runOn hp hr (.inl h)).2 hu).trans ?_),
    fun s hs h => ⟨fun hp ho => exec_flowPulse hs (((State.pulse_of_draw hp (.inr h)).1 ho).trans ?_),
      fun hp ho => exec_flowPulse hs (((State.pulse_of_draw hp (.inr h)).2 ho).trans ?_),
      fun w hp hr => ⟨fun hu => exec_flowPulse hs (((State.pulse_of_runOn hp hr (.inr h)).1 hu).trans ?_),
        fun hu => exec_flowPulse hs (((State.pulse_of_runOn hp hr (.inr h)).2 hu).trans ?_)⟩,
      fun hp hr => exec_flowPulse hs ((State.pulse_of_stray hp hr (.inr h)).trans (State.charged_hard h))⟩,
    fun s => ⟨fun ho h => ?_, fun h => ?_⟩, fun _ => rfl⟩
  · have hr : s.drawCounted.rinsePulse =
        s.drawCounted.onCsq fun c => { c with rinse := { c.rinse with count := c.rinse.count + 1 } } := if_pos hc
    rw [hr]
    exact State.charged_accrues (s := s.drawCounted.onCsq _) h0 howed hf
  · rw [State.rinsePulse_eq]
    rfl
  · rw [State.rinsePulse_eq]
    rfl
  · exact State.charged_hard (s := s.drawCounted) h
  · exact congrArg State.accruePulse (State.rinsePulse_charged_hard (s := s.drawCounted) h)
  · exact State.charged_hard (s := s.runOnCounted w) h
  · exact congrArg State.accruePulse (State.rinsePulse_charged_hard (s := s.runOnCounted w) h)
  · rw [State.accruePulse_eq]
    exact if_pos ⟨ho, h⟩
  · rw [State.accruePulse_eq]
    exact if_neg fun hc => by
      rcases h with h | ⟨h1, h2⟩
      · exact h hc.1
      · rcases hc.2 with hc | hc
        · exact absurd h1 (Nat.not_lt.mpr hc)
        · exact absurd (show s.dsc.flush = true from hc) (by simp [h2])
/-! ### Draw reports (O38) -/

/-- The report of a window that has run down names its user, its pulses and its outcome (R5). -/
theorem State.advance_report (s : State) (n : Nat) :
    (s.advance n).whu.runOn.map RunOn.report = s.whu.runOn.map RunOn.report := by
  unfold State.advance
  split
  · rfl
  · rfl
  all_goals
    simp [State.passWhu, State.passCsq, State.passLba, State.passSfc, State.passDsc, State.passDvc, State.passMbi,
      State.passSto, State.passPlk]
    cases s.whu.runOn <;> rfl

theorem State.advance_k (s : State) (n : Nat) : (s.advance n).k = s.k := by
  simp only [State.k, State.num_congr (State.advance_frame s n).1]

/-- The state at the end of a run-on window: its time has passed and it is gone. -/
def State.pastRunOn (s : State) (n : Nat) : State :=
  { s.advance n with whu := { (s.advance n).whu with runOn := none } }

@[simp] theorem State.pastRunOn_k (s : State) (n : Nat) : (s.pastRunOn n).k = s.k := State.advance_k s n

@[simp] theorem State.pastRunOn_fillEnded (s : State) (n : Nat) : (s.pastRunOn n).whu.fillEnded = s.whu.fillEnded := by
  simp [State.pastRunOn]

@[simp] theorem State.pastRunOn_phase (s : State) (n : Nat) : (s.pastRunOn n).csq.phase = s.csq.phase := by
  simp [State.pastRunOn]

@[simp] theorem State.pastRunOn_rinse (s : State) (n : Nat) : (s.pastRunOn n).csq.rinse = s.csq.rinse := by
  simp [State.pastRunOn]

/-- The rest of the run-on window passes, it ends, and its report is delivered. -/
theorem exec_runOnEnd {s : State} {w : RunOn} (hs : s.on = true) (hr : s.whu.runOn = some w) :
    exec .runOnEnd s = .next
      ((s.pastRunOn w.left).deliverReport (some { user := w.user, pulses := w.pulses, outcome := w.outcome })).finish := by
  have hrep : (s.advance w.left).whu.runOn.map RunOn.report =
      some { user := w.user, pulses := w.pulses, outcome := w.outcome } := by
    rw [State.advance_report, hr]; rfl
  refine congrArg Host.Outcome.next ((State.expire_running hs (n := w.left) (by simp [State.runOnLeft, hr]) _).trans ?_)
  refine congrArg State.finish ?_
  unfold State.finishRunOn State.endRunOn
  dsimp only
  rw [hrep]
  rfl

/-- A fill that ended before its report is dosed with it (R11). -/
theorem State.tankReport_ended {s : State} {kind : FillKind} (h : s.whu.fillEnded = some kind) (r : DrawReport) :
    s.tankReport r =
      (s.onWhu fun w => { w with fillEnded := none }).dose kind.origin (r.pulses * 1000 / s.k) 100 := by
  simp only [State.tankReport, h]
  rfl

/-- A fill that the report ends is recomputed and dosed (R11). -/
theorem State.tankReport_open {s : State} {f : FillRec} (h : s.whu.fillEnded = none) (hf : s.whu.fill = some f)
    (r : DrawReport) :
    s.tankReport r =
      (s.onWhu fun w => { w with fill := none }).recomputeTank.dose f.kind.origin (r.pulses * 1000 / s.k) 100 := by
  simp only [State.tankReport, h, State.reportFill, hf]
  rfl

/-- A fill that time passes over keeps its kind. -/
theorem State.advance_fill {s : State} {f : FillRec} (h : s.whu.fill = some f) (n : Nat) :
    ∃ g : FillRec, (s.advance n).whu.fill = some g ∧ g.kind = f.kind := by
  unfold State.advance
  split
  · exact ⟨f, h, rfl⟩
  · exact ⟨f, h, rfl⟩
  all_goals
    simp only [State.passWhu, State.passCsq, State.passLba, State.passSfc, State.passDsc, State.passDvc, State.passMbi,
      State.passSto, State.passPlk, State.onWhu, State.onCsq, State.onLba, State.onSfc, State.onDsc, State.onDvc,
      State.onMbi, State.onSto, State.onPlk, h]
    split
    · exact ⟨_, rfl, rfl⟩
    · exact ⟨f, rfl, rfl⟩

/-- A report finds its rinse released or cut (R35, R36). -/
theorem State.rinseReport_closing {s : State} (hp : s.csq.phase = .rinse) (hc : s.csq.rinse.closing = true) (r : DrawReport) :
    s.rinseReport r =
      (let t := s.onRecord fun x => { x with rinseMl := r.pulses * 1000 / s.k }
      if s.csq.rinse.cut then t.rinseEndStep.endCycle .rinseIncomplete
      else ((t.dose .rinseEnd (r.pulses * 1000 / s.k) t.recipe.soilPct).rinseEndStep).enterDwell) := if_pos ⟨hp, hc⟩

theorem State.rinseReport_other {s : State} (h : s.csq.phase ≠ .rinse ∨ s.csq.rinse.closing = false) (r : DrawReport) :
    s.rinseReport r = s := by
  rw [State.rinseReport, if_neg]
  rintro ⟨hp, hc⟩
  exact h.elim (· hp) (by simp [hc])

theorem State.rinseEndStep_waits {s : State} (h : 0 < s.dsc.owed) (ho : s.dsc.ra.orders ≠ []) :
    s.rinseEndStep = { s with dsc := { s.dsc with flush := true } } := by
  rw [State.rinseEndStep, if_pos h]
  exact if_neg fun hc => ho hc.2

theorem State.rinseEndStep_places {s : State} (h : 0 < s.dsc.owed) (ho : s.dsc.ra.orders = []) :
    s.rinseEndStep = ({ s with dsc := { s.dsc with flush := true } } : State).placeOwed := by
  rw [State.rinseEndStep, if_pos h]
  exact if_pos ⟨rfl, ho⟩

/-- The hardness field of a softener octet is its two low bits (R68). -/
theorem hardness_bits (o : Octet) :
    (isHard o = true ↔ 2 ≤ o.toNat % 4) ∧ (isHard o = false → (isMarginal o = true ↔ o.toNat % 4 = 1)) := by
  have h1 : isHard o = decide (o.toNat / 2 % 2 = 1) := by
    rw [isHard, BitVec.getLsbD, Nat.testBit_eq_decide_div_mod_eq, Nat.pow_one]
  have h0 : o.getLsbD 0 = decide (o.toNat % 2 = 1) := by
    rw [BitVec.getLsbD, Nat.testBit_eq_decide_div_mod_eq, Nat.pow_zero, Nat.div_one]
  have hm : isMarginal o = (!isHard o && o.getLsbD 0) := rfl
  rw [hm, h1, h0]
  simp only [decide_eq_true_eq, decide_eq_false_iff_not, Bool.and_eq_true, Bool.not_eq_true']
  omega

/-- Settles O38. -/
theorem runOnEndReportsTheDraw : Obligations.RunOnEndReportsTheDraw := by
  unfold Obligations.RunOnEndReportsTheDraw
  refine ⟨fun s w kind hs hr hu hf => ?_, fun s w f hs hr hu hn hf => ?_, fun s w hs hr hu h => ?_, fun s hr => ?_,
    fun s w hs hr hu hp hc hcut => ?_, fun s w hs hr hu hp hc hcut => ?_,
    fun s => ⟨fun h => ?_, State.rinseEndStep_waits, State.rinseEndStep_places⟩, fun s origin ml soil => rfl,
    fun s ul hard => ⟨fun ha => State.countDosing_none ha _, fun e r ha hr => State.countDosing_record ha hr _,
      fun e ha hr => State.countDosing_entry ha hr _⟩,
    fun s => ⟨fun h => ?_, fun o hc hi => ⟨fun h => ?_, fun h => ?_, fun h => ?_⟩⟩⟩
  · rw [exec_runOnEnd hs hr]
    simp only [State.deliverReport, hu]
    rw [State.tankReport_ended (kind := kind) (by simpa using hf), State.pastRunOn_k]
    cases kind <;> rfl
  · obtain ⟨g, hg, hk⟩ := State.advance_fill hf w.left
    rw [exec_runOnEnd hs hr]
    simp only [State.deliverReport, hu]
    rw [State.tankReport_open (s := s.pastRunOn w.left) (f := g) (by simpa using hn) hg, hk, State.pastRunOn_k]
    cases f.kind <;> rfl
  · rw [exec_runOnEnd hs hr]
    simp only [State.deliverReport, hu]
    rw [State.rinseReport_other (by simpa using h)]
    rfl
  · exact congrArg Host.Outcome.next (by simp [State.runOnLeft, hr, State.expire])
  · rw [exec_runOnEnd hs hr]
    simp only [State.deliverReport, hu]
    rw [State.rinseReport_closing (by simpa using hp) (by simpa using hc), State.pastRunOn_k]
    simp only [State.pastRunOn_rinse, hcut]
    rfl
  · rw [exec_runOnEnd hs hr]
    simp only [State.deliverReport, hu]
    rw [State.rinseReport_closing (by simpa using hp) (by simpa using hc), State.pastRunOn_k]
    simp only [State.pastRunOn_rinse, hcut]
    rfl
  · exact if_neg (by omega)
  · obtain hz | hi := h
    · simp [State.residual, hz]
    · simp [State.residual, hi]
  · obtain ⟨hh, -⟩ := hardness_bits o
    simp [State.residual, hi, hc, hh.mpr h]
  · obtain ⟨hh, hm⟩ := hardness_bits o
    have hn : isHard o = false := Bool.eq_false_iff.mpr fun hx => by have := hh.mp hx; omega
    simp [State.residual, hi, hc, hn, (hm hn).mpr h]
  · obtain ⟨hh, hm⟩ := hardness_bits o
    have hn : isHard o = false := Bool.eq_false_iff.mpr fun hx => by have := hh.mp hx; omega
    have hs : isMarginal o = false := Bool.eq_false_iff.mpr fun hx => by have := (hm hn).mp hx; omega
    simp [State.residual, hi, hc, hn, hs]
end Sys2Proof.Machine
end

section
-- The proofs are elaborated one after the other: each of the many threads of a parallel run holds a stack of its own.
set_option Elab.async false
/-! PROOFS. The stuck line, the softener, the orders and the door (O47, O48, O49, O50, O54). -/

namespace Sys2Proof.Machine

open Sys2Proof

/-! ### The stuck line (O54) -/

/-- An event that acts under a condition of its own does nothing but settle where the condition fails. -/
theorem State.event_onlyIf_false {s : State} (hs : s.on = true) {c : State → Bool} (hc : c s = false) (f : State → State) :
    (s.event fun t => t.onlyIf (c t) f) = s.finish := by
  rw [State.event_on hs, State.onlyIf, if_neg (by simp [hc])]

theorem State.event_onlyIf_true {s : State} (hs : s.on = true) {c : State → Bool} (hc : c s = true) (f : State → State) :
    (s.event fun t => t.onlyIf (c t) f) = (f s).finish := by
  rw [State.event_on hs, State.onlyIf, if_pos hc]

/-- The watch commands that do not fit the state of the watch do nothing (R169). -/
theorem exec_watch_other {s : State} (hs : s.on = true) :
    (s.msu.watch ≠ .off → exec .stuckLineBreak s = .next s.finish) ∧
    (s.isWatching = false → exec .busStuck s = .next s.finish) ∧
    (s.isStuck = false → exec .stuckRepeatBreak s = .next s.finish ∧ exec .busStuckClear s = .next s.finish) :=
  ⟨fun h => congrArg Host.Outcome.next (State.event_onlyIf_false hs (c := fun t => decide (t.msu.watch = .off)) (by simp [h]) _),
    fun h => congrArg Host.Outcome.next (State.event_onlyIf_false hs (c := State.isWatching) h _),
    fun h => ⟨congrArg Host.Outcome.next (State.event_onlyIf_false hs (c := State.isStuck) h _),
      congrArg Host.Outcome.next (State.event_onlyIf_false hs (c := State.isStuck) h _)⟩⟩

/-- The watch of a line that is off (R169). -/
theorem State.watchFrame_off {s : State} (h : s.msu.watch = .off) (zero : Bool) :
    s.watchFrame zero =
      if zero then
        if 16 ≤ s.msu.stuckCount + 1 then s.watchLine
        else { s with msu := { s.msu with stuckCount := s.msu.stuckCount + 1 } }
      else { s with msu := { s.msu with stuckCount := 0 } } := by
  rw [State.watchFrame, h]; rfl

/-- The watch of a line that has been broken once (R169). -/
theorem State.watchFrame_watch {s : State} {n : Nat} (h : s.msu.watch = .watch n) (zero : Bool) :
    s.watchFrame zero =
      if zero then
        if 64 ≤ n + 1 then s.setStuck else { s with msu := { s.msu with watch := .watch (n + 1) } }
      else { s with msu := { s.msu with watch := .off, stuckCount := 0 } } := by
  rw [State.watchFrame, h]; rfl

/-- The watch of a stuck line (R169). -/
theorem State.watchFrame_stuck {s : State} {n good : Nat} (h : s.msu.watch = .stuck n good) (zero : Bool) :
    s.watchFrame zero =
      if (!zero && decide (16 ≤ good + 1)) = true then s.clearStuck
      else if n ≤ 1 then
        ({ s with msu := { s.msu with watch := .stuck 0 (if zero then 0 else good + 1) } } : State).rebreakLine
      else { s with msu := { s.msu with watch := .stuck (n - 1) (if zero then 0 else good + 1) } } := by
  rw [State.watchFrame, h]; rfl

/-- Settles O54. -/
theorem stuckLineIsBrokenAndWatched : Obligations.StuckLineIsBrokenAndWatched := by
  unfold Obligations.StuckLineIsBrokenAndWatched
  refine ⟨fun s hs h => ?_, fun n s hs h => ?_, fun n good s hs h => ?_, fun left s hs h => ?_, fun s h => ?_,
    fun s h => ?_, fun s n h => ?_, fun s n good h => ?_⟩
  · obtain ⟨-, hw, hk⟩ := exec_watch_other hs
    have hstuck : s.isStuck = false := by simp [State.isStuck, h]
    exact ⟨congrArg Host.Outcome.next
        (State.event_onlyIf_true hs (c := fun t => decide (t.msu.watch = .off)) (by simp [h]) State.watchLine),
      hw (by simp [State.isWatching, h]), (hk hstuck).1, (hk hstuck).2⟩
  · obtain ⟨ho, -, hk⟩ := exec_watch_other hs
    have hstuck : s.isStuck = false := by simp [State.isStuck, h]
    exact ⟨congrArg Host.Outcome.next
        (State.event_onlyIf_true hs (c := State.isWatching) (by simp [State.isWatching, h]) State.setStuck),
      ho (by simp [h]), (hk hstuck).1, (hk hstuck).2⟩
  · obtain ⟨ho, hw, -⟩ := exec_watch_other hs
    have hstuck : s.isStuck = true := by simp [State.isStuck, h]
    exact ⟨congrArg Host.Outcome.next (State.event_onlyIf_true hs (c := State.isStuck) hstuck State.rebreakLine),
      congrArg Host.Outcome.next (State.event_onlyIf_true hs (c := State.isStuck) hstuck State.clearStuck),
      ho (by simp [h]), hw (by simp [State.isWatching, h])⟩
  · have hl : s.breakLeft = some left := by simp [State.breakLeft, h]
    have hr : (s.on && !s.lineRuns) = true := by simp [State.lineRuns, hs, h]
    exact congrArg Host.Outcome.next
      ((if_pos hr).trans (congrArg (State.buildFrame · 0) (State.expire_running hs hl State.startLine)))
  · exact congrArg Host.Outcome.next (if_neg (by simp [State.lineRuns, h]))
  · refine ⟨fun hn => ?_, fun hn => ?_, ?_⟩
    · rw [State.watchFrame_off h, if_pos rfl, if_neg (by omega)]
    · rw [State.watchFrame_off h, if_pos rfl, if_pos hn]; rfl
    · rw [State.watchFrame_off h]; rfl
  · refine ⟨fun hn => ?_, fun hn => ?_, ?_⟩
    · rw [State.watchFrame_watch h, if_pos rfl, if_neg (by omega)]
    · rw [State.watchFrame_watch h, if_pos rfl, if_pos hn]; rfl
    · rw [State.watchFrame_watch h]; rfl
  · refine ⟨fun hg => ?_, fun hg hn => ?_, fun hn => ?_, fun hn => ?_, fun hg hn => ?_⟩
    · rw [State.watchFrame_stuck h, if_pos (by simpa using hg)]; rfl
    · rw [State.watchFrame_stuck h, if_neg (by simp; omega), if_neg (by omega)]; rfl
    · rw [State.watchFrame_stuck h, if_neg (by simp), if_neg (by omega)]; rfl
    · rw [State.watchFrame_stuck h, if_neg (by simp), if_pos hn]; rfl
    · rw [State.watchFrame_stuck h, if_neg (by simp; omega), if_pos hn]; rfl

/-! ### The changeover (O47) -/

/-- What hinders a changeover from starting (R71). -/
theorem State.startChangeover_waits {s : State}
    (h : s.sfc.changeover ≠ .pending ∨ s.whu.owner.isSome = true ∨ s.locked = true) : s.startChangeover = s := by
  rw [State.startChangeover, if_neg]
  simp only [State.changeoverReady, Bool.and_eq_true, decide_eq_true_eq, Bool.not_eq_true', Option.isNone_iff_eq_none]
  rintro ⟨⟨hc, ho⟩, hl⟩
  simp [hc, ho, hl] at h

/-- A changeover that may start claims VALVE_MOTOR (R71). -/
theorem State.startChangeover_claims {s : State} (hc : s.sfc.changeover = .pending) (ho : s.whu.owner = none)
    (hl : s.locked = false) (hi : (s.claimOf .valveMotor).state = .idle) (hu : s.loadUnfit .valveMotor = false) :
    s.startChangeover =
      (({ s with sfc := { s.sfc with changeover := .claimed } } : State).onClaim .valveMotor fun c =>
        { c with state := .waiting, claimTime := s.now, waitMs := 0, promoted := false }).walk := by
  rw [State.startChangeover_ready hc ho hl hi]
  exact if_neg (by simp [hu])

/-- A changeover whose motor is unfit is DUE (R71). -/
theorem State.startChangeover_unfit {s : State} (hc : s.sfc.changeover = .pending) (ho : s.whu.owner = none)
    (hl : s.locked = false) (hi : (s.claimOf .valveMotor).state = .idle) (hu : s.loadUnfit .valveMotor = true) :
    s.startChangeover =
      (({ s with sfc := { s.sfc with changeover := .claimed } } : State).tellUnfit .valveMotor).becomeDue := by
  rw [State.startChangeover_ready hc ho hl hi]
  exact if_pos hu

/-- An alignment that may start, its motor fit, claims it (R73). -/
theorem State.startAlignment_claims {s : State} (hr : s.alignmentReady = true) (hi : (s.claimOf .valveMotor).state = .idle)
    (hu : s.loadUnfit .valveMotor = false) :
    s.startAlignment =
      (({ s with sfc := { s.sfc with changeover := .aligning } } : State).onClaim .valveMotor fun c =>
        { c with state := .waiting, claimTime := s.now, waitMs := 0, promoted := false }).walk := by
  have hl : s.locked = false := by
    simp only [State.alignmentReady, Bool.and_eq_true, Bool.not_eq_true'] at hr
    exact hr.1.2
  have hc : (s.onSfc fun x => { x with changeover := .aligning }).claim .valveMotor = _ :=
    State.claim_taken (s := s.onSfc fun x => { x with changeover := .aligning }) hi hl (by simp) hu
  rw [State.startAlignment, if_pos hr, hc]
  rfl

/-- Time leaves the changeover and the columns that it names (R72). -/
@[simp] theorem State.advance_sfc (s : State) (n : Nat) :
    (s.advance n).sfc.changeover = s.sfc.changeover ∧ (s.advance n).sfc.serviceCol = s.sfc.serviceCol ∧
      (s.advance n).sfc.target = s.sfc.target ∧ (s.advance n).sfc.moveLimit = s.sfc.moveLimit := by
  unfold State.advance
  split
  · exact ⟨rfl, rfl, rfl, rfl⟩
  · exact ⟨rfl, rfl, rfl, rfl⟩
  all_goals
    simp [State.passWhu, State.passCsq, State.passLba, State.passSfc, State.passDsc, State.passDvc, State.passMbi,
      State.passSto, State.passPlk]

/-- The move timer that expires acts by the state of the changeover (R73). -/
theorem exec_moveTimerExpiry {s : State} {left : Nat} (hs : s.on = true) (hm : s.sfc.moveLeft = some left) :
    exec .moveTimerExpiry s = .next (s.advance left).endMoveTimer.finish :=
  congrArg Host.Outcome.next (State.expire_running hs hm _)

theorem State.endMoveTimer_returning {s : State} (h : s.sfc.changeover = .returning) :
    s.endMoveTimer = s.endReturning := by
  rw [State.endMoveTimer, h]

theorem State.followValve_returning {s : State} (h : s.sfc.changeover = .returning) (c : Column) :
    s.followValve (.serves c) = if c = s.sfc.serviceCol then s.endReturning else s := by
  simp only [State.followValve, h]

/-- Settles O47. -/
theorem changeoverStartsMovesAndFails : Obligations.ChangeoverStartsMovesAndFails := by
  unfold Obligations.ChangeoverStartsMovesAndFails
  refine ⟨fun s hs hc ho hl hi hu => ?_, fun s hs hc ho hl hi hu => ?_, fun s hs h => ?_, fun s hs hr hi hu => ?_,
    fun s hs hr => ?_, fun s hc => ?_, fun s left hs hm hc => ?_, fun s left hs hm hc => ?_, fun s left hs hm hc => ?_,
    fun s hm => ?_, fun s => rfl, fun s hc => ⟨?_, fun v hv => ?_⟩, fun s hc => ⟨?_, ?_, fun v hv hf => ?_⟩,
    fun s => ⟨fun h => ?_, fun h => ?_⟩, fun s => ⟨fun h => ?_, fun h => ?_, fun h v hv => ?_⟩,
    fun s v => ⟨fun h => if_pos h, fun h => if_neg h⟩,
    fun s => ⟨fun hd hr hl hf hu => ?_, fun h => ?_⟩,
    fun s => ⟨fun hc ho hl hi => ⟨State.startChangeover_claims hc ho hl hi, State.startChangeover_unfit hc ho hl hi⟩,
      State.startChangeover_waits⟩, fun s => ⟨rfl, rfl⟩⟩
  · exact congrArg Host.Outcome.next
      ((State.event_on hs _).trans (congrArg State.finish (State.startChangeover_claims hc ho hl hi hu)))
  · exact congrArg Host.Outcome.next
      ((State.event_on hs _).trans (congrArg State.finish (State.startChangeover_unfit hc ho hl hi hu)))
  · exact congrArg Host.Outcome.next
      ((State.event_on hs _).trans (congrArg State.finish (State.startChangeover_waits h)))
  · exact congrArg Host.Outcome.next
      ((State.event_on hs _).trans (congrArg State.finish (State.startAlignment_claims hr hi hu)))
  · exact congrArg Host.Outcome.next
      ((State.event_on hs _).trans (congrArg State.finish (if_neg (by simp [hr]))))
  · rw [State.valveGranted, hc]; rfl
  · obtain ⟨ha, hcol, -, hlim⟩ := State.advance_sfc s left
    rw [exec_moveTimerExpiry hs hm]
    simp only [State.endMoveTimer, ha, hc]
    simp only [State.failMove, State.onSfc, hcol, hlim]
  · obtain ⟨ha, -, ht, -⟩ := State.advance_sfc s left
    rw [exec_moveTimerExpiry hs hm, State.endMoveTimer_returning (ha.trans hc), State.endReturning, ht]
    rfl
  · obtain ⟨ha, -⟩ := State.advance_sfc s left
    rw [exec_moveTimerExpiry hs hm]
    simp only [State.endMoveTimer, ha, hc]
    rfl
  · exact congrArg Host.Outcome.next (by rw [hm]; rfl)
  · rw [State.followValve_returning hc, if_pos rfl]; rfl
  · cases v <;> simp_all [State.followValve]
  · simp only [State.followValve, hc, if_true]
  · simp only [State.followValve, hc]; rfl
  · cases v <;> simp_all [State.followValve]
  · exact if_neg (by simp [h])
  · exact if_pos h
  · simp only [State.followValve, h]
  · obtain h | h | h := h <;> simp only [State.followValve, h]
  · cases v <;> obtain h | h | h | h := h <;> simp_all [State.followValve]
  · exact if_pos ⟨hd, by simp [State.changeoverFree, hr, hl, hf], hu⟩
  · refine if_neg ?_
    simp only [State.changeoverFree, Bool.and_eq_true, decide_eq_true_eq, Bool.not_eq_true']
    rintro ⟨hd, ⟨⟨hr, hl⟩, hf⟩, hu⟩
    simp [hd, hr, hl, hf, hu] at h
/-! ### Regeneration (O48) -/

theorem State.moduleOf_congr {s t : State} (h : t.settings = s.settings) (kind : Kind) :
    t.moduleOf kind = s.moduleOf kind := by
  have hk (a : Addr) : t.kindAt a = s.kindAt a := by rw [State.kindAt, State.kindAt, State.num_congr h]
  simp only [State.moduleOf, hk]

theorem State.linkedAt_congr {s t : State} (hm : t.msu = s.msu) (a : Addr) : t.linkedAt a = s.linkedAt a := by
  rw [State.linkedAt, State.linkedAt, State.entry, State.entry, hm]

theorem State.linked_congr {s t : State} (h : t.settings = s.settings) (hm : t.msu = s.msu) (kind : Kind) :
    t.linked kind = s.linked kind := by
  rw [State.linked, State.linked, State.moduleOf_congr h]
  cases s.moduleOf kind with
  | none => rfl
  | some a => exact State.linkedAt_congr hm a

theorem State.indication_congr {s t : State} (h : t.settings = s.settings) (hm : t.msu = s.msu) (hb : t.mbi = s.mbi)
    (kind : Kind) : t.indication kind = s.indication kind := by
  rw [State.indication, State.indication, State.moduleOf_congr h]
  cases s.moduleOf kind with
  | none => rfl
  | some a => simp only [State.linkedAt_congr hm a, State.bay, hb]

/-- The four causes of a pause (R76). -/
theorem State.regenPaused_iff (s : State) :
    s.regenPaused = true ↔ s.whu.owner ≠ none ∨ s.linked .softener = false ∨ s.locked = true ∨
      s.sfc.changeover = .moving ∨ s.sfc.changeover = .returning ∨ s.sfc.changeover = .aligning := by
  unfold State.regenPaused
  cases s.sfc.changeover <;> cases s.whu.owner <;> simp

theorem State.regenPaused_congr {s t : State} (ho : t.whu.owner = s.whu.owner) (hs : t.settings = s.settings)
    (hm : t.msu = s.msu) (hf : t.flu = s.flu) (hc : t.sfc.changeover = s.sfc.changeover) :
    t.regenPaused = s.regenPaused := by
  simp only [State.regenPaused, ho, State.linked_congr hs hm, State.locked_congr hf, hc]

theorem State.onColumn_column (s : State) (c d : Column) (f : ColumnRec → ColumnRec) :
    (s.onColumn c f).column d = if d = c then f (s.column d) else s.column d := by
  cases c <;> cases d <;> rfl

/-- Time runs down the phase of a regeneration that is not paused, and leaves a column as it is otherwise (R76). -/
theorem State.advance_column {s : State} (hs : s.on = true) (n : Nat) (c : Column) :
    (s.advance n).column c =
      if (s.column c).state.regen && !s.regenPaused then { s.column c with phaseLeft := (s.column c).phaseLeft - n }
      else s.column c := by
  have hpast : ∀ t : State, t.sfc = s.sfc → t.regenPaused = s.regenPaused →
      ((((((t.passSfc n).passDsc n).passDvc n).passMbi n).passSto n).passPlk n).column c =
        if (s.column c).state.regen && !s.regenPaused then { s.column c with phaseLeft := (s.column c).phaseLeft - n }
        else s.column c := by
    intro t hsfc hp
    cases c <;>
      simp [State.passSfc, State.passDsc, State.passDvc, State.passMbi, State.passSto, State.passPlk, State.column,
        State.onSfc, hsfc, hp]
  unfold State.advance
  split
  next h => simp [State.on, h] at hs
  next h => simp [State.on, h] at hs
  all_goals exact hpast _ rfl (State.regenPaused_congr rfl rfl rfl rfl rfl)

/-- A column keeps its state, its condition and what it has been credited for while time passes. -/
theorem State.advance_column_frame {s : State} (hs : s.on = true) (n : Nat) (c : Column) :
    ((s.advance n).column c).state = (s.column c).state ∧
      ((s.advance n).column c).condition = (s.column c).condition := by
  rw [State.advance_column hs]
  split <;> exact ⟨rfl, rfl⟩

theorem State.regenColumn_congr {s t : State} (h : ∀ c, (t.column c).state = (s.column c).state) :
    t.regenColumn = s.regenColumn := by
  have ha : t.sfc.colA.state = s.sfc.colA.state := h .a
  have hb : t.sfc.colB.state = s.sfc.colB.state := h .b
  simp only [State.regenColumn, ha, hb]

/-- The end of a phase that is not paused is that of the regenerating column, its phase time past (R77). -/
theorem exec_regenPhaseEnd {s : State} {c : Column} (hs : s.on = true) (hp : s.regenPaused = false)
    (hc : s.regenColumn = some c) :
    exec .regenPhaseEnd s = .next ((s.advance (s.column c).phaseLeft).endPhase c).finish := by
  have hl : s.regenLeft = some (s.column c).phaseLeft := by simp [State.regenLeft, hp, hc]
  refine congrArg Host.Outcome.next ((State.expire_running hs hl _).trans (congrArg State.finish ?_))
  rw [State.endRegenPhase, State.regenColumn_congr fun d => (State.advance_column_frame hs _ d).1, hc]

/-- A SOFTENER notice names the state that its column has been given. -/
theorem State.noteSoftener_onColumn (s : State) (c : Column) (f : ColumnRec → ColumnRec) (e : SoftenerEvent) :
    (s.onColumn c f).noteSoftener e c = (s.onColumn c f).place (.softener e c (f (s.column c)).state) := by
  rw [State.noteSoftener, State.onColumn_column, if_pos rfl]

theorem State.endPhase_brine {s : State} {c : Column} (h : (s.column c).state = .regenBrine) :
    s.endPhase c = (s.noBrine c).nextPhase c .regenSlow (s.num SettingIx.slowRinseS) := by
  rw [State.endPhase, h]

/-- BRINE begins at a column (R75). -/
theorem State.beginRegen_eq (s : State) (c : Column) :
    s.beginRegen c =
      ((s.onColumn c fun r =>
          { r with
            state := .regenBrine, capacity := 0, brineWeak := s.showsSaltLow
            phaseLeft := s.num SettingIx.brineS * 1000 }).onSfc fun x => { x with brineSeen := false }).place
        (.softener .phaseStart c .regenBrine) := by
  cases c <;> rfl

/-- The exhausting pulse (R69): what is left is taken, the condition is credited if SOFT still shows, and the changeover
is triggered. -/
def State.spent (s : State) : State :=
  ((({ s with sfc := { s.sfc with acc := s.sfc.acc + s.num SettingIx.inletHardness - s.chargeOf * s.k } } : State).onColumn
    s.sfc.serviceCol fun r =>
      { r with capacity := 0, condition := if s.showsSoft then min 100 (r.condition + 5) else r.condition })).changeoverTrigger

theorem State.accountPulse_spent {s : State} (h0 : 0 < (s.column s.sfc.serviceCol).capacity)
    (h : (s.column s.sfc.serviceCol).capacity ≤ s.chargeOf) : s.accountPulse = s.spent := by
  have hz : (s.column s.sfc.serviceCol).capacity - s.chargeOf = 0 := by omega
  unfold State.accountPulse
  refine (if_pos ⟨h0, hz⟩).trans (congrArg State.changeoverTrigger ?_)
  have hd : decrement (s.column s.sfc.serviceCol).capacity
      (accumulatorStep s.sfc.acc (s.num SettingIx.inletHardness) s.k).1 = 0 := hz
  rw [hd]
  have hsoft : ((s.onSfc fun x =>
        { x with acc := (accumulatorStep s.sfc.acc (s.num SettingIx.inletHardness) s.k).2 }).onColumn s.sfc.serviceCol
      fun r => { r with capacity := 0 }).showsSoft = s.showsSoft := by
    cases s.sfc.serviceCol <;> rfl
  rw [hsoft]
  cases hc : s.sfc.serviceCol <;> simp only [State.onColumn, State.onSfc] <;> rfl

/-- The exhausting pulse of a draw, of a run-on window and of neither (R4, R5, R65). -/
theorem State.pulse_spends {s : State} (h0 : 0 < (s.column s.sfc.serviceCol).capacity)
    (h : (s.column s.sfc.serviceCol).capacity ≤ s.chargeOf) :
    (s.whu.phase = .opened → s.whu.owner = some .tankFill → s.pulse = s.drawCounted.spent) ∧
    (s.whu.phase = .opened → s.whu.owner = some .rinse → s.pulse = s.drawCounted.spent.rinsePulse.accruePulse) ∧
    (∀ w, s.whu.phase ≠ .opened → s.whu.runOn = some w →
      (w.user = .tankFill → s.pulse = (s.runOnCounted w).spent) ∧
      (w.user = .rinse → s.pulse = (s.runOnCounted w).spent.rinsePulse.accruePulse)) ∧
    (s.whu.phase ≠ .opened → s.whu.runOn = none → s.pulse = s.spent) := by
  refine ⟨fun hp ho => ?_, fun hp ho => ?_, fun w hp hr => ⟨fun hu => ?_, fun hu => ?_⟩, fun hp hr => ?_⟩
  · have hc := State.pulseCredit_draw hp ho
    rw [State.pulse_plain (by simp [State.creditsRinse, hc]), State.countPulse_draw hc]
    exact State.accountPulse_spent (s := s.drawCounted) h0 h
  · have hc := State.pulseCredit_draw hp ho
    rw [State.pulse_rinse (by simp [State.creditsRinse, hc]), State.countPulse_draw hc,
      State.accountPulse_spent (s := s.drawCounted) h0 h]
  · have hc := State.pulseCredit_runOn hp hr
    rw [State.pulse_plain (by simp [State.creditsRinse, hc, hu]), State.countPulse_runOn hc hr]
    exact State.accountPulse_spent (s := s.runOnCounted w) h0 h
  · have hc := State.pulseCredit_runOn hp hr
    rw [State.pulse_rinse (by simp [State.creditsRinse, hc, hu]), State.countPulse_runOn hc hr,
      State.accountPulse_spent (s := s.runOnCounted w) h0 h]
  · have hc := State.pulseCredit_stray hp hr
    rw [State.pulse_plain (by simp [State.creditsRinse, hc]), State.countPulse_stray hc]
    exact State.accountPulse_spent h0 h

theorem soft_bits (o : Octet) : isSoft o = true ↔ o.toNat % 4 = 0 := by
  have h1 : o.getLsbD 1 = decide (o.toNat / 2 % 2 = 1) := by
    rw [BitVec.getLsbD, Nat.testBit_eq_decide_div_mod_eq, Nat.pow_one]
  have h0 : o.getLsbD 0 = decide (o.toNat % 2 = 1) := by
    rw [BitVec.getLsbD, Nat.testBit_eq_decide_div_mod_eq, Nat.pow_zero, Nat.div_one]
  rw [isSoft, h1, h0]
  simp only [Bool.and_eq_true, Bool.not_eq_true', decide_eq_false_iff_not]
  omega

theorem State.endPhase_slow {s : State} {c : Column} (h : (s.column c).state = .regenSlow) :
    s.endPhase c = s.nextPhase c .regenFast (s.num SettingIx.fastRinseS) := by
  rw [State.endPhase, h]

theorem State.endPhase_fast {s : State} {c : Column} (h : (s.column c).state = .regenFast) :
    s.endPhase c = s.endRegen c := by
  rw [State.endPhase, h]

@[simp] theorem State.advance_brineSeen (s : State) (n : Nat) : (s.advance n).sfc.brineSeen = s.sfc.brineSeen := by
  unfold State.advance
  split
  · rfl
  · rfl
  all_goals
    simp [State.passWhu, State.passCsq, State.passLba, State.passSfc, State.passDsc, State.passDvc, State.passMbi,
      State.passSto, State.passPlk]

theorem State.saveCounters_column (s : State) (c : Column) : s.saveCounters.column c = s.column c := by
  cases c <;> simp [State.column]

/-- The end of a regeneration credits its column (R79, R91). -/
theorem State.endRegen_eq (s : State) (c : Column) :
    s.endRegen c =
      ((((s.onColumn c fun r =>
        { r with
          state := .ready, phaseLeft := 0, regens := min 65535 (r.regens + 1),
          capacity := s.num SettingIx.columnCapacity * r.condition *
            (if r.brineWeak then s.num SettingIx.saltLowCredit else 100) / 100 }).saveCounters).place
              (.softener .regenEnd c .ready)).retestDue).startRegen := by
  rw [State.endRegen, State.noteSoftener, State.saveCounters_column, State.onColumn_column, if_pos rfl]
  rfl

theorem State.showsSoft_iff (s : State) :
    s.showsSoft = true ↔ ∃ o, s.indication .softener = some o ∧ o.toNat % 4 = 0 := by
  unfold State.showsSoft
  cases s.indication .softener with
  | none => simp
  | some o => simpa using soft_bits o

theorem State.showsSoft_unlinked {s : State} (h : s.linked .softener = false) : s.showsSoft = false := by
  have hi : s.indication .softener = none := by
    unfold State.linked at h
    unfold State.indication
    cases hm : s.moduleOf .softener with
    | none => rfl
    | some a =>
      rw [hm] at h
      exact if_neg (by simpa using h)
  rw [State.showsSoft, hi]

theorem State.followSalt_repeated {s : State} {c : Column} {p o : Octet} (hc : s.regenColumn = some c)
    (hp : isSaltLow p = true) (ho : isSaltLow o = true) :
    s.followSalt (some p) o =
      if (s.column c).state = .regenBrine then s.onColumn c fun r => { r with brineWeak := true } else s := by
  simp only [State.followSalt, ho, if_true, hc, Option.map_some, hp, Option.getD_some]

theorem State.showsSoft_eq (s : State) :
    s.showsSoft = (s.indication .softener).elim false fun o => decide (o.toNat % 4 = 0) := by
  unfold State.showsSoft
  cases s.indication .softener with
  | none => rfl
  | some o => exact Bool.eq_iff_iff.mpr ((soft_bits o).trans (by simp))

theorem isHard_iff (o : Octet) : isHard o = true ↔ 2 ≤ o.toNat % 4 := (hardness_bits o).1

theorem isHard_false_iff (o : Octet) : isHard o = false ↔ o.toNat % 4 < 2 := by
  rw [Bool.eq_false_iff, ne_eq, isHard_iff, Nat.not_le]

/-- A trigger whose changeover nothing blocks (R69). -/
theorem State.changeoverTrigger_free {s : State} (hc : s.sfc.changeover = .none)
    (hr : (s.column s.sfc.serviceCol.other).state = .ready) (hl : s.linked .softener = true)
    (hf : s.hasFault .valveStuck 0 = false) :
    s.changeoverTrigger =
      ({ s with sfc := { s.sfc with target := s.sfc.serviceCol.other, changeover := .pending } } : State).startChangeover := by
  rw [State.changeoverTrigger, hc]
  refine if_pos ?_
  rw [State.changeoverFree]
  simp only [Bool.and_eq_true, decide_eq_true_eq, Bool.not_eq_true']
  exact ⟨⟨hr, hl⟩, hf⟩

/-- A trigger whose changeover is blocked is DUE (R69, R70). -/
theorem State.changeoverTrigger_blocked {s : State} (hc : s.sfc.changeover = .none)
    (h : (s.column s.sfc.serviceCol.other).state ≠ .ready ∨ s.linked .softener = false ∨ s.hasFault .valveStuck 0 = true) :
    s.changeoverTrigger =
      ({ s with sfc := { s.sfc with target := s.sfc.serviceCol.other, changeover := .due } } : State).warn
        .softenerExhausted 0 := by
  rw [State.changeoverTrigger, hc]
  refine if_neg ?_
  rw [State.changeoverFree]
  simp only [Bool.and_eq_true, decide_eq_true_eq, Bool.not_eq_true']
  rintro ⟨⟨hr, hl⟩, hf⟩
  obtain h | h | h := h
  · exact h hr
  · exact Bool.false_ne_true (h.symm.trans hl)
  · exact Bool.false_ne_true (hf.symm.trans h)

/-- Settles O48. -/
theorem regenerationRunsItsPhases : Obligations.RegenerationRunsItsPhases := by
  unfold Obligations.RegenerationRunsItsPhases
  refine ⟨fun s hs he hl hn => ?_, fun s hs h => ?_, fun s c hs hp hc hb hseen => ?_, fun s c hs hp hc hb => ?_,
    fun s c hs hp hc hb => ?_, fun s h => ?_, fun s hs hp hr hc hl h0 h => ?_, fun s c hs hp hc hb hseen => ?_,
    fun s hs hp hr h0 h => ⟨fun o ho h4 => ?_, fun ho => ?_⟩,
    fun s hs h0 h => ⟨fun hp ho => ?_, fun hp ho => ?_, fun w hp hr => ⟨fun hu => ?_, fun hu => ?_⟩⟩,
    State.regenPaused_iff, fun s n c hs => ?_,
    fun s c o hc => ⟨fun hb hst hp => ?_, fun h => ?_⟩, fun s c p o hc hp ho => ⟨fun hst => ?_, fun hst => ?_⟩,
    fun s p o => ⟨fun ho hp hcap => ?_, fun h => ?_, rfl⟩,
    fun s => ⟨fun hc => ⟨fun hr hl hf => ?_, fun h => ?_⟩, fun hc => ?_, fun h => ?_⟩⟩
  · refine congrArg Host.Outcome.next ((State.event_on hs _).trans (congrArg State.finish ?_))
    exact (if_pos (by simp [State.regenReady, he, hl, hn])).trans (State.beginRegen_eq s _)
  · refine congrArg Host.Outcome.next ((State.event_on hs _).trans (congrArg State.finish (if_neg ?_)))
    simp only [State.regenReady, Bool.and_eq_true, decide_eq_true_eq, Option.isNone_iff_eq_none]
    rintro ⟨⟨he, hl⟩, hn⟩
    simp [he, hl, hn] at h
  · obtain ⟨hst, -⟩ := State.advance_column_frame hs (s.column c).phaseLeft c
    rw [exec_regenPhaseEnd hs hp hc, State.endPhase_brine (hst.trans hb), State.noBrine,
      if_pos ((State.advance_brineSeen s _).trans hseen), State.nextPhase, State.noteSoftener_onColumn,
      State.num_congr (State.advance_frame s _).1]
  · obtain ⟨hst, -⟩ := State.advance_column_frame hs (s.column c).phaseLeft c
    rw [exec_regenPhaseEnd hs hp hc, State.endPhase_slow (hst.trans hb), State.nextPhase, State.noteSoftener_onColumn,
      State.num_congr (State.advance_frame s _).1]
  · obtain ⟨hst, -⟩ := State.advance_column_frame hs (s.column c).phaseLeft c
    rw [exec_regenPhaseEnd hs hp hc, State.endPhase_fast (hst.trans hb), State.endRegen_eq,
      State.num_congr (State.advance_frame s _).1, State.num_congr (State.advance_frame s _).1]
  · refine congrArg Host.Outcome.next ?_
    rw [show s.regenLeft = none by obtain h | h := h <;> simp [State.regenLeft, h]]
    rfl
  · refine exec_flowPulse hs (((State.pulse_spends h0 h).2.2.2 hp hr).trans ?_)
    have hsoft : s.showsSoft = false := State.showsSoft_unlinked hl
    rw [State.spent, hsoft]
    exact State.changeoverTrigger_blocked (by cases s.sfc.serviceCol <;> exact hc) (.inr (.inl (by
      cases s.sfc.serviceCol <;> exact hl)))
  · obtain ⟨hst, -⟩ := State.advance_column_frame hs (s.column c).phaseLeft c
    rw [exec_regenPhaseEnd hs hp hc, State.endPhase_brine (hst.trans hb), State.noBrine,
      if_neg (by simp [State.advance_brineSeen, hseen]), State.nextPhase, State.noteSoftener_onColumn,
      State.num_congr (State.advance_frame s _).1]
    cases c <;> rfl
  · refine exec_flowPulse hs (((State.pulse_spends h0 h).2.2.2 hp hr).trans ?_)
    rw [State.spent, (State.showsSoft_iff s).mpr ⟨o, ho, h4⟩]
    rfl
  · refine exec_flowPulse hs (((State.pulse_spends h0 h).2.2.2 hp hr).trans ?_)
    have hsoft : s.showsSoft = false := Bool.eq_false_iff.mpr fun hx => by
      obtain ⟨o, hi, h4⟩ := (State.showsSoft_iff s).mp hx
      exact ho o hi h4
    rw [State.spent, hsoft]
    rfl
  · refine exec_flowPulse hs (((State.pulse_spends h0 h).1 hp ho).trans ?_)
    rw [State.spent, show s.drawCounted.showsSoft = s.showsSoft from rfl, State.showsSoft_eq]
    cases s.indication .softener with
    | none => rfl
    | some o => by_cases h4 : o.toNat % 4 = 0 <;> simp only [Option.elim, h4, decide_true, decide_false, if_true] <;> rfl
  · refine exec_flowPulse hs (((State.pulse_spends h0 h).2.1 hp ho).trans ?_)
    rw [State.spent, show s.drawCounted.showsSoft = s.showsSoft from rfl, State.showsSoft_eq]
    cases s.indication .softener with
    | none => rfl
    | some o => by_cases h4 : o.toNat % 4 = 0 <;> simp only [Option.elim, h4, decide_true, decide_false, if_true] <;> rfl
  · refine exec_flowPulse hs ((((State.pulse_spends h0 h).2.2.1 w hp hr).1 hu).trans ?_)
    rw [State.spent, show (s.runOnCounted w).showsSoft = s.showsSoft from rfl, State.showsSoft_eq]
    cases s.indication .softener with
    | none => rfl
    | some o => by_cases h4 : o.toNat % 4 = 0 <;> simp only [Option.elim, h4, decide_true, decide_false, if_true] <;> rfl
  · refine exec_flowPulse hs ((((State.pulse_spends h0 h).2.2.1 w hp hr).2 hu).trans ?_)
    rw [State.spent, show (s.runOnCounted w).showsSoft = s.showsSoft from rfl, State.showsSoft_eq]
    cases s.indication .softener with
    | none => rfl
    | some o => by_cases h4 : o.toNat % 4 = 0 <;> simp only [Option.elim, h4, decide_true, decide_false, if_true] <;> rfl
  · rw [State.advance_column hs]
    cases (s.column c).state.regen <;> cases s.regenPaused <;> rfl
  · simp only [State.followBrine, hc, hb, hst, hp, and_self, if_true]
    rfl
  · simp only [State.followBrine, hc]
    refine if_neg ?_
    rintro ⟨hb, hst, hp⟩
    simp [hb, hst, hp] at h
  · rw [State.followSalt_repeated hc hp ho, if_pos hst]
  · rw [State.followSalt_repeated hc hp ho, if_neg hst]
  · exact if_pos ⟨(isHard_iff o).mpr ho, (isHard_false_iff p).mpr hp, hcap⟩
  · refine if_neg ?_
    rw [isHard_iff, isHard_false_iff]
    omega
  · exact State.changeoverTrigger_free hc hr hl hf
  · exact State.changeoverTrigger_blocked hc h
  · rw [State.changeoverTrigger, hc]; rfl
  · obtain h | h | h | h | h := h <;> rw [State.changeoverTrigger, h]
/-! ### The life of an order (O49) -/

/-- What hinders a head order from starting (R107). -/
theorem State.orderReady_iff {s : State} {c : Channel} {o : Order} {rest : List Order}
    (h : (s.channel c).orders = o :: rest) :
    s.orderReady c = true ↔ o.state = .queued ∧ o.started = false ∧ s.linked (channelKind c) = true ∧ s.locked = false ∧
      (s.channel c).unfit = false ∧ (s.channel c).stop = false := by
  simp only [State.orderReady, h, Bool.and_eq_true, decide_eq_true_eq, Bool.not_eq_true', and_assoc]

theorem State.not_locked_of_orderReady {s : State} {c : Channel} (h : s.orderReady c = true) : s.locked = false := by
  cases ho : (s.channel c).orders with
  | nil => simp [State.orderReady, ho] at h
  | cons o rest =>
    obtain ⟨-, -, -, hl, -⟩ := (State.orderReady_iff ho).mp h
    exact hl

/-- A head that may start claims its load and asks for the queue (R107, R108). -/
theorem State.startOrder_claims {s : State} {c : Channel} (hr : s.orderReady c = true)
    (hi : (s.claimOf (channelLoad c)).state = .idle) (hu : s.loadUnfit (channelLoad c) = false) :
    s.startOrder c =
      (((s.onClaim (channelLoad c) fun x =>
        { x with state := .waiting, claimTime := s.now, waitMs := 0, promoted := false }).walk).markHead c true).askOrder c := by
  have hb : ¬ (channelLoad c = .boosterB ∧ s.watts .boosterB = 0) := by cases c <;> simp [channelLoad]
  rw [State.startOrder, if_pos hr, State.claim_taken hi (State.not_locked_of_orderReady hr) hb hu]

theorem State.startOrder_waits {s : State} {c : Channel} (h : s.orderReady c = false) : s.startOrder c = s :=
  if_neg (by simp [h])

theorem State.linked_of_moduleOf {s : State} {k : Kind} {a : Addr} (h : s.moduleOf k = some a) :
    s.linked k = s.linkedAt a := by
  rw [State.linked, h]

/-- A started head is sent when the queue has room (R107, R108). -/
theorem State.askOrder_queues {s : State} {c : Channel} {a : Addr} {o : Order} {rest : List Order}
    (ho : (s.channel c).orders = o :: rest) (hst : o.started = true) (hq : o.state = .queued)
    (hm : s.moduleOf (channelKind c) = some a) (hl : s.linkedAt a = true) (hlen : s.mbi.queue.length < 8) :
    s.askOrder c =
      ((s.withMsg { dest := a, body := State.orderBody o, source := .dsc c, sending := false }).choose).onChannel c fun r =>
        { r with
          orders := { o with state := .sent } :: rest
          watchdogLeft := some (watchdogMs o (s.caps (channelKind c)).maxSteps) } := by
  have hcaps : ((s.withMsg { dest := a, body := State.orderBody o, source := .dsc c, sending := false }).choose).caps
      (channelKind c) = s.caps (channelKind c) := State.caps_congr (by simp [State.withMsg]) (by simp [State.withMsg]) _
  simp only [State.askOrder, ho, hm]
  rw [if_pos ⟨hst, hq, (State.linked_of_moduleOf hm).trans hl⟩, State.enqueue_withMsg hlen]
  simp only [hcaps]

theorem State.askOrder_waits {s : State} {c : Channel} {a : Addr} {o : Order} {rest : List Order}
    (ho : (s.channel c).orders = o :: rest) (hm : s.moduleOf (channelKind c) = some a)
    (h : ¬ (s.linkedAt a = true ∧ s.mbi.queue.length < 8)) : s.askOrder c = s := by
  simp only [State.askOrder, ho, hm, State.linked_of_moduleOf hm]
  split
  next hc =>
    have hfull : ¬ s.mbi.queue.length < Config.queueLimit := fun hlen => h ⟨hc.2.2, hlen⟩
    rw [State.enqueue_refused hfull]
  next => rfl

/-- What a DONE counts as delivered of an order (R109). -/
def orderTaken (o : Order) (delivered : Nat) : Nat :=
  match o.amount with
  | .steps m => min m delivered
  | .seconds _ => delivered

/-- A DONE with the tag of the SENT order ends it (R109, R110). -/
theorem State.takeDone_sent {s : State} {c : Channel} {o : Order} (h : s.sentOrder c = some o) (delivered : Nat)
    (reason : Octet) :
    s.takeDone c o.tag delivered reason =
      (State.lowEvent s ((((s.onChannel c fun r =>
        { r with stock := r.stock - orderTaken o delivered * o.ulPerStep }).countDrop
        (orderSteps o - orderTaken o delivered)).doneReason c reason).removeHead c) c).afterRemoval c := by
  rw [State.takeDone, h]
  exact if_neg fun hne => hne rfl

theorem State.takeDone_other {s : State} {c : Channel} {tag : Octet} (h : ∀ o, s.sentOrder c = some o → o.tag ≠ tag)
    (delivered : Nat) (reason : Octet) : s.takeDone c tag delivered reason = s := by
  unfold State.takeDone
  cases ho : s.sentOrder c with
  | none => rfl
  | some o => exact if_pos (h o ho)

/-- The kind of an address is one. -/
theorem State.kindAt_of_moduleOf {s : State} {k : Kind} {a : Addr} (h : s.moduleOf k = some a) : s.kindAt a = k := by
  simpa using List.find?_some h

theorem State.doneMessage_channel {s : State} {c : Channel} {a : Addr} (h : s.moduleOf (channelKind c) = some a)
    (tag : Octet) (delivered : Nat) (reason : Octet) :
    s.doneMessage a tag delivered reason = s.takeDone c tag delivered reason := by
  cases c with
  | det => exact if_pos h
  | ra =>
    have hn : s.moduleOf .doseDet ≠ some a := fun hd => by
      have hk := (State.kindAt_of_moduleOf hd).symm.trans (State.kindAt_of_moduleOf h)
      exact absurd hk (by decide)
    exact (if_neg hn).trans (if_pos h)

/-- Settles O49. -/
theorem ordersStartAreWatchedAndEnd : Obligations.OrdersStartAreWatchedAndEnd := by
  unfold Obligations.OrdersStartAreWatchedAndEnd
  refine ⟨fun c s hs hr hi hu => ?_, fun c o rest s h => State.orderReady_iff h, fun c s hs hr => ?_,
    fun c a o rest n s ho hn hst hq hm hl hlen hp => ?_, fun c left s hs hw => ?_, fun c s hw => ?_,
    fun a tag d o n s hs hm hsent ht hn => ?_, fun a tag d reason s hs hm h => ?_, fun a tag d reason s hs hd hr => ?_,
    fun c a tag d reason o s hs hm hsent ht => ?_, fun c s => rfl,
    fun s => ⟨fun hf ho => if_pos ⟨hf, ho⟩, fun h => if_neg ?_⟩, fun c a o rest s ho hst hq hm => ?_⟩
  · exact congrArg Host.Outcome.next
      ((State.event_on hs _).trans (congrArg State.finish (State.startOrder_claims hr hi hu)))
  · exact congrArg Host.Outcome.next ((State.event_on hs _).trans (congrArg State.finish (State.startOrder_waits hr)))
  · rw [State.askOrder_queues ho hst hq hm hl hlen]
    have hc := State.choose_stays (s := s.withMsg { dest := a, body := State.orderBody o, source := .dsc c, sending := false })
      (.inl hp)
    rw [hc]
    simp only [State.orderBody, State.watchdogMs, hn]
    rfl
  · exact congrArg Host.Outcome.next (State.expire_running hs hw _)
  · exact congrArg Host.Outcome.next (by rw [hw]; rfl)
  · subst ht
    refine congrArg Host.Outcome.next ((State.event_on hs _).trans (congrArg State.finish ?_))
    rw [State.doneMessage_channel (c := .det) hm, State.takeDone_sent hsent]
    simp only [orderTaken, hn, orderSteps]
    rfl
  · refine congrArg Host.Outcome.next ((State.event_on hs _).trans (congrArg State.finish ?_))
    rw [State.doneMessage_channel (c := .det) hm, State.takeDone_other h]
  · refine congrArg Host.Outcome.next ((State.event_on hs _).trans (congrArg State.finish ?_))
    exact (if_neg hd).trans (if_neg hr)
  · subst ht
    refine congrArg Host.Outcome.next ((State.event_on hs _).trans ?_)
    rw [State.doneMessage_channel hm, State.takeDone_sent hsent]
    simp only [orderTaken, orderSteps]
    cases o.amount with
    | steps m => cases c <;> rfl
    | seconds m =>
      simp only [Nat.zero_sub]
      cases c <;> rfl
  · rintro ⟨hf, ho⟩
    simp [hf, ho] at h
  · split
    next h =>
      rw [State.askOrder_queues ho hst hq hm h.1 h.2]
      simp only [State.orderBody, State.watchdogMs]
      cases o.amount <;> rfl
    next h => exact State.askOrder_waits ho hm h
/-! ### The door's timers, the pusher and the vent (O50) -/

theorem State.release_idle {s : State} {l : Load} (h : (s.claimOf l).state = .idle) : s.release l = s := if_pos h

/-- A release reaches the door only by what the walk after it grants. -/
theorem State.release_keepsDoor (s : State) (l : Load) : (s.release l).KeepsDoor s := by
  unfold State.release
  split
  · exact .of_eq rfl
  · exact (State.walk_keepsDoor _).trans (.of_eq (by unfold State.endClaim; split <;> simp))

/-- Time leaves the door record, the steps of the vent and the marks. -/
theorem State.advance_door (s : State) (n : Nat) :
    (s.advance n).dvc.door = s.dvc.door ∧ (s.advance n).dvc.bits = s.dvc.bits ∧
      (s.advance n).dvc.vent.step = s.dvc.vent.step := by
  unfold State.advance
  split
  · exact ⟨rfl, rfl, rfl⟩
  · exact ⟨rfl, rfl, rfl⟩
  all_goals
    simp [State.passWhu, State.passCsq, State.passLba, State.passSfc, State.passDsc, State.passDvc, State.passMbi,
      State.passSto, State.passPlk]

/-- The release timer that expires raises DOOR_LATCH_FAIL 1; the vent in UNLATCH is cut (R126, R130). -/
theorem State.expireRelease_eq (s : State) :
    s.expireRelease =
      if s.dvc.vent.step = .unlatch then
        (({ s with dvc := { s.dvc with releaseLeft := none } } : State).warn .doorLatchFail 1).cutVent
      else ({ s with dvc := { s.dvc with releaseLeft := none } } : State).warn .doorLatchFail 1 := by
  have hstep : ((s.onDvc fun d => { d with releaseLeft := none }).warn .doorLatchFail 1).dvc.vent.step =
      s.dvc.vent.step := by simp
  rw [State.expireRelease, hstep]
  rfl

/-- The end of a vent outside VENT, its fan not claimed (R133). -/
theorem State.reportVent_other {s : State} (hi : (s.claimOf .ventFan).state = .idle) (hp : s.csq.phase ≠ .vent) :
    s.reportVent =
      { s with
        dvc := { s.dvc with
          fan := false, vent := { s.dvc.vent with step := .none, timerLeft := none, coolingLeft := none } } } := by
  unfold State.reportVent
  rw [State.release_idle (s := s.onDvc fun d => { d with fan := false }) hi]
  exact if_neg hp

/-- The end of a vent in VENT ends the cycle (R38, R133). -/
theorem State.reportVent_vent {s : State} (hp : s.csq.phase = .vent) :
    s.reportVent =
      (((({ s with dvc := { s.dvc with fan := false } } : State).release .ventFan).onVent fun v =>
        { v with step := .none, timerLeft := none, coolingLeft := none }).onRecord fun r =>
          { r with
            ventCut := r.ventCut || s.dvc.vent.ventCut
            doorBlocked := r.doorBlocked || s.dvc.vent.doorBlocked }).endCycle .complete := by
  have hc : (((({ s with dvc := { s.dvc with fan := false } } : State).release .ventFan).onVent fun v =>
      { v with step := .none, timerLeft := none, coolingLeft := none })).csq.phase = .vent := by simp [hp]
  exact if_pos hc

/-- What hinders an owed retract (R129). -/
theorem State.retractReady_iff (s : State) :
    s.retractReady = true ↔ s.dvc.task = .none ∧ s.dvc.owed = true ∧ s.dvc.latch = false ∧ s.linked .door = true ∧
      s.hasFault .doorObstructed 0 = false ∧ s.locked = false := by
  simp only [State.retractReady, State.retractFree, Bool.and_eq_true, decide_eq_true_eq, Bool.not_eq_true', and_assoc]

/-- A retract that may start claims the drive (R129). -/
theorem State.startRetract_claims {s : State} (hr : s.retractReady = true) (hi : (s.claimOf .doorDrive).state = .idle)
    (hu : s.loadUnfit .doorDrive = false) :
    s.startRetract =
      ((s.onClaim .doorDrive fun c =>
        { c with state := .waiting, claimTime := s.now, waitMs := 0, promoted := false }).walk).onDvc fun d =>
          { d with
            task := .retract ((((s.onClaim .doorDrive fun c =>
              { c with state := .waiting, claimTime := s.now, waitMs := 0, promoted := false }).walk).caps .door).travelDs *
                100 + 2000)
            retract := true } := by
  obtain ⟨-, -, -, -, -, hl⟩ := s.retractReady_iff.mp hr
  rw [State.startRetract, if_pos hr, State.claim_taken hi hl (by simp) hu]
  rfl

/-- A retract whose drive is unfit waits for the next test (R129). -/
theorem State.startRetract_unfit {s : State} (hr : s.retractReady = true) (hi : (s.claimOf .doorDrive).state = .idle)
    (hu : s.loadUnfit .doorDrive = true) :
    s.startRetract = ((s.tellUnfit .doorDrive).holdRetract).noteDoor none := by
  obtain ⟨-, -, -, -, -, hl⟩ := s.retractReady_iff.mp hr
  rw [State.startRetract, if_pos hr, State.claim_unfit hi hl (by simp) hu]

/-- A retract that may start keeps the claim that a PUSH left (R127, R129). -/
theorem State.startRetract_held {s : State} (hr : s.retractReady = true) (hi : (s.claimOf .doorDrive).state ≠ .idle) :
    s.startRetract =
      { s with dvc := { s.dvc with task := .retract ((s.caps .door).travelDs * 100 + 2000), retract := true } } := by
  rw [State.startRetract, if_pos hr, State.claim_held hi]
  rfl

/-- The retract's time limit outside the vent's RETRACT (R129). -/
theorem State.retractLimit_alone {s : State} (h : s.dvc.vent.step ≠ .retract) : s.retractLimit = s.limitRetract := by
  have hd (t : State) : t.doorBlocked.dvc.vent.step = t.dvc.vent.step := by
    unfold State.doorBlocked
    split <;> simp [State.onVent]
  have hstep : s.limitRetract.dvc.vent.step ≠ .retract := by
    have hr := ((s.onDvc fun d => { d with task := .none, retract := false, owed := false }).release_keepsDoor
      .doorDrive).step
    have hl : s.limitRetract.dvc.vent.step =
        ((s.onDvc fun d => { d with task := .none, retract := false, owed := false }).release .doorDrive).dvc.vent.step := by
      simp [State.limitRetract, State.noteDoor, hd]
    rw [hl]
    obtain hr | hr := hr
    · rw [hr]; exact h
    · rw [hr]; simp
  exact if_neg hstep

/-- The door's part of a MOVED that does not leave the pusher to retract (R127). -/
theorem State.movedMessage_door {s : State} {a : Addr} (h : s.moduleOf .door = some a) (reached : Nat) (reason : Octet) :
    s.movedMessage a reached reason = s.moved reached reason := if_pos h

theorem State.movedTaken_of {s : State} {o : PushOrigin} {target : Nat}
    (h : s.dvc.task = .push o target .queued ∨ s.dvc.task = .push o target .delivered) : s.movedTaken = true := by
  obtain h | h := h <;> simp only [State.movedTaken, h]

theorem State.moved_taken {s : State} (h : s.movedTaken = true) (reached : Nat) (reason : Octet) :
    s.moved reached reason =
      if s.dvc.vent.step = .push then
        (if min 100 reached < 5 then (s.takeMoved reached reason).onVent fun v => { v with fanOnly := true }
        else s.takeMoved reached reason).ventRetract
      else s.takeMoved reached reason := if_pos h

/-- A MOVED of no obstacle, LATCH set (R127). -/
theorem State.takeMoved_plain {s : State} {reason : Octet} (hl : s.dvc.latch = true) (hne : reason ≠ 1#8)
    (hle : reason.toNat ≤ 3) (reached : Nat) :
    s.takeMoved reached reason =
      (({ s with dvc := { s.dvc with lastReached := min 100 reached, owed := true, task := .none } } : State).release
        .doorDrive).noteDoor (some (reason, min 100 reached)) := by
  have hq : State.movedReason reason = reason := if_neg (by omega)
  have hr : ({ s with dvc := { s.dvc with lastReached := min 100 reached, owed := true, task := .none } } : State).retractReady =
      false := Bool.eq_false_iff.mpr fun h => by
    obtain ⟨-, -, hc, -⟩ := (State.retractReady_iff _).mp h
    exact Bool.false_ne_true (hc.symm.trans hl)
  unfold State.takeMoved
  simp only [hq]
  rw [if_neg hne]
  exact congrArg (State.noteDoor · _) (if_neg fun h => Bool.false_ne_true (hr.symm.trans h))

/-- An owed retract with no task takes over the claim that a PUSH left, or the claim is released (R127, R129). -/
theorem State.retract_or_release {s : State} (hi : (s.claimOf .doorDrive).state ≠ .idle) (ht : s.dvc.task = .none)
    (ho : s.dvc.owed = true) :
    (if s.retractReady then s.startRetract else s.release .doorDrive) =
      if s.dvc.latch = false ∧ s.linked .door = true ∧ s.hasFault .doorObstructed 0 = false ∧ s.locked = false then
        { s with dvc := { s.dvc with task := .retract ((s.caps .door).travelDs * 100 + 2000), retract := true } }
      else s.release .doorDrive := by
  by_cases hr : s.retractReady = true
  · obtain ⟨-, -, hl⟩ := s.retractReady_iff.mp hr
    rw [if_pos hr, if_pos hl, State.startRetract_held hr hi]
  · rw [if_neg hr, if_neg fun hl => hr (s.retractReady_iff.mpr ⟨ht, ho, hl⟩)]

/-- DOOR_BLOCKED is marked in a vent in progress, and raised (R128). -/
theorem State.doorBlocked_frame (s : State) :
    s.doorBlocked.lba = s.lba ∧ s.doorBlocked.dvc.task = s.dvc.task ∧ s.doorBlocked.dvc.owed = s.dvc.owed := by
  unfold State.doorBlocked
  split <;> simp [State.onVent]

/-- The pusher has stopped at a position, its task over and the retract owed (R127). -/
def State.reachedAt (s : State) (reached : Nat) : State :=
  { s with dvc := { s.dvc with lastReached := min 100 reached, owed := true, task := .none } }

/-- The pusher has stopped, at an obstacle or not (R127, R128). -/
def State.stoppedAt (s : State) (reached : Nat) (reason : Octet) : State :=
  if State.movedReason reason = 1#8 then (s.reachedAt reached).doorBlocked else s.reachedAt reached

/-- A MOVED of a PUSH whose claim still stands (R127 to R129). -/
theorem State.takeMoved_claimed {s : State} (hi : (s.claimOf .doorDrive).state ≠ .idle) (reached : Nat) (reason : Octet) :
    s.takeMoved reached reason =
      (if (s.stoppedAt reached reason).dvc.latch = false ∧ (s.stoppedAt reached reason).linked .door = true ∧
          (s.stoppedAt reached reason).hasFault .doorObstructed 0 = false ∧ (s.stoppedAt reached reason).locked = false then
        { s.stoppedAt reached reason with
          dvc := { (s.stoppedAt reached reason).dvc with
            task := .retract (((s.stoppedAt reached reason).caps .door).travelDs * 100 + 2000), retract := true } }
      else (s.stoppedAt reached reason).release .doorDrive).noteDoor
        (some (State.movedReason reason, min 100 reached)) := by
  have hu : (s.stoppedAt reached reason).lba = s.lba ∧ (s.stoppedAt reached reason).dvc.task = .none ∧
      (s.stoppedAt reached reason).dvc.owed = true := by
    unfold State.stoppedAt
    split
    · exact (s.reachedAt reached).doorBlocked_frame
    · exact ⟨rfl, rfl, rfl⟩
  obtain ⟨hlba, htask, howed⟩ := hu
  have hclaim : ((s.stoppedAt reached reason).claimOf .doorDrive).state ≠ .idle := by
    simpa only [State.claimOf, hlba] using hi
  exact congrArg (State.noteDoor · _) (State.retract_or_release hclaim htask howed)

/-- The result of a PUSH that the vent starts (R131). -/
def State.afterPush (r : State × Bool) : State := if r.2 then r.1.fanOnly else r.1

/-- PUSH (R131). -/
theorem State.ventPush_eq (s : State) :
    s.ventPush =
      (let t := s.onVent fun v => { v with step := .push }
      if t.hasFault .doorObstructed 0 then t.fanOnly
      else if t.dvc.door = .opened then t.ventRetract
      else State.afterPush (t.startPush .vent (min t.dvc.vent.pct (t.caps .door).maxPct))) := by
  unfold State.ventPush
  dsimp only
  refine if_congr Iff.rfl rfl (if_congr Iff.rfl rfl ?_)
  split <;> next h => rw [h]; rfl

/-- The vent is begun: LATCH is cleared, the recipe's figures are taken, and UNLATCH waits (R38, R126, R130). -/
def State.ventBegun (s : State) : State :=
  { ({ s with csq := { s.csq with phase := .vent } } : State).notePhase with
    dvc := { s.dvc with
      latch := false
      releaseLeft := if s.latchEngaged = some false then none else some 2000
      vent :=
        { step := .unlatch, pct := s.recipe.ventPct, secs := s.recipe.ventS, ventCut := false, doorBlocked := false,
          fanOnly := false, closedByUser := false, timerLeft := none, coolingLeft := none } } }

/-- VENT entry (R130). -/
theorem State.enterVent_eq (s : State) :
    s.enterVent =
      if s.linked .door = false then s.ventBegun.cutVent
      else if s.latchEngaged = some false then s.ventBegun.ventPush
      else s.ventBegun := by
  have hd : (s.enterState .vent).dvc = s.dvc := by simp [State.enterState, State.notePhase]
  have ht : (((s.enterState .vent).onVent fun v =>
      { v with
        step := .unlatch, pct := s.recipe.ventPct, secs := s.recipe.ventS, ventCut := false, doorBlocked := false
        fanOnly := false, closedByUser := false, timerLeft := none, coolingLeft := none })).clearLatch = s.ventBegun := by
    simp only [State.clearLatch, State.latchEngaged, State.onVent, State.onDvc, hd]
    rfl
  have hl : s.ventBegun.linked .door = s.linked .door := State.linked_congr (by simp [State.ventBegun, State.notePhase])
    (by simp [State.ventBegun, State.notePhase]) _
  have hb : s.ventBegun.dvc.releaseLeft.isNone = decide (s.latchEngaged = some false) := by
    unfold State.ventBegun
    dsimp only
    split <;> simp_all
  unfold State.enterVent
  dsimp only
  rw [ht, hl, hb]
  simp only [decide_eq_true_eq]

/-- The vent waits for its unlatched door, goes on with its retract, and is cut by a user's CLOSED (R130, R132, R134). -/
theorem State.ventDoor_step {s : State} (confirmed retracted : Bool) :
    s.ventDoor s.dvc.vent.step confirmed retracted =
      (let shut := decide (s.dvc.door = .closed) && !s.dvc.vent.fanOnly
      match s.dvc.vent.step with
      | .none => s
      | .unlatch => if confirmed then s.ventPush else s
      | .push => if shut then s.onVent fun v => { v with closedByUser := true } else s
      | .retract =>
        let t := if shut then s.onVent fun v => { v with closedByUser := true } else s
        if retracted then t.afterRetract else t
      | .fanWait => if shut then s.cutVent else s
      | .fan => if shut then s.cutVent else s) := by
  unfold State.ventDoor
  refine (if_neg fun h => h rfl).trans ?_
  cases s.dvc.vent.step <;> rfl

/-- The home bit ends a RETRACT (R129). -/
theorem State.homeRetract_eq (s : State) (home : Bool) :
    s.homeRetract home =
      if (s.retracting && home) = true then
        ({ s with dvc := { s.dvc with task := .none, retract := false } } : State).release .doorDrive
      else s := by
  unfold State.homeRetract
  refine if_congr ?_ rfl rfl
  rw [Bool.and_eq_true, and_comm]

/-- The record of an octet leaves the pusher's task. -/
theorem State.recordDoor_retracting (s : State) (cause : StandbyCause) (previous : Option Octet) (o : Octet) :
    ((s.wake cause).recordDoor previous o).retracting = s.retracting := by
  have hd : ((s.wake cause).recordDoor previous o).dvc.task = s.dvc.task := by simp [State.recordDoor]
  simp only [State.retracting, hd]

theorem State.homeRetract_door (s : State) (home : Bool) : (s.homeRetract home).dvc.door = s.dvc.door := by
  rw [State.homeRetract_eq]
  split
  · exact (State.release_keepsDoor _ _).door
  · rfl

/-- LATCH, set in RINSE or DWELL, is shown clear with the door not OPEN (R126). -/
theorem State.latchFails_iff (s : State) :
    s.latchFails = true ↔ s.dvc.latch = true ∧ (s.csq.phase = .rinse ∨ s.csq.phase = .dwell) ∧
      s.latchEngaged = some false ∧ s.dvc.door ≠ .opened := by
  simp only [State.latchFails, Bool.and_eq_true, Bool.or_eq_true, decide_eq_true_eq, and_assoc]

/-- An accepted door octet (R123, R124, R126, R129, R134, R138). -/
theorem State.doorAccepted_eq (s : State) (previous : Option Octet) (o : Octet) :
    s.doorAccepted previous o =
      (let home := (doorBitsOf o).home
      let ended := s.retracting && home
      let a := (s.wake .door).recordDoor previous o
      let b := (if ended = true then
          ({ a with dvc := { a.dvc with task := .none, retract := false } } : State).release .doorDrive else a)
      let c := ((if home = true ∧ doorStateOf o ≠ .blocked then b.endCondition .doorBlocked 0 else b).recallDoor home)
      let d := (if ended = true ∨ s.dvc.door ≠ doorStateOf o ∨ s.dvc.bits ≠ some (doorBitsOf o) then c.noteDoor none else c)
      let e := (if d.dvc.latch = true ∧ (d.csq.phase = CycleState.rinse ∨ d.csq.phase = CycleState.dwell) ∧
          d.latchEngaged = some false ∧ d.dvc.door ≠ DoorState.opened then d.raise .doorLatchFail 0 .stop else d)
      ((e.ventDoor s.dvc.vent.step (s.dvc.releaseLeft.isSome && !(doorBitsOf o).latch) ended).cycleDoor).latchDoor) := by
  have hb : (((s.wake .door).recordDoor previous o).homeRetract (doorBitsOf o).home) =
      if (s.retracting && (doorBitsOf o).home) = true then
        ({ (s.wake .door).recordDoor previous o with
          dvc := { ((s.wake .door).recordDoor previous o).dvc with task := .none, retract := false } } : State).release
            .doorDrive
      else (s.wake .door).recordDoor previous o := by
    rw [State.homeRetract_eq, State.recordDoor_retracting]
  have hdoor : (((s.wake .door).recordDoor previous o).homeRetract (doorBitsOf o).home).dvc.door = doorStateOf o :=
    State.homeRetract_door _ _
  have hchanged : ((decide (s.dvc.door ≠ doorStateOf o) || decide (s.dvc.bits ≠ some (doorBitsOf o))) ||
      (s.retracting && (doorBitsOf o).home)) = true ↔
      (s.retracting && (doorBitsOf o).home) = true ∨ s.dvc.door ≠ doorStateOf o ∨ s.dvc.bits ≠ some (doorBitsOf o) := by
    simp only [Bool.or_eq_true, decide_eq_true_eq, or_comm]
  unfold State.doorAccepted State.endBlocked
  dsimp only
  rw [hdoor, hb]
  simp only [hchanged, State.latchFails_iff]

/-- Settles O50. -/
theorem doorTimersAndPusherEnd : Obligations.DoorTimersAndPusherEnd := by
  unfold Obligations.DoorTimersAndPusherEnd
  refine ⟨fun s left hs h hv => ?_, fun s left hs h hv => ?_, fun s h => ?_, fun s left hs hv => ⟨fun h => ?_, fun h => ?_⟩,
    fun s hv => ⟨?_, ?_⟩, fun s => State.reportVent_other, fun s hs ht ho hl hk hf hlo hi hu => ?_, fun s hs h => ?_,
    fun s hr hi hu => ?_, fun s => ⟨fun hr hh => ?_, fun hr hh => ?_, fun hr => ?_, rfl⟩, fun s left hs ht hv => ?_,
    fun s ht => ?_, fun a reached reason o target s hs hm ht hv hne hle hlat => ?_, fun a reached reason s hs hm hn => ?_,
    fun a reached reason s hs hm => ?_, fun s => ⟨fun hl => ?_, fun hl he => ?_, fun hl he => ?_⟩,
    fun s => ⟨fun hf => ?_, fun hf hd => ?_, fun hf hd u => ⟨fun hu => ?_, fun hu => ?_⟩⟩, fun s => rfl,
    fun s => ⟨fun h => if_pos h, fun h => if_neg (by simp [h])⟩,
    fun s => ⟨fun h => if_pos h, fun h hz => ?_, fun h hz => ?_⟩, fun s hi => ⟨fun hl => ?_, fun hl hu => ?_, fun hl hu => ?_⟩,
    fun s => ⟨fun h => if_pos h, fun h => if_neg h⟩, fun s => rfl, fun s hp => State.reportVent_vent hp,
    fun a reached reason o target s hs hm ht hi => ?_, fun s step confirmed retracted => ?_, fun s previous o => ?_,
    fun s home => ?_, fun s a o target ht hm hl hg => ?_⟩
  · obtain ⟨-, -, hstep⟩ := State.advance_door s left
    exact congrArg Host.Outcome.next ((State.expire_running hs h _).trans (congrArg State.finish
      ((State.expireRelease_eq _).trans (if_neg (by rw [hstep]; exact hv)))))
  · obtain ⟨-, -, hstep⟩ := State.advance_door s left
    exact congrArg Host.Outcome.next ((State.expire_running hs h _).trans (congrArg State.finish
      ((State.expireRelease_eq _).trans (if_pos (by rw [hstep]; exact hv)))))
  · exact congrArg Host.Outcome.next (by rw [h]; rfl)
  · exact congrArg Host.Outcome.next (State.expire_running hs ((if_pos hv).trans h) _)
  · exact congrArg Host.Outcome.next (State.expire_running hs ((if_pos hv).trans h) _)
  · exact congrArg Host.Outcome.next (by rw [State.inFan, if_neg hv]; rfl)
  · exact congrArg Host.Outcome.next (by rw [State.inFan, if_neg hv]; rfl)
  · exact congrArg Host.Outcome.next ((State.event_on hs _).trans (congrArg State.finish
      (State.startRetract_claims (s.retractReady_iff.mpr ⟨ht, ho, hl, hk, hf, hlo⟩) hi hu)))
  · refine congrArg Host.Outcome.next ((State.event_on hs _).trans (congrArg State.finish (if_neg ?_)))
    rw [State.retractReady_iff]
    rintro ⟨ht, ho, hl, hk, hf, hlo⟩
    simp [ht, ho, hl, hk, hf, hlo] at h
  · rw [State.startRetract_unfit hr hi hu]
    have hd : (s.tellUnfit .doorDrive).dvc = s.dvc := by simp [State.tellUnfit]
    rw [State.holdRetract, State.onDvc, hd]
  · rw [State.testRetract, if_pos hr, if_neg (by simp [hh])]
  · rw [State.testRetract, if_pos hr, if_pos hh]
  · rw [State.testRetract, if_neg (by simp [hr])]; rfl
  · refine congrArg Host.Outcome.next ((State.expire_running hs (n := left) (by rw [State.retractLeft, ht]) _).trans
      (congrArg State.finish ?_))
    obtain ⟨-, -, hstep⟩ := State.advance_door s left
    exact State.retractLimit_alone (by rw [hstep]; exact hv)
  · exact congrArg Host.Outcome.next (by rw [State.retractLeft, ht]; rfl)
  · refine congrArg Host.Outcome.next ((State.event_on hs _).trans (congrArg State.finish ?_))
    rw [State.movedMessage_door hm, State.moved_taken (State.movedTaken_of ht), if_neg hv,
      State.takeMoved_plain hlat hne hle]
  · refine congrArg Host.Outcome.next ((State.event_on hs _).trans (congrArg State.finish ?_))
    rw [State.movedMessage_door hm, State.moved, if_neg (by simp [hn])]
  · exact congrArg Host.Outcome.next ((State.event_on hs _).trans (congrArg State.finish (if_neg hm)))
  · exact s.enterVent_eq.trans (if_pos hl)
  · exact s.enterVent_eq.trans ((if_neg (by simp [hl])).trans (if_pos he))
  · exact s.enterVent_eq.trans ((if_neg (by simp [hl])).trans (if_neg he))
  · exact s.ventPush_eq.trans (if_pos hf)
  · exact s.ventPush_eq.trans ((if_neg (by simp [hf])).trans (if_pos hd))
  · exact s.ventPush_eq.trans (((if_neg (by simp [hf])).trans (if_neg hd)).trans (congrArg State.afterPush hu))
  · exact s.ventPush_eq.trans (((if_neg (by simp [hf])).trans (if_neg hd)).trans (congrArg State.afterPush hu))
  · exact (if_neg (by simp [h])).trans (if_pos hz)
  · exact (if_neg (by simp [h])).trans (if_neg hz)
  · rw [State.waitFan, State.claim_withheld (s := s.onVent fun v => { v with step := .fanWait }) hi hl]
  · rw [State.waitFan, State.claim_taken (s := s.onVent fun v => { v with step := .fanWait }) hi hl (by simp) hu]
    rfl
  · rw [State.waitFan, State.claim_unfit (s := s.onVent fun v => { v with step := .fanWait }) hi hl (by simp) hu]
  · refine congrArg Host.Outcome.next ((State.event_on hs _).trans (congrArg State.finish ?_))
    rw [State.movedMessage_door hm, State.moved_taken (State.movedTaken_of ht), State.takeMoved_claimed hi]
    rfl
  · refine ⟨fun h => if_pos h, fun h => ⟨fun hc => ?_, fun hc => ?_⟩, fun h hd hf => ?_, fun h hr hd => ?_,
      fun h hr hd hf => ?_, fun h hd hf => ?_, fun h hd => ?_⟩
    · rw [← h, State.ventDoor_step, h]; exact if_pos hc
    · rw [← h, State.ventDoor_step, h]; exact if_neg (by simp [hc])
    · rw [← h, State.ventDoor_step, h]; exact if_pos (by simp [hd, hf])
    · rw [← h, State.ventDoor_step, h]
      have hshut : ¬ (decide (s.dvc.door = .closed) && !s.dvc.vent.fanOnly) = true := by
        obtain hd | hd := hd <;> simp [hd]
      exact (if_pos hr).trans (congrArg State.afterRetract (if_neg hshut))
    · rw [← h, State.ventDoor_step, h]
      exact (if_pos hr).trans (congrArg State.afterRetract (if_pos (by simp [hd, hf])))
    · rw [State.ventDoor_step]
      obtain h | h := h <;> rw [h] <;> exact if_pos (by simp [hd, hf])
    · rw [State.ventDoor_step]
      have hshut : ¬ (decide (s.dvc.door = .closed) && !s.dvc.vent.fanOnly) = true := by
        obtain hd | hd := hd <;> simp [hd]
      obtain h | h := h <;> rw [h] <;> exact if_neg hshut
  · exact s.doorAccepted_eq previous o
  · unfold State.recallDoor
    simp only [Bool.and_eq_true, Bool.not_eq_true', decide_eq_true_eq, Bool.and_eq_false_iff, decide_eq_false_iff_not,
      not_not, and_assoc]
    rfl
  · simp only [State.askMove, ht, hm]
    rw [if_pos ⟨hg, (State.linked_of_moduleOf hm).trans hl⟩]
    by_cases h : s.mbi.queue.length < 8
    · have hdvc : ((s.withMsg { dest := a, body := .move target, source := .dvc, sending := false }).choose).dvc = s.dvc := by
        simp [State.withMsg]
      rw [State.enqueue_withMsg h, if_pos h]
      simp only [State.onDvc, hdvc]
      rfl
    · rw [State.enqueue_refused h, if_neg h]
end Sys2Proof.Machine
end

section
-- The proofs are elaborated one after the other: each of the many threads of a parallel run holds a stack of its own.
set_option Elab.async false
/-! PROOFS. What the bus keeps, and the line break (O33). -/

namespace Sys2Proof.Machine

open Sys2Proof

/-! ### What the bus keeps while the blocks act (O33) -/

/-- A downstream queue that holds nothing but the messages of SENT orders: the channel is at rest, or sends one of them. -/
structure State.OrdersQueue (s : State) : Prop where
  sends : ∀ m ∈ s.mbi.queue, ∃ c o, m.source = .dsc c ∧ s.sentOrder c = some o ∧ State.orderMsg c o.tag m = true
  down : s.mbi.down = DownChan.reset ∨ ∃ m ∈ s.mbi.queue, m.sending = true

/-- Such a queue with no MOVE to come. -/
structure State.QueueQuiet (s : State) : Prop extends s.OrdersQueue where
  push : s.linked .door = true → ∀ o target, s.dvc.task ≠ .push o target .claimed

/-- From `s` to `t` the bus has changed at its queue and its downstream channel alone, and the queue has grown only by
messages of channels whose module is LINKED. -/
structure State.KeepsQueue (t s : State) : Prop where
  quiet : t.QueueQuiet
  frame : { t.mbi with queue := [], down := DownChan.reset, departed := false } =
    { s.mbi with queue := [], down := DownChan.reset, departed := false }
  grows : ∀ m ∈ t.mbi.queue, (∃ m' ∈ s.mbi.queue, m'.source = m.source) ∨
    ∃ c, m.source = .dsc c ∧ s.linked (channelKind c) = true

/-- From `s` to `t` the settings and the module table stay, and a quiet queue stays quiet. -/
structure State.KeepsBus (t s : State) : Prop where
  settings : t.settings = s.settings
  msu : t.msu = s.msu
  bus : s.QueueQuiet → t.KeepsQueue s

theorem markFirst_some {p : DownMsg → Bool} {l q : List DownMsg} (h : markFirst p l = some q) :
    ∃ xs m ys, l = xs ++ m :: ys ∧ q = xs ++ { m with sending := true } :: ys := by
  induction l generalizing q with
  | nil => cases h
  | cons x l ih =>
    rw [markFirst] at h
    split at h
    · cases h
      exact ⟨[], x, l, rfl, rfl⟩
    · obtain ⟨q', hq', rfl⟩ := Option.map_eq_some_iff.mp h
      obtain ⟨xs, m, ys, rfl, rfl⟩ := ih hq'
      exact ⟨x :: xs, m, ys, rfl, rfl⟩

/-- The choice marks one message as being sent, or changes nothing (R154). -/
theorem State.choose_cases (s : State) :
    s.choose = s ∨ ∃ xs m ys, s.mbi.queue = xs ++ m :: ys ∧
      s.choose = s.onMbi fun b =>
        { b with queue := xs ++ { m with sending := true } :: ys, down := { DownChan.reset with phase := .prepare } } := by
  unfold State.choose
  split
  · split
    · next q hq =>
      obtain ⟨xs, m, ys, hl, rfl⟩ := markFirst_some hq
      exact .inr ⟨xs, m, ys, hl, rfl⟩
    · exact .inl rfl
  · exact .inl rfl

theorem State.sentOrder_head {s : State} {c : Channel} {o : Order} (h : s.sentOrder c = some o) :
    ∃ rest, (s.channel c).orders = o :: rest ∧ o.state = .sent := by
  unfold State.sentOrder at h
  split at h
  · next o' rest hr =>
    split at h
    · next hs => cases h; exact ⟨rest, hr, hs⟩
    · cases h
  · cases h

theorem State.OrdersQueue.congr {s t : State} (h : s.OrdersQueue) (hm : t.mbi = s.mbi)
    (hd : ∀ c, t.sentOrder c = s.sentOrder c) : t.OrdersQueue where
  sends m hmem := by
    obtain ⟨c, o, hsrc, ho, hmsg⟩ := h.sends m (hm ▸ hmem)
    exact ⟨c, o, hsrc, (hd c).trans ho, hmsg⟩
  down := hm ▸ h.down

/-- Messages that leave the queue: the channel goes to rest if its own is among them (R154). -/
theorem State.OrdersQueue.removeMsgs {s : State} (h : s.OrdersQueue) (p : DownMsg → Bool) : (s.removeMsgs p).OrdersQueue := by
  unfold State.removeMsgs
  split
  · refine ⟨fun m hm => h.sends m (List.mem_of_mem_filter hm), ?_⟩
    by_cases hstop : (s.mbi.queue.any fun m => p m && m.sending) = true
    · exact .inl (if_pos hstop)
    · obtain hd | ⟨m, hm, hsend⟩ := h.down
      · exact .inl ((if_neg hstop).trans hd)
      · refine .inr ⟨m, List.mem_filter.mpr ⟨hm, ?_⟩, hsend⟩
        simp only [Bool.not_eq_true', Bool.eq_false_iff]
        exact fun hp => hstop (List.any_eq_true.mpr ⟨m, hm, by simp [hp, hsend]⟩)
  · exact h

namespace State.KeepsQueue

variable {s t u : State}

theorem refl (h : s.QueueQuiet) : s.KeepsQueue s := ⟨h, rfl, fun m hm => .inl ⟨m, hm, rfl⟩⟩

theorem trans (hs : t.settings = s.settings) (hm : t.msu = s.msu) (h : u.KeepsQueue t) (g : t.KeepsQueue s) :
    u.KeepsQueue s where
  quiet := h.quiet
  frame := h.frame.trans g.frame
  grows m hmem := by
    obtain ⟨m', hm', hsrc⟩ | ⟨c, hc, hl⟩ := h.grows m hmem
    · obtain ⟨m'', hm'', hsrc'⟩ | ⟨c, hc, hl⟩ := g.grows m' hm'
      · exact .inl ⟨m'', hm'', hsrc'.trans hsrc⟩
      · exact .inr ⟨c, hsrc.symm.trans hc, hl⟩
    · exact .inr ⟨c, hc, by rwa [State.linked_congr hs hm] at hl⟩

end State.KeepsQueue

namespace State.KeepsBus

variable {s t u : State}

theorem refl (s : State) : s.KeepsBus s := ⟨rfl, rfl, .refl⟩

theorem trans (h : u.KeepsBus t) (g : t.KeepsBus s) : u.KeepsBus s where
  settings := h.settings.trans g.settings
  msu := h.msu.trans g.msu
  bus hq := (h.bus (g.bus hq).quiet).trans g.settings g.msu (g.bus hq)

/-- A step that leaves the bus, keeps every SENT order at its head and begins no PUSH. -/
theorem of_parts (hset : u.settings = t.settings) (hmsu : u.msu = t.msu) (hmbi : u.mbi = t.mbi)
    (hdsc : ∀ c o, t.sentOrder c = some o → ∃ o', u.sentOrder c = some o' ∧ o'.tag = o.tag)
    (htask : ∀ o target, u.dvc.task = .push o target .claimed → t.dvc.task = .push o target .claimed) : u.KeepsBus t where
  settings := hset
  msu := hmsu
  bus hq :=
    { quiet :=
        { sends := fun m hm => by
            obtain ⟨c, o, hsrc, ho, hmsg⟩ := hq.sends m (hmbi ▸ hm)
            obtain ⟨o', ho', htag⟩ := hdsc c o ho
            exact ⟨c, o', hsrc, ho', htag ▸ hmsg⟩
          down := hmbi ▸ hq.down
          push := fun hl o target ht => hq.push (by rwa [State.linked_congr hset hmsu] at hl) o target (htask o target ht) }
      frame := by rw [hmbi]
      grows := fun m hm => .inl ⟨m, hmbi ▸ hm, rfl⟩ }

theorem sentOrder_congr (h : u.dsc = t.dsc) (c : Channel) : u.sentOrder c = t.sentOrder c := by
  simp only [State.sentOrder, State.channel, h]

/-- A step of a block other than DSC, DVC and the bus. -/
theorem frame (h : t.KeepsBus s) (hset : u.settings = t.settings := by simp) (hmsu : u.msu = t.msu := by simp)
    (hmbi : u.mbi = t.mbi := by simp) (hdsc : u.dsc = t.dsc := by simp) (hdvc : u.dvc = t.dvc := by simp) : u.KeepsBus s :=
  (of_parts hset hmsu hmbi (fun c o ho => ⟨o, (sentOrder_congr hdsc c).trans ho, rfl⟩)
    (fun _ _ ht => by rwa [hdvc] at ht)).trans h

theorem cond (h : t.KeepsBus s) {c : Prop} [Decidable c] {f : State → State}
    (hf : ∀ {v : State}, v.KeepsBus s → (f v).KeepsBus s) : (if c then f t else t).KeepsBus s := by
  split
  · exact hf h
  · exact h

theorem ite {c : Prop} [Decidable c] {a b : State} (ha : a.KeepsBus s) (hb : b.KeepsBus s) : (if c then a else b).KeepsBus s := by
  split
  · exact ha
  · exact hb

theorem fst_of_eq {α : Type} {r : State × α} {a : State} {b : α} (h : r.1.KeepsBus s) (e : r = (a, b)) : a.KeepsBus s := by
  rw [e] at h; exact h

theorem onWhu (h : t.KeepsBus s) {f : Whu → Whu} : (t.onWhu f).KeepsBus s := h.frame
theorem onCsq (h : t.KeepsBus s) {f : Csq → Csq} : (t.onCsq f).KeepsBus s := h.frame
theorem onLba (h : t.KeepsBus s) {f : Lba → Lba} : (t.onLba f).KeepsBus s := h.frame
theorem onSfc (h : t.KeepsBus s) {f : Sfc → Sfc} : (t.onSfc f).KeepsBus s := h.frame
theorem onClaim (h : t.KeepsBus s) {l : Load} {f : Claim → Claim} : (t.onClaim l f).KeepsBus s := h.frame
theorem onColumn (h : t.KeepsBus s) {c : Column} {f : ColumnRec → ColumnRec} : (t.onColumn c f).KeepsBus s := by
  cases c <;> exact h.frame rfl rfl rfl rfl rfl
theorem place (h : t.KeepsBus s) {n : Notice} : (t.place n).KeepsBus s := h.frame
theorem warn (h : t.KeepsBus s) {code : FaultCode} {detail : Nat} : (t.warn code detail).KeepsBus s := h.frame
theorem endCondition (h : t.KeepsBus s) {code : FaultCode} {detail : Nat} : (t.endCondition code detail).KeepsBus s := h.frame
theorem saveCounters (h : t.KeepsBus s) : t.saveCounters.KeepsBus s := h.frame
theorem tellUnfit (h : t.KeepsBus s) {l : Load} : (t.tellUnfit l).KeepsBus s := h.onLba.warn
theorem raiseList (h : t.KeepsBus s) {code : FaultCode} {detail : Nat} {cls : FaultClass} :
    (t.raiseList code detail cls).1.KeepsBus s := h.frame

theorem onDvc (h : t.KeepsBus s) {f : Dvc → Dvc}
    (hf : ∀ o target, (f t.dvc).task = .push o target .claimed → t.dvc.task = .push o target .claimed := by
      exact fun _ _ h => h) : (t.onDvc f).KeepsBus s :=
  (of_parts (u := t.onDvc f) (t := t) rfl rfl rfl (fun _ o ho => ⟨o, ho, rfl⟩) hf).trans h

theorem onVent (h : t.KeepsBus s) {f : Vent → Vent} : (t.onVent f).KeepsBus s := h.onDvc

/-- A change of a channel that keeps a SENT head. -/
theorem onChannel (h : t.KeepsBus s) {c : Channel} {f : ChannelRec → ChannelRec}
    (hf : ∀ o rest, (t.channel c).orders = o :: rest → o.state = .sent →
      ∃ o' rest', (f (t.channel c)).orders = o' :: rest' ∧ o'.state = .sent ∧ o'.tag = o.tag := by
        exact fun o rest ho hs => ⟨o, rest, ho, hs, rfl⟩) : (t.onChannel c f).KeepsBus s := by
  refine (of_parts (by cases c <;> rfl) (by cases c <;> rfl) (by cases c <;> rfl) (fun d o ho => ?_)
    (by cases c <;> exact fun _ _ ht => ht)).trans h
  by_cases hd : d = c
  · subst hd
    obtain ⟨rest, hrest, hsent⟩ := State.sentOrder_head ho
    obtain ⟨o', rest', ho', hs', htag⟩ := hf o rest hrest hsent
    have hch : ((t.onChannel d f).channel d).orders = o' :: rest' := by cases d <;> exact ho'
    exact ⟨o', by simp only [State.sentOrder, hch, hs', if_true], htag⟩
  · have hch : (t.onChannel c f).channel d = t.channel d := by rw [State.channel_onChannel, if_neg hd]
    exact ⟨o, by simpa only [State.sentOrder, hch] using ho, rfl⟩

theorem onDsc (h : t.KeepsBus s) {f : Dsc → Dsc} (hd : (f t.dsc).det = t.dsc.det := by rfl)
    (hr : (f t.dsc).ra = t.dsc.ra := by rfl) : (t.onDsc f).KeepsBus s :=
  (of_parts (u := t.onDsc f) (t := t) rfl rfl rfl (fun c o ho => ⟨o, by
    have hc : (t.onDsc f).channel c = t.channel c := by cases c <;> assumption
    simpa only [State.sentOrder, hc] using ho, rfl⟩) (fun _ _ ht => ht)).trans h

/-- Messages that leave the queue leave it quiet. -/
theorem removeMsgs (h : t.KeepsBus s) {p : DownMsg → Bool} : (t.removeMsgs p).KeepsBus s := by
  refine trans ?_ h
  have hq := fun hq : t.OrdersQueue => hq.removeMsgs p
  unfold State.removeMsgs at hq ⊢
  split at hq <;> rename_i hany
  · rw [if_pos hany]
    exact ⟨rfl, rfl, fun h => ⟨⟨hq h.toOrdersQueue, h.push⟩, rfl, fun m hm => .inl ⟨m, List.mem_of_mem_filter hm, rfl⟩⟩⟩
  · rw [if_neg hany]
    exact refl t

end State.KeepsBus
/-- A message is an order's by its source and its body. -/
theorem State.orderMsg_congr {c : Channel} {tag : Octet} {m x : DownMsg} (hs : m.source = x.source) (hb : m.body = x.body) :
    State.orderMsg c tag m = State.orderMsg c tag x := by
  simp only [State.orderMsg, hs, hb]

/-- The choice reads the bus and the module table alone. -/
theorem State.choose_onChannel (s : State) (c : Channel) (f : ChannelRec → ChannelRec) :
    s.choose.onChannel c f = (s.onChannel c f).choose := by
  have hd (g : Dsc → Dsc) : s.choose.onDsc g = (s.onDsc g).choose := by
    have he : (s.onDsc g).eligible = s.eligible := rfl
    simp only [State.choose, he, State.onDsc_mbi]
    split
    · cases markFirst s.eligible s.mbi.queue <;> rfl
    · rfl
  cases c with
  | det => exact hd fun d => { d with det := f d.det }
  | ra => exact hd fun d => { d with ra := f d.ra }

theorem State.askMove_table (s : State) : s.askMove.settings = s.settings ∧ s.askMove.msu = s.msu := by
  unfold State.askMove
  split
  · next origin target a _ _ =>
    have he := s.enqueue_frame a (.move target) .dvc
    split
    · split
      · next e => rw [e] at he; exact ⟨he.2.1, he.2.2.2.2.2.2.2.2.2.1⟩
      · next e => rw [e] at he; exact ⟨he.2.1, he.2.2.2.2.2.2.2.2.2.1⟩
    · exact ⟨rfl, rfl⟩
  · exact ⟨rfl, rfl⟩

/-- Where no MOVE is to come, none is asked for. -/
theorem State.askMove_quiet {s : State} (h : s.QueueQuiet) : s.askMove = s := by
  unfold State.askMove
  split
  · next origin target a ht _ =>
    exact if_neg fun hc => h.push hc.2 origin target ht
  · rfl

namespace State.KeepsBus

variable {s t u : State}

/-! ### Orders that are sent -/

/-- A message chosen stays in the queue, but for its mark (R154). -/
theorem choose (h : t.KeepsBus s) : t.choose.KeepsBus s := by
  refine trans ?_ h
  obtain hc | ⟨xs, m, ys, hq, hc⟩ := t.choose_cases
  · rw [hc]; exact refl t
  · rw [hc]
    have hmem : ∀ x ∈ xs ++ { m with sending := true } :: ys, ∃ x' ∈ t.mbi.queue, x'.source = x.source ∧ x'.body = x.body := by
      intro x hx
      rw [hq]
      obtain hx | hx := List.mem_append.mp hx
      · exact ⟨x, List.mem_append_left _ hx, rfl, rfl⟩
      · obtain rfl | hx := List.mem_cons.mp hx
        · exact ⟨m, by simp, rfl, rfl⟩
        · exact ⟨x, by simp [hx], rfl, rfl⟩
    refine ⟨rfl, rfl, fun hquiet => ⟨⟨⟨fun x hx => ?_, .inr ⟨{ m with sending := true }, by simp [State.onMbi], rfl⟩⟩,
      hquiet.push⟩, rfl, fun x hx => ?_⟩⟩
    · obtain ⟨x', hx', hsrc, hbody⟩ := hmem x hx
      obtain ⟨c, o, hc', ho, hmsg⟩ := hquiet.sends x' hx'
      exact ⟨c, o, hsrc.symm.trans hc', ho, by rwa [orderMsg_congr hsrc hbody] at hmsg⟩
    · obtain ⟨x', hx', hsrc, -⟩ := hmem x hx
      exact .inl ⟨x', hx', hsrc⟩

/-- A LINKED channel whose head is SENT with its message. -/
theorem sendOrder {c : Channel} {a : Addr} {o : Order} {rest : List Order} {left : Option Nat}
    (ho : (t.channel c).orders = o :: rest) (hq : o.state = .queued) (hl : t.linked (channelKind c) = true) :
    (((t.withMsg { dest := a, body := State.orderBody o, source := .dsc c, sending := false }).choose).onChannel c fun r =>
      { r with orders := { o with state := .sent } :: rest, watchdogLeft := left }).KeepsBus t := by
  rw [State.choose_onChannel]
  refine choose ⟨by cases c <;> rfl, by cases c <;> rfl, fun hquiet => ⟨⟨⟨fun x hx => ?_, ?_⟩, ?_⟩, by cases c <;> rfl, ?_⟩⟩
  · have hnone : t.sentOrder c = none := by simp [State.sentOrder, ho, hq]
    have hx' : x ∈ t.mbi.queue ++ [{ dest := a, body := State.orderBody o, source := .dsc c, sending := false }] := by
      cases c <;> exact hx
    obtain hx' | hx' := List.mem_append.mp hx'
    · obtain ⟨d, p, hd, hp, hmsg⟩ := hquiet.sends x hx'
      have hne : d ≠ c := fun e => by rw [e, hnone] at hp; cases hp
      refine ⟨d, p, hd, ?_, hmsg⟩
      cases c <;> cases d
      · exact absurd rfl hne
      · exact hp
      · exact hp
      · exact absurd rfl hne
    · obtain rfl := List.mem_singleton.mp hx'
      refine ⟨c, { o with state := .sent }, rfl, by cases c <;> rfl, ?_⟩
      simp only [State.orderMsg, State.orderBody]
      cases o.amount <;> simp
  · obtain hd | ⟨x, hx, hsend⟩ := hquiet.down
    · exact .inl (by cases c <;> exact hd)
    · exact .inr ⟨x, by cases c <;> exact List.mem_append_left _ hx, hsend⟩
  · cases c <;> exact hquiet.push
  · intro x hx
    have hx' : x ∈ t.mbi.queue ++ [{ dest := a, body := State.orderBody o, source := .dsc c, sending := false }] := by
      cases c <;> exact hx
    obtain hx' | hx' := List.mem_append.mp hx'
    · exact .inl ⟨x, hx', rfl⟩
    · obtain rfl := List.mem_singleton.mp hx'
      exact .inr ⟨c, rfl, hl⟩

/-- An order of a LINKED channel is sent only when no order of the channel is. -/
theorem askOrder (h : t.KeepsBus s) {c : Channel} : (t.askOrder c).KeepsBus s := by
  refine trans ?_ h
  cases ho : (t.channel c).orders with
  | nil => simp only [State.askOrder, ho]; exact refl t
  | cons o rest =>
    cases hm : t.moduleOf (channelKind c) with
    | none => simp only [State.askOrder, ho, hm]; exact refl t
    | some a =>
      by_cases hready : (o.started = true ∧ o.state = .queued) ∧ t.linkedAt a = true ∧ t.mbi.queue.length < 8
      · obtain ⟨⟨hst, hq⟩, hl, hlen⟩ := hready
        rw [State.askOrder_queues ho hst hq hm hl hlen]
        exact sendOrder ho hq ((State.linked_of_moduleOf hm).trans hl)
      · by_cases hst : o.started = true ∧ o.state = .queued
        · rw [State.askOrder_waits ho hm fun hc => hready ⟨hst, hc⟩]; exact refl t
        · simp only [State.askOrder, ho, hm]
          rw [if_neg fun hc => hst ⟨hc.1, hc.2.1⟩]
          exact refl t

/-- With no MOVE to come, none is asked for. -/
theorem askMove (h : t.KeepsBus s) : t.askMove.KeepsBus s := by
  refine trans ⟨?_, ?_, fun hq => ?_⟩ h
  · exact t.askMove_table.1
  · exact t.askMove_table.2
  · rw [State.askMove_quiet hq]
    exact .refl hq

theorem granteeEvent (h : t.KeepsBus s) {l : Load} : (t.granteeEvent l).KeepsBus s := by
  unfold State.granteeEvent
  split
  · exact h.askMove
  · exact ite h.onVent.onDvc h
  · unfold State.valveGranted
    dsimp only
    split
    · exact h.onSfc.place
    · exact h.onSfc
    all_goals exact h
  all_goals exact h

theorem walk (h : t.KeepsBus s) : t.walk.KeepsBus s :=
  State.walk_keeps (P := fun u => u.KeepsBus s)
    (fun _ _ _ hu => ite hu.onClaim (hu.onLba.onClaim.granteeEvent)) (fun _ _ hu => hu.onLba.onClaim) h

theorem endClaim (h : t.KeepsBus s) {l : Load} : (t.endClaim l).KeepsBus s := by
  unfold State.endClaim
  split
  · exact h
  · exact h.onClaim
  · exact h.onLba.onClaim

theorem release (h : t.KeepsBus s) {l : Load} : (t.release l).KeepsBus s := ite h h.endClaim.walk

theorem claim (h : t.KeepsBus s) {l : Load} : (t.claim l).1.KeepsBus s := by
  unfold State.claim
  split
  · exact h
  · split
    · exact h
    · split
      · exact h
      · split
        · exact h.tellUnfit
        · exact h.onClaim.walk

/-! ### Doses and fills -/

theorem markHead (h : t.KeepsBus s) {c : Channel} {b : Bool} : (t.markHead c b).KeepsBus s :=
  h.onChannel fun o rest ho hs => ⟨{ o with started := b }, rest, by rw [ho], hs, rfl⟩

theorem startOrder (h : t.KeepsBus s) {c : Channel} : (t.startOrder c).KeepsBus s := by
  unfold State.startOrder
  refine ite ?_ h
  split
  · next e => exact (h.claim.fst_of_eq e).onChannel
  · next e => exact (h.claim.fst_of_eq e).markHead.askOrder
  · next e => exact (h.claim.fst_of_eq e).markHead.askOrder
  · next e => exact h.claim.fst_of_eq e
  · next e => exact h.claim.fst_of_eq e

theorem createOrder (h : t.KeepsBus s) {c : Channel} {origin : Origin} {amount : Amount} :
    (t.createOrder c origin amount).KeepsBus s :=
  h.onChannel fun o rest ho hs => ⟨o, _, by rw [ho]; rfl, hs, rfl⟩

theorem countDosing (h : t.KeepsBus s) {f : Dosing → Dosing} : (t.countDosing f).KeepsBus s := h.onCsq
theorem countDrop (h : t.KeepsBus s) {n : Nat} : (t.countDrop n).KeepsBus s := ite h h.countDosing
theorem countSteps (h : t.KeepsBus s) {c : Channel} {n : Nat} : (t.countSteps c n).KeepsBus s := h.countDosing

/-- A SENT head takes no further steps. -/
theorem mergeLast_sent {n ul : Nat} {o : Order} {rest os : List Order} {lost : Nat} (hs : o.state = .sent)
    (h : mergeLast n ul (o :: rest) = some (os, lost)) : ∃ rest', os = o :: rest' := by
  cases rest with
  | nil =>
    simp only [mergeLast] at h
    split at h
    · rw [if_neg (by simp [hs])] at h; cases h
    · cases h
  | cons p rest =>
    obtain ⟨⟨os', l'⟩, -, heq⟩ := Option.map_eq_some_iff.mp h
    cases heq
    exact ⟨os', rfl⟩

theorem placeSteps (h : t.KeepsBus s) {c : Channel} {origin : Origin} {n : Nat} :
    (t.placeSteps c origin n).KeepsBus s := by
  unfold State.placeSteps
  refine ite h (ite h.countDrop (ite h.createOrder.countSteps.startOrder (ite ?_ h.countDrop)))
  split
  · next os lost e =>
    refine (h.onChannel fun o rest ho hs => ?_).countSteps.countDrop
    rw [ho] at e
    obtain ⟨rest', rfl⟩ := mergeLast_sent hs e
    exact ⟨o, rest', rfl, hs, rfl⟩
  · exact h.countDrop

theorem dose (h : t.KeepsBus s) {origin : Origin} {ml soil : Nat} : (t.dose origin ml soil).KeepsBus s := by
  unfold State.dose
  refine countDosing (placeSteps ?_)
  exact h.onChannel

theorem placeOwed (h : t.KeepsBus s) : t.placeOwed.KeepsBus s := (h.onDsc).placeSteps

theorem flushTest (h : t.KeepsBus s) : t.flushTest.KeepsBus s := h.cond placeOwed

theorem rinseEndStep (h : t.KeepsBus s) : t.rinseEndStep.KeepsBus s := ite h.onDsc.flushTest h

theorem dropQueued (h : t.KeepsBus s) {c : Channel} : (t.dropQueued c).KeepsBus s :=
  (h.onChannel fun o rest ho hs => ⟨o, rest.filter fun o => o.state ≠ .queued, by simp [ho, hs], hs, rfl⟩).countDrop

theorem channelLockout (h : t.KeepsBus s) {c : Channel} : (t.channelLockout c).KeepsBus s := by
  unfold State.channelLockout
  dsimp only
  split
  · exact h.dropQueued.cond fun hv => hv.onChannel
  · exact (h.dropQueued.cond fun hv => hv.onChannel).flushTest

theorem closeInlet (h : t.KeepsBus s) {outcome : DrawOutcome} : (t.closeInlet outcome).KeepsBus s := by
  unfold State.closeInlet
  split
  · exact h
  · exact h.onWhu.onSfc

theorem recomputeTank (h : t.KeepsBus s) : t.recomputeTank.KeepsBus s := h.onWhu

theorem closeFill (h : t.KeepsBus s) : t.closeFill.KeepsBus s := by
  unfold State.closeFill
  split
  · exact h
  · exact ite h.onWhu.onWhu (ite (ite h.onWhu.closeInlet.onWhu h.onWhu.closeInlet.dose) h.onWhu.onWhu)

theorem startFill (h : t.KeepsBus s) {kind : FillKind} : (t.startFill kind).KeepsBus s :=
  h.onWhu.cond fun hv => hv.closeFill.recomputeTank

theorem armFill (h : t.KeepsBus s) : t.armFill.KeepsBus s := h.cond fun hv => hv.startFill

theorem reportFill (h : t.KeepsBus s) {pulses : Nat} : (t.reportFill pulses).KeepsBus s := by
  unfold State.reportFill
  split
  · exact h.onWhu.recomputeTank.dose
  · exact h

/-! ### The door -/

theorem noteDoor (h : t.KeepsBus s) {moved : Option (Octet × Nat)} : (t.noteDoor moved).KeepsBus s := h.place

theorem withdrawMove (h : t.KeepsBus s) : t.withdrawMove.KeepsBus s := h.removeMsgs

theorem abandonPush (h : t.KeepsBus s) : t.abandonPush.KeepsBus s := (h.onDvc (by intro _ _ e; cases e)).release.withdrawMove

theorem abandonRetract (h : t.KeepsBus s) : t.abandonRetract.KeepsBus s := (h.onDvc (by intro _ _ e; cases e)).release

theorem abandonTask (h : t.KeepsBus s) : t.abandonTask.KeepsBus s := by
  unfold State.abandonTask
  split
  · exact h
  · exact h.abandonPush
  · exact h.abandonRetract.noteDoor

theorem startRetract (h : t.KeepsBus s) : t.startRetract.KeepsBus s := by
  unfold State.startRetract
  refine ite ?_ h
  split
  · next e => exact (h.claim.fst_of_eq e).onDvc.noteDoor
  · next e => exact h.claim.fst_of_eq e
  · next e => exact (h.claim.fst_of_eq e).onDvc (by intro _ _ e; cases e)
  · next e => exact (h.claim.fst_of_eq e).onDvc (by intro _ _ e; cases e)
  · next e => exact h.claim.fst_of_eq e

theorem dropVent (h : t.KeepsBus s) : t.dropVent.KeepsBus s :=
  ite h (h.abandonTask.withdrawMove.onDvc.release.onVent)

theorem clearLatch (h : t.KeepsBus s) : t.clearLatch.KeepsBus s := h.onDvc

theorem doorCycleEnd (h : t.KeepsBus s) {n : Bool} : (t.doorCycleEnd n).KeepsBus s :=
  ((h.dropVent.cond fun hv => hv.clearLatch).cond fun hv => hv.onDvc).startRetract

theorem doorLockout (h : t.KeepsBus s) : t.doorLockout.KeepsBus s := h.abandonTask.cond fun hv => hv.onVent

theorem doorBlocked (h : t.KeepsBus s) : t.doorBlocked.KeepsBus s := (ite h h.onVent).warn

/-! ### The cycle -/

theorem notePhase (h : t.KeepsBus s) : t.notePhase.KeepsBus s := h.place

theorem enterState (h : t.KeepsBus s) {p : CycleState} : (t.enterState p).KeepsBus s := h.onCsq.notePhase

theorem dropDrain (h : t.KeepsBus s) : t.dropDrain.KeepsBus s := h.onWhu.release

theorem endCycleDrain (h : t.KeepsBus s) : t.endCycleDrain.KeepsBus s := by
  unfold State.endCycleDrain
  split
  · exact h.onWhu.dropDrain
  · exact h.dropDrain
  · exact h
  · exact h.onWhu

theorem stopOutputs (h : t.KeepsBus s) : t.stopOutputs.KeepsBus s :=
  (h.release.release.onWhu.cond fun hv => hv.closeInlet).endCycleDrain

theorem shiftQueue (h : t.KeepsBus s) : t.shiftQueue.KeepsBus s := by
  unfold State.shiftQueue
  split
  · exact h.onCsq.onCsq.enterState.armFill
  · exact h.onCsq.notePhase

theorem endCycle (h : t.KeepsBus s) {o : CycleOutcome} : (t.endCycle o).KeepsBus s := by
  unfold State.endCycle
  split
  · exact h
  · exact h.stopOutputs.doorCycleEnd.onCsq.place.onCsq.saveCounters.shiftQueue

theorem rinseReport (h : t.KeepsBus s) {r : DrawReport} : (t.rinseReport r).KeepsBus s :=
  ite (ite h.onCsq.rinseEndStep.endCycle h.onCsq.dose.rinseEndStep.onCsq.enterState) h

theorem addHold (h : t.KeepsBus s) {r : HoldReason} : (t.addHold r).KeepsBus s := by
  unfold State.addHold
  split
  · exact h.onCsq.release.enterState
  · exact h.onCsq.onWhu.release.enterState
  · exact ite h h.onCsq.notePhase
  all_goals exact h

theorem dropHold (h : t.KeepsBus s) {r : HoldReason} : (t.dropHold r).KeepsBus s := by
  refine ite (ite h.onCsq.notePhase ?_) h
  unfold State.resume
  dsimp only
  split
  · exact h.onCsq.onCsq.enterState.claim
  · exact h.onCsq.onCsq.enterState.onWhu.claim
  · exact h.onCsq.onCsq

theorem doorForced (h : t.KeepsBus s) : t.doorForced.KeepsBus s := h.warn.endCondition

theorem forceRinse (h : t.KeepsBus s) : t.forceRinse.KeepsBus s :=
  have hf := (h.onCsq.release (l := .rinsePump)).doorForced
  ite h (ite hf.onWhu.rinseReport (ite (ite hf.closeInlet hf.closeInlet.rinseReport) hf))

theorem cycleDoor (h : t.KeepsBus s) : t.cycleDoor.KeepsBus s := by
  unfold State.cycleDoor
  split
  · exact ite h h.addHold
  · exact ite h h.addHold
  · exact ite h.dropHold h.addHold
  · exact ite h.forceRinse h
  · exact ite h.doorForced.onCsq.endCycle h
  all_goals exact h

/-! ### The softener and the raises -/

theorem becomeDue (h : t.KeepsBus s) : t.becomeDue.KeepsBus s := h.onSfc.warn

theorem startChangeover (h : t.KeepsBus s) : t.startChangeover.KeepsBus s := by
  unfold State.startChangeover
  refine ite ?_ h
  have hc := (h.onSfc (f := fun x => { x with changeover := .claimed })).claim (l := .valveMotor)
  split
  · next e => exact (hc.fst_of_eq e).becomeDue
  · next e => exact (hc.fst_of_eq e).onSfc
  · next e => exact hc.fst_of_eq e
  · next e => exact hc.fst_of_eq e
  · next e => exact hc.fst_of_eq e

theorem retestDue (h : t.KeepsBus s) : t.retestDue.KeepsBus s := ite h.onSfc.startChangeover h

theorem endAlignment (h : t.KeepsBus s) : t.endAlignment.KeepsBus s := ite h.onSfc.becomeDue.retestDue h.onSfc

theorem softenerLost (h : t.KeepsBus s) : t.softenerLost.KeepsBus s := by
  unfold State.softenerLost
  dsimp only
  split
  · exact h.onSfc.becomeDue
  · exact h.onSfc.release.becomeDue
  · exact h.onSfc.release.endAlignment
  all_goals exact h.onSfc

theorem softenerLockout (h : t.KeepsBus s) : t.softenerLockout.KeepsBus s := by
  unfold State.softenerLockout
  dsimp only
  split
  · exact h.onSfc.onSfc
  · exact h.onSfc.endAlignment
  all_goals exact h.onSfc

theorem cycleLockout (h : t.KeepsBus s) : t.cycleLockout.KeepsBus s := (h.onCsq.cond rinseEndStep).endCycle

theorem waterLockout (h : t.KeepsBus s) : t.waterLockout.KeepsBus s :=
  (h.closeInlet.cond fun hv => hv.reportFill).onWhu.cond recomputeTank

theorem endAllClaims (h : t.KeepsBus s) : t.endAllClaims.KeepsBus s :=
  List.foldlRecOn (motive := fun v => v.KeepsBus s) allLoads State.endClaim h fun _ hv _ _ => hv.endClaim

theorem enterLockout (h : t.KeepsBus s) : t.enterLockout.KeepsBus s :=
  h.endAllClaims.waterLockout.channelLockout.channelLockout.doorLockout.softenerLockout.cycleLockout

theorem handOn (h : t.KeepsBus s) {code : FaultCode} {detail : Nat} : (t.handOn code detail).KeepsBus s := by
  unfold State.handOn
  split
  · exact h
  · split
    · exact h
    · exact ite h.endCycle h
    · exact h.cycleLockout

theorem raise (h : t.KeepsBus s) {code : FaultCode} {detail : Nat} {cls : FaultClass} :
    (t.raise code detail cls).KeepsBus s := by
  unfold State.raise
  split
  · next e => exact ite (h.raiseList.fst_of_eq e).enterLockout (h.raiseList.fst_of_eq e).handOn
  · next e => exact h.raiseList.fst_of_eq e

/-! ### The vent and the loss of the door module -/

theorem reportVent (h : t.KeepsBus s) : t.reportVent.KeepsBus s :=
  have hv := (h.onDvc (f := fun d => { d with fan := false })).release (l := .ventFan)
  hv.onVent.cond fun hw => hw.onCsq.endCycle

theorem cutVent (h : t.KeepsBus s) : t.cutVent.KeepsBus s := h.abandonTask.withdrawMove.onVent.reportVent

theorem waitFan (h : t.KeepsBus s) : t.waitFan.KeepsBus s := by
  have hc := (h.onVent (f := fun v => { v with step := .fanWait })).claim (l := .ventFan)
  unfold State.waitFan
  split
  · next e => exact hc.fst_of_eq e
  · next e => exact (hc.fst_of_eq e).cond fun hv => ite hv.onVent.onDvc hv
  · next e => exact (hc.fst_of_eq e).cutVent
  · next e => exact (hc.fst_of_eq e).cutVent
  · next e => exact hc.fst_of_eq e

theorem afterRetract (h : t.KeepsBus s) : t.afterRetract.KeepsBus s := ite h.cutVent (ite h.reportVent h.waitFan)

theorem ventRetract (h : t.KeepsBus s) : t.ventRetract.KeepsBus s :=
  have hr := (h.onVent (f := fun v => { v with step := .retract })).startRetract
  ite hr hr.afterRetract

theorem takeMoved (h : t.KeepsBus s) {reached : Nat} {reason : Octet} : (t.takeMoved reached reason).KeepsBus s :=
  have hb := (h.onDvc (f := fun d => { d with lastReached := min 100 reached, owed := true, task := .none })
    (by intro _ _ e; cases e)).cond (c := State.movedReason reason = 1#8) doorBlocked
  (ite hb.startRetract hb.release).noteDoor

theorem moved (h : t.KeepsBus s) {reached : Nat} {reason : Octet} : (t.moved reached reason).KeepsBus s :=
  ite (ite (h.takeMoved.cond fun hv => hv.onVent).ventRetract h.takeMoved) h

theorem doorUnknown (h : t.KeepsBus s) : t.doorUnknown.KeepsBus s := by
  unfold State.doorUnknown
  extract_lets changed u v w
  have hu : u.KeepsBus s := h.cond abandonRetract
  have hw : w.KeepsBus s := (hu.onDvc.cond fun hx => hx.noteDoor).cycleDoor
  exact ite hw.raise hw

theorem doorGone (h : t.KeepsBus s) : t.doorGone.KeepsBus s := ite (h.abandonTask.onDvc).release h.cutVent

end State.KeepsBus
/-! ### The line break (O33) -/

/-- An entry leaves its link, or starts its bring-up afresh, and nothing comes to the queue (R158, R162). -/
structure State.Unlinks (t s : State) : Prop where
  settings : t.settings = s.settings
  frame : { t.mbi with bays := s.mbi.bays, queue := [], down := DownChan.reset, departed := false } =
    { s.mbi with queue := [], down := DownChan.reset, departed := false }
  bays : ∀ a, t.bay a = s.bay a ∨ t.bay a = { candidate := none, accepted := none }
  sources : ∀ m ∈ t.mbi.queue, ∃ m' ∈ s.mbi.queue, m'.source = m.source
  orders : s.OrdersQueue → t.OrdersQueue

theorem State.Unlinks.refl (s : State) : s.Unlinks s := ⟨rfl, rfl, fun _ => .inl rfl, fun m hm => ⟨m, hm, rfl⟩, id⟩

/-- The link state that a line break gives an entry (R158). -/
def brokenLink (l old : LinkState) : LinkState := if old = .notExpected then .notExpected else l

@[simp] theorem State.removeMsgs_msu (s : State) (p : DownMsg → Bool) :
    (s.removeMsgs p).msu = s.msu ∧ (s.removeMsgs p).settings = s.settings := by
  unfold State.removeMsgs
  split <;> exact ⟨rfl, rfl⟩

theorem State.entry_congr {s t : State} (h : t.msu = s.msu) (a : Addr) : t.entry a = s.entry a := by
  simp only [State.entry, h]

/-- A fresh start of an entry leaves the link states (R162). -/
theorem State.restartBringUp_link (s : State) (a b : Addr) : ((s.restartBringUp a).entry b).link = (s.entry b).link := by
  simp only [State.restartBringUp, State.withdrawQuery]
  rw [State.entry_congr (State.removeMsgs_msu _ _).1]
  by_cases h : b = a <;> simp [h]

theorem State.returnToCount_link (s : State) (a b : Addr) : ((s.returnToCount a).entry b).link = (s.entry b).link := by
  rw [State.returnToCount, State.entry_congr (s := s.restartBringUp a) (by simp), State.restartBringUp_link]

theorem State.putLink_msu (s : State) (a : Addr) (l : LinkState) :
    (s.putLink a l).msu = (s.onEntry a fun e => { e with link := l }).msu := by
  unfold State.putLink
  dsimp only
  split <;> rfl

theorem State.setLink_link (s : State) (a b : Addr) (l : LinkState) (reported : Option Octet) :
    ((s.setLink a l reported).entry b).link = if b = a then l else (s.entry b).link := by
  unfold State.setLink
  split
  · next h =>
    split
    · next hb => rw [hb, h]
    · rfl
  · rw [State.entry_congr (s := s.onEntry a fun e => { e with link := l })
      (by rw [State.noteModule, (State.place_frame _ _).2.2.2.2.2.2.2.2.2.1, State.putLink_msu])]
    rw [State.entry_onEntry]
    split <;> rfl

theorem State.dropLink_link (s : State) (a b : Addr) (l : LinkState) (phase : BringUp) (reported : Option Octet) :
    ((s.dropLink a l phase reported).entry b).link = if b = a then l else (s.entry b).link := by
  rw [State.dropLink, State.setLink_link, State.entry_onEntry]
  by_cases h : b = a
  · rw [if_pos h, if_pos h]
  · rw [if_neg h, if_neg h, if_neg h, State.restartBringUp_link]

theorem State.unlink_link (s : State) (l : LinkState) (a b : Addr) :
    ((State.unlink l s a).entry b).link = if b = a then brokenLink l (s.entry b).link else (s.entry b).link := by
  by_cases hb : b = a
  · subst hb
    rw [if_pos rfl]
    unfold State.unlink brokenLink
    cases h : (s.entry b).link <;> simp [State.dropLink_link, State.setLink_link, h]
  · rw [if_neg hb]
    unfold State.unlink
    cases h : (s.entry a).link <;> simp [State.dropLink_link, State.setLink_link, State.returnToCount_link, hb]

namespace State.Unlinks

variable {s t u : State}

theorem trans (h : u.Unlinks t) (g : t.Unlinks s) : u.Unlinks s where
  settings := h.settings.trans g.settings
  frame := (congrArg (fun m : Mbi => { m with bays := s.mbi.bays }) h.frame).trans g.frame
  bays a := (h.bays a).elim (fun e => (g.bays a).imp e.trans e.trans) .inr
  sources m hm := by
    obtain ⟨m', hm', e⟩ := h.sources m hm
    obtain ⟨m'', hm'', e'⟩ := g.sources m' hm'
    exact ⟨m'', hm'', e'.trans e⟩
  orders hq := h.orders (g.orders hq)

theorem onEntry (h : t.Unlinks s) {a : Addr} {f : Entry → Entry} : (t.onEntry a f).Unlinks s :=
  trans (t := t) ⟨rfl, rfl, fun _ => .inl rfl, fun m hm => ⟨m, hm, rfl⟩, fun hq => hq.congr rfl fun _ => rfl⟩ h

theorem onBay (h : t.Unlinks s) {a : Addr} : (t.onBay a fun _ => { candidate := none, accepted := none }).Unlinks s := by
  refine trans (t := t) ?_ h
  refine ⟨rfl, rfl, fun b => ?_, fun m hm => ⟨m, hm, rfl⟩, fun hq => ⟨hq.sends, hq.down⟩⟩
  rw [State.bay_onBay]
  split
  · exact .inr rfl
  · exact .inl rfl

theorem frame_eq (h : t.Unlinks s) (hset : u.settings = t.settings := by simp)
    (hmbi : u.mbi = t.mbi := by simp) (hdsc : u.dsc = t.dsc := by simp) : u.Unlinks s :=
  trans ⟨hset, by rw [hmbi], fun a => .inl (by rw [State.bay, hmbi]; rfl), fun m hm => ⟨m, hmbi ▸ hm, rfl⟩,
    fun hq => hq.congr hmbi (KeepsBus.sentOrder_congr hdsc)⟩ h

theorem place (h : t.Unlinks s) {n : Notice} : (t.place n).Unlinks s := h.frame_eq
theorem endCondition (h : t.Unlinks s) {code : FaultCode} {detail : Nat} : (t.endCondition code detail).Unlinks s := h.frame_eq

theorem removeMsgs (h : t.Unlinks s) {p : DownMsg → Bool} : (t.removeMsgs p).Unlinks s := by
  have hq := fun hq : t.OrdersQueue => hq.removeMsgs p
  refine trans ?_ h
  unfold State.removeMsgs at hq ⊢
  split at hq <;> rename_i hany
  · rw [if_pos hany]
    exact ⟨rfl, rfl, fun _ => .inl rfl, fun m hm => ⟨m, List.mem_of_mem_filter hm, rfl⟩, hq⟩
  · rw [if_neg hany]
    exact refl t

theorem restartBringUp (h : t.Unlinks s) {a : Addr} : (t.restartBringUp a).Unlinks s := h.onEntry.onEntry.removeMsgs

theorem returnToCount (h : t.Unlinks s) {a : Addr} : (t.returnToCount a).Unlinks s := h.restartBringUp.endCondition

theorem setLink (h : t.Unlinks s) {a : Addr} {l : LinkState} {reported : Option Octet} :
    (t.setLink a l reported).Unlinks s := by
  have he : (t.onEntry a fun e => { e with link := l }).Unlinks s := h.onEntry
  unfold State.setLink
  split
  · exact h
  · refine place ?_
    unfold State.putLink
    dsimp only
    split
    · exact he.onBay
    · exact he

theorem dropLink (h : t.Unlinks s) {a : Addr} {l : LinkState} {phase : BringUp} {reported : Option Octet} :
    (t.dropLink a l phase reported).Unlinks s := (h.restartBringUp.onEntry).setLink

theorem unlink (h : t.Unlinks s) {l : LinkState} {a : Addr} : (State.unlink l t a).Unlinks s := by
  unfold State.unlink
  split
  · exact h.dropLink
  · exact h
  · exact h.returnToCount.setLink
  · exact h.returnToCount.setLink

end State.Unlinks

/-- Every expected entry has left its link (R158). -/
theorem State.unlinkAll_links (s : State) (l : LinkState) (hl : l ≠ .notExpected) (as : List Addr) (b : Addr) :
    ((as.foldl (State.unlink l) s).entry b).link =
      if b ∈ as then brokenLink l (s.entry b).link else (s.entry b).link := by
  induction as generalizing s with
  | nil => rfl
  | cons a as ih =>
    have htwice (old : LinkState) : brokenLink l (brokenLink l old) = brokenLink l old := by
      unfold brokenLink
      by_cases ho : old = .notExpected <;> simp [ho, hl]
    rw [List.foldl_cons, ih, State.unlink_link]
    by_cases hb : b = a <;> by_cases hm : b ∈ as <;> simp [hb, hm, htwice]

theorem State.unlinkAll_unlinks (s : State) (l : LinkState) (as : List Addr) :
    (as.foldl (State.unlink l) s).Unlinks s :=
  List.foldlRecOn (motive := fun t => t.Unlinks s) as (State.unlink l) (.refl s) fun _ ht _ _ => ht.unlink

/-- No module is LINKED. -/
def State.Unlinked (s : State) : Prop := ∀ a, s.linkedAt a = false

/-- With nothing LINKED the queue does not grow. -/
theorem State.Unlinked.sources {s t : State} (hu : s.Unlinked) (h : t.KeepsBus s) (hq : s.QueueQuiet) {m : DownMsg}
    (hm : m ∈ t.mbi.queue) : ∃ m' ∈ s.mbi.queue, m'.source = m.source := by
  obtain hm' | ⟨c, -, hl⟩ := (h.bus hq).grows m hm
  · exact hm'
  · unfold State.linked at hl
    split at hl
    · next a _ => rw [hu a] at hl; cases hl
    · cases hl

theorem State.Unlinked.of_msu {s t : State} (hu : s.Unlinked) (h : t.msu = s.msu) : t.Unlinked := fun a => by
  rw [State.linkedAt_congr h]; exact hu a

/-- The queue after a removal (R154). -/
theorem State.mem_removeMsgs {s : State} {p : DownMsg → Bool} {m : DownMsg} :
    m ∈ (s.removeMsgs p).mbi.queue ↔ m ∈ s.mbi.queue ∧ p m = false := by
  unfold State.removeMsgs
  split
  · simp [State.dequeued, State.onMbi]
  · next h =>
    simp only [List.any_eq_true, not_exists, not_and, Bool.not_eq_true] at h
    exact ⟨fun hm => ⟨hm, h m hm⟩, fun hm => hm.1⟩

theorem State.removeMsgs_down (s : State) (p : DownMsg → Bool) :
    (s.removeMsgs p).mbi.down = DownChan.reset ∨
      (s.removeMsgs p).mbi.down = s.mbi.down ∧ ∀ m ∈ s.mbi.queue, m.sending = true → p m = false := by
  by_cases hstop : (s.mbi.queue.any fun m => p m && m.sending) = true
  · refine .inl ?_
    have hany : s.mbi.queue.any p = true := by
      obtain ⟨m, hm, hp⟩ := List.any_eq_true.mp hstop
      exact List.any_eq_true.mpr ⟨m, hm, (Bool.and_eq_true _ _ ▸ hp).1⟩
    unfold State.removeMsgs
    rw [if_pos hany]
    exact if_pos hstop
  · refine .inr ⟨?_, fun m hm hsend => Bool.eq_false_iff.mpr fun hp =>
      hstop (List.any_eq_true.mpr ⟨m, hm, by simp [hp, hsend]⟩)⟩
    unfold State.removeMsgs
    split
    · exact if_neg hstop
    · rfl

theorem State.removeMsgs_frame (s : State) (p : DownMsg → Bool) :
    (s.removeMsgs p).dsc = s.dsc ∧
      { (s.removeMsgs p).mbi with queue := [], down := DownChan.reset, departed := false } =
        { s.mbi with queue := [], down := DownChan.reset, departed := false } := by
  unfold State.removeMsgs
  split <;> exact ⟨rfl, rfl⟩

/-- With the door not LINKED a walk reaches neither the bus nor the orders. -/
theorem State.walk_unlinked {s : State} (hl : s.linked .door = false) :
    s.walk.mbi = s.mbi ∧ s.walk.dsc = s.dsc ∧ s.walk.settings = s.settings ∧ s.walk.msu = s.msu := by
  refine State.walk_keeps
    (P := fun t => t.mbi = s.mbi ∧ t.dsc = s.dsc ∧ t.settings = s.settings ∧ t.msu = s.msu) (fun t l _ h => ?_)
    (fun t l h => by simpa using h) ⟨rfl, rfl, rfl, rfl⟩
  have hg : ∀ u : State, u.mbi = s.mbi ∧ u.dsc = s.dsc ∧ u.settings = s.settings ∧ u.msu = s.msu →
      (u.granteeEvent l).mbi = s.mbi ∧ (u.granteeEvent l).dsc = s.dsc ∧ (u.granteeEvent l).settings = s.settings ∧
        (u.granteeEvent l).msu = s.msu := by
    intro u hu
    unfold State.granteeEvent
    split
    · have hm : u.askMove = u := by
        unfold State.askMove
        split
        · exact if_neg fun hc => by
            rw [State.linked_congr hu.2.2.1 hu.2.2.2, hl] at hc
            exact Bool.false_ne_true hc.2
        · rfl
      rw [hm]; exact hu
    · unfold State.fanGranted
      split <;> exact hu
    · unfold State.valveGranted
      dsimp only
      split <;> simpa using hu
    all_goals exact hu
  unfold State.grant
  split
  · simpa using h
  · exact hg _ (by simpa using h)

theorem State.release_unlinked {s : State} (hl : s.linked .door = false) (l : Load) :
    (s.release l).mbi = s.mbi ∧ (s.release l).dsc = s.dsc ∧ (s.release l).settings = s.settings ∧
      (s.release l).msu = s.msu := by
  unfold State.release
  split
  · exact ⟨rfl, rfl, rfl, rfl⟩
  · have hw := State.walk_unlinked (s := s.endClaim l) ((State.linked_congr (by simp) (by simp) _).trans hl)
    simpa using hw

theorem State.Unlinked.linked {s : State} (hu : s.Unlinked) (k : Kind) : s.linked k = false := by
  unfold State.linked
  split
  · exact hu _
  · rfl

/-- Dropped steps are counted at the cycle. -/
@[simp] theorem State.countDrop_other (s : State) (n : Nat) :
    (s.countDrop n).mbi = s.mbi ∧ (s.countDrop n).settings = s.settings ∧ (s.countDrop n).msu = s.msu ∧
      (s.countDrop n).dsc = s.dsc := by
  unfold State.countDrop
  split <;> exact ⟨rfl, rfl, rfl, rfl⟩

/-- A head that leaves the list with its module gone (R117): the bus and the other channel stay. -/
theorem State.removeHead_unlinked {s : State} (hu : s.Unlinked) (n : Nat) (c : Channel) :
    ((s.countDrop n).removeHead c).mbi = s.mbi ∧ ((s.countDrop n).removeHead c).settings = s.settings ∧
      ((s.countDrop n).removeHead c).msu = s.msu ∧
      ∀ d ≠ c, ((s.countDrop n).removeHead c).sentOrder d = s.sentOrder d := by
  have hlink : ((s.countDrop n).onChannel c fun r =>
      { r with orders := r.orders.drop 1, watchdogLeft := none, stop := false }).linked .door = false :=
    (State.linked_congr (by simp) (by simp) _).trans (hu.linked .door)
  obtain ⟨hm, hd, hs, hmsu⟩ := State.release_unlinked hlink (channelLoad c)
  refine ⟨hm.trans (by simp), hs.trans (by simp), hmsu.trans (by simp), fun d hne => ?_⟩
  refine (KeepsBus.sentOrder_congr hd d).trans ?_
  have hch : ((s.countDrop n).onChannel c fun r =>
      { r with orders := r.orders.drop 1, watchdogLeft := none, stop := false }).sentOrder d = (s.countDrop n).sentOrder d := by
    simp only [State.sentOrder, State.channel_onChannel, if_neg hne]
  refine hch.trans ?_
  exact KeepsBus.sentOrder_congr (by simp) d

/-- A channel whose module has left LINKED keeps no message in the queue (R117). -/
theorem State.channelLost_keepsBus {s : State} (hu : s.Unlinked) (c : Channel) :
    (s.channelLost c).KeepsBus s ∧ (s.QueueQuiet → ∀ m ∈ (s.channelLost c).mbi.queue, m.source ≠ .dsc c) := by
  by_cases hsent : ∃ o, s.sentOrder c = some o
  · obtain ⟨o, ho⟩ := hsent
    obtain ⟨rest, hord, hs⟩ := State.sentOrder_head ho
    have he : s.channelLost c =
        (((s.countDrop (orderSteps o)).removeHead c).removeMsgs (State.orderMsg c o.tag)).afterRemoval c := by
      simp only [State.channelLost, hord]
      exact if_pos hs
    have hh := State.removeHead_unlinked hu (orderSteps o) c
    generalize hv : (s.countDrop (orderSteps o)).removeHead c = v at he hh
    obtain ⟨hmbi, hset, hmsu, hother⟩ := hh
    have hfr := v.removeMsgs_frame (State.orderMsg c o.tag)
    have hdown := v.removeMsgs_down (State.orderMsg c o.tag)
    have hmem : ∀ {m}, m ∈ (v.removeMsgs (State.orderMsg c o.tag)).mbi.queue ↔
        m ∈ s.mbi.queue ∧ State.orderMsg c o.tag m = false := by
      intro m; rw [State.mem_removeMsgs, hmbi]
    have hmsu' : (v.removeMsgs (State.orderMsg c o.tag)).msu = s.msu := (v.removeMsgs_msu _).1.trans hmsu
    have hset' : (v.removeMsgs (State.orderMsg c o.tag)).settings = s.settings := (v.removeMsgs_msu _).2.trans hset
    generalize hw : v.removeMsgs (State.orderMsg c o.tag) = w at he hfr hdown hmem hmsu' hset'
    have hnone : s.QueueQuiet → ∀ m ∈ w.mbi.queue, m.source ≠ .dsc c := by
      intro hq m hm hsrc
      obtain ⟨d, o', hd, ho', hmsg⟩ := hq.sends m (hmem.mp hm).1
      obtain rfl : d = c := by simpa using hd.symm.trans hsrc
      obtain rfl : o' = o := by simpa using ho'.symm.trans ho
      exact Bool.false_ne_true ((hmem.mp hm).2.symm.trans hmsg)
    have hk : w.KeepsBus s := by
      refine ⟨hset', hmsu', fun hq => ⟨⟨⟨fun m hm => ?_, ?_⟩, fun hl => ?_⟩, hfr.2.trans (by rw [hmbi]),
        fun m hm => .inl ⟨m, (hmem.mp hm).1, rfl⟩⟩⟩
      · obtain ⟨d, o', hd, ho', hmsg⟩ := hq.sends m (hmem.mp hm).1
        have hne : d ≠ c := fun e => hnone hq m hm (e ▸ hd)
        exact ⟨d, o', hd, (KeepsBus.sentOrder_congr hfr.1 d).trans ((hother d hne).trans ho'), hmsg⟩
      · obtain hr | ⟨hr, hsend⟩ := hdown
        · exact .inl hr
        · rw [hmbi] at hr hsend
          obtain hd | ⟨m, hm, hs'⟩ := hq.down
          · exact .inl (hr.trans hd)
          · exact .inr ⟨m, hmem.mpr ⟨hm, hsend m hm hs'⟩, hs'⟩
      · exact absurd hl (by rw [(hu.of_msu hmsu').linked]; exact Bool.false_ne_true)
    have ha : (w.afterRemoval c).KeepsBus w := by
      cases c with
      | det => exact (KeepsBus.refl w).startOrder
      | ra => exact (KeepsBus.refl w).startOrder.flushTest
    rw [he]
    refine ⟨ha.trans hk, fun hq m hm hsrc => ?_⟩
    obtain ⟨m', hm', hsrc'⟩ := (hu.of_msu hmsu').sources ha (hk.bus hq).quiet hm
    exact hnone hq m' hm' (hsrc'.trans hsrc)
  · have hk : (s.channelLost c).KeepsBus s := by
      unfold State.channelLost
      split
      · exact .refl s
      · next o rest hord =>
        rw [if_neg fun hs => hsent ⟨o, by simp only [State.sentOrder, hord, hs, if_true]⟩]
        exact .cond (.refl s) fun hv => hv.markHead.release
    refine ⟨hk, fun hq m hm hsrc => ?_⟩
    obtain ⟨m', hm', hsrc'⟩ := hu.sources hk hq hm
    obtain ⟨d, o, hd, ho, -⟩ := hq.sends m' hm'
    have hdc : d = c := by
      have := hd.symm.trans (hsrc'.trans hsrc)
      simpa using this
    exact hsent ⟨o, hdc ▸ ho⟩

/-- A loss up to the last part of its owner's (R167). -/
def State.beforeGone (s : State) (a : Addr) : State :=
  let t := s.endCondition .moduleFault a.val
  let u := if s.owns a then t.ownerUnknown (s.kindAt a) else t
  u.raise .moduleLost a.val (u.lossClass a)

theorem State.takeLoss_eq (s : State) (a : Addr) :
    s.takeLoss a = if s.owns a then (s.beforeGone a).ownerGone (s.kindAt a) else s.beforeGone a := rfl

theorem State.beforeGone_keepsBus (s : State) (a : Addr) : (s.beforeGone a).KeepsBus s := by
  have hc := (KeepsBus.refl s).endCondition (code := .moduleFault) (detail := a.val)
  unfold State.beforeGone
  refine KeepsBus.raise (hc.cond (c := s.owns a = true) (f := fun v => v.ownerUnknown (s.kindAt a)) fun hv => ?_)
  cases s.kindAt a with
  | door => exact hv.doorUnknown
  | none => exact hv
  | softener => exact hv
  | doseDet => exact hv
  | doseRa => exact hv

/-- A loss taken while nothing is LINKED: the queue of its channel is empty after it (R167). -/
theorem State.takeLoss_keepsBus {s : State} (hu : s.Unlinked) (a : Addr) :
    (s.takeLoss a).KeepsBus s ∧ (s.QueueQuiet → ∀ c, s.moduleOf (channelKind c) = some a →
      ∀ m ∈ (s.takeLoss a).mbi.queue, m.source ≠ .dsc c) := by
  have hk := s.beforeGone_keepsBus a
  have hu3 := hu.of_msu hk.msu
  have hgone (k : Kind) : ((s.beforeGone a).ownerGone k).KeepsBus s := by
    cases k with
    | none => exact hk
    | door => exact hk.doorGone
    | softener => exact hk.softenerLost
    | doseDet => exact (State.channelLost_keepsBus hu3 .det).1.trans hk
    | doseRa => exact (State.channelLost_keepsBus hu3 .ra).1.trans hk
  refine ⟨.ite (hgone _) hk, fun hq c hm => ?_⟩
  have hkind := State.kindAt_of_moduleOf hm
  have howns : s.owns a = true := by
    simp only [State.owns, hkind, hm, Bool.and_eq_true, decide_eq_true_eq, and_true]
    cases c <;> simp [channelKind]
  have hgo : (s.beforeGone a).ownerGone (channelKind c) = (s.beforeGone a).channelLost c := by cases c <;> rfl
  have he : s.takeLoss a = (s.beforeGone a).channelLost c :=
    ((s.takeLoss_eq a).trans (if_pos howns)).trans ((congrArg _ hkind).trans hgo)
  rw [he]
  exact (State.channelLost_keepsBus hu3 c).2 (hk.bus hq).quiet

/-- The losses of a line break (R158, R167): with nothing LINKED the queue does not grow, and the messages of a channel
among them go. -/
theorem State.takeLosses_keepsBus {s : State} (hu : s.Unlinked) (hq : s.QueueQuiet) (as : List Addr) :
    (as.foldl State.takeLoss s).KeepsBus s ∧ (∀ c, ∀ a ∈ as, s.moduleOf (channelKind c) = some a →
      ∀ m ∈ (as.foldl State.takeLoss s).mbi.queue, m.source ≠ .dsc c) := by
  induction as generalizing s with
  | nil => exact ⟨.refl s, fun _ _ h => nomatch h⟩
  | cons a as ih =>
    obtain ⟨hk, hgone⟩ := State.takeLoss_keepsBus hu a
    have hu' := hu.of_msu hk.msu
    obtain ⟨hks, hrest⟩ := ih hu' (hk.bus hq).quiet
    refine ⟨hks.trans hk, fun c b hb hm m hmem hsrc => ?_⟩
    obtain rfl | hb := List.mem_cons.mp hb
    · obtain ⟨m', hm', hsrc'⟩ := hu'.sources hks (hk.bus hq).quiet hmem
      exact hgone hq c hm m' hm' (hsrc'.trans hsrc)
    · exact hrest c b hb ((State.moduleOf_congr hk.settings _).trans hm) m hmem hsrc

/-- The line break before the entries leave their links (R157, R158). -/
def State.brokenLine (s : State) : State :=
  if s.mbi.queue.any fun m => decide (m.source = .dvc) then s.stopLine.moved s.stopLine.dvc.lastReached 2#8 else s.stopLine

theorem State.breakLine_eq (s : State) (l : LinkState) : s.breakLine l = s.brokenLine.unlinkAll l := rfl

theorem State.stopLine_orders (s : State) : s.stopLine.OrdersQueue :=
  ⟨fun _ hm => absurd hm List.not_mem_nil, .inl rfl⟩

/-- A MOVE dropped from the queue is followed by messages of LINKED channels alone. -/
theorem State.brokenLine_spec (s : State) :
    s.brokenLine.settings = s.settings ∧ s.brokenLine.msu = s.msu ∧ s.brokenLine.OrdersQueue ∧
      { s.brokenLine.mbi with queue := [], down := DownChan.reset, departed := false } =
        { s.stopLine.mbi with queue := [], down := DownChan.reset, departed := false } ∧
      ∀ m ∈ s.brokenLine.mbi.queue, ∃ c, m.source = .dsc c ∧ s.linked (channelKind c) = true := by
  have hstop : s.stopLine.settings = s.settings ∧ s.stopLine.msu = s.msu ∧ s.stopLine.OrdersQueue ∧
      { s.stopLine.mbi with queue := [], down := DownChan.reset, departed := false } =
        { s.stopLine.mbi with queue := [], down := DownChan.reset, departed := false } ∧
      ∀ m ∈ s.stopLine.mbi.queue, ∃ c, m.source = .dsc c ∧ s.linked (channelKind c) = true :=
    ⟨rfl, rfl, s.stopLine_orders, rfl, fun _ hm => absurd hm List.not_mem_nil⟩
  unfold State.brokenLine
  split
  · by_cases ht : s.stopLine.movedTaken = true
    · have hq : s.stopLine.QueueQuiet := ⟨s.stopLine_orders, fun _ o target htask => by
        rw [State.movedTaken, htask] at ht; cases ht⟩
      have hk := (KeepsBus.refl s.stopLine).moved (reached := s.stopLine.dvc.lastReached) (reason := 2#8)
      refine ⟨hk.settings, hk.msu, (hk.bus hq).quiet.toOrdersQueue, (hk.bus hq).frame, fun m hm => ?_⟩
      obtain ⟨m', hm', -⟩ | h := (hk.bus hq).grows m hm
      · exact absurd hm' List.not_mem_nil
      · exact h
    · rw [State.moved, if_neg ht]
      exact hstop
  · exact hstop

theorem State.foreignBreak_entry (s : State) (a : Addr) : s.foreignBreak.entry a = s.entry a := by
  have h : s.foreignBreak.msu.entries = s.msu.entries := by
    simp only [State.foreignBreak, State.onMsu]
    cases s.msu.watch <;> rfl
  simp only [State.entry, h]

/-- Settles O33: no module is LINKED while the losses are taken, so nothing joins the queue then, and each channel's loss
takes its message away. -/
theorem lineBreakEmptiesTheBus : Obligations.LineBreakEmptiesTheBus := by
  intro s
  obtain ⟨hset, hmsu, hord, hframe, hsrc⟩ := s.brokenLine_spec
  have hUn := s.brokenLine.unlinkAll_unlinks .seeking allAddrs
  have hlinks := s.brokenLine.unlinkAll_links .seeking (by decide) allAddrs
  generalize hv : allAddrs.foldl (State.unlink .seeking) s.brokenLine = v at hUn hlinks
  have hlink (a : Addr) : (v.entry a).link = if (s.entry a).link = .notExpected then .notExpected else .seeking := by
    refine (hlinks a).trans ((if_pos (List.mem_finRange a)).trans ?_)
    rw [State.entry_congr hmsu]
    rfl
  have hu : v.Unlinked := fun a => by
    rw [State.linkedAt, hlink]
    split <;> rfl
  have hq : v.QueueQuiet := ⟨hUn.orders hord, fun hl => by rw [hu.linked] at hl; cases hl⟩
  obtain ⟨hk, hgone⟩ := State.takeLosses_keepsBus hu hq (allAddrs.filter s.brokenLine.linkedAt)
  have he : s.busReset.mbi = ((allAddrs.filter s.brokenLine.linkedAt).foldl State.takeLoss v).mbi := by rw [← hv]; rfl
  have hentry (a : Addr) : (s.busReset.entry a).link = (v.entry a).link := by
    refine congrArg Entry.link ((State.foreignBreak_entry _ a).trans ?_)
    rw [State.breakLine_eq, State.unlinkAll, hv]
    exact State.entry_congr hk.msu a
  generalize (allAddrs.filter s.brokenLine.linkedAt).foldl State.takeLoss v = w at hk hgone he
  have hkq := hk.bus hq
  have hnil : w.mbi.queue = [] := List.eq_nil_iff_forall_not_mem.mpr fun m hm => by
    obtain ⟨m', hm', hs'⟩ := hu.sources hk hq hm
    obtain ⟨m'', hm'', hs''⟩ := hUn.sources m' hm'
    obtain ⟨c, hc, hl⟩ := hsrc m'' hm''
    have hb : s.brokenLine.linked (channelKind c) = true := (State.linked_congr hset hmsu _).trans hl
    cases hmo : s.brokenLine.moduleOf (channelKind c) with
    | none => rw [State.linked, hmo] at hb; cases hb
    | some a =>
      rw [State.linked_of_moduleOf hmo] at hb
      exact hgone c a (List.mem_filter.mpr ⟨List.mem_finRange a, hb⟩) ((State.moduleOf_congr hUn.settings _).trans hmo) m hm
        ((hs'.symm.trans hs''.symm).trans hc)
  have hdown : w.mbi.down = DownChan.reset := by
    obtain h | ⟨m, hm, -⟩ := hkq.quiet.down
    · exact h
    · rw [hnil] at hm; cases hm
  have hparts := (congrArg (fun m : Mbi => { m with bays := s.brokenLine.mbi.bays }) hkq.frame).trans (hUn.frame.trans hframe)
  have hbay (a : Addr) : s.busReset.bay a = { candidate := none, accepted := none } := by
    have hw : s.busReset.bay a = v.bay a := by
      have hb : w.mbi.bays = v.mbi.bays := by simpa using congrArg Mbi.bays hkq.frame
      rw [State.bay, he, hb, State.bay]
    refine hw.trans ((hUn.bays a).elim (fun h => h.trans ?_) id)
    exact (congrArg (fun m : Mbi => m.bays.get a) hframe).trans (by simp [State.stopLine, State.onMbi, State.onLba])
  rw [he]
  refine ⟨congrArg Mbi.line hparts, congrArg Mbi.dn hparts, hnil, hdown, congrArg Mbi.grant hparts, congrArg Mbi.up hparts,
    fun a => ?_, fun a => (hentry a).trans (hlink a)⟩
  rw [hbay a]
  exact ⟨rfl, rfl⟩
end Sys2Proof.Machine
end

section
-- The proofs are elaborated one after the other: each of the many threads of a parallel run holds a stack of its own.
set_option Elab.async false
/-! PROOFS. Bring-up, links and losses (O53). -/

namespace Sys2Proof.Machine

open Sys2Proof

/-! ### Bring-up, links and losses (O53) -/

/-- Two changes of one entry are one. -/
theorem State.onEntry_onEntry (s : State) (a : Addr) (f g : Entry → Entry) :
    (s.onEntry a f).onEntry a g = s.onEntry a (fun e => g (f e)) := by
  simp [State.onEntry, State.onMsu, Vector.get_eq_getElem]

theorem State.entry_onEntry_self (s : State) (a : Addr) (f : Entry → Entry) : (s.onEntry a f).entry a = f (s.entry a) := by
  simp

/-- An entry that is sought or lost is neither LINKED nor not expected. -/
theorem State.bringingUp {s : State} {a : Addr} (h : (s.entry a).link = .seeking ∨ (s.entry a).link = .lost) :
    (s.entry a).link ≠ .linked ∧ (s.entry a).link ≠ .notExpected := by
  obtain h | h := h <;> simp [h]

/-- The fresh start of an entry: its record, and the waiting query (R162). -/
theorem State.restartBringUp_eq (s : State) (a : Addr) :
    s.restartBringUp a =
      (s.onEntry a fun e => { e with bringUp := .count 0, silent := 0, unpinLeft := none, wantQuery := false }).removeMsgs
        fun m => decide (m.dest = a) && decide (m.source = .msu) && !m.sending := by
  rw [State.restartBringUp, State.withdrawQuery, State.onEntry_onEntry]

theorem State.entry_removeMsgs (s : State) (p : DownMsg → Bool) (a : Addr) : (s.removeMsgs p).entry a = s.entry a :=
  State.entry_congr (s.removeMsgs_msu p).1 a

theorem State.entry_endCondition (s : State) (code : FaultCode) (d : Nat) (a : Addr) :
    (s.endCondition code d).entry a = s.entry a := State.entry_congr (by simp) a

theorem State.entry_returnToCount (s : State) (a : Addr) :
    (s.returnToCount a).entry a =
      { s.entry a with bringUp := .count 0, silent := 0, unpinLeft := none, wantQuery := false } := by
  rw [State.returnToCount, State.entry_endCondition, State.restartBringUp_eq, State.entry_removeMsgs,
    State.entry_onEntry_self]

/-- A query asked for leaves the entry but for the mark that it is wanted (R162). -/
theorem State.entry_askQuery (s : State) (a : Addr) :
    ∃ w, (s.askQuery a).entry a = { s.entry a with wantQuery := w } := by
  have h := State.entry_congr (show (s.enqueue a .capsQuery .msu).1.msu = s.msu by simp) a
  unfold State.askQuery
  split <;> rename_i t he <;> rw [he] at h <;> rw [State.entry_onEntry_self, h]
  · exact ⟨false, rfl⟩
  · exact ⟨true, rfl⟩

/-- With no answer awaited a frame counts nothing (R162, R166). -/
theorem State.countAnswer_idle {s : State} {a : Addr} (hb : ∀ n, (s.entry a).bringUp ≠ .answer n)
    (hu : (s.entry a).unpinLeft = none) : s.countAnswer a = s := by
  unfold State.countAnswer
  split
  · next n he => exact absurd he (hb n)
  · next n hn _ => rw [hu] at hn; cases hn
  · rfl

theorem State.countAnswer_returned (s : State) (a : Addr) : (s.returnToCount a).countAnswer a = s.returnToCount a :=
  State.countAnswer_idle (by rw [State.entry_returnToCount]; exact fun _ h => by cases h) (by rw [State.entry_returnToCount])

/-- One frame of an answer awaited (R162). -/
theorem State.countAnswer_answer {s : State} {a : Addr} {n : Nat} (hl : (s.entry a).link = .seeking ∨ (s.entry a).link = .lost)
    (hb : (s.entry a).bringUp = .answer n) :
    s.countAnswer a = if n ≤ 1 then s.returnToCount a else s.onEntry a fun e => { e with bringUp := .answer (n - 1) } := by
  unfold State.countAnswer
  simp only [hb]
  congr 1
  unfold State.expireAnswer
  obtain h | h := hl <;> simp [h, hb]

/-- A silent bay of an entry that is asked or in MISMATCH (R162). -/
theorem State.missBay_silent {s : State} {a : Addr} (hb : ∀ n, (s.entry a).bringUp ≠ .count n) : s.missBay a = s.silentBay a := by
  unfold State.missBay
  split
  · next n h => exact absurd h (hb n)
  all_goals rfl

/-- A good bay at an entry that is being brought up (R162). -/
theorem State.goodBay_bringUp {s : State} {a : Addr} (hl : (s.entry a).link = .seeking ∨ (s.entry a).link = .lost)
    (b : StatusBits) :
    s.goodBay a b = ((s.onEntry a fun e => { e with status := some b }).seeBay a b.ready).countAnswer a := by
  have he : ((s.onEntry a fun e => { e with status := some b }).entry a).link = (s.entry a).link := by simp
  unfold State.goodBay
  dsimp only
  rw [he]
  obtain h | h := hl <;> rw [h]

theorem State.takeBay_bad {up : UpFrame} {a : Addr} (h : State.bayGood up a = false) (s : State) :
    State.takeBay up s a = (s.onBay a fun b => { b with candidate := none }).badBay a := if_neg (by simp [h])

theorem State.badBay_bringUp {s : State} {a : Addr} (hl : (s.entry a).link = .seeking ∨ (s.entry a).link = .lost) :
    s.badBay a =
      ((s.onEntry a fun e => { e with bayErrors := min 65535 (e.bayErrors + 1) }).missBay a).countAnswer a := by
  have he : ((s.onEntry a fun e => { e with bayErrors := satAdd 65535 e.bayErrors 1 }).entry a).link = (s.entry a).link := by
    simp
  unfold State.badBay
  dsimp only
  rw [he]
  obtain h | h := hl <;> rw [h] <;> rfl

/-- MFAULT of a good bay at a LINKED entry (R168). -/
theorem State.readMfault_cases (s : State) (a : Addr) (m : Bool) :
    (m = false → s.readMfault a m = (s.onEntry a fun e => { e with linkMfault := some m }).endCondition .moduleFault a.val) ∧
    (m = true → (s.entry a).linkMfault ≠ some true →
      s.readMfault a m = (s.onEntry a fun e => { e with linkMfault := some m }).warn .moduleFault a.val) ∧
    (m = true → (s.entry a).linkMfault = some true → s.readMfault a m = s.onEntry a fun e => { e with linkMfault := some m }) := by
  refine ⟨fun h => ?_, fun h hf => ?_, fun h hf => ?_⟩ <;> subst h
  · rfl
  · exact if_pos (by simp [hf])
  · exact (if_neg (by simp [hf])).trans (if_pos rfl)

theorem State.kindAt_congr {s t : State} (h : t.settings = s.settings) (a : Addr) : t.kindAt a = s.kindAt a := by
  simp only [State.kindAt, State.num_congr h]

@[simp] theorem State.entry_onBay (s : State) (a b : Addr) (f : Bay → Bay) : (s.onBay a f).entry b = s.entry b := rfl

/-- A link state that changes to or from LINKED (R146, R160). -/
theorem State.setLink_crosses {s : State} {a : Addr} {l : LinkState} (hne : (s.entry a).link ≠ l)
    (hc : s.linkedAt a ≠ decide (l = .linked)) (reported : Option Octet) :
    s.setLink a l reported =
      ((s.onEntry a fun e => { e with link := l }).onBay a fun _ => { candidate := none, accepted := none }).place
        (.module a (s.kindAt a) l reported) := by
  rw [State.setLink, if_neg hne, State.putLink, if_pos (by simpa using hc), State.noteModule]
  exact congrArg (State.place _) (by simp [State.kindAt, State.num, State.val])

/-- A LINKED entry that leaves LINKED (R146, R167). -/
theorem State.dropLink_eq {s : State} {a : Addr} (hl : (s.entry a).link = .linked) {l : LinkState} (hne : l ≠ .linked)
    (p : BringUp) (reported : Option Octet) :
    s.dropLink a l p reported =
      (((((s.onEntry a fun e =>
        { e with bringUp := .count 0, silent := 0, unpinLeft := none, wantQuery := false }).removeMsgs
          fun m => decide (m.dest = a) && decide (m.source = .msu) && !m.sending).onEntry a fun e =>
            { e with
              bringUp := p, silent := if p = BringUp.mismatch then (s.entry a).silent else 0, lossMark := true
              linkMfault := none, link := l }).onBay a fun _ =>
              { candidate := none, accepted := none }).place (.module a (s.kindAt a) l reported)) := by
  have hsil : s.silentAfter a p = if p = BringUp.mismatch then (s.entry a).silent else 0 := by cases p <;> simp [State.silentAfter]
  have hr : ((s.restartBringUp a).entry a).link = .linked := (State.restartBringUp_link s a a).trans hl
  rw [State.dropLink, hsil, ← State.restartBringUp_eq]
  generalize hv : s.restartBringUp a = v at hr
  have hk : v.kindAt a = s.kindAt a := by
    rw [← hv, State.restartBringUp_eq]
    exact State.kindAt_congr (State.removeMsgs_msu _ _).2 a
  rw [State.setLink_crosses (by rw [State.entry_onEntry_self]; exact fun e => hne (e.symm.trans hr))
    (by simp [State.linkedAt, hr, hne]), State.onEntry_onEntry, ← hk]
  rfl

/-- The entry that becomes LINKED (R146, R164). -/
theorem State.link_eq {s : State} {a : Addr} (hl : (s.entry a).link ≠ .linked) :
    s.link a =
      (let t := ((((s.onEntry a fun e =>
          { e with
            bringUp := .count 0, lossMark := false, unpinLeft := none, wantQuery := false, linkMfault := none
            link := .linked }).onBay a fun _ => { candidate := none, accepted := none }).place
              (.module a (s.kindAt a) .linked none)).endCondition .moduleLost a.val).choose;
        if s.kindAt a = Kind.softener ∧ s.moduleOf .softener = some a then t.softenerLinked else t) := by
  have hset : (s.onEntry a fun e =>
      { e with bringUp := .count 0, lossMark := false, unpinLeft := none, wantQuery := false, linkMfault := none }).setLink a
        .linked none =
      (((s.onEntry a fun e =>
        { e with
          bringUp := .count 0, lossMark := false, unpinLeft := none, wantQuery := false, linkMfault := none
          link := .linked }).onBay a fun _ => { candidate := none, accepted := none }).place
            (.module a (s.kindAt a) .linked none)) := by
    rw [State.setLink_crosses (by simpa using hl) (by simp [State.linkedAt, hl]), State.onEntry_onEntry]
    rfl
  unfold State.link
  rw [hset]
  extract_lets t u v
  have hsv : v.settings = s.settings := by simp [v]
  have hk : v.kindAt a = s.kindAt a := State.kindAt_congr hsv a
  have hm (k : Kind) : v.moduleOf k = s.moduleOf k := State.moduleOf_congr hsv k
  rw [State.owns, hk, hm]
  by_cases hks : s.kindAt a = .softener
  · simp [hks, State.ownerLinked, v, u, t]
  · have hown : v.ownerLinked (s.kindAt a) = v := by
      cases hk' : s.kindAt a with
      | softener => exact absurd hk' hks
      | none => rfl
      | door => rfl
      | doseDet => rfl
      | doseRa => rfl
    have hr : ¬ (s.kindAt a = .softener ∧ s.moduleOf .softener = some a) := fun h => hks h.1
    refine Eq.trans ?_ (if_neg hr).symm
    rw [hown, ite_self]

/-! #### The owners' part of a loss (R81, R117, R137, R167) -/

theorem State.owns_iff (s : State) (a : Addr) : s.owns a = true ↔ s.kindAt a ≠ .none ∧ s.moduleOf (s.kindAt a) = some a := by
  simp [State.owns]

/-- The module of a kind that has an owner. -/
theorem State.owns_of_moduleOf {s : State} {k : Kind} {a : Addr} (hk : k ≠ .none) (h : s.moduleOf k = some a) :
    s.owns a = true ∧ s.kindAt a = k := by
  have hkind := State.kindAt_of_moduleOf h
  exact ⟨(s.owns_iff a).mpr ⟨hkind ▸ hk, hkind ▸ h⟩, hkind⟩

theorem State.takeLoss_owned {s : State} {k : Kind} {a : Addr} (hk : k ≠ .none) (h : s.moduleOf k = some a) :
    s.takeLoss a =
      (let t := (s.endCondition .moduleFault a.val).ownerUnknown k
       (t.raise .moduleLost a.val (t.lossClass a)).ownerGone k) := by
  obtain ⟨hown, hkind⟩ := State.owns_of_moduleOf hk h
  rw [State.takeLoss_eq, State.beforeGone, if_pos hown, if_pos hown, hkind]

theorem State.lossClass_congr {s t : State} (h : t.settings = s.settings) (a : Addr) : t.lossClass a = s.lossClass a := by
  simp only [State.lossClass, State.moduleOf_congr h]

theorem State.lossClass_door {s : State} {a : Addr} (h : s.moduleOf .door = some a) : s.lossClass a = .stop := if_pos h

theorem State.lossClass_other {s : State} {a : Addr} (h : s.kindAt a ≠ .door) : s.lossClass a = .warning :=
  if_neg fun hm => h (State.kindAt_of_moduleOf hm)

/-- The loss of a kind other than the door (R167). -/
theorem State.takeLoss_other {s : State} {k : Kind} {a : Addr} (hk : k ≠ .none) (hd : k ≠ .door) (h : s.moduleOf k = some a) :
    s.takeLoss a = ((s.endCondition .moduleFault a.val).raise .moduleLost a.val .warning).ownerGone k := by
  have hu : (s.endCondition .moduleFault a.val).ownerUnknown k = s.endCondition .moduleFault a.val := by
    cases k with
    | door => exact absurd rfl hd
    | none => rfl
    | softener => rfl
    | doseDet => rfl
    | doseRa => rfl
  have hc : (s.endCondition .moduleFault a.val).lossClass a = .warning :=
    (State.lossClass_congr (by simp) a).trans (State.lossClass_other ((State.kindAt_of_moduleOf h).trans_ne hd))
  rw [State.takeLoss_owned hk h]
  dsimp only
  rw [hu, hc]

theorem State.takeLoss_door {s : State} {a : Addr} (h : s.moduleOf .door = some a) :
    s.takeLoss a = ((s.endCondition .moduleFault a.val).doorUnknown.raise .moduleLost a.val .stop).doorGone := by
  have hset := ((KeepsBus.refl (s.endCondition .moduleFault a.val)).doorUnknown).settings.trans
    (show (s.endCondition .moduleFault a.val).settings = s.settings by simp)
  have hc : (s.endCondition .moduleFault a.val).doorUnknown.lossClass a = .stop :=
    (State.lossClass_congr hset a).trans (State.lossClass_door h)
  rw [State.takeLoss_owned (by decide) h]
  exact congrArg (fun c => ((s.endCondition .moduleFault a.val).doorUnknown.raise .moduleLost a.val c).doorGone) hc

/-- The loss of an address that is no kind's module (R167). -/
theorem State.takeLoss_unowned {s : State} {a : Addr} (h : s.kindAt a = .none ∨ s.moduleOf (s.kindAt a) ≠ some a) :
    s.takeLoss a = (s.endCondition .moduleFault a.val).raise .moduleLost a.val .warning := by
  have hown : ¬ s.owns a = true := fun ho => by
    obtain ⟨hk, hm⟩ := (s.owns_iff a).mp ho
    exact h.elim hk fun hne => hne hm
  have hnd : s.moduleOf .door ≠ some a := fun hm => hown (State.owns_of_moduleOf (by decide) hm).1
  have hc : (s.endCondition .moduleFault a.val).lossClass a = .warning :=
    (State.lossClass_congr (by simp) a).trans (if_neg hnd)
  rw [State.takeLoss_eq, if_neg hown, State.beforeGone, if_neg hown]
  exact congrArg _ hc

theorem State.askMove_sfc (s : State) : s.askMove.sfc = s.sfc := by
  unfold State.askMove
  split
  · next origin target a _ _ =>
    have h : (s.enqueue a (.move target) .dvc).1.sfc = s.sfc := by simp
    split
    · split <;> rename_i e <;> rw [e] at h <;> exact h
    · rfl
  · rfl

/-- A walk leaves the trigger that an alignment keeps (R73). -/
theorem State.walk_keptTrigger (s : State) : s.walk.sfc.keptTrigger = s.sfc.keptTrigger := by
  refine State.walk_keeps (P := fun t => t.sfc.keptTrigger = s.sfc.keptTrigger) (fun t l _ h => ?_)
    (fun t l h => by simpa using h) rfl
  have hg (u : State) : (u.granteeEvent l).sfc.keptTrigger = u.sfc.keptTrigger := by
    unfold State.granteeEvent
    split
    · rw [State.askMove_sfc]
    · unfold State.fanGranted
      split <;> rfl
    · unfold State.valveGranted
      dsimp only
      split <;> simp [State.onSfc]
    all_goals rfl
  unfold State.grant
  split
  · simpa using h
  · exact (hg _).trans (by simpa using h)

theorem State.release_keptTrigger (s : State) (l : Load) : (s.release l).sfc.keptTrigger = s.sfc.keptTrigger := by
  unfold State.release
  split
  · rfl
  · exact (State.walk_keptTrigger _).trans (by simp)

/-- The softener's part of a loss (R81). -/
theorem State.softenerLost_cases (s : State) :
    (let t := ({ s with sfc := { s.sfc with alignHeld := false } } : State);
      (s.sfc.changeover = .pending →
        s.softenerLost = ({ t with sfc := { t.sfc with changeover := .due } }).warn .softenerExhausted 0) ∧
      (s.sfc.changeover = .claimed →
        s.softenerLost =
          ((t.release .valveMotor).onSfc fun x => { x with changeover := .due }).warn .softenerExhausted 0) ∧
      (s.sfc.changeover = .aligning → s.sfc.keptTrigger = false →
        s.softenerLost = (t.release .valveMotor).onSfc fun x => { x with changeover := .none, moveLeft := none }) ∧
      ((s.sfc.changeover = .none ∨ s.sfc.changeover = .due ∨ s.sfc.changeover = .moving ∨
        s.sfc.changeover = .returning) → s.softenerLost = t)) := by
  intro t
  have ht : s.freeAlignment = t := rfl
  have he : t.sfc.changeover = s.sfc.changeover := rfl
  unfold State.softenerLost
  dsimp only
  rw [ht, he]
  refine ⟨fun h => ?_, fun h => ?_, fun h hk => ?_, fun h => ?_⟩
  · rw [h]
    rfl
  · rw [h]
    rfl
  · rw [h]
    exact if_neg (by rw [State.release_keptTrigger]; simp [t, hk])
  · obtain h | h | h | h := h <;> rw [h]

/-- The messages of a dose order (R117, R148). -/
theorem State.orderMsg_eq (c : Channel) (tag : Octet) (m : DownMsg) :
    State.orderMsg c tag m =
      (decide (m.source = .dsc c) && (match m.body with
        | .dose t _ => decide (t = tag)
        | .prime t _ => decide (t = tag)
        | .move _ => false
        | .capsQuery => false)) := by
  unfold State.orderMsg
  obtain ⟨dest, body, source, sending⟩ := m
  cases source <;> cases body <;> simp

/-- The door's part of a loss before MODULE_LOST (R39, R137). -/
theorem State.doorUnknown_eq (s : State) :
    (let t := (if s.retracting = true then
          ({ s with dvc := { s.dvc with task := .none, retract := false } }).release .doorDrive else s);
      let u := ({ t with dvc := { t.dvc with door := .unknown, bits := none, releaseLeft := none } } : State);
      let v := (if s.dvc.door = .unknown ∧ s.dvc.bits = none ∧ s.retracting = false then u else u.noteDoor none).cycleDoor;
      s.doorUnknown =
        if v.csq.phase = CycleState.rinseWait ∧ v.csq.rinseWait.confirmed = false then
          v.raise .doorLatchFail 0 .stop
        else v) := by
  intro t u v
  have hv : (if (decide (s.dvc.door ≠ .unknown) || s.dvc.bits.isSome || s.retracting) = true then u.noteDoor none else u).cycleDoor
      = v := by
    refine congrArg State.cycleDoor ?_
    by_cases hc : s.dvc.door = .unknown ∧ s.dvc.bits = none ∧ s.retracting = false
    · rw [if_pos hc, if_neg (by simp [hc])]
    · rw [if_neg hc, if_pos]
      by_contra hn
      simp only [Bool.or_eq_true, decide_eq_true_eq, not_or, not_not, Bool.not_eq_true, Option.isSome_eq_false_iff,
        Option.isNone_iff_eq_none] at hn
      exact hc ⟨hn.1.1, hn.1.2, hn.2⟩
  rw [← hv]
  rfl

theorem State.onChannel_eq {s : State} {c : Channel} {f g : ChannelRec → ChannelRec} (h : f (s.channel c) = g (s.channel c)) :
    s.onChannel c f = s.onChannel c g := by
  cases c
  case det => exact congrArg (fun r => s.onDsc fun d => { d with det := r }) h
  case ra => exact congrArg (fun r => s.onDsc fun d => { d with ra := r }) h

/-- A channel's part of a loss (R117). -/
theorem State.channelLost_cases (s : State) (c : Channel) :
    ((s.channel c).orders = [] → s.channelLost c = s) ∧
    ∀ (o : Order) (rest : List Order), (s.channel c).orders = o :: rest →
      (o.state = .queued → o.started = false → s.channelLost c = s) ∧
      (o.state = .queued → o.started = true →
        s.channelLost c =
          (s.onChannel c fun r => { r with orders := { o with started := false } :: rest }).release (channelLoad c)) ∧
      (o.state = .sent →
        (let t := ((((s.countDrop (orderSteps o)).onChannel c fun r =>
            { r with orders := rest, watchdogLeft := none, stop := false }).release (channelLoad c)).removeMsgs
              (State.orderMsg c o.tag));
          (c = .det → s.channelLost c = t.startOrder .det) ∧ (c = .ra → s.channelLost c = (t.startOrder .ra).flushTest))) := by
  refine ⟨fun h => ?_, fun o rest h => ⟨fun hq hs => ?_, fun hq hs => ?_, fun hsent => ?_⟩⟩
  · rw [State.channelLost, h]
  · rw [State.channelLost, h]
    exact (if_neg (by rw [hq]; decide)).trans (if_neg (by rw [hs]; decide))
  · rw [State.channelLost, h]
    refine (if_neg (by rw [hq]; decide)).trans ((if_pos hs).trans (congrArg (fun t => State.release t (channelLoad c)) ?_))
    exact State.onChannel_eq (by simp only [h])
  · intro t
    have hd : ((s.countDrop (orderSteps o)).channel c).orders.drop 1 = rest := by
      rw [State.channel_congr (s := s) (s.countDrop_other _).2.2.2, h]
      rfl
    have ht : (((s.countDrop (orderSteps o)).removeHead c).removeMsgs (State.orderMsg c o.tag)) = t := by
      refine congrArg (fun u => (State.release u (channelLoad c)).removeMsgs (State.orderMsg c o.tag)) ?_
      exact State.onChannel_eq (by rw [hd])
    have he : s.channelLost c = t.afterRemoval c := by
      rw [State.channelLost, h, ← ht]
      exact if_pos hsent
    exact ⟨fun hc => by subst hc; exact he, fun hc => by subst hc; exact he⟩
/-- A good bay at an entry that is not LINKED, or whose module reports READY 0 (R162, R167). -/
theorem State.goodBay_unexpected {s : State} {a : Addr} (h : (s.entry a).link = .notExpected) (b : StatusBits) :
    s.goodBay a b = s.onEntry a fun e => { e with status := some b } := by
  unfold State.goodBay
  dsimp only
  rw [State.entry_onEntry_self, h]

theorem State.goodBay_linked {s : State} {a : Addr} (h : (s.entry a).link = .linked) (b : StatusBits) :
    s.goodBay a b =
      (let t := s.onEntry a fun e => { e with status := some b }
       if b.ready then ((t.onEntry a fun e => { e with silent := 0 }).readMfault a b.mfault).countAnswer a
       else t.lose a .lost (.count 0) none) := by
  unfold State.goodBay
  dsimp only
  rw [State.entry_onEntry_self, h]

theorem State.entry_readMfault (s : State) (a : Addr) (m : Bool) :
    (s.readMfault a m).entry a = { s.entry a with linkMfault := some m } := by
  have hr : (s.onEntry a fun e => { e with linkMfault := some m }).entry a = { s.entry a with linkMfault := some m } :=
    State.entry_onEntry_self s a _
  unfold State.readMfault
  dsimp only
  split
  · exact (State.entry_congr (by simp) a).trans hr
  · split
    · exact hr
    · exact (State.entry_endCondition _ _ _ _).trans hr

/-- A frame of an entry that is not being asked counts nothing after its good bay (R162, R168). -/
theorem State.goodBay_reads {s : State} {a : Addr} {b : StatusBits} (hun : (s.entry a).unpinLeft = none)
    (hl : (s.entry a).link = .linked) (hr : b.ready = true) (hc : (s.entry a).bringUp = .count 0) :
    (let u := (s.onEntry a fun e => { e with status := some b }).onEntry a fun e =>
        { e with silent := 0, linkMfault := some b.mfault };
      (b.mfault = false → s.goodBay a b = u.endCondition .moduleFault a.val) ∧
      (b.mfault = true → (s.entry a).linkMfault ≠ some true → s.goodBay a b = u.warn .moduleFault a.val) ∧
      (b.mfault = true → (s.entry a).linkMfault = some true → s.goodBay a b = u)) := by
  intro u
  obtain ⟨hend, hwarn, hstay⟩ :=
    ((s.onEntry a fun e => { e with status := some b }).onEntry a fun e => { e with silent := 0 }).readMfault_cases a b.mfault
  have hu : (((s.onEntry a fun e => { e with status := some b }).onEntry a fun e => { e with silent := 0 }).onEntry a fun e =>
      { e with linkMfault := some b.mfault }) = u := by
    simp only [u, State.onEntry_onEntry]
  have hg : s.goodBay a b =
      ((s.onEntry a fun e => { e with status := some b }).onEntry a fun e => { e with silent := 0 }).readMfault a b.mfault := by
    rw [State.goodBay_linked hl]
    refine (if_pos hr).trans (State.countAnswer_idle ?_ ?_) <;>
      rw [State.entry_readMfault, State.entry_onEntry_self, State.entry_onEntry_self]
    · rw [hc]; exact fun _ h => by cases h
    · exact hun
  rw [hg, ← hu]
  rw [State.entry_onEntry_self, State.entry_onEntry_self] at hwarn hstay
  exact ⟨hend, hwarn, hstay⟩

/-- A good bay in COUNT (R162). -/
theorem State.goodBay_counts {s : State} {a : Addr} {b : StatusBits} {n : Nat} (hun : (s.entry a).unpinLeft = none)
    (hl : (s.entry a).link = .seeking ∨ (s.entry a).link = .lost) (hc : (s.entry a).bringUp = .count n) :
    (let t := s.onEntry a fun e => { e with status := some b };
      (b.ready = false → s.goodBay a b = t.onEntry a fun e => { e with bringUp := .count 0 }) ∧
      (b.ready = true → n + 1 < 8 → s.goodBay a b = t.onEntry a fun e => { e with bringUp := .count (n + 1) }) ∧
      (b.ready = true → 8 ≤ n + 1 →
        s.goodBay a b = (t.onEntry a fun e => { e with bringUp := .query, silent := 0 }).askQuery a)) := by
  intro t
  have hct : (t.entry a).bringUp = .count n := by simp only [t, State.entry_onEntry_self, hc]
  have hut : (t.entry a).unpinLeft = none := by simp only [t, State.entry_onEntry_self, hun]
  have hidle (f : Entry → Entry) (hf : ∀ k, (f (t.entry a)).bringUp ≠ .answer k) (hu : (f (t.entry a)).unpinLeft = none) :
      (t.onEntry a f).countAnswer a = t.onEntry a f :=
    State.countAnswer_idle (by rw [State.entry_onEntry_self]; exact hf) (by rw [State.entry_onEntry_self]; exact hu)
  rw [State.goodBay_bringUp hl]
  refine ⟨fun hr => ?_, fun hr hn => ?_, fun hr hn => ?_⟩
  · have hsee : t.seeBay a b.ready = t.onEntry a fun e => { e with bringUp := .count 0 } := by
      simp only [State.seeBay, hct, hr]
    exact (congrArg (fun u => State.countAnswer u a) hsee).trans (hidle _ (fun _ h => by cases h) hut)
  · have hsee : t.seeBay a b.ready = t.onEntry a fun e => { e with bringUp := .count (n + 1) } := by
      simp only [State.seeBay, hct, hr]
      exact if_neg (by omega)
    exact (congrArg (fun u => State.countAnswer u a) hsee).trans (hidle _ (fun _ h => by cases h) hut)
  · have hsee : t.seeBay a b.ready = (t.onEntry a fun e => { e with bringUp := .query, silent := 0 }).askQuery a := by
      simp only [State.seeBay, hct, hr]
      exact if_pos hn
    obtain ⟨w, hw⟩ := State.entry_askQuery (t.onEntry a fun e => { e with bringUp := .query, silent := 0 }) a
    rw [State.entry_onEntry_self] at hw
    exact (congrArg (fun u => State.countAnswer u a) hsee).trans
      (State.countAnswer_idle (by rw [hw]; exact fun _ h => by cases h) (by rw [hw]; exact hut))

/-- A good bay in QUERY, ANSWER or MISMATCH (R162). -/
theorem State.goodBay_asked {s : State} {a : Addr} {b : StatusBits}
    (hl : (s.entry a).link = .seeking ∨ (s.entry a).link = .lost) (hc : ∀ n, (s.entry a).bringUp ≠ .count n) :
    (let t := s.onEntry a fun e => { e with status := some b };
      (b.ready = false → s.goodBay a b = t.returnToCount a) ∧
      (b.ready = true → s.goodBay a b = (t.onEntry a fun e => { e with silent := 0 }).countAnswer a)) := by
  intro t
  have hct : ∀ n, (t.entry a).bringUp ≠ .count n := by simpa only [t, State.entry_onEntry_self] using hc
  have hsee : (b.ready = false → t.seeBay a b.ready = t.returnToCount a) ∧
      (b.ready = true → t.seeBay a b.ready = t.onEntry a fun e => { e with silent := 0 }) := by
    unfold State.seeBay
    cases hb : (t.entry a).bringUp with
    | count n => exact absurd hb (hct n)
    | query => exact ⟨fun h => by rw [h], fun h => by rw [h]⟩
    | answer n => exact ⟨fun h => by rw [h], fun h => by rw [h]⟩
    | mismatch => exact ⟨fun h => by rw [h], fun h => by rw [h]⟩
  rw [State.goodBay_bringUp hl]
  exact ⟨fun h => (congrArg (fun u => State.countAnswer u a) (hsee.1 h)).trans (State.countAnswer_returned t a),
    fun h => congrArg (fun u => State.countAnswer u a) (hsee.2 h)⟩

/-- A bad bay in QUERY, ANSWER or MISMATCH (R162). -/
theorem State.badBay_asked {s : State} {a : Addr} (hl : (s.entry a).link = .seeking ∨ (s.entry a).link = .lost)
    (hc : ∀ n, (s.entry a).bringUp ≠ .count n) :
    (let t := s.onEntry a fun e => { e with bayErrors := min 65535 (e.bayErrors + 1) };
      s.badBay a =
        if 16 ≤ (s.entry a).silent + 1 then t.returnToCount a
        else (t.onEntry a fun e => { e with silent := e.silent + 1 }).countAnswer a) := by
  intro t
  have hct : ∀ n, (t.entry a).bringUp ≠ .count n := by simpa only [t, State.entry_onEntry_self] using hc
  have hst : (t.entry a).silent = (s.entry a).silent := by simp only [t, State.entry_onEntry_self]
  rw [State.badBay_bringUp hl]
  refine (congrArg (fun u => State.countAnswer u a) (State.missBay_silent hct)).trans ?_
  unfold State.silentBay
  rw [hst]
  by_cases h : 16 ≤ (s.entry a).silent + 1
  · rw [if_pos (show Config.silentLimit ≤ _ from h), if_pos h]
    exact State.countAnswer_returned t a
  · rw [if_neg (show ¬ Config.silentLimit ≤ _ from h), if_neg h]

/-- What a CAPS brings at an entry that takes it (R164). -/
theorem State.capsMessage_takes {s : State} {a : Addr} (h : s.takesCaps a = true) (body : Vector Octet 6) :
    (∀ c, State.readCaps (s.kindAt a) body = some c → s.capsMessage a body = s.takeCaps a c) ∧
      (State.readCaps (s.kindAt a) body = none → s.capsMessage a body = s.mismatch a (body.get 0)) := by
  unfold State.capsMessage
  rw [if_pos h]
  exact ⟨fun c hc => by rw [hc], fun hc => by rw [hc]⟩

theorem State.takesCaps_linked {s : State} {a : Addr} (h : (s.entry a).link = .linked) : s.takesCaps a = true := by
  simp only [State.takesCaps, h]

theorem State.takesCaps_asked {s : State} {a : Addr} (hl : (s.entry a).link = .seeking ∨ (s.entry a).link = .lost)
    (hb : (s.entry a).bringUp = .query ∨ ∃ n, (s.entry a).bringUp = .answer n) : s.takesCaps a = true := by
  obtain hb | ⟨n, hb⟩ := hb <;> obtain hl | hl := hl <;> simp only [State.takesCaps, hl, hb]

theorem State.mismatch_linked {s : State} {a : Addr} (h : (s.entry a).link = .linked) (o : Octet) :
    s.mismatch a o = (s.warn .moduleMismatch a.val).lose a .seeking .mismatch (some o) := by
  rw [State.mismatch, h]

theorem State.mismatch_asked {s : State} {a : Addr} (h : (s.entry a).link = .seeking ∨ (s.entry a).link = .lost) (o : Octet) :
    s.mismatch a o =
      (((s.warn .moduleMismatch a.val).withdrawQuery a).onEntry a fun e => { e with bringUp := .mismatch }).setLink a
        .seeking (some o) := by
  obtain h | h := h <;> rw [State.mismatch, h]

/-- The event of an answer timer, or of a silent entry (R162, R166, R167). -/
theorem State.expireAnswer_linked {s : State} {a : Addr} (h : (s.entry a).link = .linked) :
    s.expireAnswer a = s.onEntry a (fun e => { e with unpinLeft := none }) ∧ s.silentLimit a = s.lose a .lost (.count 0) none := by
  simp only [State.expireAnswer, State.silentLimit, h, and_self]

theorem State.expireAnswer_unexpected {s : State} {a : Addr} (h : (s.entry a).link = .notExpected) :
    s.expireAnswer a = s ∧ s.silentLimit a = s := by
  simp only [State.expireAnswer, State.silentLimit, h, and_self]

theorem State.expireAnswer_answer {s : State} {a : Addr} {n : Nat} (hl : (s.entry a).link = .seeking ∨ (s.entry a).link = .lost)
    (hb : (s.entry a).bringUp = .answer n) : s.expireAnswer a = s.returnToCount a := by
  obtain h | h := hl <;> simp only [State.expireAnswer, h, hb]

theorem State.silentLimit_asked {s : State} {a : Addr} (hl : (s.entry a).link = .seeking ∨ (s.entry a).link = .lost)
    (hb : ∀ n, (s.entry a).bringUp ≠ .count n) : s.silentLimit a = s.returnToCount a := by
  unfold State.silentLimit
  obtain h | h := hl <;> rw [h] <;> cases he : (s.entry a).bringUp with
  | count n => exact absurd he (hb n)
  | query => rfl
  | answer n => rfl
  | mismatch => rfl

theorem State.takeCaps_unlinked {s : State} {a : Addr} (c : CapRecord) :
    ((s.entry a).pinned = true → (s.entry a).link ≠ .linked → s.takeCaps a c = s.link a) ∧
    ((s.entry a).pinned = false → (s.setCaps a c).linkedAt a = false → s.takeCaps a c = (s.setCaps a c).link a) ∧
    ((s.entry a).pinned = true → (s.entry a).link = .linked →
      s.takeCaps a c = s.onEntry a fun e => { e with unpinLeft := none }) ∧
    ((s.entry a).pinned = false → (s.setCaps a c).linkedAt a = true →
      s.takeCaps a c = (s.setCaps a c).onEntry a fun e => { e with unpinLeft := none }) := by
  unfold State.takeCaps
  refine ⟨fun hp hl => ?_, fun hp hl => ?_, fun hp hl => ?_, fun hp hl => ?_⟩ <;> simp only [hp, if_true, Bool.false_eq_true, if_false]
  · exact if_neg (by simpa [State.linkedAt] using hl)
  · exact if_neg (by simp [hl])
  · exact if_pos (by simpa [State.linkedAt] using hl)
  · exact if_pos hl

/-- Settles O53, by what a bay, a CAPS, a link and a loss do at an entry. -/
theorem bringUpLinksAndLoses : Obligations.BringUpLinksAndLoses := by
  unfold Obligations.BringUpLinksAndLoses
  have ev {s : State} (hs : s.on = true) {f : State → State} {t : State} (h : f s = t) :
      (Host.Outcome.next (s.event f) : Result) = .next t.finish :=
    congrArg Host.Outcome.next ((State.event_on hs _).trans (congrArg State.finish h))
  refine ⟨fun a n s hs hl hb => ?_, fun a s hs h => ?_, fun a n s hs hl hb => ?_, fun a s hs hl => ?_, fun a s hs hl => ?_,
    fun a body c s hs hl hb hc hp => ?_, fun a body c s hs hl hb hc hp hn => ?_, fun a body s hs hl hb hc => ?_,
    fun a body s hs h => ?_, fun a s hs hl hb => ?_, fun a body s hs hl hc => ?_, fun a body c s hs hl hc => ⟨fun hp => ?_,
      fun hp hk => ?_⟩, fun s a b hun => ⟨fun hl => ?_, fun hl hr => ?_, fun hl hr hc => State.goodBay_reads hun hl hr hc,
      fun hl => ⟨fun n hc => State.goodBay_counts hun hl hc, fun hr hc => ?_, fun hr hc => ?_⟩⟩,
    fun s a l p reported hl hne => ?_, fun s a => ⟨State.takeLoss_unowned, State.takeLoss_door,
      State.takeLoss_other (by decide) (by decide), State.takeLoss_other (by decide) (by decide),
      State.takeLoss_other (by decide) (by decide)⟩, State.softenerLost_cases, State.channelLost_cases, State.orderMsg_eq,
    fun s => ⟨s.doorUnknown_eq, fun h => if_pos h, fun h => if_neg h⟩, fun s a b n hl hb hr => ?_,
    fun up s a hbad hl => ?_, fun s a => ?_, fun s a hl => State.link_eq hl⟩
  · have hg : s.countsGood a = true := by
      obtain h | h := hl <;> simp [State.countsGood, h, hb]
    exact congrArg Host.Outcome.next (State.event_onlyIf_true hs hg _)
  · exact congrArg Host.Outcome.next (State.event_onlyIf_false hs h _)
  · exact ev hs (State.expireAnswer_answer hl hb)
  · exact ⟨ev hs (State.expireAnswer_linked hl).1, ev hs (State.expireAnswer_linked hl).2⟩
  · exact ⟨ev hs (State.expireAnswer_unexpected hl).1, ev hs (State.expireAnswer_unexpected hl).2⟩
  · exact ev hs (((State.capsMessage_takes (State.takesCaps_asked hl hb) body).1 c hc).trans
      ((State.takeCaps_unlinked c).1 hp (State.bringingUp hl).1))
  · exact ev hs (((State.capsMessage_takes (State.takesCaps_asked hl hb) body).1 c hc).trans
      ((State.takeCaps_unlinked c).2.1 hp hn))
  · exact ev hs (((State.capsMessage_takes (State.takesCaps_asked hl hb) body).2 hc).trans (State.mismatch_asked hl _))
  · exact ev hs (if_neg (by simp [h]))
  · exact ev hs (State.silentLimit_asked hl hb)
  · exact ev hs (((State.capsMessage_takes (State.takesCaps_linked hl) body).2 hc).trans (State.mismatch_linked hl _))
  · exact ev hs (((State.capsMessage_takes (State.takesCaps_linked hl) body).1 c hc).trans
      ((State.takeCaps_unlinked c).2.2.1 hp hl))
  · exact ev hs (((State.capsMessage_takes (State.takesCaps_linked hl) body).1 c hc).trans
      ((State.takeCaps_unlinked c).2.2.2 hp hk))
  · exact State.goodBay_unexpected hl b
  · exact (State.goodBay_linked hl b).trans (if_neg (by simp [hr]))
  · have hcount : ∀ n, (s.entry a).bringUp ≠ .count n ∧ (s.entry a).bringUp ≠ .answer n := by
      intro n
      obtain h | h := hc <;> simp [h]
    refine ((State.goodBay_asked hl fun n => (hcount n).1).2 hr).trans (State.countAnswer_idle ?_ ?_) <;>
      rw [State.entry_onEntry_self, State.entry_onEntry_self]
    · exact fun n => (hcount n).2
    · exact hun
  · have hcount : ∀ n, (s.entry a).bringUp ≠ .count n := by
      intro n
      obtain h | h | ⟨k, h⟩ := hc <;> simp [h]
    exact (State.goodBay_asked hl hcount).1 hr
  · exact congrArg (fun t => State.takeLoss t a) (State.dropLink_eq hl hne p reported)
  · refine ((State.goodBay_asked hl (by simp [hb])).2 hr).trans ?_
    rw [State.onEntry_onEntry]
    exact State.countAnswer_answer (by rw [State.entry_onEntry_self]; exact hl) (by rw [State.entry_onEntry_self]; exact hb)
  · intro t u
    have hbay := State.takeBay_bad hbad s
    have hl' : ((s.onBay a fun b => { b with candidate := none }).entry a).link = .seeking ∨
        ((s.onBay a fun b => { b with candidate := none }).entry a).link = .lost := hl
    have hu : (u.entry a).link = (s.entry a).link ∧ (u.entry a).bringUp = (s.entry a).bringUp ∧
        (u.entry a).unpinLeft = (s.entry a).unpinLeft := by
      simp only [u, t, State.entry_onEntry_self, State.entry_onBay, and_self]
    have hasked (h : ∀ n, (s.entry a).bringUp ≠ .count n) :
        State.takeBay up s a = if 16 ≤ (s.entry a).silent + 1 then t.returnToCount a else u.countAnswer a :=
      hbay.trans (State.badBay_asked hl' h)
    refine ⟨fun hb hun => ?_, fun n hb => ?_⟩
    · rw [hasked (by obtain h | h := hb <;> simp [h]), State.countAnswer_idle (s := u) (by
        rw [hu.2.1]
        obtain h | h := hb <;> simp [h]) (hu.2.2.trans hun)]
    · rw [hasked (by simp [hb]), State.countAnswer_answer (s := u) (by rw [hu.1]; exact hl) (hu.2.1.trans hb)]
  · rw [State.returnToCount, State.restartBringUp_eq]
end Sys2Proof.Machine
end

section
-- The proofs are elaborated one after the other: each of the many threads of a parallel run holds a stack of its own.
set_option Elab.async false
/-! PROOFS. The message channels (O52). -/

namespace Sys2Proof.Machine

open Sys2Proof

/-! ### The message channels (O52) -/

/-- The state in which the message being sent has left the queue and the channel is at rest (R150). -/
theorem State.deliverDown_of {s : State} {m : DownMsg} (h : s.sendingMsg = some m) :
    s.deliverDown = (s.dropSending.toldDelivered m).dequeued := by
  rw [State.deliverDown, h]

theorem State.abandonDown_of {s : State} {m : DownMsg} (h : s.sendingMsg = some m) :
    s.abandonDown = ((s.dropSending.countAbort m.dest).toldAbandoned m).dequeued := by
  rw [State.abandonDown, h]

/-- Both commands that end CLOSING deliver (R150, R151). -/
theorem exec_closes {s : State} {m : DownMsg} {n : Nat} (hs : s.on = true) (hp : s.mbi.down.phase = .closing n)
    (h : s.sendingMsg = some m) {t : State} (ht : s.dropSending.toldDelivered m = t) :
    exec .messageDelivered s = .next t.dequeued.finish ∧ exec .closingLimit s = .next t.dequeued.finish := by
  have hc : s.downCloses = true := by rw [State.downCloses, hp]
  have hd : s.deliverDown = t.dequeued := by rw [State.deliverDown_of h, ht]
  exact ⟨congrArg Host.Outcome.next ((State.event_onlyIf_true hs hc _).trans (congrArg State.finish hd)),
    congrArg Host.Outcome.next ((State.event_onlyIf_true hs hc _).trans (congrArg State.finish hd))⟩

/-- The command that abandons (R151). -/
theorem exec_abandons {s : State} {m : DownMsg} (hs : s.on = true) (hw : s.downStands = true) (h : s.sendingMsg = some m)
    {t : State} (ht : (s.dropSending.countAbort m.dest).toldAbandoned m = t) :
    exec .downstreamNoProgress s = .next t.dequeued.finish :=
  congrArg Host.Outcome.next ((State.event_onlyIf_true hs hw _).trans
    (congrArg State.finish ((State.abandonDown_of h).trans (congrArg State.dequeued ht))))

/-- The enqueuers of a delivered message (R127, R150, R162, R166). -/
theorem State.toldDelivered_dsc {s : State} {m : DownMsg} {c : Channel} (h : m.source = .dsc c) : s.toldDelivered m = s := by
  rw [State.toldDelivered, h]

theorem State.toldDelivered_push {s : State} {m : DownMsg} {o : PushOrigin} {target : Nat} (h : m.source = .dvc)
    (ht : s.dvc.task = .push o target .queued) :
    s.toldDelivered m = s.onDvc fun d => { d with task := .push o target .delivered } := by
  simp only [State.toldDelivered, h, ht]

theorem State.toldDelivered_query {s : State} {m : DownMsg} (h : m.source = .msu)
    (hl : (s.entry m.dest).link = .seeking ∨ (s.entry m.dest).link = .lost) (hb : (s.entry m.dest).bringUp = .query) :
    s.toldDelivered m = s.onEntry m.dest fun e => { e with bringUp := .answer 250 } := by
  obtain hl | hl := hl <;> simp only [State.toldDelivered, h, hl, hb]

theorem State.toldDelivered_unpin {s : State} {m : DownMsg} (h : m.source = .msu) (hl : (s.entry m.dest).link = .linked) :
    s.toldDelivered m = s.onEntry m.dest fun e => { e with unpinLeft := some 250 } := by
  simp only [State.toldDelivered, h, hl]

/-- The enqueuers of an abandoned message (R151, R162). -/
theorem State.toldAbandoned_dvc {s : State} {m : DownMsg} (h : m.source = .dvc) :
    s.toldAbandoned m = s.moved s.dvc.lastReached 2#8 := by
  simp only [State.toldAbandoned, h]

theorem State.toldAbandoned_dose {s : State} {m : DownMsg} {c : Channel} {tag : Octet} {n : Nat} (h : m.source = .dsc c)
    (hb : m.body = .dose tag n ∨ m.body = .prime tag n) : s.toldAbandoned m = s.takeDone c tag 0 3#8 := by
  obtain hb | hb := hb <;> simp only [State.toldAbandoned, h, hb]

theorem State.toldAbandoned_query {s : State} {m : DownMsg} (h : m.source = .msu) :
    s.toldAbandoned m = if (s.entry m.dest).bringUp = .query then s.returnToCount m.dest else s := by
  simp only [State.toldAbandoned, h]

/-! #### The downstream channel frame by frame (R150, R151) -/

theorem State.downFrame_prepare {up : UpFrame} {s : State} {m : DownMsg} (h : s.sendingMsg = some m)
    (hp : s.mbi.down.phase = .prepare) :
    s.downFrame up =
      if State.bayGood up m.dest && !(up.get 21).getLsbD 6 && !(up.get 21).getLsbD 7 then s.downPhase (.present 0)
      else s.downWaits (State.bayGood up m.dest) ((up.get 21).getLsbD 6) := by
  rw [State.downFrame, hp, h]
  rfl

theorem State.downFrame_present {up : UpFrame} {s : State} {m : DownMsg} {i : Nat} (h : s.sendingMsg = some m)
    (hp : s.mbi.down.phase = .present i) :
    s.downFrame up =
      if State.bayGood up m.dest && !(up.get 21).getLsbD 6 && ((up.get 21).getLsbD 7 == State.tglOf i) then
        s.downPhase (if i + 1 < m.body.octets.length then .present (i + 1) else .closing 0)
      else s.downWaits (State.bayGood up m.dest) ((up.get 21).getLsbD 6) := by
  rw [State.downFrame, hp, h, apply_ite s.downPhase]
  rfl

theorem State.downFrame_closing {up : UpFrame} {s : State} {m : DownMsg} {n : Nat} (h : s.sendingMsg = some m)
    (hp : s.mbi.down.phase = .closing n) :
    s.downFrame up =
      if State.bayGood up m.dest = true ∧ 2 ≤ n + 1 ∨ 50 ≤ s.mbi.down.closingFrames + 1 then s.deliverDown
      else { s with
        mbi := { s.mbi with
          down := { s.mbi.down with
            phase := .closing (if State.bayGood up m.dest then n + 1 else 0),
            closingFrames := s.mbi.down.closingFrames + 1 } } } := by
  have he : s.downFrame up =
      if State.bayGood up m.dest && decide (2 ≤ n + 1) then s.deliverDown
      else if 50 ≤ s.mbi.down.closingFrames + 1 then s.deliverDown
      else { s with
        mbi := { s.mbi with
          down := { s.mbi.down with
            phase := .closing (if State.bayGood up m.dest then n + 1 else 0),
            closingFrames := s.mbi.down.closingFrames + 1 } } } := by
    rw [State.downFrame, hp, h]
    rfl
  rw [he]
  simp only [Bool.and_eq_true, decide_eq_true_eq, ite_or]

theorem State.downWaits_eq (s : State) (good stop : Bool) :
    s.downWaits good stop =
      (let seen := if good = true ∧ stop = true then s.mbi.down.stopSeen + 1 else 0;
        if 2 ≤ seen ∨ 50 ≤ s.mbi.down.noProgress + 1 then s.abandonDown
        else { s with
          mbi := { s.mbi with
            down := { s.mbi.down with stopSeen := seen, noProgress := s.mbi.down.noProgress + 1 } } }) := by
  unfold State.downWaits
  simp only [Bool.and_eq_true]
  rfl

/-! #### The upstream channel frame by frame (R152, R153, R155) -/

/-- A good MSG 1 frame has been seen since the grant. -/
def State.msgSeenBy (up : UpFrame) (g : Grant) : Bool := g.msgSeen || (State.upGood up g.owner && (State.lookOf up).msg)

/-- A frame at the grant counts. -/
def State.upCounted (s : State) (up : UpFrame) (g : Grant) : State :=
  s.onMbi fun m =>
    { m with
      grant := some { g with frames := g.frames + 1, msgSeen := State.msgSeenBy up g }
      up := { m.up with noProgress := if State.msgSeenBy up g then m.up.noProgress + 1 else m.up.noProgress } }

/-- Its look is taken. -/
def State.upLooked (s : State) (up : UpFrame) (g : Grant) : State :=
  if State.upGood up g.owner then (s.upCounted up g).goodUpFrame g.owner (State.lookOf up)
  else (s.upCounted up g).onMbi fun m => { m with up := { m.up with look := none, msgZero := 0 } }

/-- What the counts of the grant bring after a frame. -/
def State.upEnds (s : State) (g : Grant) (seen : Bool) : State :=
  if 2 ≤ s.mbi.up.msgZero ∧ s.mbi.up.taken ≠ [] then s.finishUp g.owner
  else if Config.progressLimit ≤ s.mbi.up.noProgress then s.abandonUp
  else if 10 ≤ g.frames + 1 ∧ seen = false then s.withdrawGrant
  else s

theorem State.upFrame_eq (s : State) (up : UpFrame) (g : Grant) :
    s.upFrame up g = (s.upLooked up g).upEnds g (State.msgSeenBy up g) := rfl

theorem State.goodUpFrame_keeps {s : State} {l : Look} (h : State.takesOctet s.mbi.up l = false) (owner : Addr) :
    s.goodUpFrame owner l =
      s.onMbi fun m => { m with up := { m.up with look := some l, msgZero := if l.msg then 0 else m.up.msgZero + 1 } } := by
  rw [State.goodUpFrame, if_neg (by simp [h])]

theorem State.goodUpFrame_takes {s : State} {l : Look} (h : State.takesOctet s.mbi.up l = true) (owner : Addr) :
    s.goodUpFrame owner l =
      (s.takeUpOctet owner l.data l.tgl).onMbi fun m => { m with up := { m.up with look := some l, msgZero := 0 } } := by
  have hm : l.msg = true := by
    simp only [State.takesOctet, Bool.and_eq_true] at h
    exact h.1.1.1
  rw [State.goodUpFrame, if_pos h, hm]
  rfl

theorem State.takesOctet_iff (u : UpChan) (l : Look) :
    State.takesOctet u l = true ↔ l.msg = true ∧ u.look = some l ∧ l.tgl ≠ u.echo ∧ u.stop = false := by
  simp [State.takesOctet, and_assoc]

/-- The grant, the upstream channel: what a frame that takes no octet leaves. -/
theorem State.upLooked_keeps {s : State} {up : UpFrame} {g : Grant}
    (h : State.upGood up g.owner = true → State.takesOctet s.mbi.up (State.lookOf up) = false) :
    s.upLooked up g =
      { s with
        mbi := { s.mbi with
          grant := some { g with frames := g.frames + 1, msgSeen := State.msgSeenBy up g }
          up := { s.mbi.up with
            look := if State.upGood up g.owner then some (State.lookOf up) else none
            msgZero :=
              if State.upGood up g.owner then (if (State.lookOf up).msg then 0 else s.mbi.up.msgZero + 1) else 0
            noProgress := if State.msgSeenBy up g then s.mbi.up.noProgress + 1 else s.mbi.up.noProgress } } } := by
  unfold State.upLooked
  cases hg : State.upGood up g.owner with
  | false => rfl
  | true => exact (if_pos rfl).trans (State.goodUpFrame_keeps (s := s.upCounted up g) (h hg) g.owner)

/-- A frame that takes an octet, up to the octet (R152, R153). -/
theorem State.upLooked_takes {s : State} {up : UpFrame} {g : Grant} (hg : State.upGood up g.owner = true)
    (h : State.takesOctet s.mbi.up (State.lookOf up) = true) :
    s.upLooked up g =
      (({ s with
        mbi := { s.mbi with
          grant := some { g with frames := g.frames + 1, msgSeen := true }
          up := { s.mbi.up with noProgress := s.mbi.up.noProgress + 1 } } } : State).takeUpOctet g.owner
            (State.lookOf up).data (State.lookOf up).tgl).onMbi fun m =>
              { m with up := { m.up with look := some (State.lookOf up), msgZero := 0 } } := by
  have hseen : State.msgSeenBy up g = true := by
    simp [State.msgSeenBy, hg, ((State.takesOctet_iff _ _).mp h).1]
  refine ((if_pos hg).trans (State.goodUpFrame_takes (s := s.upCounted up g) h g.owner)).trans ?_
  unfold State.upCounted
  rw [hseen]
  rfl

/-- What the counts bring, one outcome each. -/
theorem State.upEnds_stays {s : State} {g : Grant} {seen : Bool} (hz : s.mbi.up.msgZero < 2 ∨ s.mbi.up.taken = [])
    (hp : s.mbi.up.noProgress < 50) (hw : g.frames < 9 ∨ seen = true) : s.upEnds g seen = s := by
  unfold State.upEnds
  rw [if_neg (by rintro ⟨h, hn⟩; exact hz.elim (fun h' => by omega) hn), if_neg (show ¬ Config.progressLimit ≤ _ from Nat.not_le.mpr hp),
    if_neg (by rintro ⟨h, hn⟩; exact hw.elim (fun h' => by omega) fun h' => by rw [hn] at h'; cases h')]

theorem State.upEnds_abandons {s : State} {g k : Grant} {seen : Bool} (hz : s.mbi.up.msgZero < 2 ∨ s.mbi.up.taken = [])
    (hp : 50 ≤ s.mbi.up.noProgress) (hk : s.mbi.grant = some k) : s.upEnds g seen = s.endGrant.countAbort k.owner := by
  unfold State.upEnds
  rw [if_neg (by rintro ⟨h, hn⟩; exact hz.elim (fun h' => by omega) hn)]
  refine (if_pos hp).trans ?_
  rw [State.abandonUp, hk]

theorem State.upEnds_withdraws {s : State} {g k : Grant} (hz : s.mbi.up.msgZero < 2 ∨ s.mbi.up.taken = [])
    (hp : s.mbi.up.noProgress < 50) (hw : 9 ≤ g.frames) (hk : s.mbi.grant = some k) :
    s.upEnds g false = s.endGrant.onEntry k.owner fun e => { e with grantLapses := min 255 (e.grantLapses + 1) } := by
  unfold State.upEnds
  rw [if_neg (by rintro ⟨h, hn⟩; exact hz.elim (fun h' => by omega) hn), if_neg (show ¬ Config.progressLimit ≤ _ from Nat.not_le.mpr hp),
    if_pos ⟨by omega, rfl⟩, State.withdrawGrant, hk]
  rfl

theorem State.upEnds_finishes {s : State} {g : Grant} {seen : Bool} (hz : 2 ≤ s.mbi.up.msgZero) (ht : s.mbi.up.taken ≠ []) :
    s.upEnds g seen = s.finishUp g.owner := if_pos ⟨hz, ht⟩

theorem State.finishUp_eq (s : State) (owner : Addr) :
    s.finishUp owner =
      if s.mbi.up.taken.length = 1 + (s.mbi.up.taken.headD 0#8).toNat % 16 ∧ s.mbi.up.stop = false then
        s.endGrant.deliverUp owner s.mbi.up.taken
      else s.endGrant.countAbort owner := by
  unfold State.finishUp
  simp only [Bool.and_eq_true, decide_eq_true_eq, Bool.not_eq_true']
  rfl
/-- A frame that takes no octet and brings no end (R152, R155). -/
theorem State.upFrame_keeps {s : State} {up : UpFrame} {g : Grant} {v : State} (hv : s.upLooked up g = v)
    (hz : v.mbi.up.msgZero < 2 ∨ v.mbi.up.taken = []) (hk : v.mbi.grant.map Grant.owner = some g.owner) :
    s.upFrame up g =
      if 50 ≤ v.mbi.up.noProgress then v.endGrant.countAbort g.owner
      else if 9 ≤ g.frames ∧ State.msgSeenBy up g = false then
        v.endGrant.onEntry g.owner fun e => { e with grantLapses := min 255 (e.grantLapses + 1) }
      else v := by
  obtain ⟨k, hk, ho⟩ := Option.map_eq_some_iff.mp hk
  rw [State.upFrame_eq, hv]
  split
  · next hp => rw [State.upEnds_abandons hz hp hk, ho]
  · next hp =>
    split
    · next hw => rw [hw.2, State.upEnds_withdraws hz (Nat.not_le.mp hp) hw.1 hk, ho]
    · next hw =>
      refine State.upEnds_stays hz (Nat.not_le.mp hp) ?_
      by_cases hf : g.frames < 9
      · exact .inl hf
      · exact .inr (Bool.eq_true_of_not_eq_false fun h => hw ⟨Nat.not_lt.mp hf, h⟩)

/-- An octet that does not look like a new one (R152). -/
theorem State.takesOctet_false {u : UpChan} {l : Look}
    (h : l.msg = false ∨ u.look ≠ some l ∨ l.tgl = u.echo ∨ u.stop = true) : State.takesOctet u l = false := by
  rw [Bool.eq_false_iff, ne_eq, State.takesOctet_iff]
  rintro ⟨hm, hl, ht, hs⟩
  obtain h | h | h | h := h
  · rw [hm] at h; cases h
  · exact h hl
  · exact ht h
  · rw [hs] at h; cases h

/-- A frame without an octet for a message that has begun (R152). -/
theorem State.upFrame_seen {s : State} {up : UpFrame} {g : Grant} {v : State} (hv : s.upLooked up g = v)
    (hseen : State.msgSeenBy up g = true)
    (hz : v.mbi.up.msgZero < 2 ∨ v.mbi.up.taken = []) (hk : v.mbi.grant.map Grant.owner = some g.owner) :
    s.upFrame up g = if 50 ≤ v.mbi.up.noProgress then v.endGrant.countAbort g.owner else v := by
  rw [State.upFrame_keeps hv hz hk, if_neg (c := 9 ≤ g.frames ∧ _) (by simp [hseen])]

/-- A frame that takes an octet starts the count without progress again (R152). -/
theorem State.upFrame_progress {s : State} {up : UpFrame} {g : Grant} {v : State} (hv : s.upLooked up g = v)
    (hseen : State.msgSeenBy up g = true) (hz : v.mbi.up.msgZero = 0) (hp : v.mbi.up.noProgress = 0)
    (hk : v.mbi.grant.map Grant.owner = some g.owner) : s.upFrame up g = v := by
  rw [State.upFrame_seen hv hseen (.inl (by rw [hz]; exact Nat.zero_lt_two)) hk, hp]
  exact if_neg (by decide)

/-- The second good frame of MSG 0 (R152). -/
theorem State.upFrame_finishes {s : State} {up : UpFrame} {g : Grant} {v : State} (hv : s.upLooked up g = v)
    (hz : 2 ≤ v.mbi.up.msgZero) (ht : v.mbi.up.taken ≠ []) : s.upFrame up g = v.finishUp g.owner := by
  rw [State.upFrame_eq, hv, State.upEnds_finishes hz ht]

/-- An octet taken (R152, R153). -/
theorem State.takeUpOctet_header {s : State} (h : s.mbi.up.taken = []) (owner : Addr) (o : Octet) (tgl : Bool) :
    s.takeUpOctet owner o tgl =
      (let t := s.onMbi fun m =>
        { m with up := { m.up with taken := [o], echo := tgl, noProgress := 0, stop := !State.headerTaken o } }
       if State.headerTaken o then t else t.countAbort owner) := by
  rw [State.takeUpOctet, h]

theorem State.takeUpOctet_body {s : State} {h : Octet} {rest : List Octet} (ht : s.mbi.up.taken = h :: rest) (owner : Addr)
    (o : Octet) (tgl : Bool) :
    s.takeUpOctet owner o tgl =
      if h.toNat % 16 ≤ rest.length then s.onMbi fun m => { m with up := { m.up with stop := true } }
      else s.onMbi fun m => { m with up := { m.up with taken := h :: rest ++ [o], echo := tgl, noProgress := 0 } } := by
  have hc : 1 + State.bodyLength h < s.mbi.up.taken.length + 1 ↔ h.toNat % 16 ≤ rest.length := by
    rw [ht, List.length_cons, State.bodyLength]
    omega
  have he : s.takeUpOctet owner o tgl =
      if 1 + State.bodyLength h < s.mbi.up.taken.length + 1 then s.onMbi fun m => { m with up := { m.up with stop := true } }
      else s.onMbi fun m =>
        { m with up := { m.up with taken := m.up.taken ++ [o], echo := tgl, noProgress := 0 } } := by
    rw [State.takeUpOctet]
    simp only [ht]
  rw [he, if_congr hc rfl rfl]
  simp only [State.onMbi, ht]

theorem State.readRequest_eq (s : State) (o : Octet) :
    (s.mbi.grant = none → o.toNat % 32 = 1 →
      s.readRequest o =
        { s with
          mbi := { s.mbi with
            grant := some { owner := addrField o, frames := 0, msgSeen := false }, up := UpChan.reset } }) ∧
    ((s.mbi.grant.isSome = true ∨ o.toNat % 32 ≠ 1) → s.readRequest o = s) := by
  refine ⟨fun hg ho => if_pos ⟨hg, ho⟩, fun h => if_neg ?_⟩
  rintro ⟨hg, ho⟩
  obtain h | h := h
  · rw [hg] at h; cases h
  · exact h ho

/-- The two commands of a grant (R152, R155). -/
theorem exec_grant {s : State} (hs : s.on = true) :
    (s.grantStands true = true → exec .upstreamNoProgress s = .next s.abandonUp.finish) ∧
    (s.grantStands true = false → exec .upstreamNoProgress s = .next s.finish) ∧
    (s.grantStands false = true → exec .grantWithdrawal s = .next s.withdrawGrant.finish) ∧
    (s.grantStands false = false → exec .grantWithdrawal s = .next s.finish) :=
  ⟨fun h => congrArg Host.Outcome.next (State.event_onlyIf_true hs h _),
    fun h => congrArg Host.Outcome.next (State.event_onlyIf_false hs h _),
    fun h => congrArg Host.Outcome.next (State.event_onlyIf_true hs h _),
    fun h => congrArg Host.Outcome.next (State.event_onlyIf_false hs h _)⟩

theorem State.tglOf_eq (i : Nat) : State.tglOf i = decide (i % 2 = 0) := by
  simp only [State.tglOf, beq_eq_decide]

/-- Settles O52, frame by frame. -/
theorem messageChannelsEndTheirMessages : Obligations.MessageChannelsEndTheirMessages := by
  unfold Obligations.MessageChannelsEndTheirMessages
  refine ⟨fun s m c n hs hp hm hc => exec_closes hs hp hm (State.toldDelivered_dsc hc), fun s hs h => ?_,
    fun s m hs hw hm hsrc => exec_abandons hs hw hm (State.toldAbandoned_dvc hsrc), fun s hs h => ?_,
    fun s g hs hg hseen => ?_, fun s g hs hg hseen => ?_, fun s hs hg => ?_, fun s m n hs hp hm => ?_,
    fun s m hs hw hm => ?_, fun up s m hm => ?_, fun up s g hg hmsg hlook htgl hstop => ?_,
    fun up s g hg hmsg h hp => ?_, fun up s g hg hmsg hz ht => ?_, fun up s g hg hseen hp => ?_, fun s a o => ?_,
    fun s a => ?_, fun up s g => ?_, fun s => ⟨rfl, fun h => if_pos h, fun h => if_neg (by simp [h])⟩⟩
  · exact ⟨congrArg Host.Outcome.next (State.event_onlyIf_false hs h _),
      congrArg Host.Outcome.next (State.event_onlyIf_false hs h State.deliverDown)⟩
  · exact congrArg Host.Outcome.next (State.event_onlyIf_false hs h _)
  · obtain ⟨hup, -, -, hwd⟩ := exec_grant hs
    refine ⟨(hup (by simp [State.grantStands, hg, hseen])).trans (congrArg (fun t : State => (Host.Outcome.next t.finish : Result)) ?_),
      hwd (by simp [State.grantStands, hg, hseen])⟩
    rw [State.abandonUp, hg]
    rfl
  · obtain ⟨-, hup, hwd, -⟩ := exec_grant hs
    refine ⟨(hwd (by simp [State.grantStands, hg, hseen])).trans (congrArg (fun t : State => (Host.Outcome.next t.finish : Result)) ?_),
      hup (by simp [State.grantStands, hg, hseen])⟩
    rw [State.withdrawGrant, hg]
    rfl
  · obtain ⟨-, hup, -, hwd⟩ := exec_grant hs
    exact ⟨hup (by simp [State.grantStands, hg]), hwd (by simp [State.grantStands, hg])⟩
  · intro t
    exact ⟨fun o target hsrc ht => (exec_closes hs hp hm (State.toldDelivered_push (s := s.dropSending) hsrc ht)).1,
      fun hsrc hl hb => (exec_closes hs hp hm (State.toldDelivered_query (s := s.dropSending) hsrc hl hb)).1,
      fun hsrc hl => (exec_closes hs hp hm (State.toldDelivered_unpin (s := s.dropSending) hsrc hl)).1⟩
  · intro t
    refine ⟨fun c tag n hsrc hb => exec_abandons hs hw hm (State.toldAbandoned_dose hsrc hb), fun hsrc => ?_⟩
    refine exec_abandons hs hw hm ((State.toldAbandoned_query hsrc).trans ?_)
    have hb : ((s.dropSending.countAbort m.dest).entry m.dest).bringUp = (s.entry m.dest).bringUp := by
      rw [State.countAbort, State.entry_onEntry_self]
      rfl
    rw [hb]
    rfl
  · refine ⟨fun hp hg hs he => ?_, fun i hp hg hs he => ?_, fun n hp => ⟨fun hg hn => ?_, fun hc => ?_, fun h hc => ?_⟩,
      fun h => ?_⟩
    · exact (State.downFrame_prepare hm hp).trans (if_pos (by simp only [hg, hs, he]; rfl))
    · refine (State.downFrame_present hm hp).trans (if_pos ?_)
      simp only [hg, hs, he, State.tglOf_eq, beq_self_eq_true]
      rfl
    · exact (State.downFrame_closing hm hp).trans (if_pos (.inl ⟨hg, by omega⟩))
    · exact (State.downFrame_closing hm hp).trans (if_pos (.inr (by omega)))
    · refine (State.downFrame_closing hm hp).trans (if_neg ?_)
      rintro (⟨hg, hn⟩ | hn)
      · obtain h | h := h
        · rw [hg] at h; cases h
        · omega
      · omega
    · rw [← State.downWaits_eq]
      obtain ⟨hp, h⟩ | ⟨i, hp, h⟩ := h
      · refine (State.downFrame_prepare hm hp).trans (if_neg ?_)
        obtain h | h | h := h <;> simp [h]
      · refine (State.downFrame_present hm hp).trans (if_neg ?_)
        obtain h | h | h := h
        · simp [h]
        · simp [h]
        · rw [State.tglOf_eq]
          simp only [Bool.and_eq_true, beq_iff_eq]
          exact fun hc => h hc.2
  · have hseen : State.msgSeenBy up g = true := by simp [State.msgSeenBy, hg, hmsg]
    have hlk := State.upLooked_takes hg ((State.takesOctet_iff _ _).mpr ⟨hmsg, hlook, htgl, hstop⟩)
    intro u t
    refine ⟨fun ht hh => ?_, fun ht hh => ?_, fun h rest ht hlen => ?_⟩
    · refine State.upFrame_progress (hlk.trans ?_) hseen rfl rfl rfl
      rw [State.takeUpOctet_header (by exact ht), hh]
      simp only [t, u, State.onMbi, hstop, if_true, Bool.not_true]
    · refine State.upFrame_progress (hlk.trans ?_) hseen rfl rfl rfl
      rw [State.takeUpOctet_header (by exact ht), hh]
      rfl
    · refine State.upFrame_progress (hlk.trans ?_) hseen rfl rfl rfl
      rw [State.takeUpOctet_body (h := h) (rest := rest) (by exact ht), if_neg (by omega)]
      simp only [t, u, State.onMbi]
  · have hseen : State.msgSeenBy up g = true := by simp [State.msgSeenBy, hg, hmsg]
    have hlk := State.upLooked_keeps (g := g) fun _ => State.takesOctet_false (.inr h)
    simp only [hg, hmsg, hseen, if_true] at hlk
    exact (State.upFrame_seen hlk hseen (.inl (Nat.zero_lt_two)) rfl).trans (if_neg (Nat.not_le.mpr hp))
  · have hlk := State.upLooked_keeps (s := s) (g := g) (up := up) fun _ => State.takesOctet_false (.inl hmsg)
    simp only [hg, hmsg, if_true, Bool.false_eq_true, if_false] at hlk
    intro t
    have hfin : s.upFrame up g =
        if s.mbi.up.taken.length = 1 + (s.mbi.up.taken.headD 0#8).toNat % 16 ∧ s.mbi.up.stop = false then
          t.deliverUp g.owner s.mbi.up.taken
        else t.countAbort g.owner := by
      refine (State.upFrame_finishes hlk ?_ ?_).trans (State.finishUp_eq _ _)
      · exact Nat.succ_le_succ hz
      · exact ht
    rw [hfin]
    refine ⟨fun hl hstop => if_pos ⟨hl, hstop⟩, fun h => if_neg ?_⟩
    rintro ⟨hl, hstop⟩
    exact h.elim (fun hn => hn hl) fun hn => by rw [hstop] at hn; cases hn
  · have hs' : State.msgSeenBy up g = false := by simp [State.msgSeenBy, hg, hseen]
    have hlk := State.upLooked_keeps (s := s) (g := g) (up := up) fun h => by rw [hg] at h; cases h
    simp only [hg, hs', Bool.false_eq_true, if_false] at hlk
    have hall := (State.upFrame_keeps hlk (.inl Nat.zero_lt_two) rfl).trans (if_neg (Nat.not_le.mpr hp))
    exact ⟨fun hf => hall.trans (if_pos ⟨hf, hs'⟩), fun hf => (hall.trans (if_neg fun h => absurd h.1 (Nat.not_le.mpr hf))).trans
      (by rw [hseen])⟩
  · refine ⟨fun hg ho => ?_, fun h => (s.readRequest_eq o).2 h⟩
    have ha : addrField o = a := Fin.ext (by simp only [addrField, ho]; omega)
    rw [(s.readRequest_eq o).1 hg (by omega), ha]
  · refine ⟨fun _ _ _ _ _ _ => rfl, fun tag hi lo reason hm => ?_, fun reached reason hm => ?_⟩
    · exact State.doneMessage_channel (c := .det) hm tag _ reason
    · exact State.movedMessage_door hm _ _
  · intro good l t ended
    refine ⟨fun hg hmsg h hp => ?_, fun hg hs' => ?_, fun hg hmsg hz hs' => ?_, fun hg hmsg hz hs' hp => ?_,
      fun h rest hg hmsg hlook htgl hstop ht hlen => ?_⟩
    · have hseen : State.msgSeenBy up g = true := by
        simp [State.msgSeenBy, show State.upGood up g.owner = true from hg, show (State.lookOf up).msg = true from hmsg]
      have hlk := State.upLooked_keeps (g := g) fun _ => State.takesOctet_false (.inr h)
      simp only [show State.upGood up g.owner = true from hg, show (State.lookOf up).msg = true from hmsg, hseen,
        if_true] at hlk
      exact (State.upFrame_seen hlk hseen (.inl Nat.zero_lt_two) rfl).trans (if_pos hp)
    · have hseen : State.msgSeenBy up g = true := by simp [State.msgSeenBy, hs']
      have hlk := State.upLooked_keeps (s := s) (g := g) (up := up) fun h => by rw [show State.upGood up g.owner = false from hg] at h; cases h
      simp only [show State.upGood up g.owner = false from hg, hseen, if_true, Bool.false_eq_true, if_false] at hlk
      exact State.upFrame_seen hlk hseen (.inl Nat.zero_lt_two) rfl
    · have hseen : State.msgSeenBy up g = true := by simp [State.msgSeenBy, hs']
      have hlk := State.upLooked_keeps (s := s) (g := g) (up := up) fun _ => State.takesOctet_false (.inl hmsg)
      simp only [show State.upGood up g.owner = true from hg, show (State.lookOf up).msg = false from hmsg, hseen, if_true,
        Bool.false_eq_true, if_false] at hlk
      exact State.upFrame_seen hlk hseen (hz.imp_left fun h => by simp [h]) rfl
    · have hnot : State.msgSeenBy up g = false := by simp [State.msgSeenBy, hs', show (State.lookOf up).msg = false from hmsg]
      have hlk := State.upLooked_keeps (s := s) (g := g) (up := up) fun _ => State.takesOctet_false (.inl hmsg)
      simp only [show State.upGood up g.owner = true from hg, show (State.lookOf up).msg = false from hmsg, hnot, if_true,
        Bool.false_eq_true, if_false] at hlk
      refine ((State.upFrame_keeps hlk (hz.imp_left fun h => by simp [h]) rfl).trans (if_neg (Nat.not_le.mpr hp))).trans ?_
      by_cases hf : 9 ≤ g.frames
      · exact (if_pos ⟨hf, hnot⟩).trans (if_pos hf).symm
      · refine (if_neg fun h => hf h.1).trans ((if_neg hf).trans ?_).symm
        rw [hs']
    · have hseen : State.msgSeenBy up g = true := by
        simp [State.msgSeenBy, show State.upGood up g.owner = true from hg, show (State.lookOf up).msg = true from hmsg]
      have hlk := State.upLooked_takes hg ((State.takesOctet_iff _ _).mpr ⟨hmsg, hlook, htgl, hstop⟩)
      rw [State.takeUpOctet_body (h := h) (rest := rest) (by exact ht), if_pos hlen] at hlk
      exact State.upFrame_seen hlk hseen (.inl Nat.zero_lt_two) rfl
end Sys2Proof.Machine
end

section
-- The proofs are elaborated one after the other: each of the many threads of a parallel run holds a stack of its own.
set_option Elab.async false
/-! PROOFS. The frame end (O51). -/

namespace Sys2Proof.Machine

open Sys2Proof

/-! ### The store takes no part in a grant walk -/

/-- The state with another record of the store and the power state. -/
def State.withSto (s : State) (x : Sto) : State := { s with sto := x }

section
variable (s : State) (x : Sto)

theorem State.ite_withSto {x : Sto} {c : Prop} [Decidable c] {a b a' b' : State} (ha : a' = a.withSto x)
    (hb : b' = b.withSto x) : (if c then a' else b') = (if c then a else b).withSto x := by
  split <;> assumption

theorem State.place_withSto (n : Notice) : (s.withSto x).place n = (s.place n).withSto x := by
  unfold State.place
  exact State.ite_withSto rfl rfl

theorem State.choose_withSto : (s.withSto x).choose = s.choose.withSto x := by
  unfold State.choose
  have he : markFirst (s.withSto x).eligible (s.withSto x).mbi.queue = markFirst s.eligible s.mbi.queue := rfl
  rw [he]
  refine State.ite_withSto ?_ rfl
  cases markFirst s.eligible s.mbi.queue <;> rfl

theorem State.enqueue_withSto (a : Addr) (b : DownBody) (e : Enqueuer) :
    (s.withSto x).enqueue a b e = ((s.enqueue a b e).1.withSto x, (s.enqueue a b e).2) := by
  unfold State.enqueue
  by_cases h : s.mbi.queue.length < Config.queueLimit
  · refine (if_pos h).trans ?_
    rw [if_pos h]
    refine congrArg (fun t : State => (t, true)) (Eq.trans ?_ (State.choose_withSto _ x))
    rfl
  · refine (if_neg h).trans ?_
    rw [if_neg h]

theorem State.askMove_withSto : (s.withSto x).askMove = s.askMove.withSto x := by
  have hd : (s.withSto x).dvc.task = s.dvc.task := rfl
  have hm : (s.withSto x).moduleOf .door = s.moduleOf .door := rfl
  unfold State.askMove
  rw [hd, hm]
  split
  · next origin target a _ _ =>
    refine State.ite_withSto ?_ rfl
    rw [State.enqueue_withSto]
    cases s.enqueue a (.move target) .dvc with
    | mk t b => cases b <;> rfl
  · rfl

theorem State.valveGranted_withSto : (s.withSto x).valveGranted = s.valveGranted.withSto x := by
  have hc : (s.withSto x).sfc.changeover = s.sfc.changeover := rfl
  unfold State.valveGranted
  dsimp only
  rw [hc]
  split
  · refine Eq.trans ?_ (State.place_withSto _ x _)
    rfl
  · rfl
  · rfl
  · rfl
  · rfl
  · rfl
  · rfl

theorem State.fanGranted_withSto : (s.withSto x).fanGranted = s.fanGranted.withSto x := by
  unfold State.fanGranted
  exact State.ite_withSto rfl rfl

theorem State.granteeEvent_withSto (l : Load) : (s.withSto x).granteeEvent l = (s.granteeEvent l).withSto x := by
  cases l with
  | doorDrive => exact s.askMove_withSto x
  | ventFan => exact s.fanGranted_withSto x
  | valveMotor => exact s.valveGranted_withSto x
  | drainPump => rfl
  | washPump => rfl
  | rinsePump => rfl
  | doserDet => rfl
  | doserRa => rfl
  | boosterA => rfl
  | boosterB => rfl
  | tankHeater => rfl

theorem State.grant_withSto (l : Load) : (s.withSto x).grant l = (s.grant l).withSto x := by
  unfold State.grant
  refine State.ite_withSto rfl (Eq.trans ?_ (State.granteeEvent_withSto _ x l))
  rfl

theorem State.revokeUntil_withSto (w limit : Nat) (ls : List Load) :
    State.revokeUntil w limit ls (s.withSto x) = (State.revokeUntil w limit ls s).withSto x := by
  induction ls generalizing s with
  | nil => rfl
  | cons l ls ih =>
    unfold State.revokeUntil
    exact State.ite_withSto rfl (ih (s.revoke l))

theorem State.makeRoom_withSto (l : Load) : (s.withSto x).makeRoom l = (s.makeRoom l).withSto x := by
  unfold State.makeRoom
  exact State.ite_withSto (s.revokeUntil_withSto x _ _ _) (State.ite_withSto rfl rfl)

theorem State.walkThrough_withSto (ls : List Load) :
    State.walkThrough ls (s.withSto x) = ((State.walkThrough ls s).1.withSto x, (State.walkThrough ls s).2) := by
  induction ls generalizing s with
  | nil => rfl
  | cons l ls ih =>
    unfold State.walkThrough
    by_cases h : s.fits l = true
    · rw [if_pos h]
      refine (if_pos h).trans ?_
      rw [State.grant_withSto, ih]
    · rw [if_neg h]
      refine (if_neg h).trans ?_
      rw [State.makeRoom_withSto]
      rfl

theorem State.walkAgain_withSto (n : Nat) : State.walkAgain n (s.withSto x) = (State.walkAgain n s).withSto x := by
  induction n generalizing s with
  | zero => rfl
  | succ n ih =>
    have ho : (s.withSto x).walkOrder = s.walkOrder := rfl
    unfold State.walkAgain
    rw [ho, State.walkThrough_withSto]
    cases State.walkThrough s.walkOrder s with
    | mk t b =>
      cases b with
      | true => exact ih t
      | false => rfl

theorem State.walk_withSto : (s.withSto x).walk = s.walk.withSto x := by
  unfold State.walk
  exact State.ite_withSto rfl (s.walkAgain_withSto x 4)

theorem State.endClaim_withSto (l : Load) : (s.withSto x).endClaim l = (s.endClaim l).withSto x := by
  have hc : (s.withSto x).claimOf l = s.claimOf l := rfl
  unfold State.endClaim
  rw [hc]
  cases (s.claimOf l).state <;> rfl

theorem State.release_withSto (l : Load) : (s.withSto x).release l = (s.release l).withSto x := by
  unfold State.release
  refine State.ite_withSto rfl ?_
  rw [State.endClaim_withSto, State.walk_withSto]

end

/-- A release leaves the store. -/
theorem State.release_sto (s : State) (l : Load) : (s.release l).sto = s.sto :=
  (congrArg State.sto (s.release_withSto s.sto l) :)
/-! ### What a frame carries (O51) -/

theorem State.frameOf_get (os : List Octet) (i : Fin 24) : (State.frameOf os).get i = (os[i.val]?).getD 0#8 := by
  fin_cases i <;> rfl

/-- The two octets of a bay in the octets of a frame (R141). -/
theorem State.dnOctets_bay (s : State) (n : Nat) (a : Addr) :
    (s.dnOctets n)[2 * a.val]? = (s.dnBay a)[0]? ∧ (s.dnOctets n)[2 * a.val + 1]? = (s.dnBay a)[1]? := by
  fin_cases a <;> exact ⟨rfl, rfl⟩

/-- The flags of a bay before its CRC-4 (R142). -/
def State.bayFlags (s : State) (a : Addr) : Octet := octetOf (s.go (s.kindAt a)) (s.linkedAt a) false false

theorem State.dn_command (s : State) (n : Nat) (a : Addr) :
    (s.buildFrame n).mbi.dn.get ⟨2 * a.val, by omega⟩ = s.commandOctet (s.kindAt a) := by
  refine (State.frameOf_get _ _).trans ?_
  rw [(s.dnOctets_bay n a).1]
  rfl

theorem State.dn_flags (s : State) (n : Nat) (a : Addr) :
    (s.buildFrame n).mbi.dn.get ⟨2 * a.val + 1, by omega⟩ =
      s.bayFlags a ||| BitVec.ofNat 8 (crc4 (s.commandOctet (s.kindAt a)) (s.bayFlags a)) := by
  refine (State.frameOf_get _ _).trans ?_
  rw [(s.dnOctets_bay n a).2]
  rfl

theorem State.dn_number (s : State) {n : Nat} (h : n < 256) : ((s.buildFrame n).mbi.dn.get 22).toNat = n := by
  have he : (s.buildFrame n).mbi.dn.get 22 = BitVec.ofNat 8 n := by
    refine (State.frameOf_get _ _).trans ?_
    obtain ⟨x, y, hxy⟩ : ∃ x y, s.dnMessage = [x, y] := by
      unfold State.dnMessage
      split <;> exact ⟨_, _, rfl⟩
    unfold State.dnOctets
    rw [hxy]
    rfl
  rw [he, BitVec.toNat_ofNat]
  omega

/-- The named bits of an octet (R144). -/
theorem octetOf_bits (b7 b6 b5 b4 : Bool) :
    (octetOf b7 b6 b5 b4).getLsbD 7 = b7 ∧ (octetOf b7 b6 b5 b4).getLsbD 6 = b6 ∧ (octetOf b7 b6 b5 b4).getLsbD 5 = b5 ∧
      (octetOf b7 b6 b5 b4).getLsbD 4 = b4 := by
  revert b7 b6 b5 b4
  decide

theorem octetOf_low (b7 b6 b5 b4 : Bool) : (octetOf b7 b6 b5 b4).toNat % 16 = 0 := by
  revert b7 b6 b5 b4
  decide

theorem crcBit_lt (reg : Nat) (b : Bool) : crcBit 4 0x3 reg b < 16 := by
  unfold crcBit
  have h : reg * 2 % 2 ^ 4 < 2 ^ 4 := Nat.mod_lt _ (by decide)
  split
  · exact Nat.xor_lt_two_pow (n := 4) h (by decide)
  · exact h

theorem foldl_crcBit_lt (bs : List Bool) {reg : Nat} (h : reg < 16) : bs.foldl (crcBit 4 0x3) reg < 16 := by
  induction bs generalizing reg with
  | nil => exact h
  | cons b bs ih => exact ih (crcBit_lt reg b)

theorem crc4_lt (c f : Octet) : crc4 c f < 16 := foldl_crcBit_lt _ (by decide)

/-- An octet whose low half takes a number below 16. -/
theorem or_nibble {f : Octet} {k : Nat} (hf : f.toNat % 16 = 0) (hk : k < 16) :
    (f ||| BitVec.ofNat 8 k).toNat % 16 = k ∧ ∀ i, 4 ≤ i → (f ||| BitVec.ofNat 8 k).getLsbD i = f.getLsbD i := by
  refine ⟨?_, fun i hi => ?_⟩
  · have hk' : k % 2 ^ 8 = k := Nat.mod_eq_of_lt (by omega)
    rw [BitVec.toNat_or, BitVec.toNat_ofNat, hk', show (16 : Nat) = 2 ^ 4 from rfl, Nat.or_mod_two_pow,
      Nat.mod_eq_of_lt (show k < 2 ^ 4 from hk), show f.toNat % 2 ^ 4 = 0 from hf, Nat.zero_or]
  · have hbit : k.testBit i = false := Nat.testBit_lt_two_pow (lt_of_lt_of_le (show k < 2 ^ 4 from hk)
      (Nat.pow_le_pow_right (by decide) hi))
    have hof : (BitVec.ofNat 8 k).getLsbD i = false := by simp [BitVec.getLsbD, Nat.mod_eq_of_lt (show k < 256 by omega), hbit]
    rw [BitVec.getLsbD_or, hof, Bool.or_false]

/-- GO and PRESENT of a bay, and its check (R141 to R143). -/
theorem State.dn_flag_bits (s : State) (n : Nat) (a : Addr) :
    ((s.buildFrame n).mbi.dn.get ⟨2 * a.val + 1, by omega⟩).getLsbD 7 = s.go (s.kindAt a) ∧
      ((s.buildFrame n).mbi.dn.get ⟨2 * a.val + 1, by omega⟩).getLsbD 6 = s.linkedAt a := by
  have hb := or_nibble (octetOf_low (s.go (s.kindAt a)) (s.linkedAt a) false false)
    (crc4_lt (s.commandOctet (s.kindAt a)) (s.bayFlags a))
  obtain ⟨h7, h6, -, -⟩ := octetOf_bits (s.go (s.kindAt a)) (s.linkedAt a) false false
  rw [State.dn_flags]
  exact ⟨(hb.2 7 (by decide)).trans h7, (hb.2 6 (by decide)).trans h6⟩

theorem crc4_congr {c f g : Octet} (h : ∀ i, 4 ≤ i → g.getLsbD i = f.getLsbD i) : crc4 c g = crc4 c f := by
  have ht : (octetBits g).take 4 = (octetBits f).take 4 := by
    simp only [octetBits, List.take_succ_cons, List.take_zero, h 7 (by decide), h 6 (by decide), h 5 (by decide),
      h 4 (by decide)]
  rw [crc4, crc4, ht]

theorem State.dn_bayGood (s : State) (n : Nat) (a : Addr) : State.bayGood (s.buildFrame n).mbi.dn a = true := by
  have hb := or_nibble (octetOf_low (s.go (s.kindAt a)) (s.linkedAt a) false false)
    (crc4_lt (s.commandOctet (s.kindAt a)) (s.bayFlags a))
  simp only [State.bayGood, State.bayOctets, State.dn_command, State.dn_flags, beq_iff_eq]
  exact hb.1.trans (crc4_congr hb.2).symm

/-- The softener command octet (R74, R76, R144). -/
theorem State.softenerOctet_bits (s : State) :
    s.softenerOctet.getLsbD 4 = decide (s.sfc.serve = .b) ∧
    s.softenerOctet.getLsbD 6 = (!s.regenPaused && s.regenColumn.isSome) ∧
    (∀ c : Column, s.regenColumn = some c →
      s.softenerOctet.getLsbD 7 = (!s.regenPaused && decide ((s.column c).state = .regenBrine)) ∧
        s.softenerOctet.getLsbD 5 = (!s.regenPaused && decide ((s.column c).state = .regenFast))) ∧
    (s.regenColumn = none → s.softenerOctet.getLsbD 7 = false ∧ s.softenerOctet.getLsbD 5 = false) := by
  have hregen : ∀ c, s.regenColumn = some c → (s.column c).state.regen = true := by
    intro c hc
    unfold State.regenColumn at hc
    split at hc
    · next h => cases hc; exact h
    · split at hc
      · next h => cases hc; exact h
      · cases hc
  unfold State.softenerOctet
  cases hc : s.regenColumn with
  | none =>
    obtain ⟨h7, h6, h5, h4⟩ := octetOf_bits (!s.regenPaused && decide (ColumnState.service = .regenBrine))
      (!s.regenPaused && ColumnState.service.regen) (!s.regenPaused && decide (ColumnState.service = .regenFast))
      (decide (s.sfc.serve = .b))
    refine ⟨h4, h6.trans rfl, (fun _ h => nomatch h), fun _ => ⟨h7.trans (by simp), h5.trans (by simp)⟩⟩
  | some c =>
    obtain ⟨h7, h6, h5, h4⟩ := octetOf_bits (!s.regenPaused && decide ((s.column c).state = .regenBrine))
      (!s.regenPaused && (s.column c).state.regen) (!s.regenPaused && decide ((s.column c).state = .regenFast))
      (decide (s.sfc.serve = .b))
    refine ⟨h4, h6.trans (by rw [hregen c hc]; rfl), fun d hd => ?_, fun h => nomatch h⟩
    cases hd
    exact ⟨h7, h5⟩
/-! ### The bays and the octets they bring (O51) -/

theorem State.owns_onBay (s : State) (a b : Addr) (f : Bay → Bay) : (s.onBay a f).owns b = s.owns b := rfl

/-- The three ways of a good octet (R146). -/
theorem State.lookBay_same {s : State} {a : Addr} {o : Octet} (h : (s.bay a).accepted = some o) :
    s.lookBay a o = s.onBay a fun b => { b with candidate := none } := if_pos h

theorem State.lookBay_again {s : State} {a : Addr} {o : Octet} {n : Nat} (h : (s.bay a).accepted ≠ some o)
    (hc : (s.bay a).candidate = some (o, n)) (hn : (n + 1) % 256 = s.mbi.frameNo) :
    s.lookBay a o = (s.onBay a fun _ => { candidate := none, accepted := some o }).deliverOctet a (s.bay a).accepted o := by
  unfold State.lookBay
  simp only [hc, hn, decide_true, Bool.and_self, if_true]
  exact if_neg h

theorem State.lookBay_new {s : State} {a : Addr} {o : Octet} (h : (s.bay a).accepted ≠ some o)
    (hc : ∀ n, (s.bay a).candidate = some (o, n) → (n + 1) % 256 ≠ s.mbi.frameNo) :
    s.lookBay a o = s.onBay a fun b => { b with candidate := some (o, s.mbi.frameNo) } := by
  unfold State.lookBay
  refine (if_neg h).trans (if_neg ?_)
  cases hb : (s.bay a).candidate with
  | none => exact Bool.false_ne_true
  | some p =>
    obtain ⟨c, n⟩ := p
    simp only [Bool.and_eq_true, decide_eq_true_eq, not_and]
    intro hco hn
    exact hc n (by rw [hb, hco]) hn

theorem State.deliverOctet_unlinked {s : State} {a : Addr} (h : (s.entry a).link ≠ .linked) (previous : Option Octet)
    (o : Octet) : s.deliverOctet a previous o = s := if_neg (by simp [State.linkedAt, h])

/-- The owners that take an accepted octet (R145, R146). -/
theorem State.deliverOctet_linked {s : State} {a : Addr} (h : (s.entry a).link = .linked)
    (hm : s.moduleOf (s.kindAt a) = some a) (previous : Option Octet) (o : Octet) :
    (s.kindAt a = .door → s.deliverOctet a previous o = s.doorAccepted previous o) ∧
    (s.kindAt a = .softener → s.deliverOctet a previous o = s.softenerAccepted previous o) ∧
    ((s.kindAt a = .doseDet ∨ s.kindAt a = .doseRa) → s.deliverOctet a previous o = s) := by
  have ho : s.kindAt a ≠ .none → (s.linkedAt a && s.owns a) = true := fun hk => by
    rw [Bool.and_eq_true]
    exact ⟨decide_eq_true h, (s.owns_iff a).mpr ⟨hk, hm⟩⟩
  unfold State.deliverOctet
  refine ⟨fun hk => ?_, fun hk => ?_, fun hk => ?_⟩
  · rw [if_pos (ho (by rw [hk]; decide)), hk]
  · rw [if_pos (ho (by rw [hk]; decide)), hk]
  · obtain hk | hk := hk <;> rw [if_pos (ho (by rw [hk]; decide)), hk]

/-- A bad bay (R143, R162, R167, R168). -/
theorem State.takeBay_unexpected {up : UpFrame} {s : State} {a : Addr} (hb : State.bayGood up a = false)
    (hl : (s.entry a).link = .notExpected) :
    State.takeBay up s a =
      (s.onBay a fun b => { b with candidate := none }).onEntry a fun e =>
        { e with bayErrors := min 65535 (e.bayErrors + 1) } := by
  rw [State.takeBay_bad hb]
  unfold State.badBay
  dsimp only
  rw [State.entry_onEntry_self, State.entry_onBay, hl]
  rfl

theorem State.takeBay_silent {up : UpFrame} {s : State} {a : Addr} (hb : State.bayGood up a = false)
    (hl : (s.entry a).link = .linked) :
    State.takeBay up s a =
      (let t := (s.onBay a fun b => { b with candidate := none }).onEntry a fun e =>
          { e with bayErrors := min 65535 (e.bayErrors + 1) };
        if 16 ≤ (s.entry a).silent + 1 then t.lose a .lost (.count 0) none
        else (t.onEntry a fun e => { e with silent := e.silent + 1 }).countAnswer a) := by
  rw [State.takeBay_bad hb]
  unfold State.badBay
  dsimp only
  rw [State.entry_onEntry_self, State.entry_onBay, hl]
  rfl

theorem State.takeBay_counts {up : UpFrame} {s : State} {a : Addr} {n : Nat} (hb : State.bayGood up a = false)
    (hl : (s.entry a).link = .seeking ∨ (s.entry a).link = .lost) (hc : (s.entry a).bringUp = .count n)
    (hu : (s.entry a).unpinLeft = none) :
    State.takeBay up s a =
      ((s.onBay a fun b => { b with candidate := none }).onEntry a fun e =>
        { e with bayErrors := min 65535 (e.bayErrors + 1) }).onEntry a fun e => { e with bringUp := .count 0 } := by
  rw [State.takeBay_bad hb, State.badBay_bringUp (by exact hl)]
  have hm : ∀ t : State, (t.entry a).bringUp = .count n → t.missBay a = t.onEntry a fun e => { e with bringUp := .count 0 } :=
    fun t ht => by rw [State.missBay, ht]
  rw [hm _ (by rw [State.entry_onEntry_self]; exact hc)]
  refine State.countAnswer_idle ?_ ?_ <;> rw [State.entry_onEntry_self, State.entry_onEntry_self]
  · exact fun _ h => by cases h
  · exact hu

/-! #### The accepted door octet (R123 to R129) -/

theorem State.recordDoor_eq (s : State) (previous : Option Octet) (o : Octet) :
    s.recordDoor previous o =
      { s with
        dvc := { s.dvc with
          door := doorStateOf o, bits := some (doorBitsOf o)
          openedFlag := decide (doorStateOf o = .ajar ∨ doorStateOf o = .opened ∨ doorStateOf o = .pushing ∨
            doorStateOf o = .blocked) || s.dvc.openedFlag
          releaseLeft := if (doorBitsOf o).latch then s.dvc.releaseLeft else none
          owed := if (doorBitsOf o).home then false else s.dvc.owed || previous.isNone } } := by
  unfold State.recordDoor
  cases doorStateOf o <;> simp [State.onDvc]

/-- A wake cause acts at the store's record alone. -/
theorem State.wake_withSto (s : State) (c : StandbyCause) : s.wake c = s.withSto (s.wake c).sto := by
  unfold State.wake
  split <;> rfl

theorem State.wake_sto_congr {s t : State} (h : t.sto = s.sto) (c : StandbyCause) : (t.wake c).sto = (s.wake c).sto := by
  have hw : t.wakes c = s.wakes c := by cases c <;> simp only [State.wakes, h]
  simp only [State.wake, hw, h]
  split
  · simp only [State.onSto, h]
  · exact h

/-- An idle machine without a vent has nothing that acts on the record (R30, R33, R36, R126, R130). -/
theorem State.idleDoor {s : State} (hphase : s.csq.phase = .idle) (hvent : s.dvc.vent.step = .none) (confirmed retracted : Bool) :
    (((if s.latchFails = true then s.raise .doorLatchFail 0 .stop else s).ventDoor .none confirmed retracted).cycleDoor).latchDoor
      = s := by
  have hlat : ¬ s.latchFails = true := by
    rw [State.latchFails_iff, hphase]
    rintro ⟨-, h | h, -⟩ <;> cases h
  have hv : s.ventDoor .none confirmed retracted = s := by
    rw [← hvent, State.ventDoor_step, hvent]
  have hc : s.cycleDoor = s := by rw [State.cycleDoor, hphase]
  have hl : s.latchDoor = s := by simp [State.latchDoor, State.latchLost, State.confirmLatch, hphase]
  rw [if_neg hlat, hv, hc, hl]

/-- Without a record removed by a reset there is nothing to raise again (R138). -/
theorem State.recallDoor_unmarked {s : State} (hb : s.dvc.blockedGone = false) (hl : s.dvc.latchGone = false) (home : Bool) :
    s.recallDoor home = s := by
  have hd : { s.dvc with blockedGone := false, latchGone := false } = s.dvc := by
    cases hd : s.dvc
    simp_all
  unfold State.recallDoor
  simp only [hb, hl, Bool.false_and, Bool.false_eq_true, if_false]
  exact congrArg (fun d : Dvc => ({ s with dvc := d } : State)) hd

/-- A record that is not noticed by fault, latch, vent or cycle: its notice alone (R123). -/
theorem State.doorAccepted_quiet {s v : State} {previous : Option Octet} {o : Octet}
    (hv : ((s.wake .door).recordDoor previous o).homeRetract (doorBitsOf o).home = v)
    (hstep : s.dvc.vent.step = .none) (hvent : v.dvc.vent.step = .none) (hphase : v.csq.phase = .idle)
    (hmarks : v.dvc.blockedGone = false ∧ v.dvc.latchGone = false) (hf : v.hasFault .doorBlocked 0 = false) :
    s.doorAccepted previous o =
      if (decide (s.dvc.door ≠ doorStateOf o) || decide (s.dvc.bits ≠ some (doorBitsOf o)) ||
          (s.retracting && (doorBitsOf o).home)) = true then v.noteDoor none else v := by
  have hend : v.endBlocked (doorBitsOf o).home = v := by
    unfold State.endBlocked
    rw [State.endCondition_absent hf, ite_self]
  unfold State.doorAccepted
  dsimp only
  rw [hv, hend, State.recallDoor_unmarked hmarks.1 hmarks.2, hstep]
  split
  · have hphase' : (v.noteDoor none).csq.phase = .idle := by simpa [State.noteDoor] using hphase
    have hvent' : (v.noteDoor none).dvc.vent.step = .none := by simpa [State.noteDoor] using hvent
    exact State.idleDoor hphase' hvent' _ _
  · exact State.idleDoor hphase hvent _ _

theorem State.noteDoor_wake (s : State) (x : Sto) : (s.withSto x).noteDoor none = (s.noteDoor none).withSto x :=
  s.place_withSto x _

/-- An accepted octet of a door that the machine does not act on (R123). -/
theorem State.doorAccepted_idle {s : State} {previous : Option Octet} {o : Octet} (hstep : s.dvc.vent.step = .none)
    (hphase : s.csq.phase = .idle) (hr : s.retracting = false)
    (hmarks : s.dvc.blockedGone = false ∧ s.dvc.latchGone = false) (hf : s.hasFault .doorBlocked 0 = false) :
    s.doorAccepted previous o =
      (if s.dvc.door = doorStateOf o ∧ s.dvc.bits = some (doorBitsOf o) then s.recordDoor previous o
        else (s.recordDoor previous o).noteDoor none).wake .door := by
  have hx (t : State) (ht : t.sto = s.sto) : t.wake .door = t.withSto (s.wake .door).sto := by
    rw [State.wake_withSto, State.wake_sto_congr ht]
  have hv : ((s.wake .door).recordDoor previous o).homeRetract (doorBitsOf o).home =
      (s.recordDoor previous o).withSto (s.wake .door).sto := by
    rw [State.homeRetract_eq, if_neg]
    · exact congrArg (fun t => State.recordDoor t previous o) (s.wake_withSto .door)
    · rw [State.recordDoor_retracting, hr]
      exact Bool.false_ne_true
  rw [State.doorAccepted_quiet hv hstep (by exact hstep) (by exact hphase) (by exact hmarks) (by exact hf), hr,
    State.noteDoor_wake]
  by_cases hc : s.dvc.door = doorStateOf o ∧ s.dvc.bits = some (doorBitsOf o)
  · rw [if_pos hc, if_neg (by simp [hc]), hx (s.recordDoor previous o) rfl]
  · have hsto : ((s.recordDoor previous o).noteDoor none).sto = s.sto :=
      (State.place_frame _ _).2.2.2.2.2.2.2.2.2.2.2.1
    rw [if_neg hc, if_pos, hx _ hsto]
    simp only [Bool.false_and, Bool.or_false, Bool.or_eq_true, decide_eq_true_eq]
    exact not_and_or.mp hc

/-- The home bit ends a RETRACT, with the one notice (R123, R129; log entry 35). -/
theorem State.doorAccepted_home {s : State} {previous : Option Octet} {o : Octet} {left : Nat} (hstep : s.dvc.vent.step = .none)
    (hphase : s.csq.phase = .idle) (ht : s.dvc.task = .retract left) (hhome : (doorBitsOf o).home = true)
    (hmarks : s.dvc.blockedGone = false ∧ s.dvc.latchGone = false) (hf : s.hasFault .doorBlocked 0 = false) :
    s.doorAccepted previous o =
      ((({ s.recordDoor previous o with
        dvc := { (s.recordDoor previous o).dvc with task := .none, retract := false } }).release .doorDrive).noteDoor
          none).wake .door := by
  have hr : s.retracting = true := by rw [State.retracting, ht]
  generalize hw : ({ s.recordDoor previous o with
    dvc := { (s.recordDoor previous o).dvc with task := .none, retract := false } } : State) = w
  have hv : ((s.wake .door).recordDoor previous o).homeRetract (doorBitsOf o).home =
      (w.release .doorDrive).withSto (s.wake .door).sto := by
    rw [State.homeRetract_eq, if_pos, ← State.release_withSto, ← hw]
    · refine congrArg (fun t => State.release t .doorDrive) ?_
      exact congrArg (fun t : State => ({ State.recordDoor t previous o with
        dvc := { (State.recordDoor t previous o).dvc with task := .none, retract := false } } : State)) (s.wake_withSto .door)
    · rw [State.recordDoor_retracting, hr, hhome]
      rfl
  have hk := w.release_keepsDoor .doorDrive
  have hwd : w.dvc.vent.step = .none ∧ w.csq.phase = .idle ∧ w.dvc.blockedGone = false ∧ w.dvc.latchGone = false ∧
      w.hasFault .doorBlocked 0 = false ∧ w.sto = s.sto := by
    rw [← hw]
    exact ⟨hstep, hphase, hmarks.1, hmarks.2, hf, rfl⟩
  obtain ⟨hwv, hwp, hwb, hwl, hwf, hws⟩ := hwd
  have hflu : (w.release .doorDrive).flu = w.flu := by
    unfold State.release
    split
    · rfl
    · rw [State.walk_flu]
      simp
  have hfault : ((w.release .doorDrive).withSto (s.wake .door).sto).hasFault .doorBlocked 0 = false := by
    have he : ((w.release .doorDrive).withSto (s.wake .door).sto).hasFault .doorBlocked 0 = w.hasFault .doorBlocked 0 :=
      congrArg (fun f : Flu => (f.list.find? fun r : FaultRec => decide (r.code = .doorBlocked ∧ r.detail = 0)).isSome) hflu
    exact he.trans hwf
  have hphase' : (w.release .doorDrive).csq.phase = .idle := by simpa using hwp
  have hsto : ((w.release .doorDrive).noteDoor none).sto = s.sto := by
    rw [State.noteDoor, (State.place_frame _ _).2.2.2.2.2.2.2.2.2.2.2.1, State.release_sto, hws]
  rw [State.doorAccepted_quiet hv hstep (by exact hk.vent hwv) (by exact hphase')
    ⟨hk.marks.1.trans hwb, hk.marks.2.trans hwl⟩ hfault, hr, hhome, State.noteDoor_wake,
    State.wake_withSto ((w.release .doorDrive).noteDoor none), State.wake_sto_congr hsto]
  exact if_pos (by simp)
/-! #### The accepted softener octet, the inlet and HALT (R2, R59, R72, R73, R78, R135) -/

theorem State.latchDoor_cases {s : State} (h : s.csq.phase = .rinseWait) :
    (s.latchEngaged = some true →
      s.latchDoor =
        { s with csq := { s.csq with rinseWait := { s.csq.rinseWait with confirmLeft := none, confirmed := true } } }) ∧
    (s.latchEngaged = some false → s.csq.rinseWait.confirmed = true → s.latchDoor = s.raise .doorLatchFail 0 .stop) ∧
    (s.latchEngaged = some false → s.csq.rinseWait.confirmed = false → s.latchDoor = s) := by
  unfold State.latchDoor State.latchLost State.confirmLatch
  refine ⟨fun he => ?_, fun he hc => ?_, fun he hc => ?_⟩
  · exact (if_neg (by simp [he])).trans (if_pos ⟨h, he⟩)
  · exact if_pos (by simp [h, he, hc])
  · exact (if_neg (by simp [hc])).trans (if_neg (by simp [he]))

theorem State.followSalt_cases (s : State) (previous : Option Octet) (o : Octet) :
    (let u := (match s.regenColumn with
        | some c =>
          if (s.column c).state = ColumnState.regenBrine then s.onColumn c fun r => { r with brineWeak := true } else s
        | none => s);
      (isSaltLow o = true → (∀ p, previous = some p → isSaltLow p = false) →
        s.followSalt previous o =
          (({ u with sfc := { u.sfc with saltLow := true } }).warn .saltLow 0).noteSoftener .saltLowSet s.sfc.serviceCol) ∧
      (isSaltLow o = true → (∃ p, previous = some p ∧ isSaltLow p = true) → s.followSalt previous o = u)) ∧
    (isSaltLow o = false → s.sfc.saltLow = true →
      s.followSalt previous o =
        (({ s with sfc := { s.sfc with saltLow := false } }).endCondition .saltLow 0).noteSoftener .saltLowCleared
          s.sfc.serviceCol) ∧
    (isSaltLow o = false → s.sfc.saltLow = false → s.followSalt previous o = s.endCondition .saltLow 0) := by
  refine ⟨?_, fun ho hs => ?_, fun ho hs => ?_⟩
  · intro u
    have hu : u.sfc.serviceCol = s.sfc.serviceCol := by
      simp only [u]
      split
      · split
        · next c _ _ => cases c <;> rfl
        · rfl
      · rfl
    have hf (ho : isSaltLow o = true) :
        s.followSalt previous o =
          if (previous.map isSaltLow).getD false = true then u
          else ((u.onSfc fun x => { x with saltLow := true }).warn .saltLow 0).noteSoftener .saltLowSet u.sfc.serviceCol := by
      unfold State.followSalt
      exact if_pos ho
    refine ⟨fun ho hp => ?_, fun ho hp => ?_⟩
    · rw [hf ho, if_neg, hu]
      · rfl
      · cases previous with
        | none => exact Bool.false_ne_true
        | some p => simp [hp p rfl]
    · obtain ⟨p, rfl, hp⟩ := hp
      exact (hf ho).trans (if_pos hp)
  · exact (if_neg (by simp [ho])).trans (if_pos hs)
  · exact (if_neg (by simp [ho])).trans (if_neg (by simp [hs]))

theorem State.followValve_moving {s : State} (h : s.sfc.changeover = .moving) :
    s.followValve (.serves s.sfc.target) = s.completeMove ∧ s.followValve .fault = s.failMove ∧ s.followValve .moving = s := by
  unfold State.followValve
  rw [h]
  exact ⟨if_pos rfl, rfl, rfl⟩

theorem State.completeMove_eq (s : State) :
    s.completeMove =
      (((((s.onColumn s.sfc.serviceCol fun r => { r with state := .exhausted, capacity := 0 }).onColumn s.sfc.target
        fun r => { r with state := .service }).onSfc fun x : Sfc =>
          { x with serviceCol := s.sfc.target, changeover := .none, moveLeft := none }).release
            .valveMotor).noteSoftener .changeoverComplete s.sfc.target).startRegen := by
  have hsw : s.swapColumns =
      ((s.onColumn s.sfc.serviceCol fun r => { r with state := .exhausted, capacity := 0 }).onColumn s.sfc.target
        fun r => { r with state := .service }).onSfc fun x : Sfc =>
          { x with serviceCol := s.sfc.target, changeover := .none, moveLeft := none } := by
    have ht (u : State) (c : Column) (f : ColumnRec → ColumnRec) : (u.onColumn c f).sfc.target = u.sfc.target := by
      cases c <;> rfl
    unfold State.swapColumns
    generalize hv : ((s.onColumn s.sfc.serviceCol fun r => { r with state := .exhausted, capacity := 0 }).onColumn s.sfc.target
      fun r => { r with state := .service }) = v
    have hvt : v.sfc.target = s.sfc.target := by rw [← hv, ht, ht]
    rw [← hvt]
    rfl
  rw [State.completeMove, hsw]

/-- The inlet in OPENING, at the frame sent (R2, R4). -/
theorem State.inletFrame_opening {s : State} (h : s.whu.phase = .opening) :
    (∀ a : Addr, s.moduleOf .softener = some a →
      ((s.mbi.dn.get ⟨2 * a.val, by omega⟩).getLsbD 7 = true ∨
        (s.mbi.dn.get ⟨2 * a.val, by omega⟩).getLsbD 6 = true) → s.inletFrame = s) ∧
    ((∀ a : Addr, s.moduleOf .softener = some a →
        (s.mbi.dn.get ⟨2 * a.val, by omega⟩).getLsbD 7 = false ∧
          (s.mbi.dn.get ⟨2 * a.val, by omega⟩).getLsbD 6 = false) →
      s.inletFrame = s.openInlet.1.deliverReport s.openInlet.2) := by
  unfold State.inletFrame
  refine ⟨fun a ha hb => if_neg ?_, fun hall => if_pos ⟨h, ?_⟩⟩
  · rintro ⟨-, hd⟩
    simp only [State.allowsDraw, ha, Bool.and_eq_true, Bool.not_eq_true'] at hd
    obtain hb | hb := hb
    · rw [hb] at hd; cases hd.1
    · rw [hb] at hd; cases hd.2
  · unfold State.allowsDraw
    cases hm : s.moduleOf .softener with
    | none => rfl
    | some a => simp only [hall a hm, Bool.not_false, Bool.and_self]

theorem State.readHalt_cases (s : State) :
    (s.lba.halt = false →
      s.readHalt true = ({ s with lba := { s.lba with halt := true, haltClearLeft := none, released := 0 } }).haltDoor) ∧
    (s.lba.halt = true → s.readHalt true = { s with lba := { s.lba with haltClearLeft := none, released := 0 } }) ∧
    (s.lba.halt = true → s.lba.haltClearLeft = none → s.lba.released = 0 →
      s.readHalt false = { s with lba := { s.lba with released := 1 } }) ∧
    (s.lba.halt = true → s.lba.haltClearLeft = none → s.lba.released ≠ 0 →
      s.readHalt false = { s with lba := { s.lba with released := 0, haltClearLeft := some 1000 } }) ∧
    ((s.lba.halt = false ∨ s.lba.haltClearLeft ≠ none) → s.readHalt false = s) := by
  have htrue : s.readHalt true =
      if s.lba.halt then s.onLba fun b => { b with halt := true, haltClearLeft := none, released := 0 }
      else (s.onLba fun b => { b with halt := true, haltClearLeft := none, released := 0 }).haltDoor := rfl
  have hfalse : s.readHalt false =
      if s.lba.halt = true ∧ s.lba.haltClearLeft = none then
        if s.lba.released = 0 then s.onLba fun b => { b with released := 1 }
        else s.onLba fun b => { b with released := 0, haltClearLeft := some 1000 }
      else s := rfl
  rw [htrue, hfalse]
  refine ⟨fun h => if_neg (by simp [h]), fun h => (if_pos h).trans ?_, fun h hc hr => (if_pos ⟨h, hc⟩).trans (if_pos hr),
    fun h hc hr => (if_pos ⟨h, hc⟩).trans (if_neg hr), fun h => if_neg fun hc => ?_⟩
  · rw [← h]
    rfl
  · obtain h | h := h
    · rw [hc.1] at h; cases h
    · exact h hc.2

theorem State.haltDoor_cases (s : State) :
    (let t := s.raise .doorObstructed 0 .stop;
      (t.dvc.task = .none → s.haltDoor = t) ∧
      (∀ (o : PushOrigin) (target : Nat), t.dvc.task = .push o target .delivered → s.haltDoor = t) ∧
      (∀ (o : PushOrigin) (target : Nat),
        (t.dvc.task = .push o target .claimed ∨ t.dvc.task = .push o target .queued) →
        s.haltDoor =
          ((({ t with dvc := { t.dvc with task := .none, owed := true } }).release .doorDrive).withdrawMove).ventGoesOn) ∧
      (∀ left : Nat, t.dvc.task = .retract left →
        s.haltDoor =
          ((({ t with dvc := { t.dvc with task := .none, retract := false } }).release .doorDrive).noteDoor
            none).ventGoesOn)) := by
  intro t
  have ht : s.raise .doorObstructed 0 .stop = t := rfl
  unfold State.haltDoor
  dsimp only
  rw [ht]
  refine ⟨fun h => ?_, fun o target h => ?_, fun o target h => ?_, fun left h => ?_⟩
  · rw [h]
  · rw [h]
  · obtain h | h := h <;> rw [h] <;> rfl
  · rw [h]
    rfl

theorem State.ventGoesOn_cases (s : State) :
    (s.dvc.vent.step = .push → s.ventGoesOn = s.fanOnly) ∧
    (s.dvc.vent.step = .retract → s.ventGoesOn = s.afterRetract) ∧
    (s.dvc.vent.step ≠ .push → s.dvc.vent.step ≠ .retract → s.ventGoesOn = s) := by
  unfold State.ventGoesOn
  refine ⟨fun h => by rw [h], fun h => by rw [h], fun hp hr => ?_⟩
  cases h : s.dvc.vent.step with
  | push => exact absurd h hp
  | retract => exact absurd h hr
  | none => rfl
  | unlatch => rfl
  | fanWait => rfl
  | fan => rfl

/-- The end of a frame, part by part (R140, R147). -/
theorem State.endFrame_eq (up : UpFrame) (s : State) :
    (let t := (s.inletFrame.readHalt (!(up.get 22).getLsbD 7)).takeBays up;
      let u := if s.mbi.down.shown = true ∧ t.mbi.down.shown = true then t.downFrame up else t;
      let v := (match u.mbi.grant with
        | some g => u.upFrame up g
        | none => u);
      s.endFrame up = (v.readRequest (up.get 16)).watchFrame (decide (∀ i : Fin 24, up.get i = 0#8))) := by
  intro t u v
  have hzero : State.allZero up = decide (∀ i : Fin 24, up.get i = 0#8) := by
    rw [State.allZero, Bool.eq_iff_iff, decide_eq_true_eq, List.all_eq_true]
    simp only [decide_eq_true_eq, Vector.mem_toList_iff]
    refine ⟨fun h i => h _ (Vector.getElem_mem i.isLt), fun h o ho => ?_⟩
    obtain ⟨i, hi, rfl⟩ := Vector.mem_iff_getElem.mp ho
    exact h ⟨i, hi⟩
  have hu : (if (s.mbi.down.shown && t.mbi.down.shown) = true then t.downFrame up else t) = u :=
    if_congr (Bool.and_eq_true _ _ ▸ Iff.rfl) rfl rfl
  have hv : (match u.mbi.grant with
      | some g => u.upFrame up g
      | none => u) = v := rfl
  rw [← hzero, ← hv, ← hu]
  rfl

/-- Settles O51. -/
theorem frameEndTakesEveryBayAndBuildsTheNext : Obligations.FrameEndTakesEveryBayAndBuildsTheNext := by
  unfold Obligations.FrameEndTakesEveryBayAndBuildsTheNext
  refine ⟨fun up s hs hl => ?_, fun up s left hs hl => ?_, fun s n hn => s.dn_number hn, fun s n a => ?_, fun s n a => ?_,
    fun s n a => s.dn_bayGood n a, fun s a o n hl h hc hn => ?_, fun s a o h hc => State.lookBay_new h hc,
    fun up s a hb hl => State.takeBay_unexpected hb hl, fun s n a => ?_, fun s a o h => State.lookBay_same h,
    fun s a o n hl h hc hn hm => ?_, fun up s a hb => if_pos hb, fun up s a hb => ?_, State.recordDoor_eq,
    fun s previous o hv hp hr hb hl hf => State.doorAccepted_idle hv hp hr ⟨hb, hl⟩ hf,
    fun s previous o left hv hp ht hh hb hl hf => State.doorAccepted_home hv hp ht hh ⟨hb, hl⟩ hf,
    fun s h => State.latchDoor_cases h, fun s previous o => rfl, fun s h hne => ?_, fun s h => ?_, State.followSalt_cases,
    State.endFrame_eq, fun up s => rfl, fun s => ⟨fun h => if_neg fun hc => h hc.1, fun h => ?_⟩, State.readHalt_cases,
    State.haltDoor_cases, State.ventGoesOn_cases⟩
  · intro t
    have he : exec (.frameEnd up) s = .next t.nextFrame := by
      refine congrArg Host.Outcome.next ((if_pos ?_).trans (congrArg State.nextFrame (State.event_on hs _)))
      simp [hs, State.lineRuns, hl]
    refine ⟨fun ht => he.trans (congrArg Host.Outcome.next (if_pos ?_)), fun ht => he.trans (congrArg Host.Outcome.next (if_neg ?_))⟩
    · simp [State.lineRuns, ht]
    · simp [State.lineRuns, ht]
  · refine congrArg Host.Outcome.next ((if_neg ?_).trans (State.event_on hs _))
    simp [State.lineRuns, hl]
  · rw [(s.dn_flag_bits n a).1]
    cases h : s.kindAt a <;> rfl
  · exact (s.dn_flag_bits n a).2
  · exact (State.lookBay_again h hc hn).trans (State.deliverOctet_unlinked (by exact hl) _ _)
  · rw [s.dn_command n a]
    refine ⟨fun hk => ?_, fun hk => ?_, fun hk => ?_, fun hk => ?_⟩ <;> rw [hk]
    · exact ⟨(octetOf_bits _ _ _ _).1, (octetOf_bits _ _ _ _).2.1, (octetOf_bits _ _ _ _).2.2.1⟩
    · exact s.softenerOctet_bits
    · exact (octetOf_bits _ _ _ _).1
    · exact (octetOf_bits _ _ _ _).1
  · rw [State.lookBay_again h hc hn]
    exact State.deliverOctet_linked (s := s.onBay a fun _ => { candidate := none, accepted := some o }) hl hm _ o
  · intro t
    refine ⟨fun hl hn => (State.takeBay_silent hb hl).trans (if_pos hn), fun hl hn hc hu =>
      ((State.takeBay_silent hb hl).trans (if_neg (by omega))).trans (State.countAnswer_idle ?_ ?_), fun hl hc hu => ?_⟩
    · rw [State.entry_onEntry_self, State.entry_onEntry_self, State.entry_onBay, hc]
      exact fun _ h => by cases h
    · rw [State.entry_onEntry_self, State.entry_onEntry_self]
      exact hu
    · obtain ⟨n, hn⟩ := hc
      exact State.takeBay_counts hb hl hn hu
  · rw [(State.followValve_moving h).1, State.completeMove_eq]
  · exact (State.followValve_moving h).2
  · intro t
    obtain ⟨hstay, hopen⟩ := State.inletFrame_opening h
    refine ⟨fun a ha hb => hstay a ha hb, fun hall => ⟨fun hr => (hopen hall).trans ?_, fun w hr => (hopen hall).trans ?_⟩⟩
    · simp only [State.openInlet, hr, Option.map_none, State.deliverReport]
      rfl
    · simp only [State.openInlet, hr, Option.map_some]
      rfl
end Sys2Proof.Machine
end

section
-- The proofs are elaborated one after the other: each of the many threads of a parallel run holds a stack of its own.
set_option Elab.async false
/-! PROOFS. What an event's end keeps of the budget and the tables, and the claims and timers of the arbiter (O46). -/

namespace Sys2Proof.Machine

open Sys2Proof

/-! ### What the budget and the tables keep while the blocks act (O46, O21)

The end of an event, and a claim that ends as unfit, let many blocks act. None of them changes a setting, the budget in
force, a stock or the record of a module, none grants a load that settles, and none takes an entry out of the settling
list. -/

/-- What a change of a setting evaluates at a channel: the stock and its two flags (R110 to R113). -/
def ChannelRec.levels (r : ChannelRec) : Nat × Bool × Bool := (r.stock, r.empty, r.low)

/-- An entry of the module table but for a query that waits for room. -/
def Entry.row (e : Entry) : Entry := { e with wantQuery := false }

/-- From `s` to `t` the settings, the budget in force, the reply, the stocks and the module table stay; the settling list
loses no entry, and a load that settles is not granted. -/
structure State.KeepsForce (t s : State) : Prop where
  settings : t.settings = s.settings
  inForce : t.lba.inForce = s.lba.inForce
  settling : ∀ e ∈ s.lba.settling, e ∈ t.lba.settling
  ungranted : ∀ l, s.settles l = true → s.granted l = false → t.granted l = false
  reply : t.plk.reply = s.plk.reply
  levels : ∀ c, (t.channel c).levels = (s.channel c).levels
  rows : ∀ a, (t.entry a).row = (s.entry a).row

theorem State.settles_of_mem {s : State} {l : Load} {e : Settling} (he : e ∈ s.lba.settling) (hl : e.load = l) :
    s.settles l = true := List.any_eq_true.mpr ⟨e, he, decide_eq_true hl⟩

namespace State.KeepsForce

variable {s t u : State}

theorem refl (s : State) : s.KeepsForce s := ⟨rfl, rfl, fun _ h => h, fun _ _ h => h, rfl, fun _ => rfl, fun _ => rfl⟩

theorem settles (h : t.KeepsForce s) {l : Load} (hl : s.settles l = true) : t.settles l = true := by
  obtain ⟨e, he, hle⟩ := List.any_eq_true.mp hl
  exact State.settles_of_mem (h.settling e he) (of_decide_eq_true hle)

theorem trans (h : u.KeepsForce t) (g : t.KeepsForce s) : u.KeepsForce s where
  settings := h.settings.trans g.settings
  inForce := h.inForce.trans g.inForce
  settling e he := h.settling e (g.settling e he)
  ungranted l hs hg := h.ungranted l (g.settles hs) (g.ungranted l hs hg)
  reply := h.reply.trans g.reply
  levels c := (h.levels c).trans (g.levels c)
  rows a := (h.rows a).trans (g.rows a)

/-- A step that leaves the settings, the arbiter, the reply, the channels and the module table. -/
theorem frame (h : t.KeepsForce s) (hset : u.settings = t.settings := by rfl) (hlba : u.lba = t.lba := by rfl)
    (hreply : u.plk.reply = t.plk.reply := by rfl) (hdsc : u.dsc = t.dsc := by rfl) (hmsu : u.msu = t.msu := by rfl) :
    u.KeepsForce s :=
  trans (t := t)
    ⟨hset, by rw [hlba], fun e he => hlba ▸ he, fun l _ hg => by rwa [State.granted, State.claimOf, hlba], hreply,
      fun c => by cases c <;> simp only [State.channel, hdsc], fun a => by rw [State.entry, hmsu]; rfl⟩ h

theorem cond (h : t.KeepsForce s) {c : Prop} {d : Decidable c} (hf : t.KeepsForce s → u.KeepsForce s) :
    (if c then u else t).KeepsForce s := by
  split
  · exact hf h
  · exact h

theorem ite {c : Prop} {d : Decidable c} {a b : State} (ha : a.KeepsForce s) (hb : b.KeepsForce s) :
    (if c then a else b).KeepsForce s := by
  split
  · exact ha
  · exact hb

theorem fst_ite {α : Type} {c : Prop} {d : Decidable c} {p q : State × α} (hp : p.1.KeepsForce s) (hq : q.1.KeepsForce s) :
    (if c then p else q).1.KeepsForce s := by
  split
  · exact hp
  · exact hq

theorem fst_of_eq {α : Type} {r : State × α} {a : State} {b : α} (h : r.1.KeepsForce s) (e : r = (a, b)) :
    a.KeepsForce s := by
  rw [e] at h; exact h

theorem foldl {α : Type} {f : State → α → State} (h : t.KeepsForce s) {as : List α}
    (hf : ∀ {v : State} {a : α}, v.KeepsForce s → (f v a).KeepsForce s) : (as.foldl f t).KeepsForce s :=
  List.foldlRecOn (motive := fun v => v.KeepsForce s) as f h fun _ hv _ _ => hf hv

theorem fst_foldl {α β : Type} {f : State × β → α → State × β} {p : State × β} (h : p.1.KeepsForce s) {as : List α}
    (hf : ∀ {q : State × β} {a : α}, q.1.KeepsForce s → (f q a).1.KeepsForce s) : (as.foldl f p).1.KeepsForce s :=
  List.foldlRecOn (motive := fun v => v.1.KeepsForce s) as f h fun _ hv _ _ => hf hv

theorem onWhu (h : t.KeepsForce s) {f : Whu → Whu} : (t.onWhu f).KeepsForce s := h.frame
theorem onCsq (h : t.KeepsForce s) {f : Csq → Csq} : (t.onCsq f).KeepsForce s := h.frame
theorem onSfc (h : t.KeepsForce s) {f : Sfc → Sfc} : (t.onSfc f).KeepsForce s := h.frame
theorem onDvc (h : t.KeepsForce s) {f : Dvc → Dvc} : (t.onDvc f).KeepsForce s := h.frame
theorem onVent (h : t.KeepsForce s) {f : Vent → Vent} : (t.onVent f).KeepsForce s := h.frame
theorem onMbi (h : t.KeepsForce s) {f : Mbi → Mbi} : (t.onMbi f).KeepsForce s := h.frame
theorem onFlu (h : t.KeepsForce s) {f : Flu → Flu} : (t.onFlu f).KeepsForce s := h.frame
theorem onSto (h : t.KeepsForce s) {f : Sto → Sto} : (t.onSto f).KeepsForce s := h.frame

theorem onColumn (h : t.KeepsForce s) {c : Column} {f : ColumnRec → ColumnRec} : (t.onColumn c f).KeepsForce s := by
  cases c <;> exact h.frame

theorem onPlk (h : t.KeepsForce s) {f : Plk → Plk} (hf : (f t.plk).reply = t.plk.reply := by rfl) :
    (t.onPlk f).KeepsForce s := h.frame (hreply := hf)

theorem onDsc (h : t.KeepsForce s) {f : Dsc → Dsc} (hd : (f t.dsc).det = t.dsc.det := by rfl)
    (hr : (f t.dsc).ra = t.dsc.ra := by rfl) : (t.onDsc f).KeepsForce s :=
  trans (u := t.onDsc f) (t := t) ⟨rfl, rfl, fun _ he => he, fun _ _ hg => hg, rfl,
    fun c => by
      have hc : (t.onDsc f).channel c = t.channel c := by cases c <;> assumption
      rw [hc], fun _ => rfl⟩ h

/-- A change of a channel's orders, carry and marks. -/
theorem onChannel (h : t.KeepsForce s) {c : Channel} {f : ChannelRec → ChannelRec}
    (hf : (f (t.channel c)).levels = (t.channel c).levels := by rfl) : (t.onChannel c f).KeepsForce s := by
  refine trans (t := t) ?_ h
  refine ⟨by cases c <;> rfl, by cases c <;> rfl, by cases c <;> exact fun _ he => he, by cases c <;> exact fun _ _ hg => hg,
    by cases c <;> rfl, fun d => ?_, by cases c <;> exact fun _ => rfl⟩
  rw [State.channel_onChannel]
  split
  · next hd => rw [hd]; exact hf
  · rfl

/-- A change of an entry that concerns its waiting query alone. -/
theorem onEntry (h : t.KeepsForce s) {a : Addr} {f : Entry → Entry}
    (hf : (f (t.entry a)).row = (t.entry a).row := by rfl) : (t.onEntry a f).KeepsForce s := by
  refine trans (u := t.onEntry a f) (t := t)
    ⟨rfl, rfl, fun _ he => he, fun _ _ hg => hg, rfl, fun _ => rfl, fun b => ?_⟩ h
  rw [State.entry_onEntry]
  split
  · next hb => rw [hb]; exact hf
  · rfl

/-- A change of the arbiter's marks, halt fields or count of grants, or an entry put into the settling list. -/
theorem onMarks (h : t.KeepsForce s) {f : Lba → Lba} (hc : (f t.lba).claims = t.lba.claims := by rfl)
    (hf : (f t.lba).inForce = t.lba.inForce := by rfl)
    (hs : ∀ e ∈ t.lba.settling, e ∈ (f t.lba).settling := by exact fun _ he => he) : (t.onLba f).KeepsForce s := by
  have hgranted (l : Load) : (t.onLba f).granted l = t.granted l :=
    congrArg (fun v : Vector Claim 11 => decide ((v.get l.ix).state = .granted)) hc
  exact trans (u := t.onLba f) (t := t) ⟨rfl, hf, hs, fun l _ hg => (hgranted l).trans hg, rfl, fun _ => rfl, fun _ => rfl⟩ h

theorem settle (h : t.KeepsForce s) {l : Load} {w : Nat} : (t.settle l w).KeepsForce s :=
  h.onMarks (hs := fun _ he => List.mem_append_left _ he)

/-- A change of a claim that grants nothing. -/
theorem onClaim (h : t.KeepsForce s) {l : Load} {f : Claim → Claim}
    (hf : (f (t.claimOf l)).state = .granted → (t.claimOf l).state = .granted) : (t.onClaim l f).KeepsForce s := by
  refine trans (u := t.onClaim l f) (t := t) ⟨rfl, rfl, fun _ he => he, fun k _ hg => ?_, rfl, fun _ => rfl, fun _ => rfl⟩ h
  rw [State.granted, State.claimOf_onClaim]
  split
  · next hk =>
    subst hk
    exact decide_eq_false fun hs => by simp [State.granted, hf hs] at hg
  · exact hg

/-! ### Notices, faults and the downstream queue -/

theorem place (h : t.KeepsForce s) {n : Notice} : (t.place n).KeepsForce s := ite h.onPlk h.onPlk
theorem wake (h : t.KeepsForce s) {cause : StandbyCause} : (t.wake cause).KeepsForce s := h.cond fun hv => hv.onSto

theorem startWrite (h : t.KeepsForce s) {image : ImageId} : (t.startWrite image).KeepsForce s := by
  unfold State.startWrite
  split <;> exact h.onSto

theorem kickStore (h : t.KeepsForce s) : t.kickStore.KeepsForce s := by
  unfold State.kickStore
  refine ite h (ite h ?_)
  split
  · exact h
  · exact ite h.startWrite (h.cond fun hv => hv.startWrite)

theorem saveCounters (h : t.KeepsForce s) : t.saveCounters.KeepsForce s := h.onSto.kickStore

theorem setPower (h : t.KeepsForce s) {p : Power} {cause : StandbyCause} : (t.setPower p cause).KeepsForce s := h.onSto.place

theorem onFault (h : t.KeepsForce s) {code : FaultCode} {detail : Nat} {f : FaultRec → FaultRec} :
    (t.onFault code detail f).KeepsForce s := h.onFlu

theorem noteFault (h : t.KeepsForce s) {event : FaultEvent} {code : FaultCode} {detail : Nat} :
    (t.noteFault event code detail).KeepsForce s := by
  unfold State.noteFault
  split
  · exact h.place
  · exact h

theorem removeFault (h : t.KeepsForce s) {code : FaultCode} {detail : Nat} : (t.removeFault code detail).KeepsForce s := by
  unfold State.removeFault
  split
  · exact h.onFlu.place
  · exact h

theorem createFault (h : t.KeepsForce s) {code : FaultCode} {detail : Nat} {cls : FaultClass} :
    (t.createFault code detail cls).KeepsForce s := h.onFlu.place

theorem enterFault (h : t.KeepsForce s) {code : FaultCode} {detail : Nat} {cls : FaultClass} :
    (t.enterFault code detail cls).1.KeepsForce s := by
  unfold State.enterFault
  split
  · exact ite h.onFault h.onFault.noteFault
  · refine fst_ite h.createFault ?_
    split
    · exact h.removeFault.createFault
    · exact h.onFlu (f := fun u => { u with overflow := satAdd 255 u.overflow 1 })

theorem escalate (h : t.KeepsForce s) {code : FaultCode} {detail : Nat} {cls : FaultClass} :
    (t.escalate code detail cls).KeepsForce s := by
  unfold State.escalate
  split
  · exact h
  · exact ite (ite (ite h.onFlu.onFlu h.onFlu.onFlu.onFault.noteFault) h.onFlu) h

theorem raiseList (h : t.KeepsForce s) {code : FaultCode} {detail : Nat} {cls : FaultClass} :
    (t.raiseList code detail cls).1.KeepsForce s := by
  unfold State.raiseList
  split
  next e => exact fst_ite (h.enterFault.fst_of_eq e).escalate.wake (h.enterFault.fst_of_eq e)

theorem warn (h : t.KeepsForce s) {code : FaultCode} {detail : Nat} : (t.warn code detail).KeepsForce s := h.raiseList

theorem endCondition (h : t.KeepsForce s) {code : FaultCode} {detail : Nat} : (t.endCondition code detail).KeepsForce s := by
  unfold State.endCondition
  split
  · exact h
  · exact ite h.onFault h.removeFault

theorem tellUnfit (h : t.KeepsForce s) {l : Load} : (t.tellUnfit l).KeepsForce s := h.onMarks.warn

theorem choose (h : t.KeepsForce s) : t.choose.KeepsForce s := by
  unfold State.choose
  refine ite ?_ h
  split
  · exact h.onMbi
  · exact h

theorem enqueue (h : t.KeepsForce s) {dest : Addr} {body : DownBody} {source : Enqueuer} :
    (t.enqueue dest body source).1.KeepsForce s := fst_ite h.onMbi.choose h

theorem askOrder (h : t.KeepsForce s) {c : Channel} : (t.askOrder c).KeepsForce s := by
  unfold State.askOrder
  split
  · refine ite ?_ h
    split
    · next e => exact (h.enqueue.fst_of_eq e).onChannel
    · next e => exact h.enqueue.fst_of_eq e
  · exact h

theorem askMove (h : t.KeepsForce s) : t.askMove.KeepsForce s := by
  unfold State.askMove
  split
  · refine ite ?_ h
    split
    · next e => exact (h.enqueue.fst_of_eq e).onDvc
    · next e => exact h.enqueue.fst_of_eq e
  · exact h

theorem askQuery (h : t.KeepsForce s) {a : Addr} : (t.askQuery a).KeepsForce s := by
  unfold State.askQuery
  split
  · next e => exact (h.enqueue.fst_of_eq e).onEntry
  · next e => exact (h.enqueue.fst_of_eq e).onEntry

theorem askQueries (h : t.KeepsForce s) : t.askQueries.KeepsForce s := h.foldl fun hv => hv.cond fun hw => hw.askQuery

theorem askWaiting (h : t.KeepsForce s) : t.askWaiting.KeepsForce s :=
  ite h.onMbi.choose.askOrder.askOrder.askMove.askQueries h

theorem removeMsgs (h : t.KeepsForce s) {p : DownMsg → Bool} : (t.removeMsgs p).KeepsForce s := ite h.onMbi.onMbi h

theorem kickTx (h : t.KeepsForce s) : t.kickTx.KeepsForce s := by
  refine ite h ?_
  unfold State.chooseTx
  split
  · exact h
  · exact h.onPlk
  · exact h.onPlk
  · exact h.onPlk
  · exact h

/-! ### Claims and grants -/

theorem fanGranted (h : t.KeepsForce s) : t.fanGranted.KeepsForce s := ite h.onVent.onDvc h

theorem granteeEvent (h : t.KeepsForce s) {l : Load} : (t.granteeEvent l).KeepsForce s := by
  unfold State.granteeEvent
  split
  · exact h.askMove
  · exact h.fanGranted
  · unfold State.valveGranted
    dsimp only
    split
    · exact h.onSfc.place
    · exact h.onSfc
    all_goals exact h
  all_goals exact h

/-- A grant that fits is of a load that does not settle, or raises the wattage of one that is granted (R50). -/
theorem grant (h : t.KeepsForce s) {l : Load} (hfits : t.fits l = true) : (t.grant l).KeepsForce s := by
  unfold State.grant
  split
  · exact h.onClaim fun hg => hg
  · next hng =>
    refine granteeEvent (trans (t := t) ?_ h)
    refine ⟨rfl, rfl, fun _ he => he, fun k hk hg => ?_, rfl, fun _ => rfl, fun _ => rfl⟩
    rw [State.granted, State.claimOf_onClaim]
    split
    · next hkl =>
      subst hkl
      simp [State.fits, hk, hg] at hfits
    · exact hg

theorem revoke (h : t.KeepsForce s) {l : Load} : (t.revoke l).KeepsForce s := h.settle.onClaim fun e => nomatch e

theorem revokeUntil (h : t.KeepsForce s) {w limit : Nat} {ls : List Load} :
    (State.revokeUntil w limit ls t).KeepsForce s := by
  induction ls generalizing t with
  | nil => exact h
  | cons l ls ih => exact ite h (ih h.revoke)

theorem walk (h : t.KeepsForce s) : t.walk.KeepsForce s :=
  State.walk_keeps (P := fun v => v.KeepsForce s) (fun _ _ hf hv => hv.grant hf) (fun _ _ hv => hv.revoke) h

theorem endClaim (h : t.KeepsForce s) {l : Load} : (t.endClaim l).KeepsForce s := by
  unfold State.endClaim
  split
  · exact h
  · exact h.onClaim fun e => nomatch e
  · exact h.settle.onClaim fun e => nomatch e

theorem release (h : t.KeepsForce s) {l : Load} : (t.release l).KeepsForce s := ite h h.endClaim.walk

theorem claim (h : t.KeepsForce s) {l : Load} : (t.claim l).1.KeepsForce s :=
  fst_ite h (fst_ite h (fst_ite h (fst_ite h.tellUnfit (h.onClaim fun (e : ClaimState.waiting = .granted) => nomatch e).walk)))

theorem endAllClaims (h : t.KeepsForce s) : t.endAllClaims.KeepsForce s := h.foldl fun hv => hv.endClaim

end State.KeepsForce
namespace State.KeepsForce

variable {s t u before : State}

/-! ### The blocks -/

theorem becomeDue (h : t.KeepsForce s) : t.becomeDue.KeepsForce s := h.onSfc.warn

theorem startChangeover (h : t.KeepsForce s) : t.startChangeover.KeepsForce s := by
  have hc := (h.onSfc (f := fun x => { x with changeover := .claimed })).claim (l := .valveMotor)
  unfold State.startChangeover
  refine ite ?_ h
  split
  · next e => exact (hc.fst_of_eq e).becomeDue
  · next e => exact (hc.fst_of_eq e).onSfc
  · next e => exact hc.fst_of_eq e
  · next e => exact hc.fst_of_eq e
  · next e => exact hc.fst_of_eq e

theorem retestDue (h : t.KeepsForce s) : t.retestDue.KeepsForce s := ite h.onSfc.startChangeover h

theorem startRegen (h : t.KeepsForce s) : t.startRegen.KeepsForce s := ite h.onColumn.onSfc.place h

theorem endAlignment (h : t.KeepsForce s) : t.endAlignment.KeepsForce s := ite h.onSfc.becomeDue.retestDue h.onSfc

theorem holdAlignment (h : t.KeepsForce s) : t.holdAlignment.KeepsForce s := h.endAlignment.onSfc

theorem startAlignment (h : t.KeepsForce s) : t.startAlignment.KeepsForce s := by
  have hc := (h.onSfc (f := fun x => { x with changeover := .aligning })).claim (l := .valveMotor)
  unfold State.startAlignment
  refine ite ?_ h
  split
  · next e => exact (hc.fst_of_eq e).holdAlignment
  · next e => exact (hc.fst_of_eq e).holdAlignment
  · next e => exact hc.fst_of_eq e
  · next e => exact hc.fst_of_eq e
  · next e => exact hc.fst_of_eq e

theorem startSoftener (h : t.KeepsForce s) : t.startSoftener.KeepsForce s :=
  (ite h.retestDue.startChangeover h.retestDue.startChangeover.startAlignment).startRegen

theorem freeAlignment (h : t.KeepsForce s) : t.freeAlignment.KeepsForce s := h.onSfc

theorem softenerLinked (h : t.KeepsForce s) : t.softenerLinked.KeepsForce s := h.retestDue.startRegen.freeAlignment

theorem softenerLost (h : t.KeepsForce s) : t.softenerLost.KeepsForce s := by
  unfold State.softenerLost
  dsimp only
  split
  · exact h.onSfc.becomeDue
  · exact h.onSfc.release.becomeDue
  · exact h.onSfc.release.endAlignment
  all_goals exact h.onSfc

theorem softenerLockout (h : t.KeepsForce s) : t.softenerLockout.KeepsForce s := by
  unfold State.softenerLockout
  dsimp only
  split
  · exact h.onSfc.onSfc
  · exact h.onSfc.endAlignment
  all_goals exact h.onSfc

theorem valveUnfit (h : t.KeepsForce s) : t.valveUnfit.KeepsForce s := by
  unfold State.valveUnfit
  split
  · exact h.becomeDue
  · exact h.holdAlignment
  all_goals exact h

theorem markHead (h : t.KeepsForce s) {c : Channel} {b : Bool} : (t.markHead c b).KeepsForce s := h.onChannel

theorem startOrder (h : t.KeepsForce s) {c : Channel} : (t.startOrder c).KeepsForce s := by
  unfold State.startOrder
  refine ite ?_ h
  split
  · next e => exact (h.claim.fst_of_eq e).onChannel
  · next e => exact (h.claim.fst_of_eq e).markHead.askOrder
  · next e => exact (h.claim.fst_of_eq e).markHead.askOrder
  · next e => exact h.claim.fst_of_eq e
  · next e => exact h.claim.fst_of_eq e

theorem countDosing (h : t.KeepsForce s) {f : Dosing → Dosing} : (t.countDosing f).KeepsForce s := h.onCsq
theorem countDrop (h : t.KeepsForce s) {n : Nat} : (t.countDrop n).KeepsForce s := ite h h.countDosing
theorem countSteps (h : t.KeepsForce s) {c : Channel} {n : Nat} : (t.countSteps c n).KeepsForce s := h.countDosing

theorem createOrder (h : t.KeepsForce s) {c : Channel} {origin : Origin} {amount : Amount} :
    (t.createOrder c origin amount).KeepsForce s := h.onChannel

theorem placeSteps (h : t.KeepsForce s) {c : Channel} {origin : Origin} {n : Nat} :
    (t.placeSteps c origin n).KeepsForce s := by
  unfold State.placeSteps
  refine ite h (ite h.countDrop (ite h.createOrder.countSteps.startOrder (ite ?_ h.countDrop)))
  split
  · exact h.onChannel.countSteps.countDrop
  · exact h.countDrop

theorem dose (h : t.KeepsForce s) {origin : Origin} {ml soil : Nat} : (t.dose origin ml soil).KeepsForce s := by
  unfold State.dose
  exact countDosing (placeSteps h.onChannel)

theorem flushTest (h : t.KeepsForce s) : t.flushTest.KeepsForce s := ite h.onDsc.placeSteps h

theorem rinseEndStep (h : t.KeepsForce s) : t.rinseEndStep.KeepsForce s := ite h.onDsc.flushTest h

theorem removeHead (h : t.KeepsForce s) {c : Channel} : (t.removeHead c).KeepsForce s := h.onChannel.release

theorem afterRemoval (h : t.KeepsForce s) {c : Channel} : (t.afterRemoval c).KeepsForce s := by
  unfold State.afterRemoval
  split
  · exact h.startOrder
  · exact h.startOrder.flushTest

theorem channelLost (h : t.KeepsForce s) {c : Channel} : (t.channelLost c).KeepsForce s := by
  unfold State.channelLost
  split
  · exact h
  · exact ite h.countDrop.removeHead.removeMsgs.afterRemoval (ite h.markHead.release h)

theorem doserUnfit (h : t.KeepsForce s) {c : Channel} : (t.doserUnfit c).KeepsForce s :=
  ite h.onChannel.onChannel h.onChannel.markHead

theorem channelLockout (h : t.KeepsForce s) {c : Channel} : (t.channelLockout c).KeepsForce s := by
  unfold State.channelLockout
  dsimp only
  split
  · exact (countDrop h.onChannel).cond fun hv => hv.onChannel
  · exact ((countDrop h.onChannel).cond fun hv => hv.onChannel).flushTest

theorem noteDoor (h : t.KeepsForce s) {moved : Option (Octet × Nat)} : (t.noteDoor moved).KeepsForce s := h.place

theorem abandonPush (h : t.KeepsForce s) : t.abandonPush.KeepsForce s := h.onDvc.release.removeMsgs

theorem abandonRetract (h : t.KeepsForce s) : t.abandonRetract.KeepsForce s := h.onDvc.release

theorem breakRetract (h : t.KeepsForce s) : t.breakRetract.KeepsForce s := h.abandonRetract.noteDoor

theorem abandonTask (h : t.KeepsForce s) : t.abandonTask.KeepsForce s := by
  unfold State.abandonTask
  split
  · exact h
  · exact h.abandonPush
  · exact h.breakRetract

theorem startRetract (h : t.KeepsForce s) : t.startRetract.KeepsForce s := by
  unfold State.startRetract
  refine ite ?_ h
  split
  · next e => exact (h.claim.fst_of_eq e).onDvc.noteDoor
  · next e => exact h.claim.fst_of_eq e
  · next e => exact (h.claim.fst_of_eq e).onDvc
  · next e => exact (h.claim.fst_of_eq e).onDvc
  · next e => exact h.claim.fst_of_eq e

theorem testRetract (h : t.KeepsForce s) : t.testRetract.KeepsForce s := ite (ite h h.startRetract) h.onDvc

theorem dropVent (h : t.KeepsForce s) : t.dropVent.KeepsForce s := ite h (h.abandonTask.removeMsgs.onDvc.release.onVent)

theorem doorCycleEnd (h : t.KeepsForce s) {n : Bool} : (t.doorCycleEnd n).KeepsForce s :=
  ((h.dropVent.cond fun hv => hv.onDvc).cond fun hv => hv.onDvc).startRetract

theorem doorLockout (h : t.KeepsForce s) : t.doorLockout.KeepsForce s := h.abandonTask.cond fun hv => hv.onVent

/-! ### The water path and the cycle -/

theorem closeInlet (h : t.KeepsForce s) {outcome : DrawOutcome} : (t.closeInlet outcome).KeepsForce s := by
  unfold State.closeInlet
  split
  · exact h
  · exact h.onWhu.onSfc

theorem recomputeTank (h : t.KeepsForce s) : t.recomputeTank.KeepsForce s := h.onWhu

theorem closeFill (h : t.KeepsForce s) : t.closeFill.KeepsForce s := by
  unfold State.closeFill
  split
  · exact h
  · exact ite h.onWhu.onWhu (ite (ite h.onWhu.closeInlet.onWhu h.onWhu.closeInlet.dose) h.onWhu.onWhu)

theorem armFill (h : t.KeepsForce s) : t.armFill.KeepsForce s :=
  h.cond fun hv => hv.onWhu.cond fun hw => hw.closeFill.recomputeTank

theorem reportFill (h : t.KeepsForce s) {pulses : Nat} : (t.reportFill pulses).KeepsForce s := by
  unfold State.reportFill
  split
  · exact h.onWhu.recomputeTank.dose
  · exact h

theorem takeDrain (h : t.KeepsForce s) {x : DrainUser} : (t.takeDrain x).KeepsForce s := h.onWhu.claim

theorem dropDrain (h : t.KeepsForce s) : t.dropDrain.KeepsForce s := h.onWhu.release

theorem endCycleDrain (h : t.KeepsForce s) : t.endCycleDrain.KeepsForce s := by
  unfold State.endCycleDrain
  split
  · exact h.onWhu.dropDrain
  · exact h.dropDrain
  · exact h
  · exact h.onWhu

theorem enterState (h : t.KeepsForce s) {p : CycleState} : (t.enterState p).KeepsForce s := h.onCsq.place

theorem stopOutputs (h : t.KeepsForce s) : t.stopOutputs.KeepsForce s :=
  (h.release.release.onWhu.cond fun hv => hv.closeInlet).endCycleDrain

theorem shiftQueue (h : t.KeepsForce s) : t.shiftQueue.KeepsForce s := by
  unfold State.shiftQueue
  split
  · exact h.onCsq.onCsq.enterState.armFill
  · exact h.onCsq.place

theorem endCycle (h : t.KeepsForce s) {o : CycleOutcome} : (t.endCycle o).KeepsForce s := by
  unfold State.endCycle
  split
  · exact h
  · exact h.stopOutputs.doorCycleEnd.onCsq.place.onCsq.saveCounters.shiftQueue

theorem rinseReport (h : t.KeepsForce s) {r : DrawReport} : (t.rinseReport r).KeepsForce s :=
  ite (ite h.onCsq.rinseEndStep.endCycle h.onCsq.dose.rinseEndStep.onCsq.enterState) h

theorem addHold (h : t.KeepsForce s) {r : HoldReason} : (t.addHold r).KeepsForce s := by
  unfold State.addHold
  split
  · exact h.onCsq.release.enterState
  · exact h.onCsq.onWhu.release.enterState
  · exact ite h h.onCsq.place
  all_goals exact h

theorem dropHold (h : t.KeepsForce s) {r : HoldReason} : (t.dropHold r).KeepsForce s := by
  refine ite (ite h.onCsq.place ?_) h
  unfold State.resume
  dsimp only
  split
  · exact h.onCsq.onCsq.enterState.claim
  · exact h.onCsq.onCsq.enterState.takeDrain
  · exact h.onCsq.onCsq

theorem doorForced (h : t.KeepsForce s) : t.doorForced.KeepsForce s := h.warn.endCondition

theorem forceRinse (h : t.KeepsForce s) : t.forceRinse.KeepsForce s :=
  have hf := (h.onCsq.release (l := .rinsePump)).doorForced
  ite h (ite hf.onWhu.rinseReport (ite (ite hf.closeInlet hf.closeInlet.rinseReport) hf))

theorem cycleDoor (h : t.KeepsForce s) : t.cycleDoor.KeepsForce s := by
  unfold State.cycleDoor
  split
  · exact ite h h.addHold
  · exact ite h h.addHold
  · exact ite h.dropHold h.addHold
  · exact ite h.forceRinse h
  · exact ite h.doorForced.onCsq.endCycle h
  all_goals exact h

/-! ### Raises -/

theorem cycleLockout (h : t.KeepsForce s) : t.cycleLockout.KeepsForce s :=
  (h.onCsq.cond fun hv => hv.rinseEndStep).endCycle

theorem waterLockout (h : t.KeepsForce s) : t.waterLockout.KeepsForce s :=
  (h.closeInlet.cond fun hv => hv.reportFill).onWhu.cond fun hv => hv.recomputeTank

theorem enterLockout (h : t.KeepsForce s) : t.enterLockout.KeepsForce s :=
  h.endAllClaims.waterLockout.channelLockout.channelLockout.doorLockout.softenerLockout.cycleLockout

theorem raise (h : t.KeepsForce s) {code : FaultCode} {detail : Nat} {cls : FaultClass} :
    (t.raise code detail cls).KeepsForce s := by
  have hr := h.raiseList (code := code) (detail := detail) (cls := cls)
  unfold State.raise
  split
  · next e =>
    refine ite (hr.fst_of_eq e).enterLockout ?_
    unfold State.handOn
    split
    · exact hr.fst_of_eq e
    · split
      · exact hr.fst_of_eq e
      · exact ite (hr.fst_of_eq e).endCycle (hr.fst_of_eq e)
      · exact (hr.fst_of_eq e).cycleLockout
  · next e => exact hr.fst_of_eq e

/-! ### The vent, and the loss of the door module -/

theorem reportVent (h : t.KeepsForce s) : t.reportVent.KeepsForce s :=
  have hv := (h.onDvc (f := fun d => { d with fan := false })).release (l := .ventFan)
  hv.onVent.cond fun hw => hw.onCsq.endCycle

theorem cutVent (h : t.KeepsForce s) : t.cutVent.KeepsForce s := h.abandonTask.removeMsgs.onVent.reportVent

theorem waitFan (h : t.KeepsForce s) : t.waitFan.KeepsForce s := by
  have hc := (h.onVent (f := fun v => { v with step := .fanWait })).claim (l := .ventFan)
  unfold State.waitFan
  split
  · next e => exact hc.fst_of_eq e
  · next e => exact (hc.fst_of_eq e).cond fun hv => hv.fanGranted
  · next e => exact (hc.fst_of_eq e).cutVent
  · next e => exact (hc.fst_of_eq e).cutVent
  · next e => exact hc.fst_of_eq e

theorem afterRetract (h : t.KeepsForce s) : t.afterRetract.KeepsForce s := ite h.cutVent (ite h.reportVent h.waitFan)

theorem fanOnly (h : t.KeepsForce s) : t.fanOnly.KeepsForce s :=
  have hr := (h.onVent (f := fun v => { v with fanOnly := true })).onVent (f := fun v => { v with step := .retract })
  ite hr.startRetract hr.startRetract.afterRetract

theorem ventGoesOn (h : t.KeepsForce s) : t.ventGoesOn.KeepsForce s := by
  unfold State.ventGoesOn
  split
  · exact h.fanOnly
  · exact h.afterRetract
  all_goals exact h

theorem driveUnfit (h : t.KeepsForce s) : t.driveUnfit.KeepsForce s := by
  unfold State.driveUnfit
  split
  · exact h.abandonPush.ventGoesOn
  · exact h.breakRetract.onDvc.ventGoesOn
  · exact h

theorem fanUnfit (h : t.KeepsForce s) : t.fanUnfit.KeepsForce s := by
  unfold State.fanUnfit
  split
  · exact h.cutVent
  · exact h.cutVent
  all_goals exact h

theorem doorUnknown (h : t.KeepsForce s) : t.doorUnknown.KeepsForce s :=
  ((h.cond fun hv => hv.abandonRetract).onDvc.cond fun hv => hv.noteDoor).cycleDoor.cond fun hv => hv.raise

theorem doorGone (h : t.KeepsForce s) : t.doorGone.KeepsForce s := ite h.abandonTask.onDvc.release h.cutVent

theorem rehome (h : t.KeepsForce s) {kind : Kind} : (State.rehome before t kind).KeepsForce s := by
  have hunknown {v : State} (hv : v.KeepsForce s) : (v.ownerUnknown kind).KeepsForce s := by
    cases kind with
    | door => exact hv.doorUnknown
    | _ => exact hv
  have hgone {v : State} (hv : v.KeepsForce s) : (v.ownerGone kind).KeepsForce s := by
    cases kind with
    | none => exact hv
    | door => exact hv.doorGone
    | softener => exact hv.softenerLost
    | doseDet => exact hv.channelLost
    | doseRa => exact hv.channelLost
  have hlinked {v : State} (hv : v.KeepsForce s) : (v.ownerLinked kind).KeepsForce s := by
    cases kind with
    | softener => exact hv.softenerLinked
    | _ => exact hv
  exact ite h (((h.cond fun hv => hgone (hunknown hv)).cond fun hv => hv.onDvc).cond fun hv => hlinked hv)

/-! ### Thermostats, re-tests and changes of wattage -/

theorem onThermostat (h : t.KeepsForce s) {l : Load} {f : Thermostat → Thermostat} : (t.onThermostat l f).KeepsForce s := by
  unfold State.onThermostat
  split
  · exact h.onWhu
  · exact h.onWhu
  · exact h.onWhu
  · exact h

theorem heatClaim (h : t.KeepsForce s) {l : Load} : (t.heatClaim l).KeepsForce s := by
  unfold State.heatClaim
  split
  · next e => exact (h.claim.fst_of_eq e).onThermostat
  · next e => exact (h.claim.fst_of_eq e).onThermostat
  · next e => exact h.claim.fst_of_eq e
  · next e => exact h.claim.fst_of_eq e
  · next e => exact h.claim.fst_of_eq e

theorem heatOff (h : t.KeepsForce s) {l : Load} : (t.heatOff l).KeepsForce s := h.onThermostat.release

theorem evalHeat (h : t.KeepsForce s) {l : Load} : (t.evalHeat l).KeepsForce s := by
  unfold State.evalHeat
  split
  · exact h.heatOff
  · exact ite h.heatOff (ite h.heatOff ((h.cond fun hv => hv.onThermostat).cond fun hv => hv.heatClaim))

theorem evalHeats (h : t.KeepsForce s) : t.evalHeats.KeepsForce s := h.evalHeat.evalHeat.evalHeat

theorem retryHeats (h : t.KeepsForce s) {ls : List Load} : (State.retryHeats before t ls).KeepsForce s :=
  h.foldl fun hv => ite (ite hv.heatClaim hv.onThermostat) hv

theorem fitEvent (h : t.KeepsForce s) {l : Load} : (t.fitEvent l).KeepsForce s := by
  unfold State.fitEvent
  split
  · exact h.onChannel
  · exact h.onChannel
  · exact h.cond fun hv => hv.claim
  · exact h.cond fun hv => hv.claim
  · exact h.cond fun hv => hv.claim
  · exact h.onDvc
  all_goals exact h

theorem retest (h : t.KeepsForce s) : t.retest.1.KeepsForce s :=
  h.fst_foldl (p := (t, [])) fun hv => fst_ite (fst_ite hv hv.endClaim.tellUnfit) (fst_ite hv.onMarks.endCondition.fitEvent hv)

theorem toldEnded (h : t.KeepsForce s) {l : Load} : (t.toldEnded l).KeepsForce s := by
  unfold State.toldEnded
  split
  · exact h.driveUnfit
  · exact h.fanUnfit
  · exact h.valveUnfit
  · exact h.doserUnfit
  · exact h.doserUnfit
  · exact h.onThermostat
  · exact h.onThermostat
  · exact h.onThermostat
  all_goals exact h

theorem tellEnded (h : t.KeepsForce s) {ls : List Load} : (t.tellEnded ls).KeepsForce s := h.foldl fun hv => hv.toldEnded

theorem clearBreakers (h : t.KeepsForce s) : t.clearBreakers.KeepsForce s := h.cond fun hv => hv.onMarks

theorem markBreakers (h : t.KeepsForce s) : (State.markBreakers before t).KeepsForce s :=
  h.cond fun hv => hv.foldl fun hw => hw.cond fun hx => hx.onMarks

theorem wattsOne (h : t.KeepsForce s) {l : Load} : (State.wattsOne before t l).KeepsForce s :=
  ite h (ite h.endClaim (ite (ite (h.onClaim fun hg => hg)
    (ite (ite h (ite (h.onClaim fun hg => hg) h.revoke)) (ite h h.revokeUntil))) h))

theorem wattsChanged (h : t.KeepsForce s) : (State.wattsChanged before t).1.KeepsForce s := by
  unfold State.wattsChanged
  refine fst_ite h ?_
  extract_lets u v
  have hu : u.KeepsForce s := h.markBreakers.clearBreakers
  have hv : v.KeepsForce s := hu.foldl fun hw => hw.wattsOne
  split
  next w ended e => exact (hv.retest.fst_of_eq e).walk

theorem rewatt (h : t.KeepsForce s) : (State.rewatt before t).KeepsForce s := h.wattsChanged.tellEnded.retryHeats

theorem clampCarries (h : t.KeepsForce s) : (State.clampCarries before t).KeepsForce s := by
  unfold State.clampCarries
  extract_lets one
  have hone : ∀ {v : State} {c : Channel}, v.KeepsForce s → (one v c).KeepsForce s := fun hv => ite hv hv.onChannel
  exact hone (hone h)

/-! ### The end of an event -/

theorem reportEnds (h : t.KeepsForce s) : t.reportEnds.KeepsForce s :=
  h.foldl fun hv => hv.cond fun hw => hw.endCondition

theorem reportReturn (h : t.KeepsForce s) {k : FaultCode × Nat × FaultClass} : (t.reportReturn k).KeepsForce s := by
  unfold State.reportReturn
  split
  · exact h.cond fun hv => hv.raise
  · exact h

theorem finish (h : t.KeepsForce s) : t.finish.KeepsForce s :=
  have hc : t.reportConditions.KeepsForce s := (h.foldl fun hv => hv.reportReturn).reportEnds
  (hc.startSoftener.startOrder.startOrder.testRetract.reportEnds.cond fun hv => hv.setPower).evalHeats.askWaiting.kickTx

end State.KeepsForce
/-! ### The order of the walk and of revocation (R51, R52) -/

/-- An insertion by a total comparison keeps neighbours in its order. -/
theorem insertBy_isChain {le : Load → Load → Bool} (htotal : ∀ a b, le a b = false → le b a = true) (l : Load)
    {ls : List Load} (h : ls.IsChain fun a b => le a b = true) : (insertBy le l ls).IsChain fun a b => le a b = true := by
  induction ls with
  | nil => exact .singleton l
  | cons x xs ih =>
    obtain ⟨hhead, htail⟩ := List.isChain_cons.mp h
    unfold insertBy
    split
    · next hlx => exact h.cons_cons hlx
    · next hlx =>
      refine (ih htail).cons fun y hy => ?_
      have hxl : le x l = true := htotal l x (by simpa using hlx)
      cases xs with
      | nil => obtain rfl : l = y := Option.some.inj hy; exact hxl
      | cons z zs =>
        simp only [insertBy] at hy
        split at hy
        · obtain rfl : l = y := Option.some.inj hy; exact hxl
        · exact hhead y hy

theorem foldr_insertBy_isChain {le : Load → Load → Bool} (htotal : ∀ a b, le a b = false → le b a = true)
    (ls : List Load) : (ls.foldr (insertBy le) []).IsChain fun a b => le a b = true := by
  induction ls with
  | nil => exact .nil
  | cons l ls ih => exact insertBy_isChain htotal l ih

theorem State.walkLe_iff (s : State) (a b : Load) :
    s.walkLe a b = true ↔ s.walkClass a < s.walkClass b ∨ (s.walkClass a = s.walkClass b ∧
      (olderClaim (s.claimOf a).claimTime (s.claimOf b).claimTime = true ∨
        (olderClaim (s.claimOf b).claimTime (s.claimOf a).claimTime = false ∧ a.number ≤ b.number))) := by
  unfold State.walkLe
  by_cases hab : s.walkClass a < s.walkClass b
  · simp [hab]
  by_cases hba : s.walkClass b < s.walkClass a
  · have hne : s.walkClass a ≠ s.walkClass b := by omega
    simp [hab, hba, hne]
  have heq : s.walkClass a = s.walkClass b := by omega
  cases olderClaim (s.claimOf a).claimTime (s.claimOf b).claimTime <;>
    cases olderClaim (s.claimOf b).claimTime (s.claimOf a).claimTime <;> simp [heq]

/-- Of two claims the walk takes one no later than the other. -/
theorem State.walkLe_total (s : State) (a b : Load) (h : s.walkLe a b = false) : s.walkLe b a = true := by
  have hn : ¬ s.walkLe a b = true := by simp [h]
  rw [s.walkLe_iff] at hn ⊢
  push Not at hn
  obtain ⟨hclass, hrest⟩ := hn
  by_cases heq : s.walkClass a = s.walkClass b
  · obtain ⟨hab, hnumber⟩ := hrest heq
    refine .inr ⟨heq.symm, ?_⟩
    cases hba : olderClaim (s.claimOf b).claimTime (s.claimOf a).claimTime with
    | true => exact .inl rfl
    | false => exact .inr ⟨by simpa using hab, Nat.le_of_lt (hnumber hba)⟩
  · exact .inl (by omega)

theorem State.mem_walkOrder (s : State) (l : Load) :
    l ∈ s.walkOrder ↔ (s.claimOf l).state = .waiting ∨
      ((s.claimOf l).state = .granted ∧ l.heater = false ∧ (s.claimOf l).counted < s.watts l) := by
  unfold State.walkOrder
  rw [(foldr_insertBy_perm _ _).mem_iff, List.mem_filter]
  simp [mem_allLoads, State.waits, State.increases, State.granted, and_assoc]

theorem State.walkOrder_nodup (s : State) : s.walkOrder.Nodup :=
  (foldr_insertBy_perm _ _).nodup_iff.mpr (allLoads_nodup.filter _)

/-- A candidate `a` is revoked before `b` or with it: the higher class first, then the later grant (R52). -/
def State.RevokedFirst (s : State) (a b : Load) : Prop :=
  s.walkClass b < s.walkClass a ∨
    (s.walkClass a = s.walkClass b ∧ (s.claimOf b).grantOrder ≤ (s.claimOf a).grantOrder)

theorem State.mem_candidates (s : State) (l : Load) :
    l ∈ s.candidates ↔ l.heater = true ∧ (s.claimOf l).state = .granted := by
  unfold State.candidates
  rw [(foldr_insertBy_perm _ _).mem_iff, List.mem_filter]
  cases l <;> simp [State.granted, Load.heater, Load.cls]

theorem State.candidates_pairwise (s : State) : s.candidates.Pairwise s.RevokedFirst := by
  have hle (a b : Load) : (if s.walkClass b < s.walkClass a then true
      else if s.walkClass a < s.walkClass b then false
      else decide ((s.claimOf b).grantOrder ≤ (s.claimOf a).grantOrder)) = true ↔ s.RevokedFirst a b := by
    unfold State.RevokedFirst
    split
    · simp_all
    · split
      · simp_all; omega
      · have heq : s.walkClass a = s.walkClass b := by omega
        simp [heq]
  have htrans : Trans s.RevokedFirst s.RevokedFirst s.RevokedFirst := ⟨by unfold State.RevokedFirst; omega⟩
  refine List.isChain_iff_pairwise.mp ?_
  refine (foldr_insertBy_isChain (fun a b h => ?_) _).imp fun a b => (hle a b).mp
  have hn : ¬ s.RevokedFirst a b := fun hr => Bool.false_ne_true (h.symm.trans ((hle a b).mpr hr))
  refine (hle b a).mpr ?_
  unfold State.RevokedFirst at hn ⊢
  omega

theorem olderClaim_iff (t u : BitVec 32) : olderClaim t u = true ↔ t ≠ u ∧ (u - t).toNat < 2147483648 := by
  simp [olderClaim]

/-! ### The arbiter's parts in the terms of its claims -/

theorem State.granted_iff (s : State) (l : Load) : s.granted l = true ↔ (s.claimOf l).state = .granted := by
  simp [State.granted]

theorem State.endClaim_waiting {s : State} {l : Load} (h : (s.claimOf l).state = .waiting) :
    s.endClaim l = s.onClaim l fun c => { c with state := .idle, waitMs := 0, promoted := false, counted := 0 } := by
  rw [State.endClaim, h]

theorem State.endClaim_granted {s : State} {l : Load} (h : (s.claimOf l).state = .granted) :
    s.endClaim l =
      (s.settle l (s.claimOf l).counted).onClaim l fun c =>
        { c with state := .idle, waitMs := 0, promoted := false, counted := 0 } := by
  rw [State.endClaim, h]

theorem State.release_waiting {s : State} {l : Load} (h : (s.claimOf l).state = .waiting) :
    s.release l = (s.onClaim l fun c => { c with state := .idle, waitMs := 0, promoted := false, counted := 0 }).walk := by
  rw [State.release, if_neg (by simp [h]), State.endClaim_waiting h]

theorem State.release_granted {s : State} {l : Load} (h : (s.claimOf l).state = .granted) :
    s.release l =
      ((s.settle l (s.claimOf l).counted).onClaim l fun c =>
        { c with state := .idle, waitMs := 0, promoted := false, counted := 0 }).walk := by
  rw [State.release, if_neg (by simp [h]), State.endClaim_granted h]

theorem State.loadUnfit_iff (s : State) (l : Load) :
    s.loadUnfit l = true ↔ s.lba.inForce < s.watts l ∨ (s.lba.breaker.get l.ix = true ∧ s.mains < s.classSum) := by
  simp [State.loadUnfit]

/-- A re-test of an unfit load that claims ends the claim and tells it (R55). -/
theorem State.retestOne_unfit {s : State} {l : Load} (ended : List Load) (hu : s.loadUnfit l = true)
    (hc : (s.claimOf l).state ≠ .idle) :
    State.retestOne (s, ended) l = ((s.endClaim l).tellUnfit l, ended ++ [l]) := by
  simp only [State.retestOne, if_pos hu, if_neg hc]

theorem State.retestOne_idle {s : State} {l : Load} (ended : List Load) (hu : s.loadUnfit l = true)
    (hc : (s.claimOf l).state = .idle) : State.retestOne (s, ended) l = (s, ended) := by
  simp only [State.retestOne, if_pos hu, if_pos hc]

/-- A load fit again ends its BUDGET_UNFIT and has its fit event (R55). -/
theorem State.retestOne_fit {s : State} {l : Load} (ended : List Load) (hu : s.loadUnfit l = false)
    (ht : s.toldUnfit l = true) :
    State.retestOne (s, ended) l =
      ((((s.onLba fun b => { b with told := b.told.set l.ix.val false l.ix.isLt }).endCondition .budgetUnfit
        l.number).fitEvent l), ended) := by
  simp only [State.retestOne, hu, ht, Bool.false_eq_true, if_false, if_true]

theorem State.retestOne_stays {s : State} {l : Load} (ended : List Load) (hu : s.loadUnfit l = false)
    (ht : s.toldUnfit l = false) : State.retestOne (s, ended) l = (s, ended) := by
  simp only [State.retestOne, hu, ht, Bool.false_eq_true, if_false]

/-- The motor of a channel became unfit (R108). -/
theorem State.toldEnded_channel (s : State) (c : Channel) : s.toldEnded (channelLoad c) = s.doserUnfit c := by
  cases c <;> rfl

theorem State.fitEvent_channel (s : State) (c : Channel) :
    s.fitEvent (channelLoad c) = s.onChannel c fun r => { r with unfit := false } := by
  cases c <;> rfl
/-! ### The timers of the arbiter (R49, R54, R58, R59) -/

/-- Time runs down the settling list and ages the tank heater's wait; the rest of the arbiter stays. -/
theorem State.advance_lba {s : State} (hs : s.on = true) (n : Nat) : (s.advance n).lba = (s.passLba n).lba := by
  unfold State.advance
  split
  next h => simp [State.on, h] at hs
  next h => simp [State.on, h] at hs
  all_goals rfl

theorem State.advance_settling {s : State} (hs : s.on = true) (n : Nat) :
    (s.advance n).lba.settling = s.lba.settling.map fun e => { e with left := e.left - n } := by
  rw [State.advance_lba hs]; rfl

theorem State.advance_inForce {s : State} (hs : s.on = true) (n : Nat) : (s.advance n).lba.inForce = s.lba.inForce := by
  rw [State.advance_lba hs]; rfl

theorem State.advance_mains (s : State) (n : Nat) : (s.advance n).mains = s.mains := State.mains_congr (s.advance_frame n).1

/-- Time grants nothing and takes no grant back. -/
theorem State.advance_sumGranted {s : State} (hs : s.on = true) (n : Nat) : (s.advance n).sumGranted = s.sumGranted := by
  rw [State.sumGranted_congr (s := s.passLba n) (by rw [State.advance_lba hs]), State.sumGranted_eq_sum,
    State.sumGranted_eq_sum]
  refine congrArg List.sum (List.map_congr_left fun l _ => ?_)
  have hc : (s.passLba n).claimOf l =
      if l = .tankHeater then
        (if (s.claimOf .tankHeater).state = .waiting then
          { s.claimOf .tankHeater with waitMs := runUp n s.starveMs (s.claimOf .tankHeater).waitMs }
        else s.claimOf .tankHeater)
      else s.claimOf l := State.claimOf_onClaim _ _ _ _
  by_cases hl : l = .tankHeater
  · subst hl
    rw [if_pos rfl] at hc
    simp only [State.drawn, State.granted, hc]
    split <;> rfl
  · rw [if_neg hl] at hc
    exact State.drawn_of_claimOf_eq hc

/-- The oldest entry has left the settling list (R49). -/
def State.dropOldest (s : State) : State := s.onLba fun b => { b with settling := b.settling.drop 1 }

/-- With no decrease in progress the end of a settling entry has the walk alone run. -/
theorem State.endSettling_walks {s : State} (h : s.lba.inForce ≤ s.mains) : s.endSettling = s.dropOldest.walk := by
  have hforce : s.dropOldest.takeForce = (s.dropOldest, false) := if_neg fun hc => absurd hc.1 (Nat.not_lt.mpr h)
  have hends : s.settlingEnds = (s.dropOldest.walk, [], false) := by
    show (let r := s.dropOldest.takeForce; let q := if r.2 then r.1.retest else (r.1, []); (q.1.walk, q.2, r.2)) = _
    rw [hforce]
    rfl
  unfold State.endSettling
  rw [hends]
  rfl

/-- A decrease takes force with the entry whose end brings G + S within it (R58). -/
theorem State.endSettling_inForce {s : State} (hlt : s.mains < s.lba.inForce)
    (hfits : s.dropOldest.sumGranted + s.dropOldest.sumSettling ≤ s.mains) : s.endSettling.lba.inForce = s.mains := by
  let t := s.dropOldest.onLba fun b => { b with inForce := s.mains }
  have hforce : s.dropOldest.takeForce = (t, true) := if_pos ⟨hlt, hfits⟩
  have hends : s.settlingEnds = (t.retest.1.walk, t.retest.2, true) := by
    show (let r := s.dropOldest.takeForce; let q := if r.2 then r.1.retest else (r.1, []); (q.1.walk, q.2, r.2)) = _
    rw [hforce]
    rfl
  have ht : t.lba.inForce = s.mains := rfl
  unfold State.endSettling
  rw [hends]
  exact ((State.KeepsForce.refl t).retest.walk.tellEnded.retryHeats).inForce.trans ht

theorem State.drops_advance {s : State} (hs : s.on = true) {e : Settling} {rest : List Settling}
    (h : s.lba.settling = e :: rest) :
    (s.advance e.left).dropOldest =
      { s.advance e.left with
        lba := { (s.advance e.left).lba with settling := rest.map fun x : Settling => { x with left := x.left - e.left } } } := by
  have hd : (s.advance e.left).lba.settling.drop 1 = rest.map fun x : Settling => { x with left := x.left - e.left } := by
    rw [State.advance_settling hs, h]
    rfl
  exact congrArg (fun es => (s.advance e.left).onLba fun b => { b with settling := es }) hd

theorem State.settlingLeft_cons {s : State} {e : Settling} {rest : List Settling} (h : s.lba.settling = e :: rest) :
    s.settlingLeft = some e.left := by
  unfold State.settlingLeft
  rw [h]
  rfl

theorem exec_settlingEnd {s : State} {e : Settling} {rest : List Settling} (hs : s.on = true)
    (h : s.lba.settling = e :: rest) : exec .settlingEnd s = .next (s.advance e.left).endSettling.finish :=
  congrArg Host.Outcome.next (State.expire_running hs (State.settlingLeft_cons h) State.endSettling)

/-- The wattage that settles does not depend on the time left. -/
theorem foldl_watts_map (es : List Settling) (n : Nat) :
    (es.map fun x : Settling => { x with left := x.left - n }).foldl (fun m x => m + x.watts) 0 =
      es.foldl (fun m x => m + x.watts) 0 := by
  rw [foldl_watts, foldl_watts, List.map_map]
  rfl

theorem exec_settlingEnd_forces {s : State} {e : Settling} {rest : List Settling} (hs : s.on = true)
    (h : s.lba.settling = e :: rest) (hlt : s.mains < s.lba.inForce)
    (hfits : s.sumGranted + rest.foldl (fun n x => n + x.watts) 0 ≤ s.mains) :
    ∃ t : State, exec .settlingEnd s = .next t ∧ t.lba.inForce = s.mains := by
  refine ⟨_, exec_settlingEnd hs h, ?_⟩
  have hdrop := State.drops_advance hs h
  have hG : (s.advance e.left).dropOldest.sumGranted = s.sumGranted :=
    (State.sumGranted_congr (s := s.advance e.left) rfl).trans (State.advance_sumGranted hs _)
  have hS : (s.advance e.left).dropOldest.sumSettling = rest.foldl (fun n x => n + x.watts) 0 := by
    rw [hdrop]
    exact foldl_watts_map rest e.left
  have hm := s.advance_mains e.left
  rw [((State.KeepsForce.refl _).finish).inForce, State.endSettling_inForce, hm]
  · rw [hm, State.advance_inForce hs]; exact hlt
  · rw [hG, hS, hm]; exact hfits

/-! ### What a claim that ended as unfit does at its claimant (R55) -/

theorem State.markHead_cons {s : State} {c : Channel} {o : Order} {rest : List Order} (h : (s.channel c).orders = o :: rest)
    (b : Bool) : s.markHead c b = s.onChannel c fun r => { r with orders := { o with started := b } :: rest } := by
  unfold State.markHead
  refine State.onChannel_eq ?_
  rw [h]

theorem State.doserUnfit_sent {s : State} {c : Channel} {o : Order} {rest : List Order}
    (h : (s.channel c).orders = o :: rest) (hs : o.state = .sent) :
    s.doserUnfit c = s.onChannel c fun r => { r with unfit := true, stop := true } := by
  have hsent : ((s.onChannel c fun r => { r with unfit := true }).sentOrder c).isSome = true := by
    simp [State.sentOrder, h, hs]
  unfold State.doserUnfit
  dsimp only
  rw [if_pos hsent, State.onChannel_onChannel]

theorem State.doserUnfit_queued {s : State} {c : Channel} {o : Order} {rest : List Order}
    (h : (s.channel c).orders = o :: rest) (hs : o.state ≠ .sent) :
    s.doserUnfit c = s.onChannel c fun r => { r with unfit := true, orders := { o with started := false } :: rest } := by
  have hsent : ¬ ((s.onChannel c fun r => { r with unfit := true }).sentOrder c).isSome = true := by
    simp [State.sentOrder, h, hs]
  unfold State.doserUnfit
  dsimp only
  rw [if_neg hsent, State.markHead_cons (o := o) (rest := rest) (by simpa using h), State.onChannel_onChannel]

theorem State.doserUnfit_nil {s : State} {c : Channel} (h : (s.channel c).orders = []) :
    s.doserUnfit c = s.onChannel c fun r => { r with unfit := true } := by
  have hsent : ¬ ((s.onChannel c fun r => { r with unfit := true }).sentOrder c).isSome = true := by
    simp [State.sentOrder, h]
  unfold State.doserUnfit
  dsimp only
  rw [if_neg hsent, State.markHead, State.onChannel_onChannel]
  exact State.onChannel_eq (by rw [h])

theorem State.toldEnded_valve (s : State) :
    (s.sfc.changeover = .claimed →
      s.toldEnded .valveMotor = ({ s with sfc := { s.sfc with changeover := .due } }).warn .softenerExhausted 0) ∧
    (s.sfc.changeover = .aligning → s.sfc.keptTrigger = false →
      s.toldEnded .valveMotor =
        { s with sfc := { s.sfc with changeover := .none, moveLeft := none, alignHeld := true } }) ∧
    (s.sfc.changeover = .aligning → s.sfc.keptTrigger = true →
      (let t := s.endAlignment; s.toldEnded .valveMotor = { t with sfc := { t.sfc with alignHeld := true } })) ∧
    (s.sfc.changeover ≠ .claimed → s.sfc.changeover ≠ .aligning → s.toldEnded .valveMotor = s) := by
  show (_ → s.valveUnfit = _) ∧ (_ → _ → s.valveUnfit = _) ∧ (_ → _ → (let t := s.endAlignment; s.valveUnfit = _)) ∧
    (_ → _ → s.valveUnfit = s)
  unfold State.valveUnfit
  refine ⟨fun h => ?_, fun h hk => ?_, fun h hk => ?_, fun hc ha => ?_⟩
  · rw [h]; rfl
  · rw [h]
    show s.holdAlignment = _
    rw [State.holdAlignment, State.endAlignment, if_neg (by simp [hk])]
    rfl
  · rw [h]; rfl
  · split
    · next h => exact absurd h hc
    · next h => exact absurd h ha
    all_goals rfl

theorem State.toldEnded_door (s : State) :
    (s.dvc.task = .none → s.toldEnded .doorDrive = s) ∧
    (∀ (o : PushOrigin) (target : Nat) (m : MoveState), s.dvc.task = .push o target m →
      s.toldEnded .doorDrive =
        ((({ s with dvc := { s.dvc with task := .none, owed := true } }).release .doorDrive).withdrawMove).ventGoesOn) ∧
    (∀ left : Nat, s.dvc.task = .retract left →
      s.toldEnded .doorDrive =
        (((({ s with dvc := { s.dvc with task := .none, retract := false } }).release .doorDrive).noteDoor none).onDvc
          fun d => { d with retractHeld := true }).ventGoesOn) := by
  show (_ → s.driveUnfit = _) ∧ (∀ _ _ _, _ → s.driveUnfit = _) ∧ ∀ _, _ → s.driveUnfit = _
  unfold State.driveUnfit
  refine ⟨fun h => ?_, fun o target m h => ?_, fun left h => ?_⟩
  · rw [h]
  · rw [h]; rfl
  · rw [h]; rfl

theorem State.toldEnded_fan (s : State) :
    ((s.dvc.vent.step = .fanWait ∨ s.dvc.vent.step = .fan) → s.toldEnded .ventFan = s.cutVent) ∧
    (s.dvc.vent.step ≠ .fanWait → s.dvc.vent.step ≠ .fan → s.toldEnded .ventFan = s) := by
  show (_ → s.fanUnfit = _) ∧ (_ → _ → s.fanUnfit = s)
  unfold State.fanUnfit
  refine ⟨fun h => ?_, fun hw hf => ?_⟩
  · rcases h with h | h <;> rw [h]
  · split
    · next h => exact absurd h hw
    · next h => exact absurd h hf
    all_goals rfl
/-! ### Claims, walks and the timers of the arbiter (O46) -/

theorem State.makeRoom_eq (s : State) (l : Load) :
    s.makeRoom l =
      if s.walkClass l ≤ 1 then State.revokeUntil (s.wanted l) s.mains s.candidates s
      else if s.walkClass l = 2 ∧ (s.claimOf .tankHeater).state = ClaimState.granted ∧
          (s.claimOf .tankHeater).promoted = false ∧ s.mains < s.sumGranted + s.wanted l ∧
          s.sumGranted - (s.claimOf .tankHeater).counted + s.wanted l ≤ s.mains then s.revoke .tankHeater
      else s := by
  simp only [State.makeRoom, State.granted_iff, Nat.not_le]

theorem State.grant_eq (s : State) (l : Load) :
    s.grant l =
      if (s.claimOf l).state = ClaimState.granted then s.onClaim l fun c => { c with counted := s.watts l }
      else
        (let t := ({ s with lba := { s.lba with grants := s.lba.grants + 1 } } : State).onClaim l fun c =>
            { c with state := .granted, counted := s.watts l, grantOrder := s.lba.grants + 1 };
          if l = Load.doorDrive then t.askMove
          else if l = Load.ventFan then t.fanGranted
          else if l = Load.valveMotor then t.valveGranted
          else t) := by
  simp only [State.grant, State.granted_iff]
  cases l <;> rfl

theorem State.walkAgain_succ (s : State) (n : Nat) :
    State.walkAgain (n + 1) s =
      (let r := State.walkThrough s.walkOrder s; if r.2 = true then State.walkAgain n r.1 else r.1) := by
  rw [State.walkAgain]
  split <;> next e => simp [e]

theorem State.fitEvent_drain (s : State) :
    s.fitEvent .drainPump = if s.whu.drainUser = none then s else (s.claim .drainPump).1 := by
  show (if s.whu.drainUser.isSome = true then (s.claim .drainPump).1 else s) = _
  cases s.whu.drainUser <;> simp

theorem exec_agingPromotion {s : State} (hs : s.on = true) (hw : s.waits .tankHeater = true)
    (hp : (s.claimOf .tankHeater).promoted = false) :
    exec .agingPromotion s = .next
      (((s.advance (s.num SettingIx.starve * 1000 - (s.claimOf .tankHeater).waitMs)).onClaim .tankHeater
        fun c => { c with promoted := true }).walk.finish) :=
  congrArg Host.Outcome.next
    (State.reach_running (runs := s.ages) hs (by simp [State.ages, hw, hp]) (s.claimOf .tankHeater).waitMs s.starveMs
      State.promote)

theorem exec_agingPromotion_stopped {s : State}
    (h : s.waits .tankHeater = false ∨ (s.claimOf .tankHeater).promoted = true) : exec .agingPromotion s = .next s := by
  have hages : s.ages = false := by rcases h with h | h <;> simp [State.ages, h]
  exact congrArg Host.Outcome.next (State.reach_stopped s hages _ _ _)

/-- Settles O46. -/
theorem claimsAndBudgetTimers : Obligations.ClaimsAndBudgetTimers := by
  unfold Obligations.ClaimsAndBudgetTimers
  have hpresent {s : State} {l : Load} (hb : l ≠ .boosterB ∨ s.watts l ≠ 0) : ¬ (l = .boosterB ∧ s.watts .boosterB = 0) :=
    fun ⟨hl, hw⟩ => hb.elim (fun h => h hl) fun h => h (hl ▸ hw)
  refine ⟨fun s l => State.claim_held, fun s l => State.claim_withheld, fun s hi hl hw => ?_, fun s l hi hl hb hf => ?_,
    fun s l hi hl hb hf hk => ?_, fun s l => State.release_idle, fun s l => State.release_waiting,
    fun s l => State.release_granted, fun s e rest hs h hf => ?_, fun s e rest => exec_settlingEnd_forces,
    fun s h => ?_, fun s l => ⟨s.loadUnfit_iff l, rfl⟩, fun s ended l => ⟨State.retestOne_idle ended, ?_, ?_,
      State.retestOne_fit ended, State.retestOne_stays ended⟩, fun s => rfl, fun s ls l => ⟨rfl, rfl⟩, fun s => ?_,
    fun s c => ⟨fun h => ?_, fun o rest h => ⟨fun hs => ?_, fun hs => ?_⟩⟩, fun s => ⟨rfl, rfl, rfl, rfl, rfl, rfl⟩,
    fun s => ⟨s.fitEvent_channel, s.fitEvent_drain, rfl, rfl, rfl, rfl, rfl, rfl, rfl, rfl⟩,
    fun s => exec_agingPromotion, fun s => exec_agingPromotion_stopped, fun s left hs h => ?_, fun s h => ?_,
    fun s => rfl, fun s n => ⟨rfl, s.walkAgain_succ n⟩, fun s l rest => ⟨rfl, rfl⟩, fun s l => ⟨?_, rfl⟩,
    fun s => ⟨s.mem_walkOrder, s.walkOrder_nodup, fun before after a b h => ?_⟩, fun s a b => ⟨s.walkLe_iff a b, rfl⟩,
    olderClaim_iff, fun s => ⟨s.mem_candidates, s.candidates_nodup, s.candidates_pairwise⟩, State.makeRoom_eq,
    fun w limit l rest s => ⟨rfl, rfl⟩, fun s l => rfl, State.grant_eq⟩
  · exact State.claim_ignored hi hl (congrArg Int.toNat hw)
  · exact State.claim_unfit hi hl (hpresent hb) (s.loadUnfit_iff l |>.mpr (.inl hf))
  · refine State.claim_taken hi hl (hpresent hb) ?_
    simp [State.loadUnfit, hk, Nat.not_lt.mpr hf]
  · refine (exec_settlingEnd hs h).trans (congrArg (fun t : State => Host.Outcome.next t.finish) ?_)
    rw [State.endSettling_walks (by rw [State.advance_inForce hs, State.advance_mains]; exact hf), State.drops_advance hs h]
  · have hleft : s.settlingLeft = none := by
      unfold State.settlingLeft
      rw [h]
      rfl
    exact congrArg (fun left => Host.Outcome.next (s.expire left State.endSettling)) hleft
  · exact fun hu hw => by rw [State.retestOne_unfit ended hu (by simp [hw]), State.endClaim_waiting hw]
  · exact fun hu hg => by rw [State.retestOne_unfit ended hu (by simp [hg]), State.endClaim_granted hg]; rfl
  · obtain ⟨hnone, hpush, hretract⟩ := s.toldEnded_door
    obtain ⟨hcut, hfan⟩ := s.toldEnded_fan
    obtain ⟨hclaimed, haligning, hkept, hvalve⟩ := s.toldEnded_valve
    exact ⟨hnone, hpush, hretract, hcut, hfan, hclaimed, haligning, hkept, hvalve⟩
  · exact (s.toldEnded_channel c).trans (State.doserUnfit_nil h)
  · exact (s.toldEnded_channel c).trans (State.doserUnfit_sent h hs)
  · exact (s.toldEnded_channel c).trans (State.doserUnfit_queued h hs)
  · exact congrArg Host.Outcome.next (State.expire_running hs h State.clearHalt)
  · exact congrArg (fun left => Host.Outcome.next (s.expire left State.clearHalt)) h
  · rw [State.fits_iff, ← State.settles_eq_false_iff]
  · exact List.isChain_iff_forall_rel_of_append_cons_cons.mp (foldr_insertBy_isChain s.walkLe_total _) h
end Sys2Proof.Machine
end

section
-- The proofs are elaborated one after the other: each of the many threads of a parallel run holds a stack of its own.
set_option Elab.async false
/-! PROOFS. SET of the settings that act at once, and RECIPE_SET (O21). -/

namespace Sys2Proof.Machine

open Sys2Proof

/-! ### SET of a clamped setting, step by step (R56, R189) -/

/-- A setting at another place keeps its value. -/
theorem State.val_putSetting_ne {i j : SettingIx} (h : j ≠ i) (s : State) (v : Int) : (s.putSetting i v).val j = s.val j := by
  have hne : i.val ≠ j.val := fun e => h (Fin.ext e.symm)
  simp [State.val, State.putSetting, Vector.get_eq_getElem, Vector.getElem_set_ne _ _ hne]

theorem State.val_putSetting_self (s : State) (i : SettingIx) (v : Int) : (s.putSetting i v).val i = v := by
  simp [State.val, State.putSetting, Vector.get_eq_getElem]

theorem State.num_putSetting_ne {i j : SettingIx} (h : j ≠ i) (s : State) (v : Int) : (s.putSetting i v).num j = s.num j :=
  congrArg Int.toNat (State.val_putSetting_ne h s v)

theorem State.num_putSetting_self (s : State) (i : SettingIx) (v : Int) : (s.putSetting i v).num i = v.toNat :=
  congrArg Int.toNat (s.val_putSetting_self i v)

/-- A value in its range is not clamped. -/
theorem clampSetting_of_range {i : SettingIx} {v lo hi : Int} (hr : settingRange.get i = (lo, hi)) (hlo : lo ≤ v)
    (hhi : v ≤ hi) (hne : i ≠ SettingIx.boosterBW := by decide) : clampSetting i v = v := by
  simp only [clampSetting, hr, hne, false_and, if_false]
  omega

/-- SET of a clamped setting: what `setClamped` answers, placed as the reply. -/
theorem exec_set_clamped {s t : State} {i : Fin 40} {v : BitVec 32} {st : Status} {fields : List Octet}
    (hs : s.serves = true) (hc : State.clampedSetting i = true) (h : s.setClamped i v.toInt = (t, st, fields))
    (tag : Octet) : exec (.set tag (BitVec.ofNat 8 (i.val + 1)) v) s = .next (t.reply 0x04#8 tag st fields).finish :=
  exec_serves hs rfl rfl (by simp only [serveOf, State.serveSet, settingIx_succ, hc, if_true, h])

/-- A value that is not held already is taken, and acts at once, unless R56 or R67 refuses it. -/
theorem State.setClamped_takes {s : State} {i : SettingIx} {v : Int} (hne : clampSetting i v ≠ s.val i)
    (hk : i = SettingIx.kFactor → s.whu.owner = none ∧ s.whu.runOn = none)
    (hsum : State.summed i = true →
      (s.putSetting i (clampSetting i v)).classSum ≤ (s.putSetting i (clampSetting i v)).mains) :
    s.setClamped i v =
      (State.applySetting s (s.putSetting i (clampSetting i v)) i, if clampSetting i v = v then .ok else .clamped,
        eValue (clampSetting i v)) := by
  have hfree : ¬ (i = SettingIx.kFactor ∧ (s.whu.owner.isSome ∨ s.whu.runOn.isSome)) := fun ⟨hi, hw⟩ => by
    obtain ⟨ho, hr⟩ := hk hi
    simp [ho, hr] at hw
  have hwithin : ¬ (State.summed i = true ∧
      (s.putSetting i (clampSetting i v)).mains < (s.putSetting i (clampSetting i v)).classSum) :=
    fun ⟨hi, hlt⟩ => absurd (hsum hi) (Nat.not_le.mpr hlt)
  simp only [State.setClamped, if_neg hfree, if_neg hne, if_neg hwithin]

/-- The part runs where an owner takes its requests. -/
theorem State.on_of_serves {s : State} (h : s.serves = true) : s.on = true := by
  simp only [State.serves, State.takes, Bool.and_eq_true] at h
  exact State.on_of_awake h.1.1

/-- SET of a value in range that is not held, of a setting that R56 does not sum. -/
theorem exec_set_takes {s : State} {i : Fin 40} {v : BitVec 32} {lo hi : Int} (hs : s.serves = true)
    (hr : settingRange.get i = (lo, hi)) (hlo : lo ≤ v.toInt) (hhi : v.toInt ≤ hi) (hne : v.toInt ≠ s.settings.get i)
    (tag : Octet) (hc : State.clampedSetting i = true := by decide)
    (hk : i = SettingIx.kFactor → s.whu.owner = none ∧ s.whu.runOn = none := by exact fun h => absurd h (by decide))
    (hsum : State.summed i = true → (s.putSetting i v.toInt).classSum ≤ (s.putSetting i v.toInt).mains := by
      exact fun h => absurd h (by decide))
    (hb : i ≠ SettingIx.boosterBW := by decide) :
    exec (.set tag (BitVec.ofNat 8 (i.val + 1)) v) s = .next
      ((State.applySetting s (s.putSetting i v.toInt) i).reply 0x04#8 tag .ok (eValue v.toInt)).finish := by
  have hclamp := clampSetting_of_range hr hlo hhi hb
  have h := State.setClamped_takes (s := s) (i := i) (v := v.toInt) (by rw [hclamp]; exact hne) hk (by rwa [hclamp])
  rw [hclamp, if_pos rfl] at h
  exact exec_set_clamped hs hc h tag

theorem exec_set_kind {s t : State} {a : Addr} {v : BitVec 32} {st : Status} {fields : List Octet} (hs : s.serves = true)
    (h : s.setKind (kindIx a) v.toInt = (t, st, fields)) (tag : Octet) :
    exec (.set tag (BitVec.ofNat 8 (a.val + 32)) v) s = .next (t.reply 0x04#8 tag st fields).finish := by
  have hc : State.clampedSetting (kindIx a) = false := by
    clear h
    revert a
    decide
  have hn : BitVec.ofNat 8 (a.val + 32) = BitVec.ofNat 8 ((kindIx a).val + 1) := congrArg (BitVec.ofNat 8) (by simp only [kindIx]; omega)
  rw [hn]
  exact exec_serves hs rfl rfl (by simp only [serveOf, State.serveSet, settingIx_succ, hc, Bool.false_eq_true, if_false, h])

/-! ### What is refused, and what a taken value does to blocks without a walk (R22, R56, R67, R161) -/

theorem setSettings_refused :
    (∀ (tag : Octet) (i : Fin 40) (v : BitVec 32) (s : State), s.serves = true → 7 ≤ i.val → i.val ≤ 10 →
      clampSetting i v.toInt ≠ s.val i → (s.putSetting i (clampSetting i v.toInt)).mains <
        (s.putSetting i (clampSetting i v.toInt)).classSum →
      exec (.set tag (BitVec.ofNat 8 (i.val + 1)) v) s = .next ((s.reply 0x04#8 tag .outOfRange []).finish)) ∧
    (∀ (tag : Octet) (a : Addr) (v : BitVec 32) (s : State), s.serves = true → (v.toInt < 0 ∨ 4 < v.toInt) →
      exec (.set tag (BitVec.ofNat 8 (a.val + 32)) v) s = .next ((s.reply 0x04#8 tag .outOfRange []).finish)) ∧
    (∀ (tag : Octet) (a : Addr) (v : BitVec 32) (s : State), s.serves = true → 0 ≤ v.toInt → v.toInt ≤ 4 →
      s.csq.phase ≠ .idle →
      exec (.set tag (BitVec.ofNat 8 (a.val + 32)) v) s = .next ((s.reply 0x04#8 tag .notNow []).finish)) ∧
    (∀ (tag : Octet) (v : BitVec 32) (s : State), s.serves = true → (s.whu.owner.isSome ∨ s.whu.runOn.isSome) →
      exec (.set tag 17#8 v) s = .next ((s.reply 0x04#8 tag .notNow []).finish)) := by
  refine ⟨fun tag i v s hs hlo hhi hne hlt => ?_, fun tag a v s hs hv => ?_, fun tag a v s hs hlo hhi hp => ?_,
    fun tag v s hs hw => ?_⟩
  · have hi : State.clampedSetting i = true ∧ State.summed i = true ∧ i ≠ SettingIx.kFactor := by
      clear hne hlt
      revert hlo hhi i
      decide
    obtain ⟨hc, hsum, hk⟩ := hi
    refine exec_set_clamped hs hc ?_ tag
    have hfree : ¬ (i = SettingIx.kFactor ∧ (s.whu.owner.isSome ∨ s.whu.runOn.isSome)) := fun h => hk h.1
    simp only [State.setClamped, if_neg hfree, if_neg hne, hsum, true_and, if_pos hlt]
  · exact exec_set_kind hs (if_pos hv) tag
  · refine exec_set_kind hs ?_ tag
    rw [State.setKind, if_neg (by omega), if_pos hp]
  · exact exec_set_clamped (i := SettingIx.kFactor) hs rfl (if_pos ⟨rfl, hw⟩) tag

/-! ### What each setting does at once -/

section

variable (before s : State)

theorem applySetting_mains : State.applySetting before s SettingIx.mainsBudget = s.rebudget := if_pos rfl

theorem applySetting_starve : State.applySetting before s SettingIx.starve = s.retestStarve := rfl

/-- A new k_factor zeroes the accumulators, and has an open target computed again (R67, R87). -/
theorem applySetting_kFactor : State.applySetting before s SettingIx.kFactor = s.zeroAccumulators.retarget := rfl

theorem applySetting_columnCapacity : State.applySetting before s SettingIx.columnCapacity = s.clampColumns := rfl

theorem applySetting_stockLow : State.applySetting before s SettingIx.stockLow = s.lowChanged := rfl

end

theorem State.retarget_outside {s : State} (h : s.csq.phase ≠ .rinse) : s.retarget = s := if_neg fun hc => h hc.1

theorem exec_set_kFactor {s : State} {v : BitVec 32} (hs : s.serves = true) (ho : s.whu.owner = none)
    (hr : s.whu.runOn = none) (hlo : 100 ≤ v.toInt) (hhi : v.toInt ≤ 2000) (hne : v.toInt ≠ s.settings.get 16) (tag : Octet) :
    exec (.set tag 17#8 v) s = .next
      ((s.putSetting 16 v.toInt).zeroAccumulators.retarget.reply 0x04#8 tag .ok (eValue v.toInt)).finish := by
  have h := exec_set_takes (i := SettingIx.kFactor) hs rfl hlo hhi hne tag (hk := fun _ => ⟨ho, hr⟩)
  rw [applySetting_kFactor] at h
  exact h

theorem State.retarget_rinse {s : State} {v : Int} (hon : s.on = true) (hp : s.csq.phase = .rinse) :
    (s.putSetting 16 v).zeroAccumulators.retarget =
      { s with
        settings := s.settings.set 16 v
        sfc := { s.sfc with acc := 0 }
        dsc := { s.dsc with acc := 0 }
        csq := { s.csq with
          rinse := { s.csq.rinse with
            target :=
              if s.csq.rinse.closing = false ∧ s.whu.phase ≠ InletPhase.opened then
                (s.recipe.rinseMl * v.toNat + 999) / 1000
              else s.csq.rinse.target } } } := by
  let t := (s.putSetting 16 v).zeroAccumulators
  have hk : t.k = v.toNat := s.num_putSetting_self 16 v
  have hvalve : t.valveOpen = decide (s.whu.phase = .opened) := by
    show (s.on && decide (s.whu.phase = .opened)) = _
    rw [hon, Bool.true_and]
  have hcond : (t.csq.phase = .rinse ∧ t.csq.rinse.closing = false ∧ t.valveOpen = false) ↔
      (s.csq.rinse.closing = false ∧ s.whu.phase ≠ .opened) := by
    rw [hvalve, decide_eq_false_iff_not]
    exact ⟨fun h => h.2, fun h => ⟨hp, h⟩⟩
  show (if t.csq.phase = .rinse ∧ t.csq.rinse.closing = false ∧ t.valveOpen = false then
    t.onCsq fun c => { c with rinse := { c.rinse with target := pulseTarget t.recipe.rinseMl t.k } } else t) = _
  rw [if_congr hcond rfl rfl, hk]
  split <;> rfl

/-- A new column_capacity holds both columns within it (R67). -/
theorem exec_set_columnCapacity {s : State} {v : BitVec 32} (hs : s.serves = true) (hlo : 200 ≤ v.toInt)
    (hhi : v.toInt ≤ 20000) (hne : v.toInt ≠ s.settings.get 17) (tag : Octet) :
    exec (.set tag 18#8 v) s = .next
      ((({ s with
        settings := s.settings.set 17 v.toInt,
        sfc := { s.sfc with
          colA := { s.sfc.colA with capacity := min s.sfc.colA.capacity (v.toInt.toNat * 100) },
          colB := { s.sfc.colB with capacity := min s.sfc.colB.capacity (v.toInt.toNat * 100) } } }).reply
          0x04#8 tag .ok (e4 (BitVec.ofInt 32 v.toInt).toNat)).finish) := by
  have h := exec_set_takes (i := SettingIx.columnCapacity) hs rfl hlo hhi hne tag
  rw [applySetting_columnCapacity] at h
  have hn : (s.putSetting SettingIx.columnCapacity v.toInt).num SettingIx.columnCapacity = v.toInt.toNat :=
    s.num_putSetting_self _ _
  unfold State.clampColumns at h
  rw [hn] at h
  exact h

/-- RECIPE_SET takes a record in range into working memory (R22). -/
theorem recipeSet_takes :
    (∀ (tag : Octet) (i : Fin 8) (r : Recipe) (s : State), s.serves = true → 20 ≤ r.washS → r.washS ≤ 600 →
      500 ≤ r.tankC → r.tankC ≤ 700 → 750 ≤ r.rinseC → r.rinseC ≤ 900 → 1000 ≤ r.rinseMl → r.rinseMl ≤ 5000 →
      r.purgeMl ≤ 5000 → r.dwellS ≤ 30 → r.ventPct ≤ 100 → r.ventS ≤ 900 → 50 ≤ r.soilPct → r.soilPct ≤ 200 →
      exec (.recipeSet tag (BitVec.ofNat 8 i.val) r) s = .next
        ((({ s with csq := { s.csq with recipes := s.csq.recipes.set i.val r i.isLt } }).reply 0x06#8 tag .ok []).finish)) ∧
    (∀ (tag n : Octet) (r : Recipe) (s : State), s.serves = true → 7 < n.toNat →
      exec (.recipeSet tag n r) s = .next ((s.reply 0x06#8 tag .outOfRange []).finish)) ∧
    (∀ (tag n : Octet) (r : Recipe) (s : State), s.serves = true →
      (r.washS < 20 ∨ 600 < r.washS ∨ r.tankC < 500 ∨ 700 < r.tankC ∨ r.rinseC < 750 ∨ 900 < r.rinseC ∨
        r.rinseMl < 1000 ∨ 5000 < r.rinseMl ∨ 5000 < r.purgeMl ∨ 30 < r.dwellS ∨ 100 < r.ventPct ∨ 900 < r.ventS ∨
        r.soilPct < 50 ∨ 200 < r.soilPct) →
      exec (.recipeSet tag n r) s = .next ((s.reply 0x06#8 tag .outOfRange []).finish)) := by
  refine ⟨fun tag i r s hs h1 h2 h3 h4 h5 h6 h7 h8 h9 h10 h11 h12 h13 h14 => ?_, fun tag n r s hs hn => ?_,
    fun tag n r s hs hr => ?_⟩
  · have hi : (BitVec.ofNat 8 i.val).toNat = i.val := octet_toNat (by omega)
    have hrange : State.recipeInRange r = true := by
      simp [State.recipeInRange, h1, h2, h3, h4, h5, h6, h7, h8, h9, h10, h11, h12, h13, h14]
    refine exec_serves hs rfl rfl ?_
    simp only [serveOf, State.serveRecipeSet, hrange, if_true, hi]
    exact dif_pos i.isLt
  · exact exec_serves hs rfl rfl (dif_neg (by omega))
  · have hrange : State.recipeInRange r = false := by
      simp only [State.recipeInRange, ← Bool.not_eq_true, Bool.and_eq_true, decide_eq_true_eq]
      omega
    refine exec_serves hs rfl rfl ?_
    simp only [serveOf, State.serveRecipeSet, hrange, Bool.false_eq_true, if_false]
    split <;> rfl
/-! ### Changes of a wattage (R57) -/

/-- SET of a wattage is taken by the arbiter's rows. -/
theorem exec_set_watts {s : State} {i : Fin 40} {v : BitVec 32} (hs : s.serves = true) (hlo : 8 ≤ i.val) (hhi : i.val ≤ 13)
    (hne : clampSetting i v.toInt ≠ s.settings.get i)
    (hsum : i.val ≤ 10 → (s.putSetting i (clampSetting i v.toInt)).classSum ≤
      (s.putSetting i (clampSetting i v.toInt)).mains) (tag : Octet) :
    exec (.set tag (BitVec.ofNat 8 (i.val + 1)) v) s = .next
      (((State.rewatt s { s with settings := s.settings.set i.val (clampSetting i v.toInt) i.isLt }).reply 0x04#8 tag
        (if clampSetting i v.toInt = v.toInt then .ok else .clamped)
        (e4 (BitVec.ofInt 32 (clampSetting i v.toInt)).toNat)).finish) := by
  have hi : State.clampedSetting i = true ∧ i ≠ SettingIx.kFactor ∧ i ≠ SettingIx.mainsBudget ∧
      (SettingIx.drainPumpW ≤ i ∧ i ≤ SettingIx.tankHeaterW) ∧ (State.summed i = true → i.val ≤ 10) := by
    clear hne hsum
    revert hlo hhi i
    decide
  obtain ⟨hc, hk, hm, hwatt, hsummed⟩ := hi
  refine exec_set_clamped hs hc ?_ tag
  rw [State.setClamped_takes hne (fun h => absurd h hk) fun h => hsum (hsummed h), State.applySetting, if_neg hm,
    if_pos hwatt]
  rfl

section

variable {before s : State} {l : Load}

/-- A change of wattage of a claim that is not granted changes nothing yet (R57). -/
theorem wattsOne_ungranted (hd : before.watts l ≠ s.watts l) (hb : ¬ (l = .boosterB ∧ s.watts l = 0))
    (hg : s.granted l = false) : State.wattsOne before s l = s := by
  rw [State.wattsOne, if_neg hd, if_neg hb, if_neg (by simp [hg])]

theorem wattsOne_falls (hd : before.watts l ≠ s.watts l) (hb : ¬ (l = .boosterB ∧ s.watts l = 0))
    (hg : s.granted l = true) (hle : s.watts l ≤ (s.claimOf l).counted) :
    State.wattsOne before s l = s.onClaim l fun c => { c with counted := s.watts l } := by
  rw [State.wattsOne, if_neg hd, if_neg hb, if_pos hg, if_pos hle]

theorem wattsOne_heater (hd : before.watts l ≠ s.watts l) (hb : ¬ (l = .boosterB ∧ s.watts l = 0))
    (hg : s.granted l = true) (hlt : (s.claimOf l).counted < s.watts l) (hu : s.loadUnfit l = false)
    (hh : l.heater = true) :
    State.wattsOne before s l =
      if s.sumGranted + s.sumSettling + (s.watts l - (s.claimOf l).counted) ≤ s.lba.inForce ∧
          s.sumGranted + (s.watts l - (s.claimOf l).counted) ≤ s.mains then
        s.onClaim l fun c => { c with counted := s.watts l }
      else s.revoke l := by
  rw [State.wattsOne, if_neg hd, if_neg hb, if_pos hg, if_neg (by omega), if_pos hh]
  exact if_neg (by simp [hu])

theorem wattsOne_pump (hd : before.watts l ≠ s.watts l) (hb : ¬ (l = .boosterB ∧ s.watts l = 0))
    (hg : s.granted l = true) (hlt : (s.claimOf l).counted < s.watts l) (hu : s.loadUnfit l = false)
    (hh : l.heater = false) :
    State.wattsOne before s l = State.revokeUntil (s.watts l - (s.claimOf l).counted) s.mains s.candidates s := by
  rw [State.wattsOne, if_neg hd, if_neg hb, if_pos hg, if_neg (by omega), if_neg (by simp [hh]), if_neg (by simp [hu])]

end

/-- With nothing claimed a walk has nothing to take. -/
theorem State.walk_idle {s : State} (h : ∀ l, (s.claimOf l).state = .idle) : s.walk = s := by
  have horder : s.walkOrder = [] :=
    List.eq_nil_iff_forall_not_mem.mpr fun l hl => by simpa [h l] using (s.mem_walkOrder l).mp hl
  unfold State.walk
  split
  · rfl
  · simp only [State.walkAgain, horder, State.walkThrough]

/-- With nothing claimed and no load told, a re-test changes nothing. -/
theorem State.retest_idle {s : State} (h : ∀ l, (s.claimOf l).state = .idle ∧ s.toldUnfit l = false) :
    s.retest = (s, []) := by
  have hone (l : Load) : State.retestOne (s, []) l = (s, []) := by
    cases hu : s.loadUnfit l with
    | true => exact State.retestOne_idle [] hu (h l).1
    | false => exact State.retestOne_stays [] hu (h l).2
  exact List.foldlRecOn (motive := fun p => p = (s, [])) allLoads State.retestOne rfl fun p hp l _ => by rw [hp]; exact hone l

/-- Thermostats without the unfit mark have nothing to retry. -/
theorem retryHeats_fit {before : State} (h : ∀ l, (before.thermostat l).unfit = false) (s : State) (ls : List Load) :
    State.retryHeats before s ls = s :=
  List.foldlRecOn (motive := fun t => t = s) ls (State.retryHeat before) rfl fun t ht l _ =>
    (if_neg (by simp [h l])).trans ht

/-- With every claim IDLE a change of wattage that breaks no sum changes nothing. -/
theorem rewatt_idle {before s : State} (h : ∀ l, (s.claimOf l).state = .idle ∧ s.toldUnfit l = false)
    (hbreak : s.lba.breaker = Vector.replicate 11 false) (hsum : s.classSum ≤ s.mains)
    (hb : s.watts .boosterB ≠ 0 ∨ before.watts .boosterB = 0) (hunfit : ∀ l, (before.thermostat l).unfit = false) :
    State.rewatt before s = s := by
  have hmark : State.markBreakers before s = s := if_neg (Nat.not_lt.mpr hsum)
  have hclear : s.clearBreakers = s := by
    have he : (Vector.replicate 11 false) = s.lba.breaker := hbreak.symm
    refine (if_pos hsum).trans ?_
    rw [he]
    rfl
  have hone (l : Load) : State.wattsOne before s l = s := by
    by_cases hd : before.watts l = s.watts l
    · exact if_pos hd
    · refine wattsOne_ungranted hd (fun ⟨hl, hw⟩ => ?_) (by simp [State.granted, (h l).1])
      subst hl
      exact hb.elim (fun hn => hn hw) fun hz => hd (hz.trans hw.symm)
  have hall : allLoads.foldl (State.wattsOne before) s = s :=
    List.foldlRecOn (motive := fun t => t = s) allLoads (State.wattsOne before) rfl fun t ht l _ => by rw [ht]; exact hone l
  have hchange : State.wattsChanged before s = (s, []) := by
    unfold State.wattsChanged
    split
    · rfl
    · dsimp only
      rw [hmark, hclear, hall, State.retest_idle h]
      exact congrArg (fun t => (t, ([] : List Load))) (State.walk_idle fun l => (h l).1)
  unfold State.rewatt
  dsimp only
  rw [hchange]
  exact retryHeats_fit hunfit _ _

/-! ### A new mains_budget_w (R58) -/

/-- A re-budgeted part keeps what its arbiter has settled on. -/
theorem State.rebudget_keeps (s : State) : s.rebudget.KeepsForce s.budgetSet.1 :=
  .ite ((State.KeepsForce.refl _).tellEnded) ((State.KeepsForce.refl _).tellEnded.retryHeats)

theorem State.revokeUntil_within {s : State} {w limit : Nat} (h : s.sumGranted + w ≤ limit) (ls : List Load) :
    State.revokeUntil w limit ls s = s := by
  cases ls with
  | nil => rfl
  | cons l ls => exact if_pos h

/-- The marks of a broken sum are no part of what the budget in force rests on. -/
theorem State.clearBreakers_frame (s : State) :
    s.clearBreakers.settings = s.settings ∧ s.clearBreakers.lba.inForce = s.lba.inForce ∧
      s.clearBreakers.lba.claims = s.lba.claims ∧ s.clearBreakers.lba.settling = s.lba.settling ∧
      s.clearBreakers.lba.told = s.lba.told ∧ s.clearBreakers.msu = s.msu := by
  unfold State.clearBreakers
  split <;> exact ⟨rfl, rfl, rfl, rfl, rfl, rfl⟩

/-- The arbiter's state in which a new budget is judged: the heaters above a lowered one revoked, the budget in force taken
where it may be (R58). -/
def State.budgetTaken (s : State) : State :=
  let t := s.clearBreakers
  if t.lba.inForce ≤ t.mains then t.onLba fun b => { b with inForce := t.mains }
  else (State.revokeUntil 0 t.mains t.candidates t).takeForce.1

theorem State.budgetSet_eq (s : State) : s.budgetSet = (s.budgetTaken.retest.1.walk, s.budgetTaken.retest.2) := by
  unfold State.budgetSet
  dsimp only
  by_cases hle : s.clearBreakers.lba.inForce ≤ s.clearBreakers.mains
  · have ht : s.budgetTaken = s.clearBreakers.onLba fun b => { b with inForce := s.clearBreakers.mains } := if_pos hle
    rw [ht, if_pos hle]
  · have ht : s.budgetTaken =
        (State.revokeUntil 0 s.clearBreakers.mains s.clearBreakers.candidates s.clearBreakers).takeForce.1 := if_neg hle
    rw [ht, if_neg hle]

theorem State.rebudget_taken (s : State) : s.rebudget.KeepsForce s.budgetTaken := by
  have hwalk : s.budgetTaken.retest.1.walk.KeepsForce s.budgetTaken := (State.KeepsForce.refl s.budgetTaken).retest.walk
  have hfst : s.budgetSet.1 = s.budgetTaken.retest.1.walk := by rw [State.budgetSet_eq]
  exact s.rebudget_keeps.trans (by rw [hfst]; exact hwalk)

/-- A budget not below that in force, or one within which G + S lies, is in force at once (R58). -/
theorem State.budgetTaken_forces {s : State} (h : s.lba.inForce ≤ s.mains ∨ s.sumGranted + s.sumSettling ≤ s.mains) :
    s.budgetTaken.lba.inForce = s.mains ∧ s.budgetTaken.settings = s.settings := by
  obtain ⟨hset, hforce, hclaims, hsettling, -, -⟩ := s.clearBreakers_frame
  have hm : s.clearBreakers.mains = s.mains := State.mains_congr hset
  have hG : s.clearBreakers.sumGranted = s.sumGranted := State.sumGranted_congr hclaims
  have hS : s.clearBreakers.sumSettling = s.sumSettling := by rw [State.sumSettling, hsettling]; rfl
  unfold State.budgetTaken
  dsimp only
  split
  · exact ⟨hm, hset⟩
  · next hlt =>
    have hlt' : s.clearBreakers.mains < s.clearBreakers.lba.inForce := Nat.not_le.mp hlt
    have hle : s.clearBreakers.sumGranted + s.clearBreakers.sumSettling ≤ s.clearBreakers.mains := by
      rw [hforce, hm] at hlt
      rw [hG, hS, hm]
      exact h.resolve_left hlt
    rw [State.revokeUntil_within (by omega), State.takeForce, if_pos ⟨hlt', hle⟩]
    exact ⟨hm, hset⟩

/-- A budget lowered below G with the tank heater alone granted of the heaters revokes it, and waits (R52, R58). -/
theorem State.budgetTaken_waits {s : State} (hlt : s.mains < s.lba.inForce) (hG : s.mains < s.sumGranted)
    (ht : s.granted .tankHeater = true) (ha : s.granted .boosterA = false) (hb : s.granted .boosterB = false) :
    s.budgetTaken = s.clearBreakers.revoke .tankHeater := by
  obtain ⟨hset, hforce, hclaims, -, -, -⟩ := s.clearBreakers_frame
  have hm : s.clearBreakers.mains = s.mains := State.mains_congr hset
  have hGt : s.clearBreakers.sumGranted = s.sumGranted := State.sumGranted_congr hclaims
  have hgranted (l : Load) : s.clearBreakers.granted l = s.granted l :=
    congrArg (fun v : Vector Claim 11 => decide ((v.get l.ix).state = .granted)) hclaims
  have hcand : s.clearBreakers.candidates = [.tankHeater] := by
    simp [State.candidates, hgranted, ht, ha, hb, insertBy]
  have hrevoked : State.revokeUntil 0 s.clearBreakers.mains s.clearBreakers.candidates s.clearBreakers =
      s.clearBreakers.revoke .tankHeater := by
    rw [hcand, State.revokeUntil, if_neg (by omega)]
    rfl
  have hclaim : (s.clearBreakers.claimOf .tankHeater).state = .granted :=
    (State.granted_iff _ _).mp ((hgranted _).trans ht)
  have hsums : (s.clearBreakers.revoke .tankHeater).sumGranted + (s.clearBreakers.revoke .tankHeater).sumSettling =
      s.clearBreakers.sumGranted + s.clearBreakers.sumSettling := by
    have hmoved := State.sumGranted_onClaim
      (s.clearBreakers.settle .tankHeater (s.clearBreakers.claimOf .tankHeater).counted) .tankHeater
      fun c => { c with state := .waiting, counted := 0 }
    have hdrawn : s.clearBreakers.drawn .tankHeater = (s.clearBreakers.claimOf .tankHeater).counted :=
      State.drawn_of_granted ((hgranted _).trans ht)
    simp only [State.drawn_onClaim_self, State.drawn_settle, State.sumGranted_settle, hdrawn, reduceCtorEq, if_false,
      Nat.add_zero] at hmoved
    have hS : (s.clearBreakers.revoke .tankHeater).sumSettling =
        s.clearBreakers.sumSettling + (s.clearBreakers.claimOf .tankHeater).counted := State.sumSettling_settle _ _ _
    have hG' : (s.clearBreakers.revoke .tankHeater).sumGranted + (s.clearBreakers.claimOf .tankHeater).counted =
        s.clearBreakers.sumGranted := hmoved
    omega
  unfold State.budgetTaken
  dsimp only
  rw [if_neg (by omega), hrevoked, State.takeForce, if_neg]
  have hmr : (s.clearBreakers.revoke .tankHeater).mains = s.clearBreakers.mains := rfl
  rintro ⟨-, hle⟩
  omega
/-! ### No class 0 or class 1 load stays told once the budget holds their sum (R55) -/

/-- What makes a load unfit, and which loads are told of it, stays from `s` to `t`. -/
structure State.KeepsTold (t s : State) : Prop where
  table : t.settings = s.settings ∧ t.msu = s.msu
  inForce : t.lba.inForce = s.lba.inForce
  breaker : t.lba.breaker = s.lba.breaker
  told : t.lba.told = s.lba.told

namespace State.KeepsTold

variable {s t u : State}

theorem refl (s : State) : s.KeepsTold s := ⟨⟨rfl, rfl⟩, rfl, rfl, rfl⟩

theorem trans (h : u.KeepsTold t) (g : t.KeepsTold s) : u.KeepsTold s :=
  ⟨⟨h.table.1.trans g.table.1, h.table.2.trans g.table.2⟩, h.inForce.trans g.inForce, h.breaker.trans g.breaker,
    h.told.trans g.told⟩

theorem loadUnfit (h : t.KeepsTold s) (l : Load) : t.loadUnfit l = s.loadUnfit l := by
  have hw (k : Load) : t.watts k = s.watts k := State.watts_congr h.table.1 h.table.2 k
  have hsum : t.classSum = s.classSum := by simp only [State.classSum, hw]
  simp only [State.loadUnfit, hw, hsum, h.inForce, h.breaker, State.mains_congr h.table.1]

theorem onClaim (h : t.KeepsTold s) {l : Load} {f : Claim → Claim} : (t.onClaim l f).KeepsTold s :=
  ⟨h.table, h.inForce, h.breaker, h.told⟩

theorem settle (h : t.KeepsTold s) {l : Load} {w : Nat} : (t.settle l w).KeepsTold s :=
  ⟨h.table, h.inForce, h.breaker, h.told⟩

theorem granteeEvent (h : t.KeepsTold s) {l : Load} : (t.granteeEvent l).KeepsTold s := by
  have hb := (State.KeepsBus.refl t).granteeEvent (l := l)
  refine trans ⟨⟨hb.settings, hb.msu⟩, ?_, ?_, ?_⟩ h <;> rw [(t.granteeEvent_budget l).1]

theorem grant (h : t.KeepsTold s) {l : Load} : (t.grant l).KeepsTold s := by
  unfold State.grant
  split
  · exact h.onClaim
  · exact granteeEvent (onClaim (t := t.onLba fun b => { b with grants := b.grants + 1 })
      ⟨h.table, h.inForce, h.breaker, h.told⟩)

theorem revoke (h : t.KeepsTold s) {l : Load} : (t.revoke l).KeepsTold s := h.settle.onClaim

theorem revokeUntil (h : t.KeepsTold s) {w limit : Nat} {ls : List Load} : (State.revokeUntil w limit ls t).KeepsTold s := by
  induction ls generalizing t with
  | nil => exact h
  | cons l ls ih =>
    rw [State.revokeUntil]
    split
    · exact h
    · exact ih h.revoke

theorem walk (h : t.KeepsTold s) : t.walk.KeepsTold s :=
  State.walk_keeps (P := fun v => v.KeepsTold s) (fun _ _ _ hv => hv.grant) (fun _ _ hv => hv.revoke) h

theorem endClaim (h : t.KeepsTold s) {l : Load} : (t.endClaim l).KeepsTold s := by
  unfold State.endClaim
  split
  · exact h
  · exact h.onClaim
  · exact h.settle.onClaim

/-- A claim of a load that is not unfit tells nobody. -/
theorem claim (h : t.KeepsTold s) {l : Load} (hl : s.loadUnfit l = false) : (t.claim l).1.KeepsTold s := by
  have hu : ¬ t.loadUnfit l = true := by simp [h.loadUnfit l, hl]
  unfold State.claim
  rw [if_neg hu]
  split
  · exact h
  · split
    · exact h
    · split
      · exact h
      · exact h.onClaim.walk

theorem fitEvent (h : t.KeepsTold s) {l : Load} (hl : s.loadUnfit l = false) : (t.fitEvent l).KeepsTold s := by
  have cond {c : Prop} {d : Decidable c} {v : State} (hv : v.KeepsTold s) : (if c then v else t).KeepsTold s := by
    split
    · exact hv
    · exact h
  have channel {c : Channel} {f : ChannelRec → ChannelRec} : (t.onChannel c f).KeepsTold s := by
    cases c <;> exact ⟨h.table, h.inForce, h.breaker, h.told⟩
  cases l with
  | drainPump => exact cond (h.claim hl)
  | washPump => exact cond (h.claim hl)
  | rinsePump => exact cond (h.claim hl)
  | doorDrive => exact ⟨h.table, h.inForce, h.breaker, h.told⟩
  | doserDet => exact channel (c := .det) (f := fun r => { r with unfit := false })
  | doserRa => exact channel (c := .ra) (f := fun r => { r with unfit := false })
  | ventFan => exact h
  | valveMotor => exact h
  | boosterA => exact h
  | boosterB => exact h
  | tankHeater => exact h

end State.KeepsTold

/-- No class 0 or class 1 load is unfit. -/
def State.PumpsFit (s : State) : Prop := ∀ l : Load, l.heater = false → s.loadUnfit l = false

theorem State.toldUnfit_set (s : State) (l k : Load) (b : Bool) :
    (s.onLba fun x => { x with told := x.told.set l.ix.val b l.ix.isLt }).toldUnfit k =
      if k = l then b else s.toldUnfit k := by
  by_cases h : k = l
  · subst h; simp [State.toldUnfit, State.onLba, Vector.get_eq_getElem]
  · have h' : l.ix.val ≠ k.ix.val := fun e => h (by cases k <;> cases l <;> simp_all [Load.ix])
    simp [State.toldUnfit, State.onLba, Vector.get_eq_getElem, h, Vector.getElem_set_ne _ _ h']

/-- Where no class 0 or class 1 load is unfit, a re-test tells none of them, and takes back what its own load was told. -/
theorem State.PumpsFit.retestOne {s : State} (h : s.PumpsFit) (ended : List Load) (l : Load) :
    (State.retestOne (s, ended) l).1.PumpsFit ∧
      ∀ k : Load, k.heater = false →
        (State.retestOne (s, ended) l).1.toldUnfit k = if k = l then false else s.toldUnfit k := by
  cases hu : s.loadUnfit l with
  | true =>
    have hne (k : Load) (hk : k.heater = false) : k ≠ l := fun e => by simp [h l (e ▸ hk)] at hu
    by_cases hc : (s.claimOf l).state = .idle
    · rw [State.retestOne_idle ended hu hc]
      exact ⟨h, fun k hk => (if_neg (hne k hk)).symm⟩
    · rw [State.retestOne_unfit ended hu hc]
      let t := (s.endClaim l).onLba fun x => { x with told := x.told.set l.ix.val true l.ix.isLt }
      have hs : (s.endClaim l).KeepsTold s := (State.KeepsTold.refl s).endClaim
      have hbase : ((s.endClaim l).tellUnfit l).lba = t.lba := (t.warn_frame _ _).2.2.2.2.1
      have htable : ((s.endClaim l).tellUnfit l).settings = s.settings ∧ ((s.endClaim l).tellUnfit l).msu = s.msu :=
        ⟨((State.KeepsBus.refl s).endClaim.tellUnfit).settings, ((State.KeepsBus.refl s).endClaim.tellUnfit).msu⟩
      refine ⟨fun k hk => ?_, fun k hk => ?_⟩
      · have hfit : ((s.endClaim l).tellUnfit l).loadUnfit k = s.loadUnfit k := by
          have hw (j : Load) : ((s.endClaim l).tellUnfit l).watts j = s.watts j := State.watts_congr htable.1 htable.2 j
          have hsum : ((s.endClaim l).tellUnfit l).classSum = s.classSum := by simp only [State.classSum, hw]
          have hif : t.lba.inForce = s.lba.inForce := hs.inForce
          have hbr : t.lba.breaker = s.lba.breaker := hs.breaker
          simp only [State.loadUnfit, hw, hsum, hbase, hif, hbr, State.mains_congr htable.1]
        exact hfit.trans (h k hk)
      · have htold : ((s.endClaim l).tellUnfit l).toldUnfit k = t.toldUnfit k := by
          simp only [State.toldUnfit, hbase]
        rw [htold, State.toldUnfit_set, if_neg (hne k hk), if_neg (hne k hk), State.toldUnfit, hs.told]
        rfl
  | false =>
    cases ht : s.toldUnfit l with
    | false =>
      rw [State.retestOne_stays ended hu ht]
      refine ⟨h, fun k hk => ?_⟩
      split
      · next e => rw [e, ht]
      · rfl
    | true =>
      rw [State.retestOne_fit ended hu ht]
      let t := s.onLba fun x => { x with told := x.told.set l.ix.val false l.ix.isLt }
      have hend : (t.endCondition .budgetUnfit l.number).KeepsTold t := by
        refine ⟨⟨?_, ?_⟩, ?_, ?_, ?_⟩ <;> simp
      have hfit (k : Load) : t.loadUnfit k = s.loadUnfit k := rfl
      have hevent : ((t.endCondition .budgetUnfit l.number).fitEvent l).KeepsTold t := hend.fitEvent ((hfit l).trans hu)
      refine ⟨fun k hk => (hevent.loadUnfit k).trans ((hfit k).trans (h k hk)), fun k hk => ?_⟩
      show ((t.endCondition .budgetUnfit l.number).fitEvent l).toldUnfit k = _
      rw [State.toldUnfit, hevent.told]
      exact State.toldUnfit_set s l k false

theorem State.PumpsFit.retestAll {s : State} (h : s.PumpsFit) (ended : List Load) (ls : List Load) :
    (ls.foldl State.retestOne (s, ended)).1.PumpsFit ∧
      ∀ k : Load, k.heater = false →
        (ls.foldl State.retestOne (s, ended)).1.toldUnfit k = if k ∈ ls then false else s.toldUnfit k := by
  induction ls generalizing s ended with
  | nil => exact ⟨h, fun k _ => rfl⟩
  | cons l ls ih =>
    obtain ⟨hone, htold⟩ := h.retestOne ended l
    obtain ⟨hall, hrest⟩ := ih hone (State.retestOne (s, ended) l).2
    refine ⟨hall, fun k hk => ?_⟩
    rw [List.foldl_cons, hrest k hk, htold k hk]
    by_cases hkl : k = l <;> by_cases hm : k ∈ ls <;> simp [hkl, hm]

/-- A re-test and the walk after it leave no class 0 or class 1 load told. -/
theorem State.PumpsFit.untold {s : State} (h : s.PumpsFit) {l : Load} (hl : l.heater = false) :
    s.retest.1.walk.toldUnfit l = false := by
  have hwalk : s.retest.1.walk.KeepsTold s.retest.1 := (State.KeepsTold.refl s.retest.1).walk
  have htold : s.retest.1.toldUnfit l = false :=
    ((h.retestAll [] allLoads).2 l hl).trans (if_pos (mem_allLoads l))
  rw [State.toldUnfit, hwalk.told]
  exact htold

theorem State.watts_le_classSum (s : State) {l : Load} (hl : l.heater = false) : s.watts l ≤ s.classSum := by
  have hsum : s.classSum = s.watts .drainPump + s.watts .washPump + s.watts .rinsePump + s.watts .doorDrive +
      s.watts .ventFan + s.watts .valveMotor + s.watts .doserDet + s.watts .doserRa := by
    simp [State.classSum, allLoads, Load.heater, Load.cls]
  rw [hsum]
  cases l with
  | boosterA => exact absurd hl (by decide)
  | boosterB => exact absurd hl (by decide)
  | tankHeater => exact absurd hl (by decide)
  | _ => omega

/-- A budget in force that holds the class sum, no load marked as breaking it, leaves no pump unfit (R55). -/
theorem State.pumpsFit_of {s : State} (hsum : s.classSum ≤ s.mains) (hforce : s.mains ≤ s.lba.inForce) : s.PumpsFit := by
  intro l hl
  have hw := s.watts_le_classSum hl
  rw [State.loadUnfit, decide_eq_false (by omega), decide_eq_false (by omega)]
  simp

/-- A budget taken that holds the class sum leaves no pump unfit (R55, R58). -/
theorem State.budgetTaken_pumpsFit {s : State} (h : s.classSum ≤ s.mains) : s.budgetTaken.PumpsFit := by
  have sum_of {t : State} (hset : t.settings = s.settings) (hmsu : t.msu = s.msu) : t.classSum ≤ t.mains := by
    have hw (k : Load) : t.watts k = s.watts k := State.watts_congr hset hmsu k
    have hsum : t.classSum = s.classSum := by simp only [State.classSum, hw]
    rw [hsum, State.mains_congr hset]
    exact h
  obtain ⟨hset, -, -, -, -, hmsu⟩ := s.clearBreakers_frame
  unfold State.budgetTaken
  dsimp only
  split
  · exact State.pumpsFit_of (sum_of hset hmsu) (Nat.le_refl _)
  · next hlt =>
    have hr := (State.KeepsTold.refl s.clearBreakers).revokeUntil (w := 0) (limit := s.clearBreakers.mains)
      (ls := s.clearBreakers.candidates)
    generalize State.revokeUntil 0 s.clearBreakers.mains s.clearBreakers.candidates s.clearBreakers = t at hr ⊢
    have hsum : t.classSum ≤ t.mains := sum_of (hr.table.1.trans hset) (hr.table.2.trans hmsu)
    have hmains : t.mains = s.clearBreakers.mains := State.mains_congr hr.table.1
    have hforce := hr.inForce
    unfold State.takeForce
    split
    · exact State.pumpsFit_of hsum (Nat.le_refl _)
    · exact State.pumpsFit_of hsum (by dsimp only; omega)

theorem State.budgetSet_untold {s : State} {l : Load} (hl : l.heater = false) (h : s.classSum ≤ s.mains) :
    s.budgetSet.1.toldUnfit l = false := by
  have hfst : s.budgetSet.1 = s.budgetTaken.retest.1.walk := by rw [State.budgetSet_eq]
  rw [hfst]
  exact (State.budgetTaken_pumpsFit h).untold hl
/-! ### The end of the event of a SET -/

/-- What the end of an event leaves of the state in which its reply was placed. -/
theorem State.finish_reply (x : State) (kind tag : Octet) (st : Status) (fields : List Octet) :
    (x.reply kind tag st fields).finish.settings = x.settings ∧
      (x.reply kind tag st fields).finish.lba.inForce = x.lba.inForce ∧
      (∀ e ∈ x.lba.settling, e ∈ (x.reply kind tag st fields).finish.lba.settling) ∧
      (∀ l, x.settles l = true → x.granted l = false → (x.reply kind tag st fields).finish.granted l = false) ∧
      (x.reply kind tag st fields).finish.plk.reply =
        some { kind := kind, tag := tag, status := st, fields := fields } ∧
      (∀ c, ((x.reply kind tag st fields).finish.channel c).levels = (x.channel c).levels) ∧
      ∀ a, ((x.reply kind tag st fields).finish.entry a).row = (x.entry a).row := by
  obtain ⟨hset, hforce, hsettling, hungranted, hreply, hlevels, hrows⟩ :=
    (State.KeepsForce.refl (x.reply kind tag st fields)).finish
  exact ⟨hset, hforce, hsettling, hungranted, hreply, hlevels, hrows⟩

theorem Entry.eq_of_row {e f : Entry} (h : e.row = f.row) :
    e.link = f.link ∧ e.bringUp = f.bringUp ∧ e.pinned = f.pinned ∧ e.caps = f.caps :=
  ⟨(congrArg Entry.link h :), (congrArg Entry.bringUp h :), (congrArg Entry.pinned h :), (congrArg Entry.caps h :)⟩

theorem ChannelRec.eq_of_levels {r q : ChannelRec} (h : r.levels = q.levels) :
    r.stock = q.stock ∧ r.empty = q.empty ∧ r.low = q.low :=
  ⟨congrArg Prod.fst h, congrArg (fun p => p.2.1) h, congrArg (fun p => p.2.2) h⟩

/-! ### A new expected kind (R161) -/

theorem State.settings_putLink (s : State) (a : Addr) (l : LinkState) : (s.putLink a l).settings = s.settings := by
  unfold State.putLink
  dsimp only
  split <;> rfl

theorem State.settings_returnToCount (s : State) (a : Addr) : (s.returnToCount a).settings = s.settings := by
  rw [State.returnToCount, State.restartBringUp_eq]
  simp

/-- The table and the settings as a new kind is taken for an address: its entry afresh, unpinned, with the default record
(R161). -/
theorem State.takeKind_keeps (s : State) (a : Addr) (code : Int) :
    ∃ t : State, (s.takeKind a code).KeepsForce t ∧
      t.settings = s.settings.set (kindIx a).val code (kindIx a).isLt ∧
      (t.entry a).link = (if Kind.ofCode code.toNat = .none then .notExpected else .seeking) ∧
      (t.entry a).bringUp = .count 0 ∧ (t.entry a).pinned = false ∧
      (t.entry a).caps = defaultCaps (Kind.ofCode code.toNat) := by
  unfold State.takeKind
  extract_lets kind l changes t u v w
  refine ⟨w, ?_, ?_, ?_⟩
  · have hrehomed : (ownedKinds.foldl (State.rehome s) w).KeepsForce w :=
      (State.KeepsForce.refl w).foldl fun hx => hx.rehome
    exact hrehomed.rewatt.clampCarries
  · have hw : w.settings = v.settings := by
      unfold w
      split
      · exact (v.place_frame _).2.1
      · rfl
    have hu : u.settings = s.settings := by
      simp only [u, State.endCondition_frame]
      exact (State.settings_putLink _ a l).trans (s.settings_returnToCount a)
    rw [hw]
    show u.settings.set (kindIx a).val code (kindIx a).isLt = _
    rw [hu]
  · have hw : w.entry a = u.entry a := by
      have hv : v.entry a = u.entry a := rfl
      unfold w
      split
      · exact (State.entry_congr (v.place_frame _).2.2.2.2.2.2.2.2.2.1 a).trans hv
      · exact hv
    have ht : t.entry a = { (s.returnToCount a).entry a with link := l } := by
      unfold t
      rw [State.entry_congr (State.putLink_msu _ a l), State.entry_onEntry_self]
    have hu : u.entry a = { t.entry a with pinned := false, caps := defaultCaps kind, linkMfault := none } := by
      unfold u
      rw [State.entry_endCondition, State.entry_onEntry_self]
    rw [hw, hu, ht, State.entry_returnToCount]
    exact ⟨rfl, rfl, rfl, rfl⟩

/-- A kind code in range names no kind only at 0. -/
theorem ofCode_eq_none {v : Int} (hlo : 0 ≤ v) (hhi : v ≤ 4) : Kind.ofCode v.toNat = .none ↔ v = 0 := by
  interval_cases v <;> decide

theorem exec_set_kind_takes {s : State} {a : Addr} {v : BitVec 32} (hs : s.serves = true) (hlo : 0 ≤ v.toInt)
    (hhi : v.toInt ≤ 4) (hp : s.csq.phase = .idle) (hne : v.toInt ≠ s.settings.get (kindIx a)) (tag : Octet) :
    ∃ t : State, exec (.set tag (BitVec.ofNat 8 (a.val + 32)) v) s = .next t ∧
      t.settings = s.settings.set (kindIx a).val v.toInt (kindIx a).isLt ∧
      (t.entry a).link = (if v.toInt = 0 then .notExpected else .seeking) ∧ (t.entry a).bringUp = .count 0 ∧
      (t.entry a).pinned = false ∧ (t.entry a).caps = defaultCaps (Kind.ofCode v.toInt.toNat) ∧
      t.plk.reply = some
        { kind := 0x04#8, tag := tag, status := .ok, fields := e4 (BitVec.ofInt 32 v.toInt).toNat } := by
  have haddr : State.addrOf (BitVec.ofNat 8 ((kindIx a).val - 31)) = some a := by
    have hn : (kindIx a).val - 31 = a.val := by simp [kindIx]
    rw [hn, addrOf_val]
  have hset : s.setKind (kindIx a) v.toInt = (s.takeKind a v.toInt, .ok, eValue v.toInt) := by
    have hv : ¬ v.toInt = s.val (kindIx a) := hne
    rw [State.setKind, if_neg (by omega), if_neg (by simp [hp]), if_neg hv, haddr]
  obtain ⟨t, hkeeps, hsettings, hlink, hbring, hpin, hcaps⟩ := s.takeKind_keeps a v.toInt
  obtain ⟨hkept, -, -, -, hreply, -, hrows⟩ := (s.takeKind a v.toInt).finish_reply 0x04#8 tag .ok (eValue v.toInt)
  obtain ⟨hl, hb, hp, hc⟩ := Entry.eq_of_row ((hrows a).trans (hkeeps.rows a))
  refine ⟨_, exec_set_kind hs hset tag, hkept.trans (hkeeps.settings.trans hsettings), ?_, hb.trans hbring, hp.trans hpin,
    hc.trans hcaps, hreply⟩
  rw [← if_congr (ofCode_eq_none hlo hhi) rfl rfl]
  exact hl.trans hlink

/-! ### Containers, the low limit, and starve_s (R54, R113, R116) -/

/-- The low flag by its two thresholds. -/
theorem low_iff {stock lower upper : Nat} {low : Bool} :
    (if stock < lower then true else if upper ≤ stock then false else low) = true ↔
      stock < lower ∨ (low = true ∧ stock < upper) := by
  split
  · simp_all
  · split
    · simp_all
    · simp_all

/-- The settings of the containers. -/
def containerIx : Channel → SettingIx
  | .det => SettingIx.containerDet
  | .ra => SettingIx.containerRa

theorem State.containerUl_eq (s : State) (c : Channel) : s.containerUl c = s.num (containerIx c) * 1000 := by cases c <;> rfl

theorem applySetting_container (before s : State) (c : Channel) :
    State.applySetting before s (containerIx c) = s.containerChanged c := by cases c <;> rfl

theorem State.containerChanged_channel (s : State) (c : Channel) :
    (s.containerChanged c).channel c =
      { s.channel c with
        stock := min (s.channel c).stock (s.containerUl c)
        low :=
          if min (s.channel c).stock (s.containerUl c) < s.lowL c then true
          else if s.lowU c ≤ min (s.channel c).stock (s.containerUl c) then false else (s.channel c).low } := by
  let t := s.onChannel c fun r => { r with stock := min r.stock (s.containerUl c) }
  have hset : t.settings = s.settings := by cases c <;> rfl
  have hch : t.channel c = { s.channel c with stock := min (s.channel c).stock (s.containerUl c) } := by
    cases c <;> rfl
  have hL : t.lowL c = s.lowL c := by simp only [State.lowL, State.containerUl_congr hset, State.num_congr hset]
  have hU : t.lowU c = s.lowU c := by simp only [State.lowU, State.containerUl_congr hset, State.num_congr hset]
  have h := (State.lowEvent_spec s t c).1
  rw [hch, hL, hU] at h
  exact h

theorem exec_set_container {s : State} {c : Channel} {v : BitVec 32} (hs : s.serves = true) (hlo : 500 ≤ v.toInt)
    (hhi : v.toInt ≤ 25000) (hne : v.toInt ≠ s.settings.get (containerIx c)) (tag : Octet) :
    ∃ t : State, exec (.set tag (BitVec.ofNat 8 ((containerIx c).val + 1)) v) s = .next t ∧
      t.settings = s.settings.set (containerIx c).val v.toInt (containerIx c).isLt ∧
      (t.channel c).stock = min (s.channel c).stock (v.toInt.toNat * 1000) ∧
      (t.channel c).empty = (s.channel c).empty ∧
      ((t.channel c).low = true ↔
        (t.channel c).stock < v.toInt.toNat * 1000 * s.num SettingIx.stockLow / 100 ∨
          ((s.channel c).low = true ∧
            (t.channel c).stock < v.toInt.toNat * 1000 * (s.num SettingIx.stockLow + 5) / 100)) := by
  let t := s.putSetting (containerIx c) v.toInt
  have hexec := exec_set_takes (i := containerIx c) (lo := 500) (hi := 25000) hs (by cases c <;> decide) hlo hhi hne tag
    (by cases c <;> decide) (by cases c <;> exact fun h => absurd h (by decide))
    (by cases c <;> exact fun h => absurd h (by decide)) (by cases c <;> decide)
  have hul : t.containerUl c = v.toInt.toNat * 1000 := by
    rw [State.containerUl_eq, State.num_putSetting_self]
  have hlow : t.num SettingIx.stockLow = s.num SettingIx.stockLow :=
    State.num_putSetting_ne (by cases c <;> decide) s v.toInt
  have hch : (t.containerChanged c).channel c =
      { s.channel c with
        stock := min (s.channel c).stock (v.toInt.toNat * 1000)
        low :=
          if min (s.channel c).stock (v.toInt.toNat * 1000) <
            v.toInt.toNat * 1000 * s.num SettingIx.stockLow / 100 then true
          else if v.toInt.toNat * 1000 * (s.num SettingIx.stockLow + 5) / 100 ≤
            min (s.channel c).stock (v.toInt.toNat * 1000) then false
          else (s.channel c).low } := by
    rw [State.containerChanged_channel, State.lowL, State.lowU, hul, hlow]
    rfl
  have hset : (t.containerChanged c).settings = t.settings :=
    (State.lowEvent_spec t _ c).2.2.2.2.2.1.trans (by cases c <;> rfl)
  rw [applySetting_container] at hexec
  obtain ⟨hkept, -, -, -, -, hlevels, -⟩ := (t.containerChanged c).finish_reply 0x04#8 tag .ok (eValue v.toInt)
  obtain ⟨hstock, hempty, hflag⟩ := ChannelRec.eq_of_levels (hlevels c)
  rw [hch] at hstock hempty hflag
  refine ⟨_, hexec, hkept.trans hset, hstock, hempty, ?_⟩
  rw [hstock, hflag]
  exact low_iff

theorem State.lowChanged_channel (s : State) (c : Channel) :
    (s.lowChanged.channel c) =
      { s.channel c with
        low := if (s.channel c).stock < s.lowL c then true
          else if s.lowU c ≤ (s.channel c).stock then false else (s.channel c).low } := by
  obtain ⟨hdet, hother, -, -, -, hset, -⟩ := State.lowEvent_spec s s .det
  unfold State.lowChanged
  generalize State.lowEvent s s .det = t at *
  dsimp only
  obtain ⟨hra, hdet', -⟩ := State.lowEvent_spec t t .ra
  cases c with
  | det => rw [hdet' .det (by decide), hdet]
  | ra =>
    rw [hra, hother .ra (by decide), State.lowL, State.lowU, State.containerUl_congr hset, State.num_congr hset]
    rfl

theorem exec_set_stockLow {s : State} {v : BitVec 32} (hs : s.serves = true) (hlo : 5 ≤ v.toInt) (hhi : v.toInt ≤ 50)
    (hne : v.toInt ≠ s.settings.get 29) (tag : Octet) :
    ∃ t : State, exec (.set tag 30#8 v) s = .next t ∧ t.settings = s.settings.set 29 v.toInt ∧
      ∀ c : Channel, (t.channel c).stock = (s.channel c).stock ∧ (t.channel c).empty = (s.channel c).empty ∧
        ((t.channel c).low = true ↔
          (s.channel c).stock < s.containerUl c * v.toInt.toNat / 100 ∨
            ((s.channel c).low = true ∧ (s.channel c).stock < s.containerUl c * (v.toInt.toNat + 5) / 100)) := by
  let t := s.putSetting SettingIx.stockLow v.toInt
  have hul (c : Channel) : t.containerUl c = s.containerUl c := by
    rw [State.containerUl_eq, State.containerUl_eq, State.num_putSetting_ne (by cases c <;> decide)]
  have hpct : t.num SettingIx.stockLow = v.toInt.toNat := s.num_putSetting_self _ _
  have hset : t.lowChanged.settings = t.settings :=
    (State.lowEvent_spec _ _ .ra).2.2.2.2.2.1.trans (State.lowEvent_spec _ _ .det).2.2.2.2.2.1
  obtain ⟨hkept, -, -, -, -, hlevels, -⟩ := t.lowChanged.finish_reply 0x04#8 tag .ok (eValue v.toInt)
  have hexec := exec_set_takes (i := SettingIx.stockLow) hs rfl hlo hhi hne tag
  rw [applySetting_stockLow] at hexec
  refine ⟨_, hexec, hkept.trans hset, fun c => ?_⟩
  obtain ⟨hstock, hempty, hflag⟩ := ChannelRec.eq_of_levels (hlevels c)
  have hch : t.channel c = s.channel c := by cases c <;> rfl
  rw [State.lowChanged_channel, hch, State.lowL, State.lowU, hul, hpct] at hstock hempty hflag
  refine ⟨hstock, hempty, ?_⟩
  rw [hflag]
  exact low_iff

/-- A starve_s that the wait of the tank heater has reached promotes it at once (R54). -/
theorem exec_set_starve {s : State} {v : BitVec 32} (hs : s.serves = true) (hlo : 30 ≤ v.toInt) (hhi : v.toInt ≤ 1800)
    (hne : v.toInt ≠ s.settings.get 14) (tag : Octet) :
    exec (.set tag 15#8 v) s = .next
      (((let t := { s with settings := s.settings.set 14 v.toInt };
        if s.waits .tankHeater ∧ (s.claimOf .tankHeater).promoted = false ∧
            v.toInt.toNat * 1000 ≤ (s.claimOf .tankHeater).waitMs then
          (t.onClaim .tankHeater fun c => { c with promoted := true }).walk
        else t).reply 0x04#8 tag .ok (e4 (BitVec.ofInt 32 v.toInt).toNat)).finish) := by
  have h := exec_set_takes (i := SettingIx.starve) hs rfl hlo hhi hne tag
  rw [applySetting_starve] at h
  have hms : (s.putSetting SettingIx.starve v.toInt).starveMs = v.toInt.toNat * 1000 :=
    congrArg (· * 1000) (s.num_putSetting_self SettingIx.starve v.toInt)
  unfold State.retestStarve at h
  rw [hms] at h
  exact h

/-! ### mains_budget_w (R58) -/

/-- The wattages do not depend on mains_budget_w. -/
theorem State.classSum_putMains (s : State) (v : Int) :
    (s.putSetting SettingIx.mainsBudget v).classSum = s.classSum := by
  have hn {i : SettingIx} (h : i ≠ SettingIx.mainsBudget) : (s.putSetting SettingIx.mainsBudget v).num i = s.num i :=
    State.num_putSetting_ne h s v
  have hkind (a : Addr) : (s.putSetting SettingIx.mainsBudget v).kindAt a = s.kindAt a :=
    congrArg Kind.ofCode (hn (State.InBudget.kindIx_ne_mainsBudget a))
  have hcaps (k : Kind) : (s.putSetting SettingIx.mainsBudget v).caps k = s.caps k := by
    simp only [State.caps, State.moduleOf, hkind]
    rfl
  have hwatts (l : Load) (hl : l.heater = false) : (s.putSetting SettingIx.mainsBudget v).watts l = s.watts l := by
    cases l with
    | drainPump => exact hn (by decide)
    | washPump => exact hn (by decide)
    | rinsePump => exact hn (by decide)
    | doorDrive => exact congrArg CapFields.driveW (hcaps .door)
    | ventFan => exact congrArg CapFields.fanW (hcaps .door)
    | valveMotor => exact congrArg CapFields.motorW (hcaps .softener)
    | doserDet => exact congrArg CapFields.pumpW (hcaps .doseDet)
    | doserRa => exact congrArg CapFields.pumpW (hcaps .doseRa)
    | boosterA => exact absurd hl (by decide)
    | boosterB => exact absurd hl (by decide)
    | tankHeater => exact absurd hl (by decide)
  unfold State.classSum
  refine List.foldl_ext _ _ _ fun n l _ => ?_
  split
  · rfl
  · next h => rw [hwatts l (by simpa using h)]

theorem exec_set_mains {s : State} {v : BitVec 32} (hs : s.serves = true) (hlo : 2000 ≤ v.toInt) (hhi : v.toInt ≤ 11000)
    (hne : v.toInt ≠ s.settings.get 7) (hsum : s.classSum ≤ v.toInt.toNat) (tag : Octet) :
    exec (.set tag 8#8 v) s = .next
      (((s.putSetting SettingIx.mainsBudget v.toInt).rebudget.reply 0x04#8 tag .ok (eValue v.toInt)).finish) := by
  have hwithin : (s.putSetting SettingIx.mainsBudget v.toInt).classSum ≤ (s.putSetting SettingIx.mainsBudget v.toInt).mains := by
    rw [State.classSum_putMains]
    exact hsum.trans (Nat.le_of_eq (s.num_putSetting_self SettingIx.mainsBudget v.toInt).symm)
  have h := exec_set_takes (i := SettingIx.mainsBudget) hs rfl hlo hhi hne tag (hsum := fun _ => hwithin)
  rw [applySetting_mains] at h
  exact h

/-- A budget that may take force at once is in force at the end of its event (R58). -/
theorem State.rebudget_forces {s : State} (h : s.lba.inForce ≤ s.mains ∨ s.sumGranted + s.sumSettling ≤ s.mains)
    (kind tag : Octet) (st : Status) (fields : List Octet) :
    (s.rebudget.reply kind tag st fields).finish.settings = s.settings ∧
      (s.rebudget.reply kind tag st fields).finish.lba.inForce = s.mains ∧
      (s.rebudget.reply kind tag st fields).finish.plk.reply =
        some { kind := kind, tag := tag, status := st, fields := fields } := by
  obtain ⟨hforce, hset⟩ := State.budgetTaken_forces h
  have hr := s.rebudget_taken
  obtain ⟨hkept, hkeptForce, -, -, hreply, -, -⟩ := s.rebudget.finish_reply kind tag st fields
  exact ⟨hkept.trans (hr.settings.trans hset), hkeptForce.trans (hr.inForce.trans hforce), hreply⟩

/-- One below the granted wattage, the tank heater alone granted of the heaters, leaves it revoked and settling, and waits
(R52, R58). -/
theorem State.rebudget_waits {s : State} (hlt : s.mains < s.lba.inForce) (hG : s.mains < s.sumGranted)
    (ht : s.granted .tankHeater = true) (ha : s.granted .boosterA = false) (hb : s.granted .boosterB = false)
    (kind tag : Octet) (st : Status) (fields : List Octet) :
    (s.rebudget.reply kind tag st fields).finish.settings = s.settings ∧
      (s.rebudget.reply kind tag st fields).finish.lba.inForce = s.lba.inForce ∧
      (s.rebudget.reply kind tag st fields).finish.granted .tankHeater = false ∧
      ∃ e ∈ (s.rebudget.reply kind tag st fields).finish.lba.settling,
        e.load = .tankHeater ∧ e.watts = (s.claimOf .tankHeater).counted := by
  obtain ⟨hset, hforce, hclaims, -, -, -⟩ := s.clearBreakers_frame
  have hw := State.budgetTaken_waits hlt hG ht ha hb
  have hr : s.rebudget.KeepsForce (s.clearBreakers.revoke .tankHeater) := hw ▸ s.rebudget_taken
  let e : Settling := { load := .tankHeater, watts := (s.clearBreakers.claimOf .tankHeater).counted, left := 40 }
  have he : e ∈ (s.clearBreakers.revoke .tankHeater).lba.settling :=
    List.mem_append_right _ (List.mem_singleton.mpr rfl)
  have hrevoked : (s.clearBreakers.revoke .tankHeater).granted .tankHeater = false := by
    simp [State.revoke, State.granted]
  have hends := hr.settling e he
  have hcounted : e.watts = (s.claimOf .tankHeater).counted :=
    congrArg (fun c : Vector Claim 11 => (c.get Load.tankHeater.ix).counted) hclaims
  obtain ⟨hkept, hkeptForce, hsettling, hungranted, -, -, -⟩ := s.rebudget.finish_reply kind tag st fields
  have hsettled := hungranted _ (State.settles_of_mem hends rfl) (hr.ungranted _ (State.settles_of_mem he rfl) hrevoked)
  exact ⟨hkept.trans (hr.settings.trans hset), hkeptForce.trans (hr.inForce.trans hforce), hsettled, e,
    hsettling e hends, rfl, hcounted⟩

theorem State.mains_putMains (s : State) (v : Int) : (s.putSetting SettingIx.mainsBudget v).mains = v.toNat :=
  s.num_putSetting_self _ _

/-- Settles O21. -/
theorem setAndRecipeSetRefuseOrTake : Obligations.SetAndRecipeSetRefuseOrTake := by
  unfold Obligations.SetAndRecipeSetRefuseOrTake
  obtain ⟨hsum, hkind, hbusy, hfactor⟩ := setSettings_refused
  have hpresent {s : State} {l : Load} (hb : l ≠ .boosterB ∨ s.watts l ≠ 0) : ¬ (l = .boosterB ∧ s.watts l = 0) :=
    fun ⟨hl, hw⟩ => hb.elim (fun h => h hl) fun h => h hw
  refine ⟨⟨hsum, hkind, hbusy, hfactor, fun tag v s hs ho hr hp hlo hhi hne => ?_,
      fun tag v s hs hlo hhi hne => exec_set_columnCapacity hs hlo hhi hne tag⟩, recipeSet_takes,
    fun tag v s hs hlo hhi hne hsum hfits => ⟨_, exec_set_mains hs hlo hhi hne hsum tag, ?_⟩,
    fun tag v s hs hlo hhi hne hsum hlt hG ht ha hb => ⟨_, exec_set_mains hs hlo hhi hne hsum tag, ?_⟩,
    fun s l => State.budgetSet_untold, fun tag i v s hs hlo hhi hne hsum => exec_set_watts hs hlo hhi hne hsum tag,
    fun b s hidle hbreak hsum hb ht ha hbb hut hua hub => ?_, fun b s l hd hb => ?_, fun b s hb hz => ?_,
    fun tag a v s hs hlo hhi hp hne => exec_set_kind_takes hs hlo hhi hp hne tag,
    fun tag c i v s hs hi hlo hhi hne => ?_, fun tag v s hs hlo hhi hne => exec_set_stockLow hs hlo hhi hne tag,
    fun tag v s hs hlo hhi hne => exec_set_starve hs hlo hhi hne tag, fun tag v s hs ho hr hp hlo hhi hne => ?_⟩
  · refine (exec_set_kFactor hs ho hr hlo hhi hne tag).trans ?_
    rw [State.retarget_outside (s := (s.putSetting 16 v.toInt).zeroAccumulators) hp]
    rfl
  · have h := State.rebudget_forces (s := s.putSetting SettingIx.mainsBudget v.toInt)
      (by rw [State.mains_putMains]; exact hfits) 0x04#8 tag .ok (eValue v.toInt)
    rw [State.mains_putMains] at h
    exact h
  · have hm := s.mains_putMains v.toInt
    exact State.rebudget_waits (s := s.putSetting SettingIx.mainsBudget v.toInt) (by rw [hm]; exact hlt)
      (by rw [hm]; exact hG) ht ha hb 0x04#8 tag .ok (eValue v.toInt)
  · refine rewatt_idle hidle hbreak hsum hb fun l => ?_
    cases l with
    | boosterA => exact hua
    | boosterB => exact hub
    | tankHeater => exact hut
    | _ => rfl
  · refine ⟨wattsOne_ungranted hd (hpresent hb), wattsOne_falls hd (hpresent hb), fun hg hlt hu => ⟨fun hh hF hm => ?_,
      fun hh hover => ?_, wattsOne_pump hd (hpresent hb) hg hlt hu⟩⟩
    · rw [wattsOne_heater hd (hpresent hb) hg hlt hu hh, if_pos ⟨hF, hm⟩]
    · rw [wattsOne_heater hd (hpresent hb) hg hlt hu hh, if_neg (by omega)]
  · rw [State.wattsOne, if_neg (by rw [hz]; exact hb), if_pos ⟨rfl, hz⟩]
  · obtain ⟨rfl, rfl⟩ | ⟨rfl, rfl⟩ := hi
    · exact exec_set_container (c := .det) hs hlo hhi hne tag
    · exact exec_set_container (c := .ra) hs hlo hhi hne tag
  · refine (exec_set_kFactor hs ho hr hlo hhi hne tag).trans ?_
    rw [State.retarget_rinse (State.on_of_serves hs) hp]
    rfl
end Sys2Proof.Machine
end
